-- ==== Sys2Proof/Word.lean ====
section
/-! DEFINITION. The words of the DLN-440: octets of a telegram, 16-bit words (check words, versions, sequence
numbers), area identities, and the type of a collection numbered by ids. -/

namespace Sys2Proof

/-- One octet of a telegram (R181), or one running counter of a head, wrapping from 255 to 0 (R20). -/
abbrev Octet := BitVec 8

/-- A check word, a table version or a report sequence number: 0 to 65535, wrapping (R170, R171, R175). -/
abbrev Word16 := BitVec 16

/-- An area identity: 32 bits, 0 while it has not been written (R174). -/
abbrev Identity := BitVec 32

/-- Records by number: pairs of an id and its record, ids strictly rising, an absent id not listed (R1). -/
abbrev Map (α : Type) := List (Nat × α)

end Sys2Proof
end

