-- ==== Sys2Proof/Syntax.lean ====
section
/-! DEFINITION. The commands of the DLN-440: one constructor of Instr for each row of spec/opcode_table.json. Operands
are the fields of R183 as the telegram carries them; a raw code is kept where a rule says what the part does with a
value that has no meaning. -/

namespace Sys2Proof

/-- A port of the part (00_scope.md, Ports). -/
inductive Port where
  | control
  | field
  | boundary (n : Nat)
  deriving DecidableEq, Repr

/-- The content of a STATUS telegram on the field port (R45, R183): a position code, an aspect code or two running
counters, or an element kind octet to which R183 gives no meaning. -/
inductive StatusContent where
  | position (code : Nat)
  | aspect (code : Nat)
  | counts (nA nB : Octet)
  | other (kind : Nat)
  deriving DecidableEq, Repr

/-- One line of a PRESENCE telegram, in raw octets (R183). -/
structure PresenceLine where
  number : Nat
  owner : Nat
  flags : Nat
  shared : Nat
  deriving DecidableEq, Repr

/-- One entry of a COUNTS telegram: the neighbour head number and its running counters (R183). -/
structure CountsEntry where
  number : Nat
  nA : Octet
  nB : Octet
  deriving DecidableEq, Repr

/-- The commands: the rows of spec/opcode_table.json in its order. A control telegram carries its tag first (R181). -/
inductive Instr where
  -- operating telegrams on the control port
  | routeCall (tag route fleet patience : Nat)
  | routeCancel (tag route : Nat)
  | fleetStop (tag route : Nat)
  | releaseArm (tag slot : Nat)
  | releaseConfirm (tag slot : Nat)
  | stageHold (tag route stage action : Nat)
  | stageStep (tag route : Nat)
  | elementOrder (tag element order : Nat)
  | sectionReset (tag number : Nat)
  | possessionTake (tag possession : Nat) (sections : List Nat)
  | possessionGive (tag possession : Nat)
  -- management telegrams on the control port
  | modeSet (tag mode : Nat)
  | restart (tag : Nat)
  | tableFreeze (tag : Nat)
  | statusRead (tag : Nat)
  | statusClear (tag flags : Nat)
  | tableFresh (tag table : Nat)
  | tableAmend (tag table : Nat)
  | tableEntry (tag table id : Nat) (content : List Octet)
  | tableCommit (tag : Nat) (word : Word16)
  | areaIdentity (tag : Nat) (identity : Identity)
  | reportFetch (tag count : Nat)
  | alarmAck (tag : Nat) (sequence : Word16)
  | query (tag kind number id : Nat)
  | controlBadForm (tag kind : Nat)
  -- any port
  | checkFailedTelegram (port : Port)
  -- the field port
  | status (address : Nat) (content : StatusContent)
  | fieldOrderSent
  -- the boundary ports
  | presence (port : Nat) (identity : Identity) (version : Word16) (lines : List PresenceLine)
  | counts (port : Nat) (entries : List CountsEntry)
  | directionAsk (port line : Nat) (number : Octet)
  | directionReply (port line : Nat) (number : Octet) (verdict : Nat)
  -- timers
  | presenceInterval
  | freshnessExpiry (element : Nat)
  | movementExpiry (element : Nat)
  | provingExpiry (element : Nat)
  | patienceExpiry (route : Nat)
  | overlapExpiry (slot : Nat)
  | timedReleaseExpiry (slot : Nat)
  | releaseArmExpiry
  | lastHeardExpiry (link : Nat)
  | askExpiry (link line : Nat)
  -- power and the nonvolatile store
  | powerOn
  | loadEnd
  | powerLoss
  | validationDone
  | comparisonDone
  | storeWriteDone
  | restoringWriteDone
  | possessionWriteDone
  | identityWriteDone
  deriving DecidableEq, Repr

end Sys2Proof
end

