-- ==== Sys2Proof/Decode.lean ====
section
/-! DEFINITION. The commands that the opcode table spells in bits. The part is a block: its commands are telegrams and
events, spec/opcode_table.json gives bits to none of its rows ("n_rows_with_fixed": 0 in 98_reader.md), and the telegram
layouts of R183 are read in Machine/Formats.lean. -/

namespace Sys2Proof

/-- The rows of spec/opcode_table.json that have bits: width, word and command. There are none. -/
def tableWords : List (Nat × Nat × Instr) := []

/-- The command that a word of the table's bits spells: none, for the table gives no row bits. -/
def decodeTableWord (nbits w : Nat) : Option Instr :=
  (tableWords.find? (fun row => row.1 == nbits && row.2.1 == w)).map (fun row => row.2.2)

end Sys2Proof
end

