-- ==== Sys2Proof/Config.lean ====
section
/-! DEFINITION. What the part fixes: the sizes of its records, and the FREE VALUES, which the manual leaves open and
which have no body here, so that no proof can rest on a value of theirs. -/

namespace Sys2Proof.Config

/-- The route slots, 0 to 31 (R77). -/
def slotCount : Nat := 32
/-- The places of the waiting list (R69). -/
def waitingPlaces : Nat := 16
/-- The records of the claim pool (R98). -/
def claimPool : Nat := 256
/-- The places of the field order queue (R55). -/
def orderPlaces : Nat := 32
/-- The places of the Report Queue (R175). -/
def reportPlaces : Nat := 128
/-- The stage hold entries (R94). -/
def holdPlaces : Nat := 8
/-- The items of the amendment record (R166). -/
def amendPlaces : Nat := 8
/-- The largest section balance (R24). -/
def maxBalance : Nat := 1023
/-- The release arm stands for 10 s, in tenths of a second (R124). -/
def armTime : Nat := 100
/-- The least time of an emergency release, in seconds (R122). -/
def emergencyTime : Nat := 60
/-- The interval of PRESENCE, 1.0 s in tenths of a second (R134). -/
def presenceTime : Nat := 10

/-- FREE VALUE (log 12): whether the possession write that a power loss interrupts leaves the stored records as they
are after it (R158: all as they were before it or all as they are after it). The argument counts the draws. -/
opaque newPossessionsStand : Nat → Bool

/-- FREE VALUE (log 12): whether the identity write that a power loss interrupts leaves the new value (R174: 0 or the
new value, never a mix). The argument counts the draws. -/
opaque newIdentityStands : Nat → Bool

/-- The values of query data for which R182 gives no code. -/
inductive Unstated where
  | flag (b : Bool)
  | role (overlap : Bool)
  | origin (fleet : Bool)
  | overlapStatus (n : Nat)
  | mark (n : Nat)
  | possession (granted : Bool)
  deriving DecidableEq, Repr

/-- FREE VALUE (log 10): the octet that stands for a value for which R182 gives no code. -/
opaque unstatedCode : Unstated → Octet

/-- FREE VALUE (log 8): the detail octets of an answer for which no rule gives a detail value, by the kind answered and
the answer code. -/
opaque unstatedDetail : Nat → Nat → Word16

/-- FREE VALUE (log 10): the tag of a telegram that the part sends unasked, by its kind; R181 gives field orders tag 0
and no tag to the others. -/
opaque unstatedTag : Nat → Octet

end Sys2Proof.Config
end

