-- ==== Sys2Proof/Machine/Site.lean ====
section
/-! DEFINITION. The entries of the site tables (Chapter 1), as they are staged: field values are kept as the numbers of
their octets (R169: they are not checked until the commit validates them), and the names that the machine reads from
them are in Machine/Operands.lean. -/

namespace Sys2Proof.Machine

/-- Where an element is reached: at a field address, or as a neighbour's head (R3). -/
inductive Location where
  | field (address : Nat)
  | remote (link number : Nat)
  deriving DecidableEq, Repr

/-- What an ELEMENTS entry holds beside its location and supervision time, by its kind (1.2). A kind octet that names no
kind can be staged and fails constraint 101 (log 17). -/
inductive ElementBody where
  | point (pointSection moveLimit persistence : Nat)
  | signal (provingTime : Nat)
  | head (stepLimit : Nat) (exported : Option (Nat × Nat))
  | other (kind : Nat)
  deriving DecidableEq, Repr

/-- An ELEMENTS entry (R3 to R6). The supervision time is in tenths of a second. -/
structure ElementEntry where
  location : Location
  supervision : Nat
  body : ElementBody
  deriving DecidableEq, Repr

/-- One item of a section's head list: the head and its in-direction, 1 for A and 2 for B (R7, R183). -/
structure HeadItem where
  head : Nat
  direction : Nat
  deriving DecidableEq, Repr

/-- A SECTIONS entry (R7). -/
structure SectionEntry where
  heads : List HeadItem
  deriving DecidableEq, Repr

/-- The exit of a route: a signal, or a line of a link (R8). -/
inductive Exit where
  | signal (element : Nat)
  | line (link number : Nat)
  deriving DecidableEq, Repr

/-- A required point and its position code (R10). -/
structure PointItem where
  element : Nat
  position : Nat
  deriving DecidableEq, Repr

/-- A flank candidate and the code of its required state (R11). -/
structure Candidate where
  element : Nat
  state : Nat
  deriving DecidableEq, Repr

/-- A flank entry: the index of the path section it protects, its primary and its substitutes in order (R11). -/
structure FlankEntry where
  index : Nat
  candidates : List Candidate
  deriving DecidableEq, Repr

/-- A ROUTES entry (R8 to R13). Times are in seconds. -/
structure RouteEntry where
  entrySignal : Nat
  exit : Exit
  approachTime : Nat
  overlapTime : Nat
  fleeting : Nat
  path : List Nat
  points : List PointItem
  overlap : List Nat
  approach : List Nat
  flank : List FlankEntry
  opposing : List Nat
  deriving DecidableEq, Repr

/-- A line record of a BOUNDARY entry; the senior side is 1 for US and 2 for NEIGHBOUR (R15, R183). -/
structure LineEntry where
  number : Nat
  senior : Nat
  sections : List Nat
  shared : Option Nat
  deriving DecidableEq, Repr

/-- A BOUNDARY entry (R14). Times are in seconds. -/
structure BoundaryEntry where
  identity : Identity
  supervision : Nat
  replyTimeout : Nat
  lines : List LineEntry
  deriving DecidableEq, Repr

/-- The OPTIONS entry: 0 is off and 1 is on (R16, R183). -/
structure OptionsEntry where
  stopOnAlarm : Nat
  watermark : Nat
  stateNotices : Nat
  deriving DecidableEq, Repr

/-- One copy of the five site tables (R1, R166). -/
structure Tables where
  elements : Map ElementEntry
  sections : Map SectionEntry
  routes : Map RouteEntry
  boundary : Map BoundaryEntry
  options : Map OptionsEntry
  deriving DecidableEq, Repr

/-- Every id absent (R1). -/
def Tables.empty : Tables := { elements := [], sections := [], routes := [], boundary := [], options := [] }

end Sys2Proof.Machine
end

