-- ==== Sys2Proof/Machine/State.lean ====
section
/-! DEFINITION. Everything the manual gives the DLN-440 to hold, as plain data; State.reset is the moment of power-on
(R163). -/

namespace Sys2Proof.Machine

/-! ## Named values -/

/-- The operating mode (10.2). -/
inductive Mode where
  | start | suspended | inService | commissioning | failed
  deriving DecidableEq, Repr

/-- A position that a point can be ordered to or required in; NONE is written as an absent position (R42). -/
inductive Position where
  | normal | reverse
  deriving DecidableEq, Repr

/-- An aspect that a signal can be ordered to; NONE is written as an absent aspect (R43). -/
inductive Aspect where
  | danger | caution | proceed
  deriving DecidableEq, Repr

/-- The state of a section (R19). -/
inductive SectionState where
  | clear | occupied | disturbed | sweep
  deriving DecidableEq, Repr

/-- A disturbance cause (R27). -/
inductive Cause where
  | saturated | underflow | step | headLost | start | disagree
  deriving DecidableEq, Repr

/-- The role of a section lock (R18). -/
inductive Role where
  | path | overlap
  deriving DecidableEq, Repr

/-- The state of a slot in use (5.1). -/
inductive SlotState where
  | setting | waitLine | locked | clearing | clear | replaced | entered | timedRelease
  deriving DecidableEq, Repr

/-- The origin of a slot (R77). -/
inductive Origin where
  | call | fleet
  deriving DecidableEq, Repr

/-- The overlap status of a slot (R77). -/
inductive OverlapStatus where
  | locked | timing | released
  deriving DecidableEq, Repr

/-- The cause of a timed release (R122). -/
inductive ReleaseCause where
  | approach | emergency | restart
  deriving DecidableEq, Repr

/-- The stage of a stage hold (R94). -/
inductive Stage where
  | setting | locked
  deriving DecidableEq, Repr

/-- The state of a link (R130). -/
inductive LinkState where
  | down | aligning | up
  deriving DecidableEq, Repr

/-- The direction owner of a line (R130). -/
inductive Owner where
  | us | neighbour | unknown
  deriving DecidableEq, Repr

/-- The state a claim requires of its element (R98). -/
inductive Required where
  | position (p : Position)
  | danger
  deriving DecidableEq, Repr

/-- The mark of a staged table (R166). -/
inductive Mark where
  | unchanged | fresh | amending
  deriving DecidableEq, Repr

/-- The class of a report (R175). -/
inductive ReportClass where
  | a | b | c
  deriving DecidableEq, Repr

/-- The report codes, in the order of 12.4. -/
inductive ReportCode where
  | signalReplaced | signalPassedAfterCancel | directionConflict
  | sectionDisturbed | pointMoveFailed | signalNotProven | aspectMismatch | lineRefused | emergencyRelease | linkDown
  | identityMismatch | restarted | tableInvalid | modeChanged
  | sectionReset | wrongKind | requestTaken | requestRefused | requestExpired | requestDropped | routeReleased
  | flankSubstitute | lateYield | unknownRemoteHead | unknownAddress | possessionTaken | possessionGiven
  | possessionTrimmed | tablesCommitted
  deriving DecidableEq, Repr

/-- The subject kinds, in the order of R182. -/
inductive SubjectKind where
  | element | trackSection | route | slot | line | link | possession | table
  deriving DecidableEq, Repr

/-- The answer codes, in the order of the introduction (00_scope.md). -/
inductive Code where
  | accepted | queued | done | replaced | ignored | mode | held | unknown | active | possessed | conflict | unavailable
  | noSlot | flankFull | queueFull | line | busy | tooLate | notArmed | overlap | lockedIn | frozen | checkMismatch
  | invalid | amendLimit | alreadySet | stale | badForm
  deriving DecidableEq, Repr

/-- The phase of a commit (R170). -/
inductive CommitPhase where
  | validation | comparison | storeWrite
  deriving DecidableEq, Repr

/-! ## Records -/

/-- A section record (R18). -/
structure SectionRec where
  state : SectionState
  balance : Nat
  causes : List Cause
  lock : Option (Nat × Role)
  possession : Option Nat
  disagreement : Nat
  neighbourState : Option SectionState
  axleSeen : Bool
  deriving DecidableEq, Repr

/-- An order that the field port is to send: a position or an aspect (R55). -/
inductive Order where
  | position (p : Position)
  | aspect (a : Aspect)
  deriving DecidableEq, Repr

/-- A point record (R42), with its pending order (R55) and its WRONG_KIND memory (R45). Expiries are clock readings. -/
structure PointRec where
  supervised : Bool
  freshness : Option Nat
  evaluated : Option Position
  lastReported : Option (Option Position)
  persistence : Nat
  movement : Option (Position × Nat)
  moveFailed : Bool
  routeLock : Option (Nat × Position)
  pendingOrder : Option Order
  wrongKind : Bool
  deriving DecidableEq, Repr

/-- A signal record (R43), with its pending order (R55) and its WRONG_KIND memory (R45). -/
structure SignalRec where
  supervised : Bool
  freshness : Option Nat
  commanded : Aspect
  proven : Option Aspect
  proving : Option Nat
  entryOf : Option Nat
  pendingOrder : Option Order
  wrongKind : Bool
  deriving DecidableEq, Repr

/-- A head record (R44), with its WRONG_KIND memory (R45). -/
structure HeadRec where
  supervised : Bool
  freshness : Option Nat
  references : Option (Octet × Octet)
  exported : Option (Nat × Nat)
  wrongKind : Bool
  deriving DecidableEq, Repr

/-- The record of an element, of the kind its entry names (R42). -/
inductive ElementRec where
  | point (r : PointRec)
  | signal (r : SignalRec)
  | head (r : HeadRec)
  deriving DecidableEq, Repr

/-- An order in the field order queue (R55). -/
structure FieldOrder where
  element : Nat
  address : Nat
  order : Order
  deriving DecidableEq, Repr

/-- A slot's timer: its expiry, and the cause of a timed release; overlap timing has none (R77, R117). -/
structure SlotTimer where
  expiry : Nat
  cause : Option ReleaseCause
  deriving DecidableEq, Repr

/-- A slot record in use (R77). -/
structure Slot where
  route : Nat
  state : SlotState
  origin : Origin
  fleet : Nat
  pointer : Nat
  marks : List Bool
  overlap : Option OverlapStatus
  timer : Option SlotTimer
  held : Option Stage
  lineWait : Option (Nat × Nat)
  aspect : Option Aspect
  deriving DecidableEq, Repr

/-- A waiting request (R69). -/
structure Request where
  route : Nat
  fleet : Nat
  expiry : Nat
  tag : Nat
  deriving DecidableEq, Repr

/-- The release arm (R124). -/
structure Arm where
  slot : Nat
  expiry : Nat
  deriving DecidableEq, Repr

/-- A claim record (R98): an item of serves is a flank entry's place (from 1) and the level at which it resolved. -/
structure Claim where
  element : Nat
  required : Required
  slot : Nat
  serves : List (Nat × Nat)
  proven : Bool
  deriving DecidableEq, Repr

/-- The neighbour's last presence of a line (R130). -/
structure LineReport where
  owner : Owner
  askOutstanding : Bool
  lineClear : Bool
  shared : Option SectionState
  deriving DecidableEq, Repr

/-- A line record (R130). -/
structure LineRec where
  owner : Owner
  lineClear : Bool
  nextAsk : Octet
  ask : Option (Octet × Nat)
  late : Option Octet
  last : Option LineReport
  deriving DecidableEq, Repr

/-- A link record with its line records by line number (R130). Exported counters are by head. -/
structure LinkRec where
  state : LinkState
  lastHeard : Option Nat
  identity : Option Identity
  version : Option Word16
  mismatch : Bool
  exported : Map (Octet × Octet)
  unknownSeen : List Nat
  lines : Map LineRec
  deriving DecidableEq, Repr

/-- A report (R175). -/
structure Report where
  sequence : Word16
  cls : ReportClass
  code : ReportCode
  kind : SubjectKind
  number : Nat
  detail : Option Nat
  time : Nat
  deriving DecidableEq, Repr

/-- The Report Queue and its flags (R175, R176, R179). -/
structure ReportQueue where
  reports : List Report
  counter : Word16
  lostAB : Bool
  lostC : Bool
  armed : Bool
  hold : Bool
  latestA : Option Word16
  deriving DecidableEq, Repr

/-- A line as our PRESENCE carries it (R134). -/
structure PresenceOut where
  number : Nat
  owner : Owner
  askOutstanding : Bool
  lineClear : Bool
  shared : Option SectionState
  deriving DecidableEq, Repr

/-- What STATUS READ carries (R178). -/
structure StatusData where
  mode : Mode
  length : Nat
  lostAB : Bool
  lostC : Bool
  hold : Bool
  frozen : Bool
  version : Word16
  commit : Bool
  latestA : Option Word16
  deriving DecidableEq, Repr

/-- A staged entry of any table, as the table query returns it (R180). -/
inductive Staged where
  | element (e : ElementEntry)
  | trackSection (e : SectionEntry)
  | route (e : RouteEntry)
  | boundary (e : BoundaryEntry)
  | options (e : OptionsEntry)
  deriving DecidableEq, Repr

/-- The data of an ANSWER (R177, R178, R180). Times that remain are counted from the clock reading `now` (R182). -/
inductive Payload where
  | none
  | reports (rs : List Report)
  | status (d : StatusData)
  | element (now : Nat) (r : ElementRec) (claims : Nat) (required : Option Required)
  | trackSection (shared : Bool) (r : SectionRec)
  | slot (now number : Nat) (x : Option Slot) (claims : List Claim)
  | link (now : Nat) (r : LinkRec) (exports : List (Nat × Octet × Octet))
  | possession (sections : Option (List Nat))
  | table (mark : Mark) (entry : Option Staged)
  | marks (ms : List Mark) (amendment : List (Nat × Nat))
  deriving DecidableEq, Repr

/-- A telegram that the part has sent (R183). An answer's detail is absent where no rule gives one (log 8). -/
inductive Sent where
  | answer (tag kind : Nat) (code : Code) (detail : Option Nat) (data : Payload)
  | pointNotice (element : Nat) (supervised : Bool) (evaluated : Option Position)
      (lastReported : Option (Option Position)) (moveFailed moving : Bool) (lockSlot : Option Nat)
  | signalNotice (element : Nat) (supervised : Bool) (commanded : Aspect) (proven : Option Aspect) (proving : Bool)
  | headNotice (element : Nat) (supervised : Bool)
  | sectionNotice (number : Nat) (state : SectionState) (balance : Nat) (causes : List Cause)
  | reportNotice (length : Nat)
  | order (address : Nat) (order : Order)
  | presence (port : Nat) (identity : Identity) (version : Word16) (lines : List PresenceOut)
  | counts (port : Nat) (entries : List CountsEntry)
  | directionAsk (port line : Nat) (number : Octet)
  | directionReply (port line : Nat) (number : Octet) (yields : Bool)
  deriving DecidableEq, Repr

/-- A commit in progress (R170). -/
structure Commit where
  tag : Nat
  word : Word16
  phase : CommitPhase
  deriving DecidableEq, Repr

/-- The marks of the five tables (R166). -/
structure Marks where
  elements : Mark
  sections : Mark
  routes : Mark
  boundary : Mark
  options : Mark
  deriving DecidableEq, Repr

/-- The stored image; a void check word is absent (R163, R171). Possessions are listed while GRANTED (R156). -/
structure Image where
  tables : Tables
  version : Word16
  word : Option Word16
  possessions : Map (List Nat)
  deriving DecidableEq, Repr

/-- The nonvolatile store: the image, absent in an empty store, and the area identity (R163, R174). -/
structure Nonvolatile where
  image : Option Image
  identity : Identity
  deriving DecidableEq, Repr

/-- A possession write that runs or waits its turn (R158): the telegram it answers and the records it writes. -/
structure PossessionWrite where
  tag : Nat
  kind : Nat
  records : Map (List Nat)
  deriving DecidableEq, Repr

/-- The Table Store (R1, R166, R170 to R174). -/
structure Store where
  active : Tables
  staging : Tables
  marks : Marks
  amendment : List (Nat × Nat)
  version : Word16
  frozen : Bool
  commit : Option Commit
  restoring : Bool
  identityWrite : Option (Nat × Identity)
  deriving DecidableEq, Repr

/-- The records that the hand-overs of one step can change: those of the Vacancy Evaluator, Element Mirror, Route Engine,
Flank Allocator, Boundary Unit and Report Queue, and the telegrams sent. -/
structure Live where
  sections : Map SectionRec
  elements : Map ElementRec
  queue : List FieldOrder
  slots : Map Slot
  waiting : List Request
  arm : Option Arm
  claims : List Claim
  links : Map LinkRec
  reports : ReportQueue
  sent : List Sent
  choices : List Nat
  deriving DecidableEq, Repr

/-- The part. Possessions are listed while GRANTED; a possession not listed is FREE (R156). -/
structure State where
  power : Bool
  mode : Mode
  clock : Nat
  store : Store
  nv : Nonvolatile
  possessions : Map (List Nat)
  possessionWrites : List PossessionWrite
  stageHolds : List (Nat × Stage)
  addressesSeen : List Nat
  presenceDue : Option Nat
  live : Live
  freeCount : Nat
  pending : List Instr
  deriving DecidableEq, Repr

/-- Why the machine stops with a fault: never. No command of the manual ends the machine, so there is no constructor. -/
inductive Fault where
  deriving DecidableEq, Repr

/-- Why a command has no meaning. -/
inductive Refusal where
  /-- Raised by exec for a command that is not modelled yet; safe: it proves nothing about the command. No arm raises it. -/
  | notModelled (mnemonic : String)
  deriving DecidableEq, Repr

/-! ## The machine right after power-on -/

/-- All five tables UNCHANGED (R166). -/
def Marks.unchanged : Marks :=
  { elements := .unchanged, sections := .unchanged, routes := .unchanged, boundary := .unchanged, options := .unchanged }

/-- The Table Store in START: no tables are loaded yet (R161, R163). -/
def Store.powerOn : Store :=
  { active := Tables.empty, staging := Tables.empty, marks := Marks.unchanged, amendment := [], version := 0,
    frozen := false, commit := none, restoring := false, identityWrite := none }

/-- The Report Queue at power-on (R175, R176, R179). -/
def ReportQueue.powerOn : ReportQueue :=
  { reports := [], counter := 0, lostAB := false, lostC := false, armed := true, hold := false, latestA := none }

/-- No record of a section, element, slot or link exists in START (R161); the claim pool, the waiting list and the order
queue are empty (R76, R97, R98, R155). -/
def Live.powerOn : Live :=
  { sections := [], elements := [], queue := [], slots := [], waiting := [], arm := none, claims := [], links := [],
    reports := ReportQueue.powerOn, sent := [], choices := [] }

/-- The part right after its first power-on, with an empty store and the identity not written (log 11). -/
def State.reset : State :=
  { power := true, mode := .start, clock := 0, store := Store.powerOn, nv := { image := none, identity := 0 },
    possessions := [], possessionWrites := [], stageHolds := [], addressesSeen := [], presenceDue := none,
    live := Live.powerOn, freeCount := 0, pending := [] }

end Sys2Proof.Machine
end

