-- ==== Sys2Proof/Machine/Ops.lean ====
section
/-! DEFINITION. The named operations over the records: numbered collections, what a step hands over, the reading of a
step's surroundings, the Report Queue, the telegrams sent, and access to element, section and slot records. -/

namespace Sys2Proof

/-! ## Numbered collections (R1) -/

/-- The record at id k, if it is present. -/
def Map.find {α : Type} (k : Nat) : Map α → Option α
  | [] => none
  | (n, a) :: m => if n = k then some a else Map.find k m

/-- The record at id k becomes a; ids stay rising. -/
def Map.put {α : Type} (k : Nat) (a : α) : Map α → Map α
  | [] => [(k, a)]
  | (n, b) :: m => if k < n then (k, a) :: (n, b) :: m else if k = n then (k, a) :: m else (n, b) :: Map.put k a m

/-- Id k becomes absent. -/
def Map.drop {α : Type} (k : Nat) (m : Map α) : Map α := m.filter (fun x => x.1 != k)

/-- The record at id k, if present, is changed by f. -/
def Map.update {α : Type} (k : Nat) (f : α → α) (m : Map α) : Map α :=
  m.map (fun x => if x.1 = k then (x.1, f x.2) else x)

/-- Every record is changed by f. -/
def Map.each {α β : Type} (f : α → β) (m : Map α) : Map β := m.map (fun x => (x.1, f x.2))

/-- The ids present, rising. -/
def Map.ids {α : Type} (m : Map α) : List Nat := m.map (fun x => x.1)

/-- The id is present. -/
def Map.has {α : Type} (k : Nat) (m : Map α) : Bool := (Map.find k m).isSome

namespace Machine

/-- Numbers in rising order, without repeats. -/
def ascending (ns : List Nat) : List Nat := Map.ids (ns.foldl (fun m n => Map.put n () m) [])

/-! ## What a step reads and what it hands over -/

/-- What a step only reads: the active tables, the mode, the clock and the stage hold entries. -/
structure Env where
  tables : Tables
  mode : Mode
  clock : Nat
  holds : List (Nat × Stage)
  deriving DecidableEq, Repr

/-- The surroundings of a step. -/
def State.env (s : State) : Env :=
  { tables := s.store.active, mode := s.mode, clock := s.clock, holds := s.stageHolds }

/-- A change that one block hands to another inside a step (R28, R57, R106, R133, R136). -/
inductive Change where
  /-- A section's state changed (R28). -/
  | sectionState (number : Nat)
  /-- A point's evaluated position, movement, supervised flag or MOVE_FAILED changed: to the Route Engine (R57). -/
  | pointChanged (element : Nat)
  /-- A signal's proving ended, with "proven" or "proving failed" (R57). -/
  | provingEnded (element : Nat) (proven : Bool)
  /-- A claimed signal's proving ended: to the Flank Allocator (R104). -/
  | placeSignal (element : Nat)
  /-- A signal's proven aspect changed (R57). -/
  | aspectChanged (element : Nat)
  /-- A signal's supervised flag changed (R57). -/
  | signalSupervised (element : Nat)
  /-- A claim's proven field changed, for its slot (R106). -/
  | claimChanged (slot element : Nat) (proven : Bool)
  /-- Our owner of a line became US (R84). -/
  | lineOurs (link line : Nat)
  /-- Our owner of a line left US (R85). -/
  | lineLost (link line : Nat)
  /-- The neighbour's line-clear flag of a line was handed on (R136). -/
  | lineFlag (link line : Nat)
  /-- Our ask on a line failed (R84). -/
  | askFailed (link line reason : Nat)
  /-- The link of a line left UP (R133). -/
  | linkLost (link line : Nat)
  deriving DecidableEq, Repr

/-- A step at work: the records, the changes not yet taken, the points that the Flank Allocator is to place when they have
been taken (R103), whether a scan of the waiting list is due (R70), and the elements that a STATE NOTICE is due for (R58). -/
structure Work where
  live : Live
  todo : List Change
  places : List Nat
  scan : Bool
  notices : List Nat
  deriving DecidableEq, Repr

/-- A step begins with nothing handed over. -/
def State.work (s : State) : Work := { live := s.live, todo := [], places := [], scan := false, notices := [] }

/-- Change the records. -/
def Work.on (f : Live → Live) (w : Work) : Work := { w with live := f w.live }

/-- Hand changes over, after those already handed over. -/
def Work.hand (cs : List Change) (w : Work) : Work := { w with todo := w.todo ++ cs }

/-- Points are to be placed by the Flank Allocator, if they are claimed (R103). -/
def Work.placeDue (ps : List Nat) (w : Work) : Work := { w with places := w.places ++ ps }

/-- A scan event has come (R70). -/
def Work.scanDue (w : Work) : Work := { w with scan := true }

/-- A scan event has come, if b. -/
def Work.scanIf (b : Bool) (w : Work) : Work := if b then w.scanDue else w

/-- A STATE NOTICE is due for an element, once for the whole event (R58). -/
def Work.noticeDue (element : Nat) (w : Work) : Work :=
  { w with notices := if w.notices.contains element then w.notices else w.notices ++ [element] }

/-! ## Orders that the manual leaves free -/

/-- x at place k of xs, places from 0; beyond the end it goes last. -/
def insertAt {α : Type} (k : Nat) (x : α) : List α → List α
  | [] => [x]
  | y :: ys => match k with
    | 0 => x :: y :: ys
    | k + 1 => y :: insertAt k x ys

/-- xs in the order that the choices give: every order is given by some choices, and no choices give the order of the
list. -/
def arrangeBy {α : Type} : List Nat → List α → List α
  | _, [] => []
  | [], xs => xs
  | c :: cs, x :: xs => insertAt (c % (xs.length + 1)) x (arrangeBy cs xs)

/-- Take things that come together in either order (R26, R57, R106, R136; log 3): the order is free, read from the
choices, which are used up. -/
def Work.arrange {α : Type} (xs : List α) (w : Work) : List α × Work :=
  if xs.length ≤ 1 then (xs, w)
  else (arrangeBy w.live.choices xs, w.on (fun l => { l with choices := l.choices.drop xs.length }))

/-- Apply f for each of several things that come together, in a free order. -/
def Work.forEach {α : Type} (xs : List α) (f : α → Work → Work) (w : Work) : Work :=
  let arranged := w.arrange xs
  arranged.1.foldl (fun v x => f x v) arranged.2

/-! ## Telegrams sent and the Report Queue -/

/-- A telegram leaves the part. -/
def Live.send (x : Sent) (l : Live) : Live := { l with sent := l.sent ++ [x] }

/-- The options in force; without an OPTIONS entry stop on alarm is off, the watermark is 128 and state notices are off
(R16). -/
def Tables.optionsInForce (t : Tables) : OptionsEntry :=
  (Map.find 0 t.options).getD { stopOnAlarm := 0, watermark := 128, stateNotices := 0 }

/-- Stop on alarm is on (R16). -/
def Tables.stopOnAlarm (t : Tables) : Bool := t.optionsInForce.stopOnAlarm == 1
/-- State notices are on (R16). -/
def Tables.noticesOn (t : Tables) : Bool := t.optionsInForce.stateNotices == 1
/-- The report watermark (R16). -/
def Tables.watermark (t : Tables) : Nat := t.optionsInForce.watermark

/-- The queue without its oldest class C report, if it holds one (R175). -/
def withoutOldestC : List Report → Option (List Report)
  | [] => none
  | r :: rs => if r.cls = .c then some rs else (withoutOldestC rs).map (fun qs => r :: qs)

/-- The report that is offered next, numbered and timed (R175): the time is in seconds since power-on. -/
def ReportQueue.next (q : ReportQueue) (clock : Nat) (cls : ReportClass) (code : ReportCode) (kind : SubjectKind)
    (number : Nat) (detail : Option Nat) : Report :=
  { sequence := q.counter, cls := cls, code := code, kind := kind, number := number, detail := detail,
    time := clock / 10 % 65536 }

/-- Keep a numbered report, displace the oldest class C report for it, or discard it with a lost flag (R175). -/
def ReportQueue.keep (r : Report) (q : ReportQueue) : ReportQueue :=
  if q.reports.length < Config.reportPlaces then { q with reports := q.reports ++ [r] }
  else if r.cls = .c then { q with lostC := true }
  else match withoutOldestC q.reports with
    | some rest => { q with reports := rest ++ [r] }
    | none => { q with lostAB := true }

/-- Number a report before it is kept or not; a class A report becomes the latest and sets the alarm hold when stop on
alarm is on (R175, R179). -/
def ReportQueue.offer (stop : Bool) (r : Report) (q : ReportQueue) : ReportQueue :=
  ReportQueue.keep r
    { q with
      counter := q.counter + 1
      latestA := if r.cls = .a then some r.sequence else q.latestA
      hold := q.hold || (r.cls == .a && stop) }

/-- Send the REPORT NOTICE when the queue's length has reached the watermark while the notice is armed (R176). -/
def Live.noticeReports (watermark : Nat) (l : Live) : Live :=
  if l.reports.armed && watermark ≤ l.reports.reports.length then
    { l with
      reports := { l.reports with armed := false }
      sent := l.sent ++ [.reportNotice l.reports.reports.length] }
  else l

/-- Offer a report to the Report Queue; the notice follows when the queue has grown to the watermark (R175, R176). -/
def Live.offer (e : Env) (cls : ReportClass) (code : ReportCode) (kind : SubjectKind) (number : Nat)
    (detail : Option Nat) (l : Live) : Live :=
  let kept := ReportQueue.offer e.tables.stopOnAlarm (l.reports.next e.clock cls code kind number detail) l.reports
  if l.reports.reports.length < kept.reports.length then
    Live.noticeReports e.tables.watermark { l with reports := kept }
  else { l with reports := kept }

/-- Offer a report inside a step. -/
def Work.report (e : Env) (cls : ReportClass) (code : ReportCode) (kind : SubjectKind) (number : Nat)
    (detail : Option Nat) (w : Work) : Work :=
  w.on (Live.offer e cls code kind number detail)

/-! ## Records by id -/

/-- The point record of an element (R42). -/
def Live.point (l : Live) (p : Nat) : Option PointRec :=
  match Map.find p l.elements with
  | some (.point r) => some r
  | _ => none

/-- The signal record of an element (R43). -/
def Live.signal (l : Live) (g : Nat) : Option SignalRec :=
  match Map.find g l.elements with
  | some (.signal r) => some r
  | _ => none

/-- The head record of an element (R44). -/
def Live.head (l : Live) (h : Nat) : Option HeadRec :=
  match Map.find h l.elements with
  | some (.head r) => some r
  | _ => none

/-- Write an element's record. -/
def Live.setElement (n : Nat) (r : ElementRec) (l : Live) : Live := { l with elements := Map.put n r l.elements }

/-- The section record (R18). -/
def Live.sectionAt (l : Live) (n : Nat) : Option SectionRec := Map.find n l.sections

/-- Write a section's record. -/
def Live.setSection (n : Nat) (r : SectionRec) (l : Live) : Live := { l with sections := Map.put n r l.sections }

/-- The section is CLEAR; only CLEAR counts as vacant (R19). -/
def Live.isClear (l : Live) (n : Nat) : Bool :=
  match l.sectionAt n with
  | some r => r.state == .clear
  | none => false

/-- The lock holder of a section (R18). -/
def Live.holder (l : Live) (n : Nat) : Option (Nat × Role) := (l.sectionAt n).bind (fun r => r.lock)

/-- The possession number of a section (R18). -/
def Live.possessionOf (l : Live) (n : Nat) : Option Nat := (l.sectionAt n).bind (fun r => r.possession)

/-- The slot record in use (R77). -/
def Live.slot (l : Live) (n : Nat) : Option Slot := Map.find n l.slots

/-- Write a slot record. -/
def Live.setSlot (n : Nat) (x : Slot) (l : Live) : Live := { l with slots := Map.put n x l.slots }

/-- Change a slot record in use. -/
def Work.slotTo (n : Nat) (f : Slot → Slot) (w : Work) : Work :=
  w.on (fun l => { l with slots := Map.update n f l.slots })

/-- The line record of a link (R130). -/
def Live.line (l : Live) (link number : Nat) : Option LineRec :=
  (Map.find link l.links).bind (fun k => Map.find number k.lines)

/-- Change a line record. -/
def Live.updateLine (link number : Nat) (f : LineRec → LineRec) (l : Live) : Live :=
  { l with links := Map.update link (fun k => { k with lines := Map.update number f k.lines }) l.links }

/-- The state of a link; a port without a link record is DOWN (R14). -/
def Live.linkState (l : Live) (link : Nat) : LinkState :=
  match Map.find link l.links with
  | some k => k.state
  | none => .down

/-- The evaluated position of a point equals p: the point is detected in p (R42). -/
def Live.detected (l : Live) (element : Nat) (p : Position) : Bool :=
  match l.point element with
  | some r => r.evaluated == some p
  | none => false

end Machine
end Sys2Proof
end

