-- ==== Sys2Proof/Machine/Operands.lean ====
section
/-! DEFINITION. The names behind the codes of 12.3 and 12.4, both ways. -/

namespace Sys2Proof.Machine

/-- Position codes: 1 NORMAL, 2 REVERSE (R182). -/
def Position.ofCode : Nat → Option Position
  | 1 => some .normal
  | 2 => some .reverse
  | _ => none

/-- Aspect codes: 1 DANGER, 2 CAUTION, 3 PROCEED (R182). -/
def Aspect.ofCode : Nat → Option Aspect
  | 1 => some .danger
  | 2 => some .caution
  | 3 => some .proceed
  | _ => none

/-- A reported position octet: 0 is NONE (R182); other values have no meaning. -/
def reportedPosition (code : Nat) : Option (Option Position) :=
  if code = 0 then some none else (Position.ofCode code).map some

/-- A shown aspect octet: 0 is NONE (R182); other values have no meaning. -/
def shownAspect (code : Nat) : Option (Option Aspect) :=
  if code = 0 then some none else (Aspect.ofCode code).map some

def Position.code : Position → Nat
  | .normal => 1
  | .reverse => 2

def Aspect.code : Aspect → Nat
  | .danger => 1
  | .caution => 2
  | .proceed => 3

/-- A position or NONE (R182). -/
def positionCode : Option Position → Nat
  | none => 0
  | some p => p.code

/-- An aspect or NONE (R182). -/
def aspectCode : Option Aspect → Nat
  | none => 0
  | some a => a.code

/-- The octet of a claim's required state: a position code for a point, DANGER's for a signal (R182). -/
def Required.code : Required → Nat
  | .position p => p.code
  | .danger => Aspect.danger.code

def SectionState.code : SectionState → Nat
  | .clear => 1
  | .occupied => 2
  | .disturbed => 3
  | .sweep => 4

/-- A section state octet: 0 is none (R182); values above 4 have no meaning. -/
def sharedState : Nat → Option (Option SectionState)
  | 0 => some none
  | 1 => some (some .clear)
  | 2 => some (some .occupied)
  | 3 => some (some .disturbed)
  | 4 => some (some .sweep)
  | _ => none

/-- The detail value of a cause (R27). -/
def Cause.code : Cause → Nat
  | .saturated => 1
  | .underflow => 2
  | .step => 3
  | .headLost => 4
  | .start => 5
  | .disagree => 6

/-- The octet of a cause set: bits 0 to 5 for detail values 1 to 6 (R182). -/
def causeOctet (cs : List Cause) : Nat := cs.foldl (fun n c => n ||| (1 <<< (c.code - 1))) 0

def SlotState.code : SlotState → Nat
  | .setting => 1
  | .waitLine => 2
  | .locked => 3
  | .clearing => 4
  | .clear => 5
  | .replaced => 6
  | .entered => 7
  | .timedRelease => 8

def ReleaseCause.code : ReleaseCause → Nat
  | .approach => 1
  | .emergency => 2
  | .restart => 3

/-- Mode codes (R182); START has none, and no telegram of the part carries it. -/
def Mode.code : Mode → Nat
  | .start => 0
  | .suspended => 1
  | .inService => 2
  | .commissioning => 3
  | .failed => 4

/-- The modes that MODE SET can name (R162). -/
def Mode.ofSetCode : Nat → Option Mode
  | 1 => some .suspended
  | 2 => some .inService
  | 3 => some .commissioning
  | _ => none

def LinkState.code : LinkState → Nat
  | .down => 1
  | .aligning => 2
  | .up => 3

def Owner.code : Owner → Nat
  | .us => 1
  | .neighbour => 2
  | .unknown => 3

def Owner.ofCode : Nat → Option Owner
  | 1 => some .us
  | 2 => some .neighbour
  | 3 => some .unknown
  | _ => none

def Stage.code : Stage → Nat
  | .setting => 1
  | .locked => 2

/-- Stage codes of STAGE HOLD (R183). -/
def Stage.ofCode : Nat → Option Stage
  | 1 => some .setting
  | 2 => some .locked
  | _ => none

def ReportClass.code : ReportClass → Nat
  | .a => 1
  | .b => 2
  | .c => 3

def SubjectKind.code : SubjectKind → Nat
  | .element => 1
  | .trackSection => 2
  | .route => 3
  | .slot => 4
  | .line => 5
  | .link => 6
  | .possession => 7
  | .table => 8

/-- Report codes (12.4). -/
def ReportCode.code : ReportCode → Nat
  | .signalReplaced => 1
  | .signalPassedAfterCancel => 2
  | .directionConflict => 3
  | .sectionDisturbed => 4
  | .pointMoveFailed => 5
  | .signalNotProven => 6
  | .aspectMismatch => 7
  | .lineRefused => 8
  | .emergencyRelease => 9
  | .linkDown => 10
  | .identityMismatch => 11
  | .restarted => 12
  | .tableInvalid => 13
  | .modeChanged => 14
  | .sectionReset => 15
  | .wrongKind => 16
  | .requestTaken => 17
  | .requestRefused => 18
  | .requestExpired => 19
  | .requestDropped => 20
  | .routeReleased => 21
  | .flankSubstitute => 22
  | .lateYield => 23
  | .unknownRemoteHead => 24
  | .unknownAddress => 25
  | .possessionTaken => 26
  | .possessionGiven => 27
  | .possessionTrimmed => 28
  | .tablesCommitted => 29

/-- Answer codes, 0 to 27 in the order of the introduction (R182). -/
def Code.code : Code → Nat
  | .accepted => 0
  | .queued => 1
  | .done => 2
  | .replaced => 3
  | .ignored => 4
  | .mode => 5
  | .held => 6
  | .unknown => 7
  | .active => 8
  | .possessed => 9
  | .conflict => 10
  | .unavailable => 11
  | .noSlot => 12
  | .flankFull => 13
  | .queueFull => 14
  | .line => 15
  | .busy => 16
  | .tooLate => 17
  | .notArmed => 18
  | .overlap => 19
  | .lockedIn => 20
  | .frozen => 21
  | .checkMismatch => 22
  | .invalid => 23
  | .amendLimit => 24
  | .alreadySet => 25
  | .stale => 26
  | .badForm => 27

/-- The order of an ELEMENT ORDER: 1 NORMAL, 2 REVERSE, 3 DANGER, 4 CAUTION, 5 PROCEED (R183). -/
def Order.ofCode : Nat → Option Order
  | 1 => some (.position .normal)
  | 2 => some (.position .reverse)
  | 3 => some (.aspect .danger)
  | 4 => some (.aspect .caution)
  | 5 => some (.aspect .proceed)
  | _ => none

/-- The mode takes operating telegrams: SUSPENDED, IN_SERVICE or COMMISSIONING (10.2). -/
def Mode.operating : Mode → Bool
  | .suspended => true
  | .inService => true
  | .commissioning => true
  | _ => false

/-- Route calls are taken: IN_SERVICE or COMMISSIONING (R63). -/
def Mode.inTraffic : Mode → Bool
  | .inService => true
  | .commissioning => true
  | _ => false

/-- The tables can be loaded: SUSPENDED or FAILED (R167). -/
def Mode.loading : Mode → Bool
  | .suspended => true
  | .failed => true
  | _ => false

end Sys2Proof.Machine
end

