-- ==== Sys2Proof/Machine/Tables.lean ====
section
/-! DEFINITION. Reading the site tables: the fields of entries, the four derived relations of R2 (computed from the active
tables when they are read; log 25), and the validation of an image (R3 to R17). -/

namespace Sys2Proof.Machine

/-! ## Fields of entries -/

/-- The supervision time of an element, in tenths of a second (R3). -/
def Tables.supervision (t : Tables) (n : Nat) : Nat := ((Map.find n t.elements).map (fun e => e.supervision)).getD 0

/-- The field address of a local element (R3). -/
def Tables.fieldAddress (t : Tables) (n : Nat) : Nat :=
  match Map.find n t.elements with
  | some { location := .field a, .. } => a
  | _ => 0

/-- An element that is a point, with its point section, movement limit and persistence (R4). -/
def Tables.pointFields (t : Tables) (n : Nat) : Option (Nat × Nat × Nat) :=
  match Map.find n t.elements with
  | some { body := .point sec limit p, .. } => some (sec, limit, p)
  | _ => none

/-- The point section of a point (R4). -/
def Tables.pointSection (t : Tables) (n : Nat) : Option Nat := (t.pointFields n).map (fun x => x.1)

/-- The movement limit of a point, in tenths of a second (R4). -/
def Tables.moveLimit (t : Tables) (n : Nat) : Nat := ((t.pointFields n).map (fun x => x.2.1 * 10)).getD 0

/-- The detection persistence P of a point (R4). -/
def Tables.persistence (t : Tables) (n : Nat) : Nat := ((t.pointFields n).map (fun x => x.2.2)).getD 1

/-- The proving time of a signal, in tenths of a second (R5). -/
def Tables.provingTime (t : Tables) (n : Nat) : Nat :=
  match Map.find n t.elements with
  | some { body := .signal time, .. } => time * 10
  | _ => 0

/-- The element is a signal (R5). -/
def Tables.isSignal (t : Tables) (n : Nat) : Bool :=
  match Map.find n t.elements with
  | some { body := .signal _, .. } => true
  | _ => false

/-- The element is a head (R6). -/
def Tables.isHead (t : Tables) (n : Nat) : Bool :=
  match Map.find n t.elements with
  | some { body := .head _ _, .. } => true
  | _ => false

/-- The step limit of a head (R6). -/
def Tables.stepLimit (t : Tables) (n : Nat) : Nat :=
  match Map.find n t.elements with
  | some { body := .head limit _, .. } => limit
  | _ => 0

/-- The export target of a head: link and export number (R6). -/
def Tables.exportTarget (t : Tables) (n : Nat) : Option (Nat × Nat) :=
  match Map.find n t.elements with
  | some { body := .head _ x, .. } => x
  | _ => none

/-- The link of a remote element (R3). -/
def Tables.remoteLink (t : Tables) (n : Nat) : Option Nat :=
  match Map.find n t.elements with
  | some { location := .remote link _, .. } => some link
  | _ => none

/-- The present local element at a field address (R3): the lowest id. -/
def Tables.atAddress (t : Tables) (address : Nat) : Option Nat :=
  (t.elements.find? (fun x => x.2.location == .field address)).map (fun x => x.1)

/-- The line record of a BOUNDARY entry (R15). Of two staged records of one number, which only constraint 314 can meet, the
first counts, by the model's choice (log 61). -/
def Tables.lineEntry (t : Tables) (link number : Nat) : Option LineEntry :=
  (Map.find link t.boundary).bind (fun b => b.lines.find? (fun x => x.number == number))

/-- The required points of a route and their positions, in ascending order of element id (R10, R80). -/
def RouteEntry.requirements (r : RouteEntry) : Map Position :=
  r.points.foldl (fun m x => match Position.ofCode x.position with
    | some p => Map.put x.element p m
    | none => m) []

/-- The state that a flank candidate's code requires of its element: a position of a point, DANGER of a signal (R11). -/
def Tables.requiredState (t : Tables) (c : Candidate) : Option Required :=
  if (t.pointFields c.element).isSome then (Position.ofCode c.state).map .position
  else if t.isSignal c.element then some .danger
  else none

/-- The exit line of a route (R8). -/
def RouteEntry.exitLine (r : RouteEntry) : Option (Nat × Nat) :=
  match r.exit with
  | .line link number => some (link, number)
  | .signal _ => none

/-- The exit signal of a route (R8). -/
def RouteEntry.exitSignal (r : RouteEntry) : Option Nat :=
  match r.exit with
  | .signal g => some g
  | .line _ _ => none

/-- Path and overlap sections (R9). -/
def RouteEntry.lockedSections (r : RouteEntry) : List Nat := r.path ++ r.overlap

/-! ## The derived relations (R2) -/

/-- The sections that a head bounds, and whether direction A counts into each (R2). -/
def Tables.boundedBy (t : Tables) (h : Nat) : List (Nat × Bool) :=
  t.sections.filterMap (fun x => (x.2.heads.find? (fun i => i.head == h)).map (fun i => (x.1, i.direction == 1)))

/-- The points whose point section is the section, rising (R2). -/
def Tables.pointsOf (t : Tables) (sec : Nat) : List Nat :=
  (t.elements.filter (fun x => t.pointSection x.1 == some sec)).map (fun x => x.1)

/-- The remote heads of a link by neighbour head number, rising (R2). -/
def Tables.remoteHeads (t : Tables) (link : Nat) : Map Nat :=
  t.elements.foldl (fun m x => match x.2.location with
    | .remote k n => if k = link then Map.put n x.1 m else m
    | .field _ => m) []

/-- The exported heads of a link by export number, rising (R2). -/
def Tables.exportedHeads (t : Tables) (link : Nat) : Map Nat :=
  t.elements.foldl (fun m x => match t.exportTarget x.1 with
    | some (k, n) => if k = link then Map.put n x.1 m else m
    | none => m) []

/-- The line of which a section is a line section: link, line, and whether it is that line's shared section (R2). -/
def Tables.lineOf (t : Tables) (sec : Nat) : Option (Nat × Nat × Bool) :=
  t.boundary.findSome? (fun b => b.2.lines.findSome? (fun x =>
    if x.sections.contains sec then some (b.1, x.number, x.shared == some sec) else none))

/-- The section is the shared section of a line (R18). -/
def Tables.isShared (t : Tables) (sec : Nat) : Bool :=
  t.boundary.any (fun b => b.2.lines.any (fun x => x.shared == some sec))

/-! ## Validation (1.7) -/

/-- The number of the first constraint that fails, in the order given. -/
def firstFailed : List (Nat × Bool) → Option Nat
  | [] => none
  | (n, holds) :: rest => if holds then firstFailed rest else some n

/-- No item twice. -/
def noRepeats (ns : List Nat) : Bool := decide ns.Nodup

/-- lo to hi, inclusive. -/
def within (lo hi n : Nat) : Bool := lo ≤ n && n ≤ hi

/-- A present local element of kind SIGNAL (301, 302). -/
def Tables.localSignal (t : Tables) (g : Nat) : Bool :=
  match Map.find g t.elements with
  | some { location := .field _, body := .signal _, .. } => true
  | _ => false

/-- A present local element of kind POINT (321). -/
def Tables.localPoint (t : Tables) (p : Nat) : Bool :=
  match Map.find p t.elements with
  | some { location := .field _, body := .point _ _ _, .. } => true
  | _ => false

/-- 101 to 106 (R3). -/
def Tables.commonConstraints (t : Tables) (id : Nat) (e : ElementEntry) : List (Nat × Bool) :=
  let lower := t.elements.filter (fun x => x.1 < id)
  let isHead := match e.body with | .head _ _ => true | _ => false
  [ (101, match e.body with | .other _ => false | _ => true),
    (102, within 2 50 e.supervision),
    (103, match e.location with | .remote _ _ => isHead | .field _ => true),
    (104, match e.location with
      | .field a => a ≤ 4095 && !lower.any (fun x => x.2.location == .field a)
      | .remote _ _ => true),
    (105, match e.location with
      | .field _ => true
      | .remote link n => Map.has link t.boundary && n ≤ 63 && !lower.any (fun x => x.2.location == .remote link n)),
    (106, match e.location with | .remote _ _ => 20 ≤ e.supervision | .field _ => true) ]

/-- 131 to 135 (R6). Where a section lists the head twice, its first item gives the in-direction of 133 by the model's choice
(log 39). -/
def Tables.headConstraints (t : Tables) (id : Nat) (e : ElementEntry) (limit : Nat) (x : Option (Nat × Nat)) :
    List (Nat × Bool) :=
  let directions := t.sections.filterMap (fun s =>
    (s.2.heads.find? (fun i => i.head == id)).map (fun i => i.direction))
  let lower := t.elements.filter (fun y => y.1 < id)
  [ (131, within 1 63 limit),
    (132, within 1 2 directions.length),
    (133, directions.length != 2 || directions == [1, 2] || directions == [2, 1]),
    (134, match x, e.location with
      | none, _ => true
      | some (link, n), .field _ => Map.has link t.boundary && n ≤ 63
      | some _, .remote _ _ => false),
    (135, match x with
      | none => true
      | some target => !lower.any (fun y => t.exportTarget y.1 == some target)) ]

/-- 101 to 135: the constraints of an ELEMENTS entry (R3 to R6). -/
def Tables.elementConstraints (t : Tables) (id : Nat) (e : ElementEntry) : List (Nat × Bool) :=
  t.commonConstraints id e ++ match e.body with
    | .point sec limit p => [(111, Map.has sec t.sections), (112, within 1 30 limit), (113, within 1 8 p)]
    | .signal time => [(121, within 1 10 time)]
    | .head limit x => t.headConstraints id e limit x
    | .other _ => []

/-- 201 to 205: the constraints of a SECTIONS entry (R7). -/
def Tables.sectionConstraints (t : Tables) (id : Nat) (e : SectionEntry) : List (Nat × Bool) :=
  let links := e.heads.filterMap (fun i => t.remoteLink i.head)
  [ (201, within 1 6 e.heads.length),
    (202, e.heads.all (fun i => t.isHead i.head)),
    (203, noRepeats (e.heads.map (fun i => i.head))),
    (204, e.heads.all (fun i => within 1 2 i.direction)),
    (205, match links with
      | [] => true
      | k :: ks => ks.all (fun j => j == k) &&
        ((Map.find k t.boundary).map (fun b => b.lines.any (fun x => x.shared == some id))).getD false) ]

/-- 301 to 303 (R8). A route without a path section has no first path section, which counts as different from any by the model's
choice (log 38). -/
def Tables.signalConstraints (t : Tables) (id : Nat) (r : RouteEntry) : List (Nat × Bool) :=
  [ (301, t.localSignal r.entrySignal),
    (302, match r.exit with
      | .signal g => t.localSignal g && g != r.entrySignal
      | .line link n => (t.lineEntry link n).isSome),
    (303, (t.routes.filter (fun x => x.1 < id)).all (fun x =>
      x.2.entrySignal != r.entrySignal || x.2.path.head? == r.path.head?)) ]

/-- 311 to 314 (R9). -/
def Tables.pathConstraints (t : Tables) (r : RouteEntry) : List (Nat × Bool) :=
  let present (ns : List Nat) : Bool := ns.all (fun n => Map.has n t.sections)
  [ (311, within 1 12 r.path.length && present r.path && noRepeats r.path),
    (312, r.overlap.length ≤ 3 && present r.overlap && noRepeats r.overlap &&
      r.overlap.all (fun n => !r.path.contains n)),
    (313, r.approach.length ≤ 3 && present r.approach && noRepeats r.approach &&
      r.approach.all (fun n => !r.lockedSections.contains n)),
    (314, match r.exit with
      | .signal _ => true
      | .line link n => r.overlap.isEmpty && (match t.lineEntry link n, r.path.getLast? with
        | some x, some last => x.sections.contains last
        | _, _ => false)) ]

/-- 321 to 335 (R10, R11). -/
def Tables.protectionConstraints (t : Tables) (r : RouteEntry) : List (Nat × Bool) :=
  let required := r.points.map (fun x => x.element)
  let candidates := r.flank.flatMap (fun f => f.candidates)
  let inRoute (p : Nat) : Bool := (t.pointSection p).any (fun n => r.lockedSections.contains n)
  [ (321, r.points.length ≤ 16 && required.all t.localPoint && noRepeats required &&
      r.points.all (fun x => within 1 2 x.position)),
    (322, required.all inRoute),
    (323, t.elements.all (fun x => !inRoute x.1 || required.contains x.1)),
    (331, r.flank.length ≤ 12),
    (332, r.flank.all (fun f => within 1 r.path.length f.index)),
    (333, candidates.all (fun c =>
      (t.localPoint c.element && within 1 2 c.state) || (t.localSignal c.element && c.state == 1))),
    (334, r.flank.all (fun f => noRepeats (f.candidates.map (fun c => c.element)))),
    (335, candidates.all (fun c => c.element != r.entrySignal && r.exitSignal != some c.element &&
      !required.contains c.element)) ]

/-- 341 to 353 (R12, R13). The fleeting flag is 0 for no and 1 for yes, and no other octet, by the model's choice (log 19). -/
def Tables.timingConstraints (t : Tables) (id : Nat) (r : RouteEntry) : List (Nat × Bool) :=
  [ (341, r.opposing.length ≤ 8 && r.opposing.all (fun o => Map.has o t.routes && o != id) && noRepeats r.opposing),
    (342, r.opposing.all (fun o => ((Map.find o t.routes).map (fun x => x.opposing.contains id)).getD false)),
    (351, r.approachTime ≤ 240),
    (352, r.overlapTime ≤ 180 && (!r.overlap.isEmpty || r.overlapTime == 0)),
    (353, r.fleeting ≤ 1) ]

/-- 301 to 353: the constraints of a ROUTES entry (R8 to R13). -/
def Tables.routeConstraints (t : Tables) (id : Nat) (r : RouteEntry) : List (Nat × Bool) :=
  t.signalConstraints id r ++ t.pathConstraints r ++ t.protectionConstraints r ++ t.timingConstraints id r

/-- The line sections of the lines before line n of the link: every line of a lower link, and line 1 of the same link
when n is 2 (412). -/
def Tables.earlierLineSections (t : Tables) (link n : Nat) : List Nat :=
  t.boundary.flatMap (fun b => b.2.lines.flatMap (fun x =>
    if b.1 < link || (b.1 == link && n == 2 && x.number == 1) then x.sections else []))

/-- 401 to 413: the constraints of a BOUNDARY entry (R14, R15). -/
def Tables.boundaryConstraints (t : Tables) (id : Nat) (b : BoundaryEntry) : List (Nat × Bool) :=
  [ (401, b.identity != 0),
    (402, within 2 10 b.supervision),
    (403, within 1 20 b.replyTimeout),
    (404, b.lines.length ≤ 2 && noRepeats (b.lines.map (fun x => x.number))),
    (405, (t.elements.filter (fun x => t.remoteLink x.1 == some id)).length ≤ 8),
    (406, (t.elements.filter (fun x => (t.exportTarget x.1).map (fun y => y.1) == some id)).length ≤ 8),
    (411, b.lines.all (fun x => within 1 2 x.number && within 1 2 x.senior)),
    (412, b.lines.all (fun x => within 1 4 x.sections.length && x.sections.all (fun n => Map.has n t.sections) &&
      noRepeats x.sections && x.sections.all (fun n => !(t.earlierLineSections id x.number).contains n))),
    (413, b.lines.all (fun x => match x.shared with
      | none => true
      | some n => x.sections.contains n && ((Map.find n t.sections).map (fun e =>
          e.heads.any (fun i => t.remoteLink i.head == some id))).getD false)) ]

/-- 502 and 503 (R16). -/
def optionsConstraints (o : OptionsEntry) : List (Nat × Bool) :=
  [ (502, o.stopOnAlarm ≤ 1 && o.stateNotices ≤ 1), (503, within 1 128 o.watermark) ]

/-- The first entry of a table, by ascending id, that fails a constraint. -/
def firstInvalid {α : Type} (kind : SubjectKind) (constraints : Nat → α → List (Nat × Bool)) :
    Map α → Option (SubjectKind × Nat × Nat)
  | [] => none
  | (id, e) :: rest => match firstFailed (constraints id e) with
    | some n => some (kind, id, n)
    | none => firstInvalid kind constraints rest

/-- The OPTIONS table: entry 0 is present (501) and satisfies 502 and 503; its subject is table 5 (R16, R17). -/
def Tables.invalidOptions (t : Tables) : Option (SubjectKind × Nat × Nat) :=
  match Map.find 0 t.options with
  | none => some (.table, 5, 501)
  | some o => (firstFailed (optionsConstraints o)).map (fun n => (.table, 5, n))

/-- The first constraint that an image fails, with the subject of its report: tables in the order of R1, entries by
ascending id, constraints by number (R17). -/
def Tables.firstInvalid (t : Tables) : Option (SubjectKind × Nat × Nat) :=
  (Machine.firstInvalid .element t.elementConstraints t.elements).or <|
  (Machine.firstInvalid .trackSection t.sectionConstraints t.sections).or <|
  (Machine.firstInvalid .route t.routeConstraints t.routes).or <|
  (Machine.firstInvalid .link t.boundaryConstraints t.boundary).or t.invalidOptions

end Sys2Proof.Machine
end

