-- ==== Sys2Proof/Machine/Orders.lean ====
section
/-! DEFINITION. The Element Mirror's way out to the field: the field order queue, pending orders, point orders and signal
orders (R49, R52, R55, R56), and the proving of claims that a signal order may change (R106). -/

namespace Sys2Proof.Machine

/-! ## The field order queue (R55) -/

/-- The pending order held in an element's record (R55). -/
def ElementRec.pendingOrder : ElementRec → Option Order
  | .point r => r.pendingOrder
  | .signal r => r.pendingOrder
  | .head _ => none

/-- Hold an order in the element's record, or none (R55). -/
def ElementRec.withPending (o : Option Order) : ElementRec → ElementRec
  | .point r => .point { r with pendingOrder := o }
  | .signal r => .signal { r with pendingOrder := o }
  | .head r => .head r

/-- The element's order waits in the queue. -/
def Live.queued (l : Live) (n : Nat) : Bool := l.queue.any (fun x => x.element == n)

/-- The element's pending order. -/
def Live.pendingOrder (l : Live) (n : Nat) : Option Order := (Map.find n l.elements).bind ElementRec.pendingOrder

/-- The queue holds 32 orders, or some pending order is held (R55). -/
def Live.queueFull (l : Live) : Bool :=
  Config.orderPlaces ≤ l.queue.length || l.elements.any (fun x => x.2.pendingOrder.isSome)

/-- An order for the element waits in the queue or as pending. -/
def Live.hasOrder (l : Live) (n : Nat) : Bool := l.queued n || (l.pendingOrder n).isSome

/-- The waiting order of an element, queued or pending, becomes o and keeps its place (R55). -/
def Live.changeOrder (n : Nat) (o : Order) (l : Live) : Live :=
  { l with
    queue := l.queue.map (fun x => if x.element = n then { x with order := o } else x)
    elements := Map.update n (fun r => if r.pendingOrder.isSome then r.withPending (some o) else r) l.elements }

/-- Place an order: in the place of the element's waiting order, or as pending while the queue is full, or at the end
(R55). -/
def Live.placeOrder (t : Tables) (n : Nat) (o : Order) (l : Live) : Live :=
  if l.hasOrder n then l.changeOrder n o
  else if l.queueFull then { l with elements := Map.update n (fun r => r.withPending (some o)) l.elements }
  else { l with queue := l.queue ++ [{ element := n, address := t.fieldAddress n, order := o }] }

/-- The pending order of the lowest-numbered element enters the queue when there is a free place (R55). -/
def Live.admitPending (t : Tables) (l : Live) : Live :=
  if l.queue.length < Config.orderPlaces then
    match l.elements.find? (fun x => x.2.pendingOrder.isSome) with
    | some (n, r) => match r.pendingOrder with
      | some o =>
        { l with
          queue := l.queue ++ [{ element := n, address := t.fieldAddress n, order := o }]
          elements := Map.update n (ElementRec.withPending none) l.elements }
      | none => l
    | none => l
  else l

/-- Every free place takes a pending order, lowest element first (R55; log 18). -/
def Live.admitAll (t : Tables) : Nat → Live → Live
  | 0, l => l
  | k + 1, l => Live.admitAll t k (l.admitPending t)

/-! ## Claims on an element -/

/-- The element shows the claim's required state: a point is evaluated there, a signal is proven and commanded DANGER
(R106). -/
def Live.shows (l : Live) (element : Nat) (required : Required) : Bool :=
  match Map.find element l.elements, required with
  | some (.point r), .position p => r.evaluated == some p
  | some (.signal r), .danger => r.proven == some .danger && r.commanded == .danger
  | _, _ => false

/-- The claim's proven field as its element shows (R106). -/
def Live.proved (l : Live) (c : Claim) : Claim := { c with proven := l.shows c.element c.required }

/-- Set the proven field of every claim on the element and hand each change to its slot, in a free order (R106). -/
def Work.reprove (element : Nat) (w : Work) : Work :=
  let changed := w.live.claims.filter (fun c => c.element == element && c.proven != (w.live.proved c).proven)
  let arranged := (w.on (fun l => { l with claims := l.claims.map (fun c =>
    if c.element = element then l.proved c else c) })).arrange changed
  arranged.2.hand (arranged.1.map (fun c => .claimChanged c.slot element (!c.proven)))

/-- Some claim stands on the element. -/
def Live.claimed (l : Live) (element : Nat) : Bool := l.claims.any (fun c => c.element == element)

/-- A claim on the point requires a position other than p. -/
def Live.claimedAgainst (l : Live) (element : Nat) (p : Position) : Bool :=
  l.claims.any (fun c => c.element == element && c.required != .position p)

/-! ## Point and signal orders -/

/-- The point's route lock requires a position other than p. -/
def PointRec.lockedAgainst (r : PointRec) (p : Position) : Bool :=
  match r.routeLock with
  | some (_, q) => q != p
  | none => false

/-- Take a point order: a movement begins with its expiry at the movement limit, the persistence count becomes 0 and the
order is placed (R49). -/
def Live.takePointOrder (e : Env) (p : Nat) (q : Position) (r : PointRec) (l : Live) : Live :=
  (l.setElement p (.point { r with
    movement := some (q, e.clock + e.tables.moveLimit p)
    persistence := 0 })).placeOrder e.tables p (.position q)

/-- Issue a point order: declined while the point moves (BUSY) and when its lock or a claim requires the other position
(CONFLICT), taken otherwise (R49). -/
def Work.orderPoint (e : Env) (p : Nat) (q : Position) (w : Work) : Work :=
  match w.live.point p with
  | none => w
  | some r =>
    if r.movement.isSome || r.lockedAgainst q || w.live.claimedAgainst p q then w
    else w.on (Live.takePointOrder e p q r)

/-- Take a signal order: the commanded aspect is written, proving starts anew and the order is placed (R52). -/
def Live.takeSignalOrder (e : Env) (g : Nat) (a : Aspect) (r : SignalRec) (l : Live) : Live :=
  (l.setElement g (.signal { r with
    commanded := a
    proving := some (e.clock + e.tables.provingTime g) })).placeOrder e.tables g (.aspect a)

/-- Issue a signal order (R52); the claims on the signal are proved afresh, since its commanded aspect may change (R57,
R106). Their changes are taken when what gave the order is complete, by the model's choice (log 67). -/
def Work.orderSignal (e : Env) (g : Nat) (a : Aspect) (w : Work) : Work :=
  match w.live.signal g with
  | none => w
  | some r => (w.on (Live.takeSignalOrder e g a r)).reprove g

/-- A waiting order of the point is for a position other than p. -/
def Live.orderAgainst (l : Live) (element : Nat) (p : Position) : Bool :=
  l.queue.any (fun x => x.element == element && x.order != .position p) ||
  (l.pendingOrder element).any (fun o => o != .position p)

/-- A route lock or a claim for p turns the point's waiting order for the other position into one for p, and its movement
takes p with a new expiry (R56; log 20). -/
def Live.redirect (e : Env) (element : Nat) (p : Position) (l : Live) : Live :=
  if l.orderAgainst element p then
    let l' := l.changeOrder element (.position p)
    match l'.point element with
    | some r => l'.setElement element (.point { r with
        movement := r.movement.map (fun _ => (p, e.clock + e.tables.moveLimit element)) })
    | none => l'
  else l

end Sys2Proof.Machine
end

