-- ==== Sys2Proof/Machine/Flank.lean ====
section
/-! DEFINITION. The Flank Allocator (Chapter 6): obtainability, the flank search, the making, placing and removal of
claims. -/

namespace Sys2Proof.Machine

/-- The entry signal of a slot's route. -/
def Tables.entryOf (t : Tables) (x : Slot) : Option Nat := (Map.find x.route t.routes).map (fun r => r.entrySignal)

/-- The signal is the entry signal of a slot in one of the states. -/
def Live.entryIn (t : Tables) (states : List SlotState) (g : Nat) (l : Live) : Bool :=
  l.slots.any (fun x => states.contains x.2.state && t.entryOf x.2 == some g)

/-- One resolved flank entry: the element and state chosen, the entry's place and the level (R100). -/
structure Choice where
  element : Nat
  required : Required
  entry : Nat
  level : Nat
  deriving DecidableEq, Repr

/-- An element is obtainable in a required state (R99), the choices made earlier in the search counting as claims
(R100). -/
def Live.obtainable (t : Tables) (chosen : List Choice) (element : Nat) (required : Required) (l : Live) : Bool :=
  match Map.find element l.elements, required with
  | some (.point r), .position p =>
    r.supervised && !r.moveFailed &&
    ((t.pointSection element).bind l.possessionOf).isNone &&
    !r.lockedAgainst p && !l.claimedAgainst element p &&
    !chosen.any (fun c => c.element == element && c.required != .position p)
  | some (.signal r), .danger => r.supervised && !l.entryIn t [.clearing, .clear, .entered] element
  | _, _ => false

/-- The first obtainable of a flank entry's candidates, in order (R100). -/
def Live.firstObtainable (t : Tables) (chosen : List Choice) (entry : Nat) (l : Live) :
    Nat → List Candidate → Option Choice
  | _, [] => none
  | level, c :: cs => match t.requiredState c with
    | some required =>
      if l.obtainable t chosen c.element required then
        some { element := c.element, required := required, entry := entry, level := level }
      else l.firstObtainable t chosen entry (level + 1) cs
    | none => l.firstObtainable t chosen entry (level + 1) cs

/-- The flank search from flank entry number k on: every entry resolved in order, or unobtainable (R100). -/
def Live.searchFrom (t : Tables) (l : Live) : Nat → List Choice → List FlankEntry → Option (List Choice)
  | _, chosen, [] => some chosen
  | k, chosen, f :: fs => match l.firstObtainable t chosen k 0 f.candidates with
    | some c => l.searchFrom t (k + 1) (chosen ++ [c]) fs
    | none => none

/-- The flank search of a route (R100). -/
def Live.flankSearch (t : Tables) (r : RouteEntry) (l : Live) : Option (List Choice) := l.searchFrom t 1 [] r.flank

/-- Two entries of one route that resolve to the same element and state share one record (R101). -/
def addChoice (slot : Nat) (cs : List Claim) (c : Choice) : List Claim :=
  if cs.any (fun x => x.element == c.element && x.required == c.required) then
    cs.map (fun x => if x.element = c.element ∧ x.required = c.required then
      { x with serves := x.serves ++ [(c.entry, c.level)] } else x)
  else cs ++ [{ element := c.element, required := c.required, slot := slot, serves := [(c.entry, c.level)], proven := false }]

/-- The claim records that a search result makes for a slot (R101, R102). -/
def claimsFor (slot : Nat) (choices : List Choice) : List Claim := choices.foldl (addChoice slot) []

/-- The waiting orders of the claimed points are turned to the required positions (R56, R102). -/
def Live.redirectClaims (e : Env) (cs : List Claim) (l : Live) : Live :=
  cs.foldl (fun l c => match c.required with
    | .position p => l.redirect e c.element p
    | .danger => l) l

/-- Make a slot's claims in one step, with a FLANK_SUBSTITUTE report for each entry that fell to a substitute (R102), in the
order of the entries, by the model's choice (log 42). -/
def Work.makeClaims (e : Env) (slot : Nat) (choices : List Choice) (w : Work) : Work :=
  let made := claimsFor slot choices
  let w' := w.on (fun l => Live.redirectClaims e made { l with claims := l.claims ++ made.map l.proved })
  choices.foldl (fun w c => if c.level = 0 then w
    else w.report e .c .flankSubstitute .slot slot (some (1000 * c.level + c.element))) w'

/-- Order a claimed point to its required position when R103 lets it be ordered. -/
def Work.placePoint (e : Env) (p : Nat) (w : Work) : Work :=
  match w.live.point p, w.live.claims.find? (fun c => c.element == p) with
  | some r, some { required := .position q, .. } =>
    if r.evaluated != some q && r.routeLock.isNone && r.supervised && r.movement.isNone && !r.moveFailed
    then w.orderPoint e p q else w
  | _, _ => w

/-- Order a claimed signal DANGER when its commanded aspect is another and no slot clears or is clear over it (R104). -/
def Work.placeSignal (e : Env) (g : Nat) (w : Work) : Work :=
  match w.live.signal g with
  | some r =>
    if w.live.claimed g && r.commanded != .danger && !w.live.entryIn e.tables [.clearing, .clear] g
    then w.orderSignal e g .danger else w
  | none => w

/-- Place a slot's claimed elements, points in ascending order of element id (R67, R103, R104). -/
def Work.placeClaims (e : Env) (slot : Nat) (w : Work) : Work :=
  let elements := ascending ((w.live.claims.filter (fun c => c.slot == slot)).map (fun c => c.element))
  elements.foldl (fun w n => (w.placePoint e n).placeSignal e n) w

/-- Path sections of the slot's route are released: their flank entries leave the slot's claims, and a record left with
none is removed (R109). -/
def Live.removeEntries (r : RouteEntry) (slot : Nat) (indices : List Nat) (l : Live) : Live :=
  let kept (s : Nat × Nat) : Bool := match r.flank[s.1 - 1]? with
    | some f => !indices.contains f.index
    | none => true
  let cut := l.claims.map (fun c => if c.slot = slot then { c with serves := c.serves.filter kept } else c)
  { l with claims := cut.filter (fun c => c.slot != slot || !c.serves.isEmpty) }

/-- All claims of a slot are removed (R110). -/
def Live.removeClaims (slot : Nat) (l : Live) : Live := { l with claims := l.claims.filter (fun c => c.slot != slot) }

/-- The element is a flank primary or substitute of a waiting route (R70). -/
def Live.flankNamed (t : Tables) (element : Nat) (l : Live) : Bool :=
  l.waiting.any (fun q => ((Map.find q.route t.routes).map (fun r =>
    r.flank.any (fun f => f.candidates.any (fun c => c.element == element)))).getD false)

end Sys2Proof.Machine
end

