-- ==== Sys2Proof/Machine/Flags.lean ====
section
/-! DEFINITION. The flags that are formed from other records: our line-clear flags (R135) and the disagreement of owner
records (R137). -/

namespace Sys2Proof.Machine

/-- Every line section is CLEAR and no lock holder stands on any of them (R135). -/
def Live.lineClearNow (t : Tables) (link number : Nat) (l : Live) : Bool :=
  match t.lineEntry link number with
  | some x => x.sections.all (fun n => l.isClear n && (l.holder n).isNone)
  | none => false

/-- Form every line's line-clear flag afresh (R135). -/
def Live.formLineFlags (t : Tables) (l : Live) : Live :=
  { l with links := l.links.map (fun k => (k.1, { k.2 with
      lines := k.2.lines.map (fun y => (y.1, { y.2 with lineClear := l.lineClearNow t k.1 y.1 })) })) }

/-- The two owner records of a line disagree: both say US (1), or both say NEIGHBOUR (2) (R137). -/
def disagreement (ours theirs : Owner) : Option Nat :=
  match ours, theirs with
  | .us, .us => some 1
  | .neighbour, .neighbour => some 2
  | _, _ => none

end Sys2Proof.Machine
end

