-- ==== Sys2Proof/Machine/Engine.lean ====
section
/-! DEFINITION. The Route Engine's work on its slots (Chapters 5 and 7): setting, waiting for a line, clearing, replacement,
entry, sectional and overlap release, freeing, timed release and fleeting. Each operation acts on a step at work; what it
changes for other slots is handed over. -/

namespace Sys2Proof.Machine

/-- Act for a slot in use with its record and its route's entry; a free slot, or a route without an entry, is passed
over. -/
def Work.withSlot (e : Env) (n : Nat) (f : Slot → RouteEntry → Work → Work) (w : Work) : Work :=
  match w.live.slot n with
  | none => w
  | some x => match Map.find x.route e.tables.routes with
    | none => w
    | some r => f x r w

/-- The numbers of the slots whose record and route pass a test, rising. -/
def Live.slotsWhere (e : Env) (test : Slot → RouteEntry → Bool) (l : Live) : List Nat :=
  (l.slots.filter (fun x => match Map.find x.2.route e.tables.routes with
    | some r => test x.2 r
    | none => false)).map (fun x => x.1)

/-! ## Removing locks and freeing -/

/-- The slot's locks on the sections are removed (R116, R118). -/
def Live.unlockSections (n : Nat) (secs : List Nat) (l : Live) : Live :=
  { l with sections := l.sections.map (fun s =>
      if secs.contains s.1 && (s.2.lock.map (fun k => k.1)) == some n then (s.1, { s.2 with lock := none }) else s) }

/-- The points that a slot route-locks, rising. -/
def Live.lockedPoints (n : Nat) (l : Live) : List Nat :=
  (l.elements.filter (fun x => match x.2 with
    | .point r => (r.routeLock.map (fun k => k.1)) == some n
    | _ => false)).map (fun x => x.1)

/-- The slot's route locks on the points are removed (R116, R118, R119). -/
def Live.unlockPoints (n : Nat) (ps : List Nat) (l : Live) : Live :=
  { l with elements := l.elements.map (fun x => match x.2 with
      | .point r =>
        if ps.contains x.1 && (r.routeLock.map (fun k => k.1)) == some n then (x.1, .point { r with routeLock := none })
        else x
      | _ => x) }

/-- The points of the released sections that the slot route-locks, rising (R116, R118). -/
def Live.releasedPoints (e : Env) (n : Nat) (secs : List Nat) (l : Live) : List Nat :=
  (l.lockedPoints n).filter (fun p => (e.tables.pointSection p).any (fun s => secs.contains s))

/-- The slot is no signal's entry-of-slot any more (R119; log 21). -/
def Live.removeEntryOf (n : Nat) (l : Live) : Live :=
  { l with elements := l.elements.map (fun x => match x.2 with
      | .signal r => if r.entryOf = some n then (x.1, .signal { r with entryOf := none }) else x
      | _ => x) }

/-- Every lock and claim of a slot, its entry-of-slot and an arm that names it are removed, and its record becomes free
(R119). -/
def Live.emptySlot (t : Tables) (n : Nat) (l : Live) : Live :=
  let l := l.unlockSections n (Map.ids l.sections)
  let l := l.unlockPoints n (l.lockedPoints n)
  let l := (l.removeClaims n).removeEntryOf n
  Live.formLineFlags t { l with
    arm := if l.arm.any (fun a => a.slot == n) then none else l.arm
    slots := Map.drop n l.slots }

/-- Free a slot: everything it holds is removed in one step, ROUTE_RELEASED is queued and a scan is due (R86, R119). -/
def Work.freeSlot (e : Env) (n : Nat) (w : Work) : Work :=
  match w.live.slot n with
  | none => w
  | some x =>
    (((w.on (Live.emptySlot e.tables n)).report e .c .routeReleased .slot n (some x.route)).placeDue
      (w.live.lockedPoints n)).scanDue

/-- A line ask of the slot has failed: LINE_REFUSED, then the release before clearing (R84, R86). -/
def Work.refuseSlot (e : Env) (reason n : Nat) (w : Work) : Work :=
  match w.live.slot n with
  | none => w
  | some x => (w.report e .b .lineRefused .slot n (some (1000 * reason + x.route))).freeSlot e n

/-! ## Setting the points and waiting for the line -/

/-- Every required point is detected in its required position (R82). -/
def Live.allDetected (r : RouteEntry) (l : Live) : Bool := r.requirements.all (fun x => l.detected x.1 x.2)

/-- The test of R80 for one required point. -/
def Work.orderRequired (e : Env) (p : Nat) (q : Position) (w : Work) : Work :=
  match w.live.point p with
  | none => w
  | some r =>
    if r.evaluated != some q && r.supervised && r.movement.isNone && !r.moveFailed then w.orderPoint e p q else w

/-- A slot in SETTING or WAIT_LINE that is not held at SETTING orders its points that R80 lets it order, in ascending order
of element id. -/
def Work.orderPoints (e : Env) (n : Nat) (w : Work) : Work :=
  w.withSlot e n (fun x r w =>
    if (x.state == .setting || x.state == .waitLine) && x.held != some .setting then
      r.requirements.foldl (fun w y => w.orderRequired e y.1 y.2) w
    else w)

/-- The Boundary Unit sends our ask for a line and records it with its expiry (R140). -/
def Work.sendAsk (e : Env) (link number : Nat) (w : Work) : Work :=
  match w.live.line link number with
  | none => w
  | some y =>
    let timeout := ((Map.find link e.tables.boundary).map (fun b => b.replyTimeout * 10)).getD 0
    w.on (fun l => (l.updateLine link number (fun y => { y with
      ask := some (y.nextAsk, e.clock + timeout)
      nextAsk := y.nextAsk + 1 })).send (.directionAsk link number y.nextAsk))

/-- A slot needs its line: while the link is UP the slot waits, and an ask is sent unless one is outstanding; otherwise the
slot is released with reason 3 in place of waiting (R83, R85, R127, R140). -/
def Work.needLine (e : Env) (n link number : Nat) (waiting : Work → Work) (w : Work) : Work :=
  if w.live.linkState link = .up then
    let w := waiting w
    if ((w.live.line link number).bind (fun y => y.ask)).isSome then w else w.sendAsk e link number
  else w.refuseSlot e 3 n

/-- A slot enters WAIT_LINE, where it orders its points (R83): a hold at LOCKED ends, a hold at SETTING stays (log 22). -/
def Work.enterWaitLine (e : Env) (n link number : Nat) (w : Work) : Work :=
  w.needLine e n link number (fun w => (w.slotTo n (fun x => { x with
    state := .waitLine
    lineWait := some (link, number)
    held := if x.held = some .locked then none else x.held })).orderPoints e n)

/-! ## Clearing and replacement -/

/-- The aspect chosen from the exit: PROCEED when the exit signal is proven CAUTION or PROCEED, CAUTION otherwise and at a
boundary line (R88). -/
def Live.chosenAspect (r : RouteEntry) (l : Live) : Aspect :=
  match r.exit with
  | .line _ _ => .caution
  | .signal g => match (l.signal g).bind (fun x => x.proven) with
    | some .caution => .proceed
    | some .proceed => .proceed
    | _ => .caution

/-- Our owner of the line is US. -/
def Live.lineIsOurs (l : Live) (link number : Nat) : Bool :=
  (l.line link number).any (fun y => y.owner == .us)

/-- Condition 4 of R87: the line is ours, the link is UP, and the neighbour's last presence set its line-clear flag. -/
def Live.lineReady (r : RouteEntry) (l : Live) : Bool :=
  match r.exitLine with
  | none => true
  | some (link, number) => l.lineIsOurs link number && l.linkState link == .up &&
    ((l.line link number).bind (fun y => y.last)).any (fun x => x.lineClear)

/-- The conditions of R87 for a slot's signal to clear, with the law's condition on the points (log 23). -/
def Live.clearable (n : Nat) (r : RouteEntry) (l : Live) : Bool :=
  r.lockedSections.all l.isClear &&
  l.claims.all (fun c => c.slot != n || c.proven) &&
  (l.signal r.entrySignal).any (fun g => g.supervised) &&
  l.lineReady r && l.allDetected r

/-- A slot orders an aspect for its entry signal and writes it as its aspect ordered (R88, R90). -/
def Work.orderEntry (e : Env) (n : Nat) (r : RouteEntry) (a : Aspect) (w : Work) : Work :=
  (w.slotTo n (fun x => { x with aspect := some a })).orderSignal e r.entrySignal a

/-- A slot in LOCKED, not held there, orders its entry signal off DANGER and enters CLEARING when its conditions hold
(R87). -/
def Work.clearTest (e : Env) (n : Nat) (w : Work) : Work :=
  w.withSlot e n (fun x r w =>
    if x.state == .locked && x.held != some .locked && w.live.clearable n r then
      (w.slotTo n (fun x => { x with state := .clearing })).orderEntry e n r (w.live.chosenAspect r)
    else w)

/-- The stage hold entry for a route acts: the mode is COMMISSIONING and the entry is present (R95). -/
def Env.holdsAt (e : Env) (route : Nat) (stage : Stage) : Bool :=
  e.mode == .commissioning && e.holds.contains (route, stage)

/-- A slot enters LOCKED: it is held there when R95 requires it, and then tests the clearing conditions (R82). -/
def Work.enterLocked (e : Env) (n : Nat) (w : Work) : Work :=
  (w.slotTo n (fun x => { x with
    state := .locked
    held := if e.holdsAt x.route .locked then some .locked else none })).clearTest e n

/-- A slot in SETTING, not held there, enters LOCKED when every required point is detected (R82). -/
def Work.lockTest (e : Env) (n : Nat) (w : Work) : Work :=
  w.withSlot e n (fun x r w =>
    if x.state == .setting && x.held != some .setting && w.live.allDetected r then w.enterLocked e n else w)

/-- A slot in WAIT_LINE whose line has become ours enters LOCKED, or SETTING (R84). -/
def Work.leaveWaitLine (e : Env) (n : Nat) (w : Work) : Work :=
  w.withSlot e n (fun x r w =>
    if x.state == .waitLine then
      let w := w.slotTo n (fun x => { x with lineWait := none })
      if x.held != some .setting && w.live.allDetected r then w.enterLocked e n
      else w.slotTo n (fun x => { x with state := .setting })
    else w)

/-- A held slot goes on past its stage (R96). -/
def Work.goOn (e : Env) (n : Nat) (w : Work) : Work :=
  match w.live.slot n with
  | none => w
  | some x =>
    let w := w.slotTo n (fun x => { x with held := none })
    match x.held with
    | none => w
    | some .setting => (w.orderPoints e n).lockTest e n
    | some .locked => w.clearTest e n

/-- Replace a slot in CLEARING or CLEAR (R91): the entry signal is ordered DANGER, except for cause 6, where the gate has
ordered it. Leaving these states is a scan event (R70). -/
def Work.replace (e : Env) (n cause number : Nat) (w : Work) : Work :=
  w.withSlot e n (fun x r w =>
    if x.state == .clearing || x.state == .clear then
      let w := w.slotTo n (fun x => { x with state := .replaced, aspect := some .danger })
      let w := if cause = 6 then w else w.orderSignal e r.entrySignal .danger
      (w.report e .a .signalReplaced .slot n (some (1000 * cause + number))).scanDue
    else w)

/-! ## Releasing behind the train -/

/-- The slot is freed when its path is complete and its overlap is RELEASED or it has none (R119). -/
def Work.freeIfDone (e : Env) (n : Nat) (w : Work) : Work :=
  w.withSlot e n (fun x r w =>
    if x.state == .entered && r.path.all (fun s => w.live.holder s != some (n, .path)) &&
        (x.overlap == none || x.overlap == some .released) then w.freeSlot e n
    else w)

/-- The sections leave the slot's locks, with the points that lie in them; the Flank Allocator may place those points
(R116, R118). -/
def Work.releaseSections (e : Env) (n : Nat) (secs : List Nat) (w : Work) : Work :=
  let points := w.live.releasedPoints e n secs
  ((w.on (fun l => Live.formLineFlags e.tables ((l.unlockSections n secs).unlockPoints n points))).placeDue
    points).scanDue

/-- Overlap sections are released; when none is left locked the overlap is RELEASED (R118). -/
def Work.releaseOverlap (e : Env) (n : Nat) (secs : List Nat) (w : Work) : Work :=
  (w.releaseSections e n secs).withSlot e n (fun _ r w =>
    (if r.overlap.all (fun s => w.live.holder s != some (n, .overlap)) then
      w.slotTo n (fun x => { x with overlap := some .released }) else w).freeIfDone e n)

/-- The overlap expiry: the timer goes and every overlap section that is not OCCUPIED is released (R118). -/
def Work.overlapExpire (e : Env) (n : Nat) (w : Work) : Work :=
  w.withSlot e n (fun x r w =>
    if x.state == .entered && x.overlap == some .timing then
      (w.slotTo n (fun x => { x with timer := none })).releaseOverlap e n
        (r.overlap.filter (fun s => (w.live.sectionAt s).any (fun y => y.state != .occupied)))
    else w)

/-- Overlap timing starts when the last path section is marked in ENTERED with fleet remaining 0; a time of 0 expires at
once (R117). -/
def Work.startOverlap (e : Env) (n : Nat) (w : Work) : Work :=
  w.withSlot e n (fun x r w =>
    if x.state == .entered && x.fleet == 0 && x.overlap == some .locked && x.marks.getLast? == some true then
      let w := w.slotTo n (fun x => { x with
        overlap := some .timing
        timer := some { expiry := e.clock + r.overlapTime * 10, cause := none } })
      if r.overlapTime = 0 then w.overlapExpire e n else w
    else w)

/-- From path index i (from 1) on, the sections that sectional release gives back in turn (R115). -/
def Live.releasable (n : Nat) (x : Slot) (r : RouteEntry) (l : Live) : Nat → Nat → List Nat
  | 0, _ => []
  | k + 1, i => match r.path[i - 1]? with
    | none => []
    | some s =>
      if l.isClear s && x.marks.getD (i - 1) false && (i == r.path.length || x.marks.getD i false) &&
          l.holder s == some (n, .path) then i :: Live.releasable n x r l k (i + 1)
      else []

/-- The release test: a slot in ENTERED with fleet remaining 0 releases its path sections behind the train, and is freed
when its route is complete (R115, R116). -/
def Work.releaseTest (e : Env) (n : Nat) (w : Work) : Work :=
  w.withSlot e n (fun x r w =>
    if x.state == .entered && x.fleet == 0 then
      match w.live.releasable n x r r.path.length x.pointer with
      | [] => w
      | is =>
        let secs := is.filterMap (fun i => r.path[i - 1]?)
        let next := min (x.pointer + is.length) r.path.length
        (((w.on (Live.removeEntries r n is)).releaseSections e n secs).slotTo n
          (fun x => { x with pointer := next })).freeIfDone e n
    else w)

/-- The end of a train of a fleeting slot: marks clear, pointer 1, one train fewer, and back to LOCKED, SETTING or
WAIT_LINE (R127). Leaving ENTERED is a scan event. -/
def Work.fleetTest (e : Env) (n : Nat) (w : Work) : Work :=
  w.withSlot e n (fun x r w =>
    if x.state == .entered && 0 < x.fleet && r.path.all w.live.isClear && x.marks.all (fun m => m) then
      let w := (w.slotTo n (fun x => { x with
        marks := r.path.map (fun _ => false), pointer := 1, fleet := x.fleet - 1, origin := .fleet })).scanDue
      match r.exitLine.filter (fun k => !w.live.lineIsOurs k.1 k.2) with
      | some (link, number) => w.enterWaitLine e n link number
      | none => if w.live.allDetected r then w.enterLocked e n
        else (w.slotTo n (fun x => { x with state := .setting })).orderPoints e n
    else w)

/-- Set the occupation mark of a path section (R114). -/
def Slot.mark (r : RouteEntry) (sec : Nat) (x : Slot) : Slot :=
  { x with marks := (r.path.zip x.marks).map (fun y => y.2 || y.1 == sec) }

/-- The train enters a slot in CLEARING or CLEAR (R113). -/
def Work.enterTrain (e : Env) (n : Nat) (r : RouteEntry) (sec : Nat) (w : Work) : Work :=
  ((w.slotTo n (fun x => { x.mark r sec with state := .entered })).orderEntry e n r .danger).startOverlap e n

/-- The train enters a slot in TIMED_RELEASE with cause APPROACH (R121): a class A report. -/
def Work.passedAfterCancel (e : Env) (n : Nat) (r : RouteEntry) (sec : Nat) (w : Work) : Work :=
  match w.live.slot n with
  | none => w
  | some x => ((w.slotTo n (fun x => { x.mark r sec with state := .entered, timer := none })).report e .a
      .signalPassedAfterCancel .slot n (some x.route)).startOverlap e n

/-- A slot enters TIMED_RELEASE for a time in seconds; 0 frees it at once. Leaving CLEARING, CLEAR or ENTERED is a scan
event (R70, R122). -/
def Work.timedRelease (e : Env) (n : Nat) (cause : ReleaseCause) (seconds : Nat) (w : Work) : Work :=
  match w.live.slot n with
  | none => w
  | some x =>
    let w := (w.slotTo n (fun x => { x with
      state := .timedRelease, fleet := 0, held := none
      timer := some { expiry := e.clock + seconds * 10, cause := some cause } })).scanIf
        (x.state == .clearing || x.state == .clear || x.state == .entered)
    if seconds = 0 then w.freeSlot e n else w

/-! ## What a slot does with a change handed to it -/

/-- A section of the route changed state, for a slot in ENTERED (R114, R118). -/
def Work.sectionInEntered (e : Env) (sec n : Nat) (w : Work) : Work :=
  w.withSlot e n (fun x r w =>
    if r.path.contains sec then
      let occupied := (w.live.sectionAt sec).any (fun y => y.state == .occupied)
      let w := if occupied then (w.slotTo n (Slot.mark r sec)).startOverlap e n else w
      (w.releaseTest e n).fleetTest e n
    else if r.overlap.contains sec && x.overlap == some .timing && x.timer.isNone &&
        w.live.holder sec == some (n, .overlap) &&
        (w.live.sectionAt sec).any (fun y => y.state != .occupied) then w.releaseOverlap e n [sec]
    else w)

/-- A section of the route changed state (R28): clearing, replacement and entry by the slot's state (R87, R91 to R93, R113,
R114, R121). -/
def Work.onSection (e : Env) (sec n : Nat) (w : Work) : Work :=
  w.withSlot e n (fun x r w =>
    let occupiesFirst := r.path.head? == some sec && (w.live.sectionAt sec).any (fun y => y.state == .occupied)
    match x.state with
    | .locked => if r.lockedSections.contains sec then w.clearTest e n else w
    | .clearing | .clear =>
      if occupiesFirst then w.enterTrain e n r sec
      else if r.lockedSections.contains sec && !w.live.isClear sec then w.replace e n 1 sec
      else w
    | .entered => w.sectionInEntered e sec n
    | .timedRelease =>
      if occupiesFirst && (x.timer.bind (fun y => y.cause)) == some .approach then w.passedAfterCancel e n r sec else w
    | .setting | .waitLine | .replaced => w)

/-- A required point changed (R57): orders and LOCKED in SETTING, a return to SETTING from LOCKED, replacement with cause 2
in CLEARING and CLEAR (R80 to R82, R91). -/
def Work.onPoint (e : Env) (p n : Nat) (w : Work) : Work :=
  w.withSlot e n (fun x r w =>
    let lost := (Map.find p r.requirements).any (fun q => !w.live.detected p q)
    match x.state with
    | .setting | .waitLine => (w.orderPoints e n).lockTest e n
    | .locked => if lost then (w.slotTo n (fun x => { x with state := .setting, held := none })).orderPoints e n else w
    | .clearing | .clear => if lost then w.replace e n 2 p else w
    | .replaced | .entered | .timedRelease => w)

/-- A claim of the slot changed its proven field (R106). -/
def Work.onClaim (e : Env) (n element : Nat) (proven : Bool) (w : Work) : Work :=
  if proven then w.clearTest e n else w.replace e n 3 element

/-- The entry signal's proving ended (R89, R90). -/
def Work.onProving (e : Env) (element n : Nat) (proven : Bool) (w : Work) : Work :=
  w.withSlot e n (fun x _ w =>
    if proven then
      if x.state == .clearing then w.slotTo n (fun x => { x with state := .clear }) else w
    else w.replace e n 7 element)

/-- A signal's proven aspect changed: an exit signal may change the aspect chosen (R89, R90), and in CLEAR an entry signal
that shows another aspect without proving is cause 8 (R91). -/
def Work.onAspect (e : Env) (g n : Nat) (w : Work) : Work :=
  w.withSlot e n (fun x r w =>
    if x.state == .clearing || x.state == .clear then
      if r.exitSignal == some g && x.aspect != some (w.live.chosenAspect r) then w.orderEntry e n r (w.live.chosenAspect r)
      else if r.entrySignal == g && x.state == .clear &&
          (w.live.signal g).any (fun y => y.proving.isNone && y.proven != x.aspect) then w.replace e n 8 g
      else w
    else w)

/-- Our owner of the slot's exit line left US (R85). -/
def Work.onLineLost (e : Env) (link number n : Nat) (w : Work) : Work :=
  w.withSlot e n (fun x _ w => match x.state with
    | .setting | .locked => w.enterWaitLine e n link number
    | .clearing | .clear => w.replace e n 4 (10 * link + number)
    | .waitLine | .replaced | .entered | .timedRelease => w)

/-- The neighbour's line-clear flag of the slot's exit line was handed on (R136): LOCKED tests R87, a dropped flag is
cause 5. -/
def Work.onLineFlag (e : Env) (link number n : Nat) (w : Work) : Work :=
  let isClear := ((w.live.line link number).bind (fun y => y.last)).any (fun y => y.lineClear)
  w.withSlot e n (fun x _ w => match x.state with
    | .locked => w.clearTest e n
    | .clearing | .clear => if isClear then w else w.replace e n 5 (10 * link + number)
    | .setting | .waitLine | .replaced | .entered | .timedRelease => w)

end Sys2Proof.Machine
end

