-- ==== Sys2Proof/Machine/Calls.lean ====
section
/-! DEFINITION. Route calls and the waiting list (Chapter 4): the checks, the taking of a route into a slot, the scan, and
the settling of what a step has handed over. -/

namespace Sys2Proof.Machine

/-! ## The checks of a route call -/

/-- A required point that check 6 lets pass: supervised and not MOVE_FAILED (R64). -/
def Live.available (p : Nat) (l : Live) : Bool := (l.point p).any (fun r => r.supervised && !r.moveFailed)

/-- Items 1 to 5 of R65: what stands in the way of a route. -/
def Live.obstructed (r : RouteEntry) (l : Live) : Bool :=
  l.slots.any (fun x => r.opposing.contains x.2.route) ||
  r.lockedSections.any (fun s => (l.holder s).isSome) ||
  r.requirements.any (fun y => (l.point y.1).any (fun p => p.lockedAgainst y.2) || l.claimedAgainst y.1 y.2) ||
  l.claimed r.entrySignal

/-- The lowest-numbered free slot (R66). -/
def Live.freeSlotNumber (l : Live) : Option Nat :=
  (List.range Config.slotCount).find? (fun n => !Map.has n l.slots)

/-- The outcome of checks 5 to 10: the first check that fails, or the free slot and the result of the flank search. -/
inductive CallCheck where
  | fails (check : Nat)
  | passes (slot : Nat) (choices : List Choice)
  deriving DecidableEq, Repr

/-- Checks 5 to 10 of R63, in order (R64 to R66). -/
def Live.checkCall (t : Tables) (r : RouteEntry) (l : Live) : CallCheck :=
  if r.lockedSections.any (fun s => (l.possessionOf s).isSome) then .fails 5
  else if !r.requirements.all (fun y => l.available y.1) then .fails 6
  else if r.exitLine.any (fun k => l.linkState k.1 != .up) then .fails 7
  else if l.obstructed r then .fails 8
  else match l.flankSearch t r with
    | none => .fails 8
    | some choices =>
      if Config.claimPool < l.claims.length + (claimsFor 0 choices).length then .fails 9
      else match l.freeSlotNumber with
        | none => .fails 10
        | some n => .passes n choices

/-! ## Taking a route into a slot -/

/-- The slot record at taking (R77, R83, R95). -/
def newSlot (e : Env) (l : Live) (route : Nat) (r : RouteEntry) (fleet : Nat) : Slot :=
  let wait := r.exitLine.filter (fun k => !l.lineIsOurs k.1 k.2)
  { route := route, state := if wait.isSome then .waitLine else .setting, origin := .call, fleet := fleet, pointer := 1,
    marks := r.path.map (fun _ => false), overlap := if r.overlap.isEmpty then none else some .locked, timer := none,
    held := if e.holdsAt route .setting then some .setting else none, lineWait := wait, aspect := none }

/-- Write the section locks of a slot, PATH and OVERLAP (R78). -/
def Live.lockSections (n : Nat) (r : RouteEntry) (l : Live) : Live :=
  { l with sections := l.sections.map (fun s =>
      if r.path.contains s.1 then (s.1, { s.2 with lock := some (n, .path) })
      else if r.overlap.contains s.1 then (s.1, { s.2 with lock := some (n, .overlap) })
      else s) }

/-- Route-lock one point in its required position and turn a waiting order to it (R56, R79). -/
def Live.lockPoint (e : Env) (n p : Nat) (q : Position) (l : Live) : Live :=
  match l.point p with
  | none => l
  | some r => (l.setElement p (.point { r with routeLock := some (n, q) })).redirect e p q

/-- The entry signal's entry-of-slot is written (R79). -/
def Live.setEntryOf (n g : Nat) (l : Live) : Live :=
  match l.signal g with
  | none => l
  | some r => l.setElement g (.signal { r with entryOf := some n })

/-- All locks of a slot, written in the step that takes the call (R67, R78, R79). -/
def Live.lockRoute (e : Env) (n : Nat) (r : RouteEntry) (l : Live) : Live :=
  let l := l.lockSections n r
  let l := r.requirements.foldl (fun l y => l.lockPoint e n y.1 y.2) l
  Live.formLineFlags e.tables (l.setEntryOf n r.entrySignal)

/-- The slot begins: it needs its line in WAIT_LINE, and tests for LOCKED in SETTING (R82, R83). -/
def Work.begin (e : Env) (n : Nat) (w : Work) : Work :=
  match (w.live.slot n).bind (fun x => x.lineWait) with
  | some (link, number) => w.needLine e n link number id
  | none => w.lockTest e n

/-- Take a route into a free slot: the record, its locks and claims, the Route Engine's point orders and then the Flank
Allocator's, and the first tests of the slot (R67). -/
def Work.takeRoute (e : Env) (route : Nat) (r : RouteEntry) (fleet n : Nat) (choices : List Choice) (w : Work) : Work :=
  let w := w.on (fun l => (l.setSlot n (newSlot e l route r fleet)).lockRoute e n r)
  let w := w.makeClaims e n choices
  ((w.orderPoints e n).placeClaims e n).begin e n

/-! ## Settling what has been handed over -/

/-- Take one change: each block that acts on it does so (R28, R57, R106, R133, R136). -/
def Work.take (e : Env) (c : Change) (w : Work) : Work :=
  match c with
  | .sectionState s =>
    w.forEach (w.live.slotsWhere e (fun _ r => r.lockedSections.contains s || r.approach.contains s)) (Work.onSection e s)
  | .pointChanged p => w.forEach (w.live.slotsWhere e (fun _ r => Map.has p r.requirements)) (Work.onPoint e p)
  | .provingEnded g proven => match (w.live.signal g).bind (fun y => y.entryOf) with
    | some n => w.onProving e g n proven
    | none => w
  | .placeSignal g => w.placeSignal e g
  | .aspectChanged g =>
    w.forEach (w.live.slotsWhere e (fun _ r => r.entrySignal == g || r.exitSignal == some g)) (Work.onAspect e g)
  | .signalSupervised g => w.forEach (w.live.slotsWhere e (fun _ r => r.entrySignal == g)) (Work.clearTest e)
  | .claimChanged n element proven => w.onClaim e n element proven
  | .lineOurs link number =>
    w.forEach (w.live.slotsWhere e (fun x _ => x.lineWait == some (link, number))) (Work.leaveWaitLine e)
  | .lineLost link number =>
    w.forEach (w.live.slotsWhere e (fun _ r => r.exitLine == some (link, number))) (Work.onLineLost e link number)
  | .lineFlag link number =>
    w.forEach (w.live.slotsWhere e (fun _ r => r.exitLine == some (link, number))) (Work.onLineFlag e link number)
  | .askFailed link number reason =>
    (w.live.slotsWhere e (fun x _ => x.state == .waitLine && x.lineWait == some (link, number))).foldl
      (fun w n => w.refuseSlot e reason n) w
  | .linkLost link number =>
    w.forEach (w.live.slotsWhere e (fun _ r => r.exitLine == some (link, number)))
      (fun n w => w.replace e n 5 (10 * link + number))

/-- Take the changes handed over, oldest first; what one of them hands over is taken before the next (log 4). -/
def Work.settle (e : Env) : Nat → Work → Work
  | 0, w => w
  | k + 1, w => match w.todo with
    | [] => w
    | c :: rest =>
      let w' := Work.take e c { w with todo := [] }
      Work.settle e k { w' with todo := w'.todo ++ rest }

/-- More changes than one event can hand over (log 4). -/
def settleBound : Nat := 4096

/-- What has been handed over so far is taken; the points that are due wait for the end of the event (log 4). -/
def Work.handedOn (e : Env) (w : Work) : Work := w.settle e settleBound

/-- The Flank Allocator places the points that are due, in ascending order of element id (R103; log 4). -/
def Work.placeAll (e : Env) (w : Work) : Work :=
  (ascending w.places).foldl (fun w p => w.placePoint e p) { w with places := [] }

/-- Settle a step's changes, and then place the claimed points. -/
def Work.settled (e : Env) (w : Work) : Work := (w.handedOn e).placeAll e

/-! ## The scan of the waiting list -/

/-- A request leaves the waiting list; those behind it keep their order (R69). -/
def Live.dropRequest (route : Nat) (l : Live) : Live :=
  { l with waiting := l.waiting.filter (fun q => q.route != route) }

/-- Examine one request in a scan (R71). REQUEST_TAKEN is queued after the FLANK_SUBSTITUTE reports of the taking (R102) and
before what the taking hands on is settled, by the model's choice (log 42). -/
def Work.examine (e : Env) (q : Request) (w : Work) : Work :=
  match Map.find q.route e.tables.routes with
  | none => w
  | some r => match w.live.checkCall e.tables r with
    | .passes n choices =>
      (((w.on (Live.dropRequest q.route)).takeRoute e q.route r q.fleet n choices).report e .c .requestTaken .route
        q.route (some (256 * n + q.tag))).settled e
    | .fails check =>
      if check ≤ 7 then
        (w.on (Live.dropRequest q.route)).report e .c .requestRefused .route q.route (some (256 * check + q.tag))
      else w

/-- One scan: the requests in arrival order; the alarm hold ends it (R70, R71, R73). -/
def Work.scanOnce (e : Env) (w : Work) : Work :=
  w.live.waiting.foldl (fun w q => if w.live.reports.hold then w else w.examine e q) { w with scan := false }

/-- Scan while scan events come, at most k times (R70): a scan that takes no request makes no event. -/
def Work.scans (e : Env) : Nat → Work → Work
  | 0, w => w
  | k + 1, w =>
    if w.scan && !w.live.waiting.isEmpty && !w.live.reports.hold then Work.scans e k (w.scanOnce e)
    else { w with scan := false }

/-- The whole of one event: its changes are taken, and then the scans it calls for (R70). -/
def Work.event (e : Env) (w : Work) : Work :=
  let w := w.settled e
  w.scans e (w.live.waiting.length + 1)

/-! ## State notices of elements -/

/-- The STATE NOTICE of an element as its record stands (R58). -/
def ElementRec.notice (n : Nat) : ElementRec → Sent
  | .point r => .pointNotice n r.supervised r.evaluated r.lastReported r.moveFailed r.movement.isSome
      (r.routeLock.map (fun k => k.1))
  | .signal r => .signalNotice n r.supervised r.commanded r.proven r.proving.isSome
  | .head r => .headNotice n r.supervised

/-- One notice for each element due, with the fields as they stand after the event (R58; log 6). -/
def Live.sendNotices (t : Tables) (due : List Nat) (l : Live) : Live :=
  if t.noticesOn then
    due.foldl (fun l n => match Map.find n l.elements with
      | some r => l.send (r.notice n)
      | none => l) l
  else l

/-- End a step's work: the event is taken whole and its element notices are sent. -/
def Work.finish (e : Env) (w : Work) : Live :=
  let w := w.event e
  w.live.sendNotices e.tables w.notices

end Sys2Proof.Machine
end

