-- ==== Sys2Proof/Machine/Vacancy.lean ====
section
/-! DEFINITION. The Vacancy Evaluator (Chapter 2): causes, net changes, section states, the counts of a head, head loss and
the comparison of shared sections. -/

namespace Sys2Proof.Machine

/-- A cause joins a set in the order of its detail value, once (R18, R27). -/
def insertCause (c : Cause) : List Cause → List Cause
  | [] => [c]
  | d :: ds => if c = d then d :: ds else if c.code < d.code then c :: d :: ds else d :: insertCause c ds

/-- A cause is added: the section is DISTURBED and axle seen is cleared (R27). The second part is the cause when it was
not in the set already. -/
def SectionRec.addCause (c : Cause) (r : SectionRec) : SectionRec × Option Cause :=
  ({ r with state := .disturbed, causes := insertCause c r.causes, axleSeen := false },
    if r.causes.contains c then none else some c)

/-- The state that a section's balance gives without a clamp, and its axle seen (R25). -/
def SectionRec.settle (net : Int) (r : SectionRec) : SectionRec :=
  match r.state with
  | .clear | .occupied => { r with state := if r.balance = 0 then .clear else .occupied }
  | .disturbed => r
  | .sweep =>
    if (r.axleSeen || 0 < net) && r.balance == 0 then { r with state := .clear, axleSeen := false }
    else { r with axleSeen := r.axleSeen || 0 < net }

/-- The net change of one telegram is added to the balance and clamped into 0 to 1023, and the state is set (R24, R25). -/
def SectionRec.applyNet (net : Int) (r : SectionRec) : SectionRec × Option Cause :=
  let t : Int := r.balance + net
  if t < 0 then SectionRec.addCause .underflow { r with balance := 0 }
  else if (Config.maxBalance : Int) < t then SectionRec.addCause .saturated { r with balance := Config.maxBalance }
  else (SectionRec.settle net { r with balance := t.toNat }, none)

/-- The disagreement count is 0 once a section has left CLEAR (R37). -/
def SectionRec.leaveClear (before : SectionState) (r : SectionRec) : SectionRec :=
  if before = .clear ∧ r.state ≠ .clear then { r with disagreement := 0 } else r

/-- Hand on a change of a section's state: the STATE NOTICE when notices are on, the line-clear flags, and the slots
(R28). -/
def Work.handSection (e : Env) (n : Nat) (r : SectionRec) (w : Work) : Work :=
  ((w.on (fun l =>
      let l := if e.tables.noticesOn then l.send (.sectionNotice n r.state r.balance r.causes) else l
      l.formLineFlags e.tables)).hand [.sectionState n])

/-- Change a section's record: a new cause is reported, except START (R27), and a change of state is handed on (R28). That
SECTION_DISTURBED is queued here, before the reports of what is handed on, is the model's choice (log 53). -/
def Work.section_ (e : Env) (n : Nat) (f : SectionRec → SectionRec × Option Cause) (w : Work) : Work :=
  match w.live.sectionAt n with
  | none => w
  | some old =>
    let new := (f old).1.leaveClear old.state
    let w := w.on (Live.setSection n new)
    let w := match (f old).2 with
      | some c => w.report e .b .sectionDisturbed .trackSection n (some c.code)
      | none => w
    if new.state = old.state then w else w.handSection e n new

/-- How many axles a head counted in one direction since its reference: modulo 256 (R21). -/
def delta (new reference : Octet) : Nat := (new - reference).toNat

/-- The net change of a telegram for a section: axles in less axles out (R23). -/
def netChange (inA : Bool) (dA dB : Nat) : Int := if inA then (dA : Int) - dB else (dB : Int) - dA

/-- Evaluate a head's counters against its references (R20 to R26): absent references take them without a count; a delta
above the step limit is a step fault; otherwise each bounded section takes its net change. The sections are taken in a
free order (R26); both records are written, with their SECTION_DISTURBED, before either change is taken, by the model's choice
(logs 40, 53). -/
def Work.evaluate (e : Env) (h : Nat) (references : Option (Octet × Octet)) (nA nB : Octet) (w : Work) : Work :=
  match references with
  | none => w
  | some (cA, cB) =>
    let dA := delta nA cA
    let dB := delta nB cB
    if e.tables.stepLimit h < dA || e.tables.stepLimit h < dB then
      w.forEach (e.tables.boundedBy h) (fun s => Work.section_ e s.1 (SectionRec.addCause .step))
    else
      w.forEach (e.tables.boundedBy h) (fun s => Work.section_ e s.1 (SectionRec.applyNet (netChange s.2 dA dB)))

/-- A head loses supervision: every section it bounds takes HEAD_LOST (R29). -/
def Work.loseHead (e : Env) (h : Nat) (w : Work) : Work :=
  w.forEach (e.tables.boundedBy h) (fun s => Work.section_ e s.1 (SectionRec.addCause .headLost))

/-- Compare a shared section with the state that the neighbour reports (R37). -/
def SectionRec.compare (theirs : SectionState) (r : SectionRec) : SectionRec × Option Cause :=
  let r := { r with neighbourState := some theirs }
  if r.state = .clear ∧ theirs ≠ .clear then
    if r.disagreement + 1 < 3 then ({ r with disagreement := r.disagreement + 1 }, none)
    else SectionRec.addCause .disagree { r with disagreement := 0 }
  else ({ r with disagreement := 0 }, none)

/-- The record of a section at power-on, or when a commit renews it (R39, R41). -/
def SectionRec.renewed (possession : Option Nat) : SectionRec :=
  { state := .disturbed, balance := 0, causes := [.start], lock := none, possession := possession, disagreement := 0,
    neighbourState := none, axleSeen := false }

/-- A section is reset to a state: balance 0, no causes, axle seen clear, disagreement count 0 (R32, R33). -/
def SectionRec.reset (target : SectionState) (r : SectionRec) : SectionRec :=
  { r with state := target, balance := 0, causes := [], axleSeen := false, disagreement := 0 }

/-- Every head of the section's head list is supervised (R31). -/
def Live.headsSupervised (t : Tables) (n : Nat) (l : Live) : Bool :=
  ((Map.find n t.sections).map (fun x => x.heads.all (fun i => (l.head i.head).any (fun r => r.supervised)))).getD false

end Sys2Proof.Machine
end

