-- ==== Sys2Proof/Machine/Mirror.lean ====
section
/-! DEFINITION. The Element Mirror (Chapter 3): statuses of points, signals and heads, loss of supervision, the ends of
movements and provings, and what is handed on. -/

namespace Sys2Proof.Machine

/-! ## Handing on (R57, R58) -/

/-- The records of two moments differ in a field that R58 notices. -/
def PointRec.noticed (old new : PointRec) : Bool :=
  old.supervised != new.supervised || old.evaluated != new.evaluated || old.moveFailed != new.moveFailed

/-- A point's record is written and its changes are handed on: the notice, the claims' proving, the Route Engine, the Flank
Allocator, and a scan when a flank candidate may have become obtainable (R57, R58, R70, R103, R106). The Route Engine takes the
point's change before the changes of the claims on it, by the model's choice (log 66). -/
def Work.handPoint (e : Env) (p : Nat) (old new : PointRec) (w : Work) : Work :=
  let w := w.on (Live.setElement p (.point new))
  let moved := old.movement.isSome && new.movement.isNone
  let w := if old.noticed new then w.noticeDue p else w
  let w := if old.noticed new || moved then (w.hand [.pointChanged p]).placeDue [p] else w
  let w := if old.evaluated != new.evaluated then w.reprove p else w
  w.scanIf ((!old.supervised && new.supervised || old.moveFailed && !new.moveFailed) && w.live.flankNamed e.tables p)

/-- A signal's record is written and its changes are handed on; the result of a proving comes before the change of the
proven aspect (R54, R57, R58, R70, R104, R106; log 4). After these the changes of the claims on it come, and the change of its
supervised flag last, by the model's choice (log 66). -/
def Work.handSignal (e : Env) (g : Nat) (old new : SignalRec) (ended : Option Bool) (w : Work) : Work :=
  let w := w.on (Live.setElement g (.signal new))
  let w := if old.supervised != new.supervised || old.proven != new.proven then w.noticeDue g else w
  let w := match ended with
    | some proven => w.hand [.provingEnded g proven, .placeSignal g]
    | none => w
  let w := if old.proven != new.proven then (w.hand [.aspectChanged g]).reprove g else w
  let w := if old.supervised != new.supervised then w.hand [.signalSupervised g] else w
  w.scanIf (!old.supervised && new.supervised && w.live.flankNamed e.tables g)

/-! ## Points -/

/-- A report applied to a movement in progress (R50). -/
def PointRec.underMovement (target : Position) (reported : Option Position) (r : PointRec) : PointRec :=
  if reported = some target then
    { r with movement := none, evaluated := some target, moveFailed := false, persistence := 0 }
  else { r with evaluated := none }

/-- A report applied through detection persistence (R48). -/
def PointRec.underPersistence (limit : Nat) (reported : Option Position) (r : PointRec) : PointRec :=
  if reported = r.evaluated then { r with persistence := 0 }
  else if r.persistence + 1 = limit then { r with evaluated := reported, persistence := 0 }
  else { r with persistence := r.persistence + 1 }

/-- The record of a point after a status (R45, R47, R48, R50): freshness restarts, the report becomes the last reported
position, and it is applied by the state of the record. -/
def PointRec.status (e : Env) (p : Nat) (reported : Option Position) (old : PointRec) : PointRec :=
  let r := { old with
    supervised := true, freshness := some (e.clock + e.tables.supervision p), lastReported := some reported }
  match old.movement with
  | some (target, _) => r.underMovement target reported
  | none =>
    if old.supervised then r.underPersistence (e.tables.persistence p) reported
    else { r with evaluated := reported, persistence := 0 }

/-- A point that falls silent is evaluated NONE; its movement, lock and MOVE_FAILED are kept (R46). -/
def PointRec.silent (r : PointRec) : PointRec :=
  { r with supervised := false, freshness := none, evaluated := none, persistence := 0 }

/-- A movement that failed (R51). -/
def PointRec.moveFails (r : PointRec) : PointRec :=
  { r with movement := none, moveFailed := true, evaluated := none, persistence := 0 }

/-! ## Signals -/

/-- The record of a signal after a status, and the end of a proving (R45, R47, R53). -/
def SignalRec.status (e : Env) (g : Nat) (shown : Option Aspect) (old : SignalRec) : SignalRec × Option Bool :=
  let r := { old with supervised := true, freshness := some (e.clock + e.tables.supervision g), proven := shown }
  if old.proving.isSome && shown == some old.commanded then ({ r with proving := none }, some true) else (r, none)

/-- No proving is in progress and the proven aspect changes to one that is not the commanded aspect (R47, R53).
After a failed proving the proven aspect is NONE, so a status showing NONE is no change, by the model's choice (log 41). -/
def SignalRec.mismatch (shown : Option Aspect) (old : SignalRec) : Bool :=
  old.proving.isNone && old.proven != shown && shown != some old.commanded

/-- A signal that falls silent has no proven aspect; its proving, commanded aspect and entry-of-slot are kept (R46). -/
def SignalRec.silent (r : SignalRec) : SignalRec := { r with supervised := false, freshness := none, proven := none }

/-- A proving that failed (R54). -/
def SignalRec.provingFails (r : SignalRec) : SignalRec := { r with proving := none, proven := none }

/-! ## Heads and links -/

/-- The counts that a COUNTS telegram of ours carries: each exported head of the link that is supervised and has a pair
held, by export number (R138). -/
def Live.countsOut (t : Tables) (link : Nat) (l : Live) : List CountsEntry :=
  (t.exportedHeads link).filterMap (fun x =>
    if (l.head x.2).any (fun r => r.supervised) then
      ((Map.find link l.links).bind (fun k => Map.find x.2 k.exported)).map (fun c =>
        { number := x.1, nA := c.1, nB := c.2 })
    else none)

/-- Send a COUNTS on a link (R138). -/
def Live.sendCounts (t : Tables) (link : Nat) (l : Live) : Live := l.send (.counts link (l.countsOut t link))

/-- A local head with an export target passes its counters to the Boundary Unit, which sends them when the pair is new
(R36, R138). -/
def Live.passCounters (e : Env) (h : Nat) (nA nB : Octet) (l : Live) : Live :=
  match e.tables.exportTarget h with
  | none => l
  | some (link, _) => match Map.find link l.links with
    | none => l
    | some k =>
      if Map.find h k.exported = some (nA, nB) then l
      else Live.sendCounts e.tables link
        { l with links := Map.put link { k with exported := Map.put h (nA, nB) k.exported } l.links }

/-- A head's status or delivery of counts (R20, R35, R44, R45): it is supervised, its references are the new counters, and
the evaluator takes them. -/
def Work.headStatus (e : Env) (h : Nat) (old : HeadRec) (nA nB : Octet) (w : Work) : Work :=
  let w := w.on (Live.setElement h (.head { old with
    supervised := true, freshness := some (e.clock + e.tables.supervision h), references := some (nA, nB) }))
  let w := if old.supervised then w else w.noticeDue h
  (w.evaluate e h old.references nA nB).on (Live.passCounters e h nA nB)

/-- A head that falls silent loses its references (R29, R46). -/
def HeadRec.silent (r : HeadRec) : HeadRec := { r with supervised := false, freshness := none, references := none }

/-! ## A status by the element's kind -/

/-- A content of another kind than the element's is discarded, with WRONG_KIND the first time for that element (R45). -/
def Work.wrongKind (e : Env) (n : Nat) (r : ElementRec) (w : Work) : Work :=
  let seen := match r with
    | .point x => x.wrongKind
    | .signal x => x.wrongKind
    | .head x => x.wrongKind
  let marked : ElementRec := match r with
    | .point x => .point { x with wrongKind := true }
    | .signal x => .signal { x with wrongKind := true }
    | .head x => .head { x with wrongKind := true }
  if seen then w else (w.on (Live.setElement n marked)).report e .c .wrongKind .element n none

/-- Take a position reported for an element (R45, R47 to R51). -/
def Work.positionStatus (e : Env) (n : Nat) (reported : Option Position) (w : Work) : Work :=
  match Map.find n w.live.elements with
  | none => w
  | some (.point r) => w.handPoint e n r (r.status e n reported)
  | some r => w.wrongKind e n r

/-- Take an aspect shown by an element (R45, R47, R53, R54): a mismatch is reported, before the reports of what is handed on,
by the model's choice (log 62). -/
def Work.aspectStatus (e : Env) (n : Nat) (shown : Option Aspect) (w : Work) : Work :=
  match Map.find n w.live.elements with
  | none => w
  | some (.signal r) =>
    let w := if r.mismatch shown then w.report e .b .aspectMismatch .element n (some (aspectCode shown)) else w
    w.handSignal e n r (r.status e n shown).1 (r.status e n shown).2
  | some r => w.wrongKind e n r

/-- Take the running counters of an element (R44, R45). -/
def Work.countsStatus (e : Env) (n : Nat) (nA nB : Octet) (w : Work) : Work :=
  match Map.find n w.live.elements with
  | none => w
  | some (.head r) => w.headStatus e n r nA nB
  | some r => w.wrongKind e n r

/-- Take a status for a present element (R45). -/
def Work.elementStatus (e : Env) (n : Nat) (content : StatusContent) (w : Work) : Work :=
  match content with
  | .position code => match reportedPosition code with
    | some reported => w.positionStatus e n reported
    | none => w
  | .aspect code => match shownAspect code with
    | some shown => w.aspectStatus e n shown
    | none => w
  | .counts nA nB => w.countsStatus e n nA nB
  | .other _ => w

/-- The content's octets all have a meaning (R181). -/
def StatusContent.meaningful : StatusContent → Bool
  | .position code => (reportedPosition code).isSome
  | .aspect code => (shownAspect code).isSome
  | .counts _ _ => true
  | .other _ => false

/-! ## Records at power-on and at a commit (R59, R61) -/

/-- A point's record at power-on (R59). -/
def PointRec.renewed : PointRec :=
  { supervised := false, freshness := none, evaluated := none, lastReported := none, persistence := 0,
    movement := none, moveFailed := false, routeLock := none, pendingOrder := none, wrongKind := false }

/-- A signal's record at power-on, before its DANGER order is taken (R59). -/
def SignalRec.renewed : SignalRec :=
  { supervised := false, freshness := none, commanded := .danger, proven := none, proving := none, entryOf := none,
    pendingOrder := none, wrongKind := false }

/-- A head's record at power-on (R59). -/
def HeadRec.renewed (exported : Option (Nat × Nat)) : HeadRec :=
  { supervised := false, freshness := none, references := none, exported := exported, wrongKind := false }

/-- The record of an element as its entry is created; an entry of an unknown kind has none. A signal's order and proving
follow with its DANGER order (R59). -/
def ElementEntry.renewed (x : ElementEntry) : Option ElementRec :=
  match x.body with
  | .point _ _ _ => some (.point PointRec.renewed)
  | .signal _ => some (.signal SignalRec.renewed)
  | .head _ exported => some (.head (HeadRec.renewed exported))
  | .other _ => none

/-- Mode Control orders DANGER for the signals of a list, in its order (R59, R61, R163, R165). -/
def Work.orderDanger (e : Env) (gs : List Nat) (w : Work) : Work :=
  gs.foldl (fun w g => w.orderSignal e g .danger) w

/-- The signals with a present entry, rising. -/
def Tables.signals (t : Tables) : List Nat := (t.elements.filter (fun x => t.isSignal x.1)).map (fun x => x.1)

end Sys2Proof.Machine
end

