-- ==== Sys2Proof/Machine/Answers.lean ====
section
/-! DEFINITION. How a command is taken: the step's work written back to the state, the ANSWER to a control telegram, and the
conditions that every control telegram, event and expiry shares. -/

namespace Sys2Proof.Machine

/-! ## Answers -/

/-- An answer: its code, its detail value where a rule gives one (log 8), and its data. -/
structure Answer where
  code : Code
  detail : Option Nat
  data : Payload
  deriving DecidableEq, Repr

/-- An answer with its code alone. -/
def Answer.plain (code : Code) : Answer := { code := code, detail := none, data := .none }

/-- An answer with a code and a detail value. -/
def Answer.with (code : Code) (detail : Nat) : Answer := { code := code, detail := some detail, data := .none }

/-- An answer that carries data. -/
def Answer.carrying (code : Code) (detail : Option Nat) (data : Payload) : Answer :=
  { code := code, detail := detail, data := data }

/-- What a control telegram comes to: the state, and its answer unless the answer is sent when a later event has come. -/
structure Taken where
  state : State
  answer : Option Answer
  deriving DecidableEq, Repr

/-- The telegram is refused or ignored with an answer: no record changes (00_scope.md, Conventions). -/
def State.refuses (s : State) (a : Answer) : Taken := { state := s, answer := some a }

/-- The telegram is taken and answered. -/
def State.answers (s : State) (a : Answer) : Taken := { state := s, answer := some a }

/-- The telegram is taken, and its answer follows later (R158, R170, R174). -/
def State.defers (s : State) : Taken := { state := s, answer := none }

/-- A telegram leaves the part. -/
def State.send (x : Sent) (s : State) : State := { s with live := s.live.send x }

/-- Send the ANSWER to a telegram, by its tag and kind (R181). -/
def State.reply (tag kind : Nat) (a : Answer) (s : State) : State := s.send (.answer tag kind a.code a.detail a.data)

/-! ## The work of a step -/

/-- End a step's work and write its records back. -/
def State.finish (w : Work) (s : State) : State := { s with live := Work.finish s.env w }

/-- Do a step's work on the records. -/
def State.doing (f : Env → Work → Work) (s : State) : State := s.finish (f s.env s.work)

/-- Offer a report outside a step's work. -/
def State.report (cls : ReportClass) (code : ReportCode) (kind : SubjectKind) (number : Nat) (detail : Option Nat)
    (s : State) : State :=
  { s with live := s.live.offer s.env cls code kind number detail }

/-! ## Control telegrams -/

/-- The answer leaves after everything else that its step sends (log 6). -/
def Taken.outcome (tag kind : Nat) (x : Taken) : State :=
  match x.answer with
  | some a => x.state.reply tag kind a
  | none => x.state

/-- Take a control telegram: without power nothing happens (log 13), in START it is answered MODE (R161), with the detail
value given; otherwise its own rule decides. -/
def control (tag kind : Nat) (detail : Option Nat) (rule : State → Taken) (s : State) :
    Host.Outcome State Fault Refusal :=
  if !s.power then .next s
  else if s.mode = .start then .next (s.reply tag kind { code := .mode, detail := detail, data := .none })
  else .next ((rule s).outcome tag kind)

/-! ## Events and expiries -/

/-- Take an event of the part itself or of another port: without power nothing happens (log 13). -/
def event (rule : State → State) (s : State) : Host.Outcome State Fault Refusal :=
  if s.power then .next (rule s) else .next s

/-- Take an expiry: its rule acts when its timer is present and the clock has reached it. A timer that is gone has nothing to
act on (R51, R72, R123, R126), and one that was set anew has not come yet (R52, R56; log 2). -/
def State.expire (timer : Option Nat) (rule : State → State) (s : State) : State :=
  if timer.any (fun moment => moment ≤ s.clock) then rule s else s

/-! ## Conditions that several rules read -/

/-- A commit is in progress, or a restoring write runs and shows as one (R172). -/
def Store.busy (x : Store) : Bool := x.commit.isSome || x.restoring

/-- A possession telegram is answered BUSY: the store write of a commit or a restoring write runs (R172). -/
def Store.writing (x : Store) : Bool := x.restoring || x.commit.any (fun c => c.phase == .storeWrite)

/-- The slot in which a route stands (R63). -/
def Live.slotOf (route : Nat) (l : Live) : Option (Nat × Slot) := l.slots.find? (fun x => x.2.route == route)

/-- The request of a route on the waiting list (R69). -/
def Live.requestOf (route : Nat) (l : Live) : Option Request := l.waiting.find? (fun q => q.route == route)

end Sys2Proof.Machine
end

