-- ==== Sys2Proof/Machine/Boundary.lean ====
section
/-! DEFINITION. The Boundary Unit (Chapter 8): PRESENCE, COUNTS, DIRECTION ASK and DIRECTION REPLY of a neighbour, our own
PRESENCE and COUNTS, and the loss of a link. -/

namespace Sys2Proof.Machine

/-! ## Link records -/

/-- Change a link record. -/
def Work.updateLink (n : Nat) (f : LinkRec → LinkRec) (w : Work) : Work :=
  w.on (fun l => { l with links := Map.update n f l.links })

/-- Change a line record. -/
def Work.lineTo (link line : Nat) (f : LineRec → LineRec) (w : Work) : Work := w.on (Live.updateLine link line f)

/-- A line record at its creation; its line-clear flag is formed at once (R130, R135). -/
def LineRec.renewed : LineRec :=
  { owner := .unknown, lineClear := false, nextAsk := 0, ask := none, late := none, last := none }

/-- A link record at its creation, with a line record for each line of its entry (R130). -/
def BoundaryEntry.renewed (b : BoundaryEntry) : LinkRec :=
  let lines := b.lines.foldl (fun m x => Map.put x.number LineRec.renewed m) []
  { state := .down, lastHeard := none, identity := none, version := none, mismatch := false, exported := [],
    unknownSeen := [], lines := lines }

/-- The expected identity of a link (R14). -/
def Tables.expected (t : Tables) (link : Nat) : Identity := ((Map.find link t.boundary).map (fun b => b.identity)).getD 0

/-- The link supervision time, in tenths of a second (R14). -/
def Tables.linkSupervision (t : Tables) (link : Nat) : Nat :=
  ((Map.find link t.boundary).map (fun b => b.supervision * 10)).getD 0

/-- The shared sections of a link's lines (R15). -/
def Tables.sharedOf (t : Tables) (link : Nat) : List Nat :=
  ((Map.find link t.boundary).map (fun b => b.lines.filterMap (fun x => x.shared))).getD []

/-- The line number in a report's subject: 10 × link + line (R137). -/
def lineSubject (link line : Nat) : Nat := 10 * link + line

/-! ## Our presence (R134, R138) -/

/-- A line as our PRESENCE carries it (R134). -/
def Live.lineOut (t : Tables) (link : Nat) (l : Live) (x : Nat × LineRec) : PresenceOut :=
  let shared := (t.lineEntry link x.1).bind (fun y => y.shared)
  { number := x.1, owner := x.2.owner, askOutstanding := x.2.ask.isSome, lineClear := x.2.lineClear,
    shared := (shared.bind l.sectionAt).map (fun r => r.state) }

/-- Send a PRESENCE on a link and the COUNTS that follows it (R134, R138). The lines stand by rising line number, by the model's
choice (log 50). -/
def Live.sendPresence (t : Tables) (identity : Identity) (version : Word16) (l : Live) (x : Nat × LinkRec) : Live :=
  (l.send (.presence x.1 identity version (x.2.lines.map (l.lineOut t x.1)))).sendCounts t x.1

/-- Send a PRESENCE and a COUNTS on each of several links. -/
def State.presents (links : Map LinkRec) (s : State) : State :=
  { s with live := links.foldl (Live.sendPresence s.store.active s.nv.identity s.store.version) s.live }

/-- The 1.0 s interval: PRESENCE and COUNTS on every boundary port that has a link record, whatever the link's state; the
next follows 1.0 s later (R134; log 24). -/
def presenceDue (s : State) : State :=
  s.expire s.presenceDue (fun s => State.presents s.live.links { s with presenceDue := some (s.clock + Config.presenceTime) })

def execPresenceInterval (s : State) : Host.Outcome State Fault Refusal := event presenceDue s

/-! ## Leaving UP (R133) -/

/-- An outstanding ask of ours on a line ends as failed with reason 3, and the late number is removed (R133). -/
def Work.dropLine (link : Nat) (w : Work) (x : Nat × LineRec) : Work :=
  let w := w.lineTo link x.1 (fun y => { y with ask := none, late := none })
  if x.2.ask.isSome then w.hand [.askFailed link x.1 3] else w

/-- The disagreement counts of the shared sections become 0 (R38). -/
def Live.agreeShared (secs : List Nat) (l : Live) : Live :=
  { l with sections := l.sections.map (fun x => if secs.contains x.1 then (x.1, { x.2 with disagreement := 0 }) else x) }

/-- The effects of a link's leaving UP: the asks fail first, then the slots are told (R133). That the failures of all lines come
before the replacements, and each by rising line number, is the model's choice (log 58). -/
def Work.leaveUp (e : Env) (link : Nat) (k : LinkRec) (w : Work) : Work :=
  let w := k.lines.foldl (Work.dropLine link) w
  let w := w.on (Live.agreeShared (e.tables.sharedOf link))
  w.hand (k.lines.map (fun x => .linkLost link x.1))

/-- The last-heard expiry: the link enters DOWN, with LINK_DOWN (R131) and, from UP, the effects of R133. LINK_DOWN is
numbered before the reports of those effects, by the model's choice (log 49). -/
def Work.linkDown (e : Env) (link : Nat) (k : LinkRec) (w : Work) : Work :=
  let w := w.updateLink link (fun k => { k with state := .down, lastHeard := none })
  let w := w.report e .b .linkDown .link link (some (if k.state = .up then 2 else 1))
  if k.state = .up then w.leaveUp e link k else w

/-- The last-heard expiry of a link while it is ALIGNING or UP (R131, R133). -/
def lastHeardExpired (link : Nat) (s : State) : State :=
  match Map.find link s.live.links with
  | some k =>
    if k.state = .down then s else s.expire k.lastHeard (fun s => s.doing (fun e w => w.linkDown e link k))
  | none => s

def execLastHeardExpiry (link : Nat) (s : State) : Host.Outcome State Fault Refusal := event (lastHeardExpired link) s

/-! ## A telegram heard (R131) -/

/-- A valid telegram restarts the last-heard expiry; in DOWN the link enters ALIGNING, which clears mismatch reported (R131,
R132). -/
def LinkRec.hear (moment : Nat) (k : LinkRec) : LinkRec :=
  if k.state = .down then { k with state := .aligning, lastHeard := some moment, mismatch := false }
  else { k with lastHeard := some moment }

/-- Take a valid boundary telegram: it is discarded where no link record exists (R130), and heard otherwise; what it then
does depends on the link's record before it. -/
def State.heard (link : Nat) (valid : Bool) (f : LinkRec → Env → Work → Work) (s : State) : State :=
  match Map.find link s.live.links with
  | some k =>
    if valid then s.doing (fun e w =>
      f k e (w.updateLink link (LinkRec.hear (e.clock + e.tables.linkSupervision link))))
    else s
  | none => s

/-! ## PRESENCE (R132, R136, R137) -/

/-- A line octet group has a meaning in every field (R131). -/
def presenceLineMeaningful (x : PresenceLine) : Bool :=
  (Owner.ofCode x.owner).isSome && x.flags < 4 && (sharedState x.shared).isSome

/-- What a PRESENCE reports of a line, from the first entry that carries its number; a line not reported is owner UNKNOWN,
no ask, not line-clear, no shared state (R136). -/
def lineReport (lines : List PresenceLine) (number : Nat) : Option LineReport :=
  (lines.find? (fun x => x.number == number)).map (fun x =>
    { owner := (Owner.ofCode x.owner).getD .unknown, askOutstanding := x.flags.testBit 0, lineClear := x.flags.testBit 1,
      shared := (sharedState x.shared).getD none })

/-- A line that a PRESENCE does not report (R136). -/
def LineReport.absent : LineReport := { owner := .unknown, askOutstanding := false, lineClear := false, shared := none }

/-- The shared section of a line takes the reported state, when the presence reports one (R37, R136). -/
def Work.compareShared (e : Env) (link line : Nat) (reported : Option LineReport) (w : Work) : Work :=
  match (e.tables.lineEntry link line).bind (fun y => y.shared), reported.bind (fun x => x.shared) with
  | some sec, some theirs => w.section_ e sec (SectionRec.compare theirs)
  | _, _ => w

/-- The agreement check (R137): passed over while an ask of either side is outstanding; a disagreement makes our owner UNKNOWN
and is reported, and the slots are told when the owner was US. DIRECTION_CONFLICT is queued before the reports of those slots,
by the model's choice (log 62). -/
def Work.agree (e : Env) (link line : Nat) (theirs : LineReport) (w : Work) : Work :=
  match w.live.line link line with
  | none => w
  | some y =>
    if y.ask.isSome || theirs.askOutstanding then w
    else match disagreement y.owner theirs.owner with
      | none => w
      | some detail =>
        let w := w.lineTo link line (fun y => { y with owner := .unknown })
        let w := w.report e .a .directionConflict .line (lineSubject link line) (some detail)
        if y.owner = .us then w.hand [.lineLost link line] else w

/-- Apply a PRESENCE to one line (R136): the last presence, the shared section and the flag come first, with all that they hand
on, and the agreement check is then made (log 4). Of the changes of one line, that of the shared section is handed on before the
flag, by the model's choice (log 56). A flag where none was held differs from it (log 29). -/
def Work.applyLine (e : Env) (link : Nat) (lines : List PresenceLine) (broughtUp : Bool) (line : Nat) (w : Work) : Work :=
  match w.live.line link line with
  | none => w
  | some y =>
    let reported := lineReport lines line
    let theirs := reported.getD LineReport.absent
    let w := w.lineTo link line (fun y => { y with last := some theirs })
    let w := w.compareShared e link line reported
    let handed := broughtUp || (y.last.map (fun x => x.lineClear)) != some theirs.lineClear
    let w := if handed then w.hand [.lineFlag link line] else w
    (w.handedOn e).agree e link line theirs

/-- Apply a PRESENCE taken in UP to each line of the link, in a free order (R136; log 3). -/
def Work.applyPresence (e : Env) (link : Nat) (lines : List PresenceLine) (broughtUp : Bool) (k : LinkRec) (w : Work) :
    Work :=
  w.forEach (Map.ids k.lines) (fun line => Work.applyLine e link lines broughtUp line)

/-- An identity that is not the expected one is reported once for each entry to ALIGNING (R132). -/
def Work.mismatched (e : Env) (link : Nat) (identity : Identity) (w : Work) : Work :=
  match Map.find link w.live.links with
  | none => w
  | some k =>
    if k.mismatch then w
    else (w.updateLink link (fun k => { k with mismatch := true })).report e .b .identityMismatch .link link
      (some (identity.toNat % 65536))

/-- Take a PRESENCE by the link's state before it (R132): own is our area identity. Where the link leaves UP, what R133 hands
on is taken before IDENTITY_MISMATCH is queued. -/
def Work.takePresence (own identity : Identity) (version : Word16) (lines : List PresenceLine) (link : Nat)
    (k : LinkRec) (e : Env) (w : Work) : Work :=
  let w := w.updateLink link (fun k => { k with identity := some identity, version := some version })
  let expected := identity == e.tables.expected link
  if k.state = .up then
    if expected then w.applyPresence e link lines false k
    else
      let w := w.updateLink link (fun k => { k with state := .aligning, mismatch := false })
      ((w.leaveUp e link k).handedOn e).mismatched e link identity
  else if !expected then w.mismatched e link identity
  else if own = 0 then w
  else (w.updateLink link (fun k => { k with state := .up })).applyPresence e link lines true k

/-- PRESENCE (R131, R132, R136). -/
def presenceTaken (port : Nat) (identity : Identity) (version : Word16) (lines : List PresenceLine) (s : State) : State :=
  s.heard port (lines.all presenceLineMeaningful) (Work.takePresence s.nv.identity identity version lines port)

def execPresence (port : Nat) (identity : Identity) (version : Word16) (lines : List PresenceLine) (s : State) :
    Host.Outcome State Fault Refusal :=
  event (presenceTaken port identity version lines) s

/-! ## COUNTS (R139) -/

/-- A number that names no remote head of the link is reported the first time (R139). The numbers seen are kept, and returned
by a link query, in the order in which they were met, by the model's choice (log 51); a record that a commit has renewed holds
none, and a number is then reported again, by the model's choice (log 57). -/
def Work.unknownHead (e : Env) (link number : Nat) (w : Work) : Work :=
  match Map.find link w.live.links with
  | none => w
  | some k =>
    if k.unknownSeen.contains number then w
    else (w.updateLink link (fun k => { k with unknownSeen := k.unknownSeen ++ [number] })).report e .c
      .unknownRemoteHead .link link (some number)

/-- Deliver one entry to the remote head it names; each delivery is one whole head telegram (R35, R139; log 5). -/
def Work.deliver (e : Env) (link : Nat) (w : Work) (x : CountsEntry) : Work :=
  match Map.find x.number (e.tables.remoteHeads link) with
  | some h => (w.countsStatus e h x.nA x.nB).event e
  | none => w.unknownHead e link x.number

/-- COUNTS (R131, R139): delivered in ALIGNING and UP, and so in DOWN, which it leaves for ALIGNING. -/
def countsTaken (port : Nat) (entries : List CountsEntry) (s : State) : State :=
  s.heard port true (fun _ e w => entries.foldl (Work.deliver e port) w)

def execCounts (port : Nat) (entries : List CountsEntry) (s : State) : Host.Outcome State Fault Refusal :=
  event (countsTaken port entries) s

/-! ## DIRECTION ASK of the neighbour (R141, R142) -/

/-- A slot in use has the line as exit (R141). -/
def Live.exitsOnto (e : Env) (link line : Nat) (l : Live) : Bool :=
  !(l.slotsWhere e (fun _ r => r.exitLine == some (link, line))).isEmpty

/-- The slot waits on our ask for the line (R142). -/
def Live.waitsOn (slot link line : Nat) (l : Live) : Bool :=
  (l.slot slot).any (fun x => x.state == .waitLine && x.lineWait == some (link, line))

/-- Every line section is CLEAR, and no lock holder stands on one but slots of ours that wait on our ask (R142). -/
def Live.crossable (t : Tables) (link line : Nat) (l : Live) : Bool :=
  ((t.lineEntry link line).map (fun x => x.sections.all (fun n =>
    l.isClear n && (l.holder n).all (fun h => l.waitsOn h.1 link line)))).getD false

/-- The neighbour is the senior side of a line (R15). -/
def Tables.neighbourSenior (t : Tables) (link line : Nat) : Bool :=
  (t.lineEntry link line).any (fun x => x.senior == 2)

/-- The verdict on an ask of the neighbour (R141, R142): true is YIELD. -/
def Live.yields (e : Env) (link line : Nat) (y : LineRec) (l : Live) : Bool :=
  match y.owner with
  | .us => y.lineClear && !l.exitsOnto e link line
  | .neighbour => true
  | .unknown =>
    if y.ask.isSome then e.tables.neighbourSenior link line && l.crossable e.tables link line else y.lineClear

/-- A yield: the reply leaves, the owner becomes NEIGHBOUR, and an ask of ours that crossed it ends with reason 4 (R141,
R142). -/
def Work.yieldLine (link line : Nat) (number : Octet) (y : LineRec) (w : Work) : Work :=
  let w := w.on (Live.send (.directionReply link line number true))
  if y.owner = .unknown ∧ y.ask.isSome = true then
    (w.lineTo link line (fun y => { y with owner := .neighbour, ask := none })).hand [.askFailed link line 4]
  else w.lineTo link line (fun y => { y with owner := .neighbour })

/-- Take an ask while the link is UP; an ask for no line of the link is discarded (R141). -/
def Work.takeAsk (link line : Nat) (number : Octet) (k : LinkRec) (e : Env) (w : Work) : Work :=
  match Map.find line k.lines with
  | some y =>
    if k.state = .up then
      if w.live.yields e link line y then w.yieldLine link line number y
      else w.on (Live.send (.directionReply link line number false))
    else w
  | none => w

/-- DIRECTION ASK (R131, R141, R142). -/
def askTaken (port line : Nat) (number : Octet) (s : State) : State := s.heard port true (Work.takeAsk port line number)

def execDirectionAsk (port line : Nat) (number : Octet) (s : State) : Host.Outcome State Fault Refusal :=
  event (askTaken port line number) s

/-! ## DIRECTION REPLY of the neighbour (R143, R144) -/

/-- A reply to our outstanding ask ends it (R143). -/
def Work.endAsk (link line : Nat) (yielded : Bool) (w : Work) : Work :=
  if yielded then (w.lineTo link line (fun y => { y with owner := .us, ask := none })).hand [.lineOurs link line]
  else (w.lineTo link line (fun y => { y with ask := none })).hand [.askFailed link line 1]

/-- A late yield makes our owner US, and ends an ask outstanding at that moment as yielded (R144). LATE_YIELD is queued before
the reports of what is handed on, by the model's choice (log 62). -/
def Work.lateYield (e : Env) (link line : Nat) (number : Octet) (w : Work) : Work :=
  let w := w.lineTo link line (fun y => { y with owner := .us, late := none, ask := none })
  (w.report e .c .lateYield .line (lineSubject link line) (some number.toNat)).hand [.lineOurs link line]

/-- Take a reply while the link is UP: to our ask, to the late number, or discarded (R143, R144). -/
def Work.takeReply (link line : Nat) (number : Octet) (yielded : Bool) (k : LinkRec) (e : Env) (w : Work) : Work :=
  match Map.find line k.lines with
  | some y =>
    if k.state ≠ .up then w
    else if y.ask.map (fun a => a.1) = some number then w.endAsk link line yielded
    else if y.late = some number then
      if yielded then w.lateYield e link line number else w.lineTo link line (fun y => { y with late := none })
    else w
  | none => w

/-- DIRECTION REPLY (R131, R143, R144): verdict 1 is YIELD and 2 is REFUSE. -/
def replyTaken (port line : Nat) (number : Octet) (verdict : Nat) (s : State) : State :=
  s.heard port (verdict == 1 || verdict == 2) (Work.takeReply port line number (verdict == 1))

def execDirectionReply (port line : Nat) (number : Octet) (verdict : Nat) (s : State) :
    Host.Outcome State Fault Refusal :=
  event (replyTaken port line number verdict) s

/-! ## The timeout of our ask (R143) -/

/-- Our ask ends by timeout with reason 2, and its number becomes the late number (R143). -/
def Work.askTimeout (link line : Nat) (number : Octet) (w : Work) : Work :=
  (w.lineTo link line (fun y => { y with ask := none, late := some number })).hand [.askFailed link line 2]

/-- The expiry of our ask on a line. -/
def askExpired (link line : Nat) (s : State) : State :=
  match (s.live.line link line).bind (fun y => y.ask) with
  | some (number, moment) => s.expire (some moment) (fun s => s.doing (fun _ w => w.askTimeout link line number))
  | none => s

def execAskExpiry (link line : Nat) (s : State) : Host.Outcome State Fault Refusal := event (askExpired link line) s

end Sys2Proof.Machine
end

