-- ==== Sys2Proof/Machine/Timers.lean ====
section
/-! DEFINITION. The field port (R45, R55, R181) and the expiries of elements, requests, slots and the arm. -/

namespace Sys2Proof.Machine

/-! ## STATUS and FIELD_ORDER_SENT -/

/-- A STATUS that names no present local element is discarded, with UNKNOWN_ADDRESS the first time for that address, except
in START and FAILED (R161, R181). By the model's choice an address met in FAILED or, as statusTaken settles it, in START is
not remembered: the first such STATUS after that mode is reported (log 45). -/
def State.unknownAddress (address : Nat) (s : State) : State :=
  if s.mode = .failed ∨ s.addressesSeen.contains address then s
  else State.report .c .unknownAddress .table 1 (some address)
    { s with addressesSeen := s.addressesSeen ++ [address] }

/-- STATUS: discarded in START, and when an octet has no meaning; otherwise the status of the element at its address (R3,
R45, R161, R181). R161 and R181 do not say whether an arrival discarded in START counts as the first time for its address: by
the model's choice it does not, so the first one after the load is reported (log 45). The octets' meaning is read before the
address (log 35). -/
def statusTaken (address : Nat) (content : StatusContent) (s : State) : State :=
  if s.mode = .start || !StatusContent.meaningful content then s
  else match s.store.active.atAddress address with
    | some n => s.doing (fun e w => w.elementStatus e n content)
    | none => s.unknownAddress address

def execStatus (address : Nat) (content : StatusContent) (s : State) : Host.Outcome State Fault Refusal :=
  event (statusTaken address content) s

/-- The line has sent the oldest order: it leaves the queue, and the pending order of the lowest-numbered element enters
(R55; log 18). -/
def Live.orderSent (t : Tables) (l : Live) : Live :=
  match l.queue with
  | [] => l
  | x :: rest => Live.admitPending t (Live.send (.order x.address x.order) { l with queue := rest })

def execFieldOrderSent (s : State) : Host.Outcome State Fault Refusal :=
  event (fun s => { s with live := s.live.orderSent s.store.active }) s

/-! ## Expiries of elements (R46, R51, R54) -/

/-- When an element's status is overdue. -/
def ElementRec.freshness : ElementRec → Option Nat
  | .point r => r.freshness
  | .signal r => r.freshness
  | .head r => r.freshness

/-- An element becomes unsupervised (R29, R46). -/
def Work.silence (e : Env) (n : Nat) (w : Work) : Work :=
  match Map.find n w.live.elements with
  | none => w
  | some (.point r) => w.handPoint e n r r.silent
  | some (.signal r) => w.handSignal e n r r.silent none
  | some (.head r) => ((w.on (Live.setElement n (.head r.silent))).noticeDue n).loseHead e n

/-- The freshness expiry of an element (R46). -/
def freshnessExpired (n : Nat) (s : State) : State :=
  s.expire ((Map.find n s.live.elements).bind ElementRec.freshness) (fun s => s.doing (fun e w => w.silence e n))

def execFreshnessExpiry (element : Nat) (s : State) : Host.Outcome State Fault Refusal :=
  event (freshnessExpired element) s

/-- A movement fails at its limit (R51). POINT_MOVE_FAILED is queued before the reports of what is handed on, by the model's
choice (log 62). -/
def Work.failMovement (e : Env) (n : Nat) (r : PointRec) (target : Position) (w : Work) : Work :=
  (w.report e .b .pointMoveFailed .element n (some target.code)).handPoint e n r r.moveFails

/-- The movement expiry of a point (R51). -/
def movementExpired (n : Nat) (s : State) : State :=
  match s.live.point n with
  | none => s
  | some r => match r.movement with
    | none => s
    | some (target, moment) => s.expire (some moment) (fun s => s.doing (fun e w => w.failMovement e n r target))

def execMovementExpiry (element : Nat) (s : State) : Host.Outcome State Fault Refusal := event (movementExpired element) s

/-- A proving fails at its time (R54). SIGNAL_NOT_PROVEN is queued before the reports of what is handed on, by the model's
choice (log 62). -/
def Work.failProving (e : Env) (n : Nat) (r : SignalRec) (w : Work) : Work :=
  (w.report e .b .signalNotProven .element n (some r.commanded.code)).handSignal e n r r.provingFails (some false)

/-- The proving expiry of a signal (R54). -/
def provingExpired (n : Nat) (s : State) : State :=
  match s.live.signal n with
  | none => s
  | some r => s.expire r.proving (fun s => s.doing (fun e w => w.failProving e n r))

def execProvingExpiry (element : Nat) (s : State) : Host.Outcome State Fault Refusal := event (provingExpired element) s

/-! ## The patience of a request (R72) -/

/-- A request leaves the list with REQUEST_EXPIRED (R72). -/
def State.expiresRequest (q : Request) (s : State) : State :=
  State.report .c .requestExpired .route q.route (some q.tag) { s with live := s.live.dropRequest q.route }

/-- The patience expiry of a route's request (R72). -/
def patienceExpired (route : Nat) (s : State) : State :=
  match s.live.requestOf route with
  | some q => s.expire (some q.expiry) (State.expiresRequest q)
  | none => s

def execPatienceExpiry (route : Nat) (s : State) : Host.Outcome State Fault Refusal := event (patienceExpired route) s

/-! ## The timers of slots (R118, R123) -/

/-- When the overlap time of a slot ends: the expiry of a timer without a timed-release cause, while the overlap is TIMING
(R117). -/
def Slot.overlapMoment (x : Slot) : Option Nat :=
  if x.state = .entered ∧ x.overlap = some .timing then x.timer.map (fun y => y.expiry) else none

/-- The overlap expiry of a slot (R118). -/
def overlapExpired (n : Nat) (s : State) : State :=
  s.expire ((s.live.slot n).bind Slot.overlapMoment) (fun s => s.doing (fun e w => w.overlapExpire e n))

def execOverlapExpiry (slot : Nat) (s : State) : Host.Outcome State Fault Refusal := event (overlapExpired slot) s

/-- When the timed release of a slot ends (R122). -/
def Slot.releaseMoment (x : Slot) : Option Nat :=
  if x.state = .timedRelease then x.timer.map (fun y => y.expiry) else none

/-- The expiry of a timed release: the slot is freed (R123). -/
def timedReleaseExpired (n : Nat) (s : State) : State :=
  s.expire ((s.live.slot n).bind Slot.releaseMoment) (fun s => s.doing (fun e w => w.freeSlot e n))

def execTimedReleaseExpiry (slot : Nat) (s : State) : Host.Outcome State Fault Refusal :=
  event (timedReleaseExpired slot) s

/-! ## The release arm (R126) -/

/-- The arm is removed at its expiry (R126). -/
def armExpired (s : State) : State :=
  s.expire (s.live.arm.map (fun a => a.expiry)) (fun s => { s with live := { s.live with arm := none } })

def execReleaseArmExpiry (s : State) : Host.Outcome State Fault Refusal := event armExpired s

end Sys2Proof.Machine
end

