-- ==== Sys2Proof/Machine/Clock.lean ====
section
/-! DEFINITION. The clock (log 1): when no command waits, a tenth of a second passes, and the timers that are then due put
their commands in the queue. -/

namespace Sys2Proof.Machine

/-- A command, if its timer has come. -/
def dueAt (clock : Nat) (moment : Option Nat) (i : Instr) : List Instr :=
  if moment.any (fun m => m ≤ clock) then [i] else []

/-- When the movement of an element ends as failed (R51). -/
def ElementRec.movementMoment : ElementRec → Option Nat
  | .point r => r.movement.map (fun m => m.2)
  | _ => none

/-- When the proving of an element ends as failed (R54). -/
def ElementRec.provingMoment : ElementRec → Option Nat
  | .signal r => r.proving
  | _ => none

/-- The expiries of an element that are due. -/
def elementDue (clock : Nat) (x : Nat × ElementRec) : List Instr :=
  dueAt clock x.2.freshness (.freshnessExpiry x.1) ++ dueAt clock x.2.movementMoment (.movementExpiry x.1) ++
  dueAt clock x.2.provingMoment (.provingExpiry x.1)

/-- The expiries of a slot that are due. -/
def slotDue (clock : Nat) (x : Nat × Slot) : List Instr :=
  dueAt clock x.2.overlapMoment (.overlapExpiry x.1) ++ dueAt clock x.2.releaseMoment (.timedReleaseExpiry x.1)

/-- The expiries of a link that are due. -/
def linkDue (clock : Nat) (x : Nat × LinkRec) : List Instr :=
  dueAt clock x.2.lastHeard (.lastHeardExpiry x.1) ++
  x.2.lines.flatMap (fun y => dueAt clock (y.2.ask.map (fun a => a.2)) (.askExpiry x.1 y.1))

/-- The commands of all timers that are due. -/
def State.due (s : State) : List Instr :=
  dueAt s.clock s.presenceDue .presenceInterval ++
  s.live.elements.flatMap (elementDue s.clock) ++
  s.live.waiting.flatMap (fun q => dueAt s.clock (some q.expiry) (.patienceExpiry q.route)) ++
  s.live.slots.flatMap (slotDue s.clock) ++
  dueAt s.clock (s.live.arm.map (fun a => a.expiry)) .releaseArmExpiry ++
  s.live.links.flatMap (linkDue s.clock)

/-- The due commands in a free order, which uses choices up (log 3). -/
def State.enqueueDue (s : State) : State :=
  let due := s.due
  if due.length ≤ 1 then { s with pending := due }
  else { s with
    pending := arrangeBy s.live.choices due
    live := { s.live with choices := s.live.choices.drop due.length } }

/-- No command waits: without power nothing changes; with power a tenth of a second passes (log 1). -/
def State.tick (s : State) : State := if s.power then State.enqueueDue { s with clock := s.clock + 1 } else s

end Sys2Proof.Machine
end

