-- ==== Sys2Proof/Machine/Gate.lean ====
section
/-! DEFINITION. The Order Gate (Chapter 9): ELEMENT ORDER. -/

namespace Sys2Proof.Machine

/-- The gate's order for a signal can be placed: the queue is not full, or an order of that signal waits (R150). -/
def Live.canPlace (l : Live) (n : Nat) : Bool := !l.queueFull || l.hasOrder n

/-- The slots of the claim records on an element. -/
def Live.claimSlots (l : Live) (n : Nat) : List Nat :=
  (l.claims.filter (fun c => c.element == n)).map (fun c => c.slot)

/-- The slot that holds a point: that of its route lock, or the lowest among its claims (R147, check 2). -/
def Live.pointHolder (l : Live) (n : Nat) (r : PointRec) : Option Nat :=
  match r.routeLock with
  | some (slot, _) => some slot
  | none => (l.claimSlots n).min?

/-- The point section is CLEAR or holds a possession number (R147, check 4; R149). -/
def Live.movable (l : Live) (sec : Nat) : Bool := l.isClear sec || (l.possessionOf sec).isSome

/-- A point order that has passed R146 (R147, R148). -/
def State.gatePoint (s : State) (n : Nat) (p : Position) (r : PointRec) : Taken :=
  let sec := (s.store.active.pointSection n).getD 0
  if !r.supervised then s.refuses (.with .unavailable 0)
  else match s.live.pointHolder n r with
    | some slot => s.refuses (.with .lockedIn slot)
    | none =>
      if r.movement.isSome then s.refuses (.with .busy 1)
      else if s.live.queueFull then s.refuses (.with .busy 2)
      else if !s.live.movable sec then s.refuses (.with .conflict sec)
      else if r.evaluated = some p ∧ r.moveFailed = false then s.answers (.with .done 0)
      else (s.doing (fun e w => w.orderPoint e n p)).answers (.with .accepted 0)

/-- The gate's DANGER order for a signal, and its hand-over to the slot whose entry signal it is (R150, R151). The slot is
replaced, and SIGNAL_REPLACED queued, before the changes of the claims on the signal are taken, by the model's choice (log
67). -/
def Work.gateDanger (e : Env) (g : Nat) (r : SignalRec) (w : Work) : Work :=
  let w := w.orderSignal e g .danger
  match r.entryOf with
  | some n => w.replace e n 6 g
  | none => w

/-- A DANGER order that has passed R146, with the answer it has when it passes (R150, R152). -/
def State.gateSignal (s : State) (g : Nat) (r : SignalRec) (passed : Answer) : Taken :=
  if s.live.canPlace g then (s.doing (fun e w => w.gateDanger e g r)).answers passed
  else s.refuses (.with .busy 2)

/-- The slot in CLEARING or CLEAR whose entry signal a signal is (R152). -/
def Live.clearSlotAt (t : Tables) (g : Nat) (l : Live) : Option Nat :=
  (l.slots.find? (fun x => (x.2.state == .clearing || x.2.state == .clear) && t.entryOf x.2 == some g)).map
    (fun x => x.1)

/-- A CAUTION or PROCEED order that has passed R146 (R152). -/
def State.gateProceed (s : State) (g : Nat) (r : SignalRec) : Taken :=
  match s.live.clearSlotAt s.store.active g with
  | some n => s.refuses (.with .ignored n)
  | none => s.gateSignal g r (.with .replaced 1)

/-- Steps 3 and 4 of R146: the element has a record, of the kind that the order is for. -/
def State.gate (s : State) (n : Nat) (o : Order) : Taken :=
  match Map.find n s.live.elements, o with
  | none, _ => s.refuses (.with .unknown 0)
  | some (.point r), .position p => s.gatePoint n p r
  | some (.signal r), .aspect .danger => s.gateSignal n r (.with .accepted 0)
  | some (.signal r), .aspect _ => s.gateProceed n r
  | some _, _ => s.refuses (.with .badForm 0)

/-- ELEMENT ORDER (R146). An element above 511 is no value of its field (R183) and is answered BAD_FORM. -/
def elementOrder (element order : Nat) (s : State) : Taken :=
  if 511 < element then s.refuses (.with .badForm 0)
  else match Order.ofCode order with
    | none => s.refuses (.with .badForm 0)
    | some (.position p) =>
      if s.mode.operating then s.gate element (.position p) else s.refuses (.with .mode 0)
    | some (.aspect a) => s.gate element (.aspect a)

def execElementOrder (tag element order : Nat) (s : State) : Host.Outcome State Fault Refusal :=
  control tag 8 (some 0) (elementOrder element order) s

end Sys2Proof.Machine
end

