-- ==== Sys2Proof/WellFormed.lean ====
section
/-! DEFINITION. Which commands a telegram can carry: every operand fits the octets that R183 gives its field. The machine
does not need this check (its meanings are defined on every operand); the telegram layouts do. -/

namespace Sys2Proof

/-- A number that one octet holds (R182). -/
def fits1 (n : Nat) : Bool := n < 256
/-- A number that two octets hold (R182). -/
def fits2 (n : Nat) : Bool := n < 65536

def StatusContent.wf : StatusContent → Bool
  | .position code => fits1 code
  | .aspect code => fits1 code
  | .counts _ _ => true
  | .other kind => fits1 kind && (kind == 0 || 3 < kind)

def PresenceLine.wf (x : PresenceLine) : Bool :=
  fits1 x.number && fits1 x.owner && fits1 x.flags && fits1 x.shared

/-- Every operand fits its field of R183, every list its count octet and the body length 0 to 240 of R181. -/
def Instr.wf : Instr → Bool
  | .routeCall tag route fleet patience => fits1 tag && fits2 route && fits1 fleet && fits1 patience
  | .routeCancel tag route => fits1 tag && fits2 route
  | .fleetStop tag route => fits1 tag && fits2 route
  | .releaseArm tag slot => fits1 tag && fits1 slot
  | .releaseConfirm tag slot => fits1 tag && fits1 slot
  | .stageHold tag route stage action => fits1 tag && fits2 route && fits1 stage && fits1 action
  | .stageStep tag route => fits1 tag && fits2 route
  | .elementOrder tag element order => fits1 tag && fits2 element && fits1 order
  | .sectionReset tag number => fits1 tag && fits1 number
  | .possessionTake tag possession sections =>
    fits1 tag && fits1 possession && sections.length ≤ 238 && sections.all fits1
  | .possessionGive tag possession => fits1 tag && fits1 possession
  | .modeSet tag mode => fits1 tag && fits1 mode
  | .restart tag => fits1 tag
  | .tableFreeze tag => fits1 tag
  | .statusRead tag => fits1 tag
  | .statusClear tag flags => fits1 tag && fits1 flags
  | .tableFresh tag table => fits1 tag && fits1 table
  | .tableAmend tag table => fits1 tag && fits1 table
  | .tableEntry tag table id content => fits1 tag && fits1 table && fits2 id && content.length ≤ 237
  | .tableCommit tag _ => fits1 tag
  | .areaIdentity tag _ => fits1 tag
  | .reportFetch tag count => fits1 tag && fits1 count
  | .alarmAck tag _ => fits1 tag
  | .query tag kind number id =>
    fits1 tag && fits1 kind && fits2 number && fits2 id && (kind == 8 || id == 0)
  | .controlBadForm tag kind => fits1 tag && fits1 kind
  | .checkFailedTelegram port => match port with
    | .boundary n => 1 ≤ n && n ≤ 3
    | _ => true
  | .status address content => fits2 address && content.wf
  | .fieldOrderSent => true
  | .presence port _ _ lines => 1 ≤ port && port ≤ 3 && lines.length ≤ 58 && lines.all PresenceLine.wf
  | .counts port entries => 1 ≤ port && port ≤ 3 && entries.length ≤ 79 && entries.all (fun x => fits1 x.number)
  | .directionAsk port line _ => 1 ≤ port && port ≤ 3 && fits1 line
  | .directionReply port line _ verdict => 1 ≤ port && port ≤ 3 && fits1 line && fits1 verdict
  | .presenceInterval => true
  | .freshnessExpiry element => element < 512
  | .movementExpiry element => element < 512
  | .provingExpiry element => element < 512
  | .patienceExpiry route => route < 384
  | .overlapExpiry slot => slot < 32
  | .timedReleaseExpiry slot => slot < 32
  | .releaseArmExpiry => true
  | .lastHeardExpiry link => 1 ≤ link && link ≤ 3
  | .askExpiry link line => 1 ≤ link && link ≤ 3 && (line == 1 || line == 2)
  | .powerOn => true
  | .loadEnd => true
  | .powerLoss => true
  | .validationDone => true
  | .comparisonDone => true
  | .storeWriteDone => true
  | .restoringWriteDone => true
  | .possessionWriteDone => true
  | .identityWriteDone => true

end Sys2Proof
end

