-- ==== Sys2Proof/Machine/Formats.lean ====
section
/-! DEFINITION. Octets (12.2 to 12.4): the cyclic check, the layouts of table entries and of telegrams both ways, the check
word of an image, and the frames of the telegrams sent. -/

namespace Sys2Proof.Machine

/-! ## The cyclic check (R170, R181) -/

/-- One bit into the check: generator x^16 + x^12 + x^5 + 1. -/
def checkBit (c : Word16) (bit : Bool) : Word16 := if c.msb != bit then (c <<< 1) ^^^ 0x1021#16 else c <<< 1

/-- One octet into the check, most significant bit first. -/
def checkOctet (c : Word16) (x : Octet) : Word16 :=
  [7, 6, 5, 4, 3, 2, 1, 0].foldl (fun d i => checkBit d (x.getLsbD i)) c

/-- The check of a sequence of octets, started from all ones, without a final inversion. -/
def check (xs : List Octet) : Word16 := xs.foldl checkOctet 0xFFFF#16

/-! ## Numbers, optional fields and lists (R182) -/

/-- A number in one octet. -/
def one (n : Nat) : List Octet := [BitVec.ofNat 8 n]

/-- A number in two octets, the more significant first. -/
def two (n : Nat) : List Octet := [BitVec.ofNat 8 (n / 256), BitVec.ofNat 8 n]

/-- A number in four octets, the more significant first. -/
def four (n : Nat) : List Octet :=
  [BitVec.ofNat 8 (n / 16777216), BitVec.ofNat 8 (n / 65536), BitVec.ofNat 8 (n / 256), BitVec.ofNat 8 n]

/-- An optional field: a presence octet, and the field when it is present. -/
def optional {α : Type} (f : α → List Octet) : Option α → List Octet
  | none => [0]
  | some a => 1 :: f a

/-- A list: a count octet, and its items. -/
def counted {α : Type} (f : α → List Octet) (xs : List α) : List Octet := BitVec.ofNat 8 xs.length :: xs.flatMap f

/-- The number in two octets. -/
def number2 (a b : Octet) : Nat := a.toNat * 256 + b.toNat

/-- The number in four octets. -/
def number4 (a b c d : Octet) : Nat := ((a.toNat * 256 + b.toNat) * 256 + c.toNat) * 256 + d.toNat

/-- n items, each read by f. -/
def readMany {α : Type} (f : List Octet → Option (α × List Octet)) : Nat → List Octet → Option (List α × List Octet)
  | 0, xs => some ([], xs)
  | n + 1, xs => match f xs with
    | some (a, rest) => (readMany f n rest).map (fun y => (a :: y.1, y.2))
    | none => none

/-- A list: its count octet and its items. -/
def readCounted {α : Type} (f : List Octet → Option (α × List Octet)) : List Octet → Option (List α × List Octet)
  | n :: xs => readMany f n.toNat xs
  | [] => none

/-- An optional field: its presence octet is 0 or 1 (log 17). -/
def readOptional {α : Type} (f : List Octet → Option (α × List Octet)) : List Octet → Option (Option α × List Octet)
  | p :: xs => if p = 0 then some (none, xs) else if p = 1 then (f xs).map (fun y => (some y.1, y.2)) else none
  | [] => none

/-- An item of one octet. -/
def readOne : List Octet → Option (Nat × List Octet)
  | a :: xs => some (a.toNat, xs)
  | [] => none

/-- An item of two octets. -/
def readTwo : List Octet → Option (Nat × List Octet)
  | a :: b :: xs => some (number2 a b, xs)
  | _ => none

/-- What is read must be all there is. -/
def whole {α : Type} (x : Option (α × List Octet)) : Option α :=
  match x with
  | some (a, []) => some a
  | _ => none

/-! ## Table entries (R183) -/

/-- Location form 1 is local and 2 is remote; no other form has a layout (log 17). -/
def Location.octets : Location → List Octet
  | .field a => 1 :: two a
  | .remote link n => 2 :: one link ++ one n

def readLocation : List Octet → Option (Location × List Octet)
  | form :: a :: b :: xs =>
    if form = 1 then some (.field (number2 a b), xs)
    else if form = 2 then some (.remote a.toNat b.toNat, xs)
    else none
  | _ => none

/-- The kind octet of an element entry. -/
def ElementBody.kind : ElementBody → Nat
  | .point _ _ _ => 1
  | .signal _ => 2
  | .head _ _ => 3
  | .other k => k

/-- The fields of an element entry after its supervision time. -/
def ElementBody.octets : ElementBody → List Octet
  | .point sec limit p => one sec ++ one limit ++ one p
  | .signal time => one time
  | .head limit x => one limit ++ optional (fun y => one y.1 ++ one y.2) x
  | .other _ => []

def readPair : List Octet → Option ((Nat × Nat) × List Octet)
  | a :: b :: xs => some ((a.toNat, b.toNat), xs)
  | _ => none

/-- The fields by the kind octet; an unknown kind has the common fields only (log 17). -/
def readElementBody (kind : Nat) (xs : List Octet) : Option (ElementBody × List Octet) :=
  match kind, xs with
  | 1, sec :: limit :: p :: rest => some (.point sec.toNat limit.toNat p.toNat, rest)
  | 1, _ => none
  | 2, time :: rest => some (.signal time.toNat, rest)
  | 2, _ => none
  | 3, limit :: rest => (readOptional readPair rest).map (fun y => (.head limit.toNat y.1, y.2))
  | 3, _ => none
  | k, rest => some (.other k, rest)

def ElementEntry.octets (e : ElementEntry) : List Octet :=
  one e.body.kind ++ e.location.octets ++ one e.supervision ++ e.body.octets

def readElement : List Octet → Option (ElementEntry × List Octet)
  | kind :: xs => match readLocation xs with
    | some (place, supervision :: rest) => (readElementBody kind.toNat rest).map (fun y =>
        ({ location := place, supervision := supervision.toNat, body := y.1 }, y.2))
    | _ => none
  | [] => none

def HeadItem.octets (i : HeadItem) : List Octet := two i.head ++ one i.direction

def readHeadItem : List Octet → Option (HeadItem × List Octet)
  | a :: b :: d :: xs => some ({ head := number2 a b, direction := d.toNat }, xs)
  | _ => none

def SectionEntry.octets (e : SectionEntry) : List Octet := counted HeadItem.octets e.heads

def readSection (xs : List Octet) : Option (SectionEntry × List Octet) :=
  (readCounted readHeadItem xs).map (fun y => ({ heads := y.1 }, y.2))

/-- Exit form 1 is a signal and 2 is a line; no other form has a layout (log 17). -/
def Exit.octets : Exit → List Octet
  | .signal g => 1 :: two g
  | .line link n => 2 :: one link ++ one n

def readExit : List Octet → Option (Exit × List Octet)
  | form :: a :: b :: xs =>
    if form = 1 then some (.signal (number2 a b), xs)
    else if form = 2 then some (.line a.toNat b.toNat, xs)
    else none
  | _ => none

def PointItem.octets (i : PointItem) : List Octet := two i.element ++ one i.position

def readPointItem : List Octet → Option (PointItem × List Octet)
  | a :: b :: p :: xs => some ({ element := number2 a b, position := p.toNat }, xs)
  | _ => none

def Candidate.octets (c : Candidate) : List Octet := two c.element ++ one c.state

def readCandidate : List Octet → Option (Candidate × List Octet)
  | a :: b :: s :: xs => some ({ element := number2 a b, state := s.toNat }, xs)
  | _ => none

def FlankEntry.octets (f : FlankEntry) : List Octet := one f.index ++ counted Candidate.octets f.candidates

/-- A flank entry has a primary and at most two substitutes (R11; log 17). -/
def readFlank : List Octet → Option (FlankEntry × List Octet)
  | i :: xs => match readCounted readCandidate xs with
    | some (cs, rest) => if 1 ≤ cs.length ∧ cs.length ≤ 3 then some ({ index := i.toNat, candidates := cs }, rest) else none
    | none => none
  | [] => none

def RouteEntry.octets (r : RouteEntry) : List Octet :=
  two r.entrySignal ++ r.exit.octets ++ one r.approachTime ++ one r.overlapTime ++ one r.fleeting ++
  counted one r.path ++ counted PointItem.octets r.points ++ counted one r.overlap ++ counted one r.approach ++
  counted FlankEntry.octets r.flank ++ counted two r.opposing

/-- A route entry from its fixed fields and its lists. -/
def readRouteLists (entrySignal : Nat) (x : Exit) (approachTime overlapTime fleeting : Nat) (xs : List Octet) :
    Option (RouteEntry × List Octet) := do
  let (path, xs) ← readCounted readOne xs
  let (points, xs) ← readCounted readPointItem xs
  let (overlap, xs) ← readCounted readOne xs
  let (approach, xs) ← readCounted readOne xs
  let (flank, xs) ← readCounted readFlank xs
  let (opposing, xs) ← readCounted readTwo xs
  some (RouteEntry.mk entrySignal x approachTime overlapTime fleeting path points overlap approach flank opposing, xs)

def readRoute : List Octet → Option (RouteEntry × List Octet)
  | a :: b :: xs => match readExit xs with
    | some (x, approachTime :: overlapTime :: fleeting :: rest) =>
      readRouteLists (number2 a b) x approachTime.toNat overlapTime.toNat fleeting.toNat rest
    | _ => none
  | _ => none

def LineEntry.octets (x : LineEntry) : List Octet :=
  one x.number ++ one x.senior ++ counted one x.sections ++ optional one x.shared

def readLine : List Octet → Option (LineEntry × List Octet)
  | n :: s :: xs => match readCounted readOne xs with
    | some (secs, rest) => (readOptional readOne rest).map (fun y =>
        ({ number := n.toNat, senior := s.toNat, sections := secs, shared := y.1 }, y.2))
    | none => none
  | _ => none

def BoundaryEntry.octets (b : BoundaryEntry) : List Octet :=
  four b.identity.toNat ++ one b.supervision ++ one b.replyTimeout ++ counted LineEntry.octets b.lines

def readBoundary : List Octet → Option (BoundaryEntry × List Octet)
  | a :: b :: c :: d :: s :: t :: xs => (readCounted readLine xs).map (fun y =>
      ({ identity := BitVec.ofNat 32 (number4 a b c d), supervision := s.toNat, replyTimeout := t.toNat, lines := y.1 },
        y.2))
  | _ => none

def OptionsEntry.octets (o : OptionsEntry) : List Octet := one o.stopOnAlarm ++ one o.watermark ++ one o.stateNotices

def readOptions : List Octet → Option (OptionsEntry × List Octet)
  | a :: w :: n :: xs => some ({ stopOnAlarm := a.toNat, watermark := w.toNat, stateNotices := n.toNat }, xs)
  | _ => none

/-- The octets of an entry of any table. -/
def Staged.octets : Staged → List Octet
  | .element e => e.octets
  | .trackSection e => e.octets
  | .route e => e.octets
  | .boundary e => e.octets
  | .options e => e.octets

/-- Read the content of an entry of a table by its number (R169): none when it has not the layout's form and length. -/
def readEntry (table : Nat) (xs : List Octet) : Option Staged :=
  match table with
  | 1 => (whole (readElement xs)).map .element
  | 2 => (whole (readSection xs)).map .trackSection
  | 3 => (whole (readRoute xs)).map .route
  | 4 => (whole (readBoundary xs)).map .boundary
  | 5 => (whole (readOptions xs)).map .options
  | _ => none

/-- The octets of one table for the check word: table number, id and content of each entry (R170). -/
def tableOctets {α : Type} (table : Nat) (f : α → List Octet) (m : Map α) : List Octet :=
  m.flatMap (fun x => one table ++ two x.1 ++ f x.2)

/-- The octets of an image, table by table and by ascending id (R170). -/
def Tables.octets (t : Tables) : List Octet :=
  tableOctets 1 ElementEntry.octets t.elements ++ tableOctets 2 SectionEntry.octets t.sections ++
  tableOctets 3 RouteEntry.octets t.routes ++ tableOctets 4 BoundaryEntry.octets t.boundary ++
  tableOctets 5 OptionsEntry.octets t.options

/-- The check word of an image (R170). -/
def Tables.checkWord (t : Tables) : Word16 := check t.octets

/-! ## Frames (R181) -/

/-- A telegram: kind, tag, length, body and check. -/
def frame (kind : Nat) (tag : Octet) (body : List Octet) : List Octet :=
  let xs := BitVec.ofNat 8 kind :: tag :: BitVec.ofNat 8 body.length :: body
  xs ++ two (check xs).toNat

/-- The kind, tag and body of a telegram whose length and check are good. -/
def readFrame : List Octet → Option (Nat × Nat × List Octet)
  | kind :: tag :: n :: rest =>
    let body := rest.take n.toNat
    if rest.length = n.toNat + 2 ∧ rest.drop n.toNat = two (check (kind :: tag :: n :: body)).toNat then
      some (kind.toNat, tag.toNat, body)
    else none
  | _ => none

/-! ## Telegrams received -/

/-- The body of a control telegram by its kind (R183); none when the kind is unknown or the body does not suit it. -/
def readControl (kind tag : Nat) (body : List Octet) : Option Instr :=
  match kind, body with
  | 1, [a, b, f, p] => some (.routeCall tag (number2 a b) f.toNat p.toNat)
  | 2, [a, b] => some (.routeCancel tag (number2 a b))
  | 3, [a, b] => some (.fleetStop tag (number2 a b))
  | 4, [s] => some (.releaseArm tag s.toNat)
  | 5, [s] => some (.releaseConfirm tag s.toNat)
  | 6, [a, b, s, c] => some (.stageHold tag (number2 a b) s.toNat c.toNat)
  | 7, [a, b] => some (.stageStep tag (number2 a b))
  | 8, [a, b, o] => some (.elementOrder tag (number2 a b) o.toNat)
  | 9, [s] => some (.sectionReset tag s.toNat)
  | 10, p :: xs => (whole (readCounted readOne xs)).map (fun secs => .possessionTake tag p.toNat secs)
  | 11, [p] => some (.possessionGive tag p.toNat)
  | 12, [m] => some (.modeSet tag m.toNat)
  | 13, [] => some (.restart tag)
  | 14, [] => some (.tableFreeze tag)
  | 15, [] => some (.statusRead tag)
  | 16, [t] => some (.tableFresh tag t.toNat)
  | 17, [t] => some (.tableAmend tag t.toNat)
  | 18, t :: a :: b :: content => some (.tableEntry tag t.toNat (number2 a b) content)
  | 19, [a, b] => some (.tableCommit tag (BitVec.ofNat 16 (number2 a b)))
  | 20, [a, b, c, d] => some (.areaIdentity tag (BitVec.ofNat 32 (number4 a b c d)))
  | 21, [c] => some (.reportFetch tag c.toNat)
  | 22, [f] => some (.statusClear tag f.toNat)
  | 23, [a, b] => some (.alarmAck tag (BitVec.ofNat 16 (number2 a b)))
  | 24, [k, a, b] => if k.toNat = 8 then none else some (.query tag k.toNat (number2 a b) 0)
  | 24, [k, a, b, c, d] => if k.toNat = 8 then some (.query tag 8 (number2 a b) (number2 c d)) else none
  | _, _ => none

/-- The content of a STATUS by its element kind octet; a kind without a meaning carries no content (R181). -/
def readContent : List Octet → Option StatusContent
  | [k, a] =>
    if k = 1 then some (.position a.toNat) else if k = 2 then some (.aspect a.toNat)
    else if k = 3 then none else some (.other k.toNat)
  | [k, a, b] => if k = 3 then some (.counts a b) else if k = 1 ∨ k = 2 then none else some (.other k.toNat)
  | k :: _ => if k = 1 ∨ k = 2 ∨ k = 3 then none else some (.other k.toNat)
  | [] => none

/-- A STATUS on the field port; any other telegram is discarded (R181). -/
def readField (kind : Nat) (body : List Octet) : Option Instr :=
  match kind, body with
  | 41, a :: b :: content => (readContent content).map (fun x => .status (number2 a b) x)
  | _, _ => none

def readPresenceLine : List Octet → Option (PresenceLine × List Octet)
  | n :: o :: f :: s :: xs => some ({ number := n.toNat, owner := o.toNat, flags := f.toNat, shared := s.toNat }, xs)
  | _ => none

def readCountsEntry : List Octet → Option (CountsEntry × List Octet)
  | n :: a :: b :: xs => some ({ number := n.toNat, nA := a, nB := b }, xs)
  | _ => none

/-- A telegram on a boundary port (R131); any other is discarded. -/
def readBoundaryTelegram (port kind : Nat) (body : List Octet) : Option Instr :=
  match kind, body with
  | 48, a :: b :: c :: d :: v :: w :: xs => (whole (readCounted readPresenceLine xs)).map (fun lines =>
      .presence port (BitVec.ofNat 32 (number4 a b c d)) (BitVec.ofNat 16 (number2 v w)) lines)
  | 49, xs => (whole (readCounted readCountsEntry xs)).map (fun entries => .counts port entries)
  | 50, [l, n] => some (.directionAsk port l.toNat n)
  | 51, [l, n, v] => some (.directionReply port l.toNat n v.toNat)
  | _, _ => none

/-- The command that a telegram on a port is: CHECK_FAILED_TELEGRAM when its check or its length fails, CONTROL_BAD_FORM on
the control port when its kind is unknown or its body, of at most 240 octets, does not suit it; on the other ports such a
telegram is none (R181; log 28). -/
def readTelegram (port : Port) (octets : List Octet) : Option Instr :=
  match readFrame octets with
  | none => some (.checkFailedTelegram port)
  | some (kind, tag, body) =>
    let short := body.length ≤ 240
    match port with
    | .control => some (if short then (readControl kind tag body).getD (.controlBadForm tag kind)
        else .controlBadForm tag kind)
    | .field => if short then readField kind body else none
    | .boundary n => if short then readBoundaryTelegram n kind body else none

/-- Octets that arrive on a port become the command at the end of the queue (log 28). -/
def State.receive (port : Port) (octets : List Octet) (s : State) : State :=
  match readTelegram port octets with
  | some i => { s with pending := s.pending ++ [i] }
  | none => s

/-! ## The layouts of the received telegrams, written -/

def contentOctets : StatusContent → List Octet
  | .position code => 1 :: one code
  | .aspect code => 2 :: one code
  | .counts nA nB => [3, nA, nB]
  | .other kind => one kind

def presenceLineOctets (x : PresenceLine) : List Octet := one x.number ++ one x.owner ++ one x.flags ++ one x.shared

def countsEntryOctets (x : CountsEntry) : List Octet := one x.number ++ [x.nA, x.nB]

/-- The kind, tag and body of a command that is a control telegram (R183). -/
def controlParts : Instr → Option (Nat × Nat × List Octet)
  | .routeCall tag route fleet patience => some (1, tag, two route ++ one fleet ++ one patience)
  | .routeCancel tag route => some (2, tag, two route)
  | .fleetStop tag route => some (3, tag, two route)
  | .releaseArm tag slot => some (4, tag, one slot)
  | .releaseConfirm tag slot => some (5, tag, one slot)
  | .stageHold tag route stage action => some (6, tag, two route ++ one stage ++ one action)
  | .stageStep tag route => some (7, tag, two route)
  | .elementOrder tag element order => some (8, tag, two element ++ one order)
  | .sectionReset tag number => some (9, tag, one number)
  | .possessionTake tag possession sections => some (10, tag, one possession ++ counted one sections)
  | .possessionGive tag possession => some (11, tag, one possession)
  | .modeSet tag mode => some (12, tag, one mode)
  | .restart tag => some (13, tag, [])
  | .tableFreeze tag => some (14, tag, [])
  | .statusRead tag => some (15, tag, [])
  | .tableFresh tag table => some (16, tag, one table)
  | .tableAmend tag table => some (17, tag, one table)
  | .tableEntry tag table id content => some (18, tag, one table ++ two id ++ content)
  | .tableCommit tag word => some (19, tag, two word.toNat)
  | .areaIdentity tag identity => some (20, tag, four identity.toNat)
  | .reportFetch tag count => some (21, tag, one count)
  | .statusClear tag flags => some (22, tag, one flags)
  | .alarmAck tag sequence => some (23, tag, two sequence.toNat)
  | .query tag kind number id =>
    some (24, tag, one kind ++ two number ++ (if kind = 8 then two id else []))
  | _ => none

/-- The port, kind, tag and body of a command that is a telegram with a good form; a STATUS and a boundary telegram are
written with tag 0, which the part does not read. -/
def telegramParts (i : Instr) : Option (Port × Nat × Nat × List Octet) :=
  match i with
  | .status address content => some (.field, 41, 0, two address ++ contentOctets content)
  | .presence port identity version lines =>
    some (.boundary port, 48, 0, four identity.toNat ++ two version.toNat ++ counted presenceLineOctets lines)
  | .counts port entries => some (.boundary port, 49, 0, counted countsEntryOctets entries)
  | .directionAsk port line number => some (.boundary port, 50, 0, one line ++ [number])
  | .directionReply port line number verdict => some (.boundary port, 51, 0, one line ++ [number] ++ one verdict)
  | _ => (controlParts i).map (fun y => (.control, y))

/-- The port and the octets of a command that is a telegram with a good form. -/
def telegramOf (i : Instr) : Option (Port × List Octet) :=
  (telegramParts i).map (fun y => (y.1, frame y.2.1 (BitVec.ofNat 8 y.2.2.1) y.2.2.2))

/-! ## Telegrams sent (R58, R177, R178, R180, R183) -/

/-- Yes or no, for which R182 gives no code (log 10). -/
def flagOctet (b : Bool) : List Octet := [Config.unstatedCode (.flag b)]

/-- A time that remains, in tenths of a second (R182). -/
def remaining (now expiry : Nat) : List Octet := two (expiry - now)

/-- A report in a REPORT FETCH answer (R183). -/
def Report.octets (r : Report) : List Octet :=
  two r.sequence.toNat ++ one r.cls.code ++ one r.code.code ++ one r.kind.code ++ two r.number ++
  optional two r.detail ++ two r.time

/-- A bit of a flags octet. -/
def bitIf (b : Bool) (n : Nat) : Nat := if b then n else 0

/-- STATUS READ data (R183). -/
def StatusData.octets (d : StatusData) : List Octet :=
  one d.mode.code ++ one d.length ++
  one (bitIf d.lostAB 1 + bitIf d.lostC 2 + bitIf d.hold 4 + bitIf d.frozen 8 + bitIf d.commit 16) ++
  two d.version.toNat ++ optional (fun w => two w.toNat) d.latestA

/-- A point's position or absent, as the last reported position is held (R42). -/
def lastReportedOctets (x : Option (Option Position)) : List Octet := optional (fun p => one (positionCode p)) x

def PointRec.octets (now : Nat) (r : PointRec) : List Octet :=
  flagOctet r.supervised ++ optional (remaining now) r.freshness ++ one (positionCode r.evaluated) ++
  lastReportedOctets r.lastReported ++ one r.persistence ++
  optional (fun m => one m.1.code ++ remaining now m.2) r.movement ++ flagOctet r.moveFailed ++
  optional (fun k => one k.1 ++ one k.2.code) r.routeLock

def SignalRec.octets (now : Nat) (r : SignalRec) : List Octet :=
  flagOctet r.supervised ++ optional (remaining now) r.freshness ++ one r.commanded.code ++ one (aspectCode r.proven) ++
  optional (remaining now) r.proving ++ optional one r.entryOf

/-- A head record (R44). The two reference counters stand under one presence octet, by the model's choice (log 60). -/
def HeadRec.octets (now : Nat) (r : HeadRec) : List Octet :=
  flagOctet r.supervised ++ optional (remaining now) r.freshness ++ optional (fun c => [c.1, c.2]) r.references ++
  optional (fun x => one x.1 ++ one x.2) r.exported

def ElementRec.octets (now : Nat) : ElementRec → List Octet
  | .point r => r.octets now
  | .signal r => r.octets now
  | .head r => r.octets now

/-- A section record (R18). The disagreement fields stand without a presence octet in a shared section and are left out in any
other, by the model's choice (log 46); an absent neighbour's last state is a presence octet (log 47). -/
def SectionRec.octets (shared : Bool) (r : SectionRec) : List Octet :=
  one r.state.code ++ two r.balance ++ one (causeOctet r.causes) ++
  optional (fun k => one k.1 ++ [Config.unstatedCode (.role (k.2 == .overlap))]) r.lock ++ optional one r.possession ++
  (if shared then one r.disagreement ++ optional (fun x => one x.code) r.neighbourState else []) ++ flagOctet r.axleSeen

/-- An overlap status, for which R182 gives no code (log 10). -/
def OverlapStatus.octets : OverlapStatus → List Octet
  | .locked => [Config.unstatedCode (.overlapStatus 0)]
  | .timing => [Config.unstatedCode (.overlapStatus 1)]
  | .released => [Config.unstatedCode (.overlapStatus 2)]

def SlotTimer.octets (now : Nat) (x : SlotTimer) : List Octet :=
  remaining now x.expiry ++ optional (fun c => one (ReleaseCause.code c)) x.cause

/-- The in-use fields of a slot record (R77). The occupation marks are a list with a count octet, and the cause in a timer is an
optional field of it, by the model's choice (log 65). -/
def Slot.octets (now : Nat) (x : Slot) : List Octet :=
  two x.route ++ one x.state.code ++ [Config.unstatedCode (.origin (x.origin == .fleet))] ++ one x.fleet ++
  one x.pointer ++ counted flagOctet x.marks ++ optional OverlapStatus.octets x.overlap ++
  optional (SlotTimer.octets now) x.timer ++ optional (fun g => one (Stage.code g)) x.held ++
  optional (fun k => one k.1 ++ one k.2) x.lineWait ++ optional (fun a => one (Aspect.code a)) x.aspect

/-- A claim record in a slot query (R180). -/
def Claim.octets (c : Claim) : List Octet :=
  two c.element ++ one c.required.code ++ flagOctet c.proven ++ one c.serves.length

/-- The neighbour's last presence of a line (R130); an absent state of the shared section is a presence octet, by the model's
choice (log 47). -/
def LineReport.octets (x : LineReport) : List Octet :=
  one x.owner.code ++ flagOctet x.askOutstanding ++ flagOctet x.lineClear ++ optional (fun y => one y.code) x.shared

def LineRec.octets (now : Nat) (x : Nat × LineRec) : List Octet :=
  one x.1 ++ one x.2.owner.code ++ flagOctet x.2.lineClear ++ [x.2.nextAsk] ++
  optional (fun k => [k.1] ++ remaining now k.2) x.2.ask ++ optional (fun n => [n]) x.2.late ++
  optional LineReport.octets x.2.last

/-- A link record (R130). An exported head is named by its export number, by the model's choice (log 44). -/
def LinkRec.octets (now : Nat) (exports : List (Nat × Octet × Octet)) (k : LinkRec) : List Octet :=
  one k.state.code ++ optional (remaining now) k.lastHeard ++ optional (fun i => four i.toNat) k.identity ++
  optional (fun v => two v.toNat) k.version ++ flagOctet k.mismatch ++
  counted (fun x => one x.1 ++ [x.2.1, x.2.2]) exports ++ counted one k.unknownSeen ++
  counted (LineRec.octets now) k.lines

/-- A mark, for which R182 gives no code (log 10). -/
def Mark.octets : Mark → List Octet
  | .unchanged => [Config.unstatedCode (.mark 0)]
  | .fresh => [Config.unstatedCode (.mark 1)]
  | .amending => [Config.unstatedCode (.mark 2)]

/-- The data of an answer (R177, R178, R180), in the order of the record tables. By the model's choice one presence octet
stands before all the in-use fields of a slot together, so that a free slot is its number, a 0 and no claims (log 48), and a
FREE possession has an empty list of sections after its state, with no presence octet (log 52); the required state of an
element with no claim is an absent optional field (log 59); and the marks of the five tables are five fields, not a list with
a count octet (log 65). -/
def Payload.octets : Payload → List Octet
  | .none => []
  | .reports rs => counted Report.octets rs
  | .status d => d.octets
  | .element now r claims required => r.octets now ++ one claims ++ optional (fun x => one (Required.code x)) required
  | .trackSection shared r => r.octets shared
  | .slot now number x claims => one number ++ optional (Slot.octets now) x ++ counted Claim.octets claims
  | .link now r exports => r.octets now exports
  | .possession sections =>
    Config.unstatedCode (.possession sections.isSome) :: counted one (sections.getD [])
  | .table mark entry => mark.octets ++ (entry.map Staged.octets).getD []
  | .marks ms amendment => ms.flatMap Mark.octets ++ counted (fun x => one x.1 ++ two x.2) amendment

/-- The detail octets of an answer; a free value where no rule gives a detail (log 8). -/
def detailOctets (kind : Nat) (code : Code) : Option Nat → List Octet
  | some n => two n
  | none => two (Config.unstatedDetail kind code.code).toNat

/-- The element kind octet and the code of an order (R183). -/
def Order.octets : Order → List Octet
  | .position p => 1 :: one p.code
  | .aspect a => 2 :: one a.code

/-- A line in our PRESENCE (R134, R183). -/
def PresenceOut.octets (x : PresenceOut) : List Octet :=
  one x.number ++ one x.owner.code ++ one (bitIf x.askOutstanding 1 + bitIf x.lineClear 2) ++
  one ((x.shared.map SectionState.code).getD 0)

/-- The kind, tag and body of a telegram sent (R183). Field orders have tag 0, an answer the tag it answers, the others a
tag that no rule gives (log 10). -/
def Sent.parts : Sent → Nat × Octet × List Octet
  | .answer tag kind code detail data =>
    (32, BitVec.ofNat 8 tag, one kind ++ one code.code ++ detailOctets kind code detail ++ data.octets)
  | .pointNotice n supervised evaluated lastReported moveFailed moving lockSlot =>
    (33, Config.unstatedTag 33, one SubjectKind.element.code ++ two n ++ flagOctet supervised ++
      one (positionCode evaluated) ++ lastReportedOctets lastReported ++ flagOctet moveFailed ++ flagOctet moving ++
      optional one lockSlot)
  | .signalNotice n supervised commanded proven proving =>
    (33, Config.unstatedTag 33, one SubjectKind.element.code ++ two n ++ flagOctet supervised ++ one commanded.code ++
      one (aspectCode proven) ++ flagOctet proving)
  | .headNotice n supervised =>
    (33, Config.unstatedTag 33, one SubjectKind.element.code ++ two n ++ flagOctet supervised)
  | .sectionNotice n state balance causes =>
    (33, Config.unstatedTag 33, one SubjectKind.trackSection.code ++ two n ++ one state.code ++ two balance ++
      one (causeOctet causes))
  | .reportNotice n => (34, Config.unstatedTag 34, one n)
  | .order address o => (40, 0, two address ++ o.octets)
  | .presence _ identity version lines =>
    (48, Config.unstatedTag 48, four identity.toNat ++ two version.toNat ++ counted PresenceOut.octets lines)
  | .counts _ entries => (49, Config.unstatedTag 49, counted countsEntryOctets entries)
  | .directionAsk _ line number => (50, Config.unstatedTag 50, one line ++ [number])
  | .directionReply _ line number yields =>
    (51, Config.unstatedTag 51, one line ++ [number] ++ one (if yields then 1 else 2))

/-- The octets of a telegram sent. -/
def Sent.octets (x : Sent) : List Octet := frame x.parts.1 x.parts.2.1 x.parts.2.2

/-- The port of a telegram sent (00_scope.md, Ports). -/
def Sent.port : Sent → Port
  | .order _ _ => .field
  | .presence port _ _ _ => .boundary port
  | .counts port _ => .boundary port
  | .directionAsk port _ _ => .boundary port
  | .directionReply port _ _ _ => .boundary port
  | _ => .control

end Sys2Proof.Machine
end

