-- ==== Sys2Proof/Machine/Possessions.lean ====
section
/-! DEFINITION. SECTION RESET (2.5) and the Possession Register (10.1): POSSESSION TAKE, POSSESSION GIVE and the end of a
possession write. -/

namespace Sys2Proof.Machine

/-! ## SECTION RESET -/

/-- A reset that passes its checks: CLEAR in a possession, SWEEP outside one (R32, R33). SECTION_RESET is queued before the
reports of what the change hands on, by the model's choice (log 62). -/
def Work.resetSection (e : Env) (n : Nat) (r : SectionRec) (w : Work) : Work :=
  let target : SectionState := if r.possession.isSome then .clear else .sweep
  let detail := if r.possession.isSome then 0 else 1
  (w.report e .c .sectionReset .trackSection n (some detail)).section_ e n (fun x => (x.reset target, none))

/-- SECTION RESET (R31). -/
def sectionReset (number : Nat) (s : State) : Taken :=
  if !s.mode.operating then s.refuses (.plain .mode)
  else match s.live.sectionAt number with
    | none => s.refuses (.plain .unknown)
    | some r =>
      if r.lock.isSome then s.refuses (.plain .lockedIn)
      else if r.state != .disturbed then s.refuses (.plain .ignored)
      else if !s.live.headsSupervised s.store.active number then s.refuses (.plain .unavailable)
      else (s.doing (fun e w => w.resetSection e number r)).answers
        (.plain (if r.possession.isSome then .done else .accepted))

def execSectionReset (tag number : Nat) (s : State) : Host.Outcome State Fault Refusal :=
  control tag 9 none (sectionReset number) s

/-! ## Possessions -/

/-- The lowest-numbered point of a section that a route lock or a claim holds (R157, check 8). -/
def Live.heldPointIn (t : Tables) (sec : Nat) (l : Live) : Option Nat :=
  (t.pointsOf sec).find? (fun p => (l.point p).any (fun r => r.routeLock.isSome) || l.claimed p)

/-- The first check of R157 from 4 on that fails, as its answer. -/
def State.takeRefused (s : State) (possession : Nat) (sections : List Nat) : Option Answer :=
  match sections.find? (fun n => !Map.has n s.store.active.sections) with
  | some n => some (.with .unknown n)
  | none =>
    if Map.has possession s.possessions then some (.with .overlap (256 * possession))
    else match sections.findSome? (fun n => (s.live.possessionOf n).map (fun q => 256 * q + n)) with
      | some detail => some (.with .overlap detail)
      | none => match sections.find? (fun n => (s.live.holder n).isSome) with
        | some n => some (.with .lockedIn n)
        | none => (sections.findSome? (fun n => s.live.heldPointIn s.store.active n)).map
            (fun p => .with .lockedIn (1000 + p))

/-- Write a possession number, or remove it, in the records of sections (R156). -/
def Live.setPossession (sections : List Nat) (possession : Option Nat) (l : Live) : Live :=
  { l with sections := l.sections.map (fun x =>
      if sections.contains x.1 then (x.1, { x.2 with possession := possession }) else x) }

/-- Begin the nonvolatile write of the records as they stand, for a telegram (R158, log 14). -/
def State.writePossessions (tag kind : Nat) (s : State) : State :=
  { s with possessionWrites := s.possessionWrites ++ [{ tag := tag, kind := kind, records := s.possessions }] }

/-- The grant (R158); the set is kept in rising order, by the model's choice (log 52), and POSSESSION_TAKEN is queued at the
taking and not at the end of the nonvolatile write, by the model's choice (log 64). -/
def State.grant (tag possession : Nat) (sections : List Nat) (s : State) : State :=
  let t := { s with
    possessions := Map.put possession (ascending sections) s.possessions
    live := s.live.setPossession sections (some possession) }
  (t.report .c .possessionTaken .possession possession (some sections.length)).writePossessions tag 10

/-- POSSESSION TAKE (R157, R158); BUSY during a store write stands after check 1 (log 15). -/
def possessionTake (tag possession : Nat) (sections : List Nat) (s : State) : Taken :=
  if !s.mode.operating then s.refuses (.with .mode 0)
  else if s.store.writing then s.refuses (.plain .busy)
  else if 7 < possession then s.refuses (.with .unknown 0)
  else if sections.isEmpty || 16 < sections.length || !noRepeats sections then s.refuses (.with .badForm 0)
  else match s.takeRefused possession sections with
    | some a => s.refuses a
    | none => (s.grant tag possession sections).defers

def execPossessionTake (tag possession : Nat) (sections : List Nat) (s : State) :
    Host.Outcome State Fault Refusal :=
  control tag 10 (some 0) (possessionTake tag possession sections) s

/-- The give-up: the numbers are removed, the record becomes FREE, and the Route Engine makes one scan (R159).
POSSESSION_GIVEN is queued at the taking and not at the end of the write (log 64), and before the reports of the scan (log
62), by the model's choice. -/
def State.giveUp (tag possession : Nat) (sections : List Nat) (s : State) : State :=
  let t := { s with
    possessions := Map.drop possession s.possessions
    live := s.live.setPossession sections none }
  let u := t.report .c .possessionGiven .possession possession (some sections.length)
  (u.doing (fun _ w => w.scanDue)).writePossessions tag 11

/-- POSSESSION GIVE (R159); BUSY during a store write stands after the mode (log 15). -/
def possessionGive (tag possession : Nat) (s : State) : Taken :=
  if !s.mode.operating then s.refuses (.plain .mode)
  else if s.store.writing then s.refuses (.plain .busy)
  else if 7 < possession then s.refuses (.plain .unknown)
  else match Map.find possession s.possessions with
    | none => s.refuses (.plain .ignored)
    | some sections => (s.giveUp tag possession sections).defers

def execPossessionGive (tag possession : Nat) (s : State) : Host.Outcome State Fault Refusal :=
  control tag 11 none (possessionGive tag possession) s

/-! ## The end of a possession write -/

/-- The stored possession records become those written (R158). -/
def Nonvolatile.storePossessions (records : Map (List Nat)) (v : Nonvolatile) : Nonvolatile :=
  { v with image := v.image.map (fun i => { i with possessions := records }) }

/-- The oldest possession write completes: its records stand in the store and its telegram is answered DONE (R158,
R159). -/
def possessionWritten (s : State) : State :=
  match s.possessionWrites with
  | [] => s
  | x :: rest =>
    State.reply x.tag x.kind (.plain .done)
      { s with possessionWrites := rest, nv := s.nv.storePossessions x.records }

def execPossessionWriteDone (s : State) : Host.Outcome State Fault Refusal := event possessionWritten s

end Sys2Proof.Machine
end

