-- ==== Sys2Proof/Machine/Routes.lean ====
section
/-! DEFINITION. The route telegrams (Chapters 4, 5 and 7): ROUTE CALL, ROUTE CANCEL, FLEET STOP, RELEASE ARM, RELEASE
CONFIRM, STAGE HOLD and STAGE STEP. -/

namespace Sys2Proof.Machine

/-! ## ROUTE CALL -/

/-- The fleet count as taken: 255 is absent and counts as 0, more than 31 counts as 31, and a route that is not fleeting
takes 0 (R62, R183). That the octet 1 is a fleeting flag of yes is the model's choice (log 19). -/
def RouteEntry.fleetTaken (r : RouteEntry) (fleet : Nat) : Nat :=
  if r.fleeting = 1 then if fleet = 255 then 0 else min fleet 31 else 0

/-- The patience as taken: more than 120 counts as 120 (R62). -/
def patienceTaken (patience : Nat) : Nat := min patience 120

/-- The answer code of a check of R63 that fails. -/
def checkCode : Nat → Code
  | 5 => .possessed
  | 6 => .unavailable
  | 7 => .line
  | 8 => .conflict
  | 9 => .flankFull
  | _ => .noSlot

/-- A call that fails check 8, 9 or 10 waits, or is refused (R68). -/
def State.awaits (s : State) (check route fleet patience tag : Nat) : Taken :=
  if patience = 0 then s.refuses (.plain (checkCode check))
  else if Config.waitingPlaces ≤ s.live.waiting.length then s.refuses (.plain .queueFull)
  else
    let request : Request := { route := route, fleet := fleet, expiry := s.clock + patience * 10, tag := tag }
    State.answers { s with live := { s.live with waiting := s.live.waiting ++ [request] } } (.with .queued check)

/-- Checks 5 to 10 of a call, and what comes of them (R63, R67, R68). -/
def State.calls (s : State) (r : RouteEntry) (route fleet patience tag : Nat) : Taken :=
  match s.live.checkCall s.store.active r with
  | .passes n choices => (s.doing (fun e w => w.takeRoute e route r fleet n choices)).answers (.with .accepted n)
  | .fails check =>
    if check ≤ 7 then s.refuses (.plain (checkCode check)) else s.awaits check route fleet patience tag

/-- ROUTE CALL (R62, R63). -/
def routeCall (tag route fleet patience : Nat) (s : State) : Taken :=
  if !s.mode.inTraffic then s.refuses (.plain .mode)
  else if s.live.reports.hold then s.refuses (.plain .held)
  else match Map.find route s.store.active.routes with
    | none => s.refuses (.plain .unknown)
    | some r =>
      if (s.live.slotOf route).isSome || (s.live.requestOf route).isSome then s.refuses (.plain .active)
      else s.calls r route (r.fleetTaken fleet) (patienceTaken patience) tag

def execRouteCall (tag route fleet patience : Nat) (s : State) : Host.Outcome State Fault Refusal :=
  control tag 1 none (routeCall tag route fleet patience) s

/-! ## ROUTE CANCEL -/

/-- Every approach section is CLEAR, there is at least one, and every path section is CLEAR (R121). -/
def Live.releasableAtOnce (r : RouteEntry) (l : Live) : Bool :=
  !r.approach.isEmpty && r.approach.all l.isClear && r.path.all l.isClear

/-- The end of a cancellation in CLEARING, CLEAR or REPLACED: the fleet remaining becomes 0, and the slot is released at
once or placed in timed release (R120, R121). -/
def Work.cancelCleared (e : Env) (n : Nat) (r : RouteEntry) (w : Work) : Work :=
  let w := w.slotTo n (fun x => { x with fleet := 0 })
  if w.live.releasableAtOnce r then w.freeSlot e n else w.timedRelease e n .approach r.approachTime

/-- A cancellation for a slot by its state (R120). -/
def State.cancelsSlot (s : State) (r : RouteEntry) (n : Nat) (x : Slot) : Taken :=
  let settled : Answer := .plain (if s.live.releasableAtOnce r then .done else .accepted)
  match x.state with
  | .setting | .waitLine | .locked => (s.doing (fun e w => w.freeSlot e n)).answers (.plain .done)
  | .clearing | .clear =>
    (s.doing (fun e w => (w.orderEntry e n r .danger).cancelCleared e n r)).answers settled
  | .replaced => (s.doing (fun e w => w.cancelCleared e n r)).answers settled
  | .entered | .timedRelease => s.refuses (.plain .tooLate)

/-- ROUTE CANCEL (R74, R120). -/
def routeCancel (route : Nat) (s : State) : Taken :=
  if !s.mode.operating then s.refuses (.plain .mode)
  else match Map.find route s.store.active.routes with
    | none => s.refuses (.plain .unknown)
    | some r =>
      if (s.live.requestOf route).isSome then
        State.answers { s with live := s.live.dropRequest route } (.plain .done)
      else match s.live.slotOf route with
        | some (n, x) => s.cancelsSlot r n x
        | none => s.refuses (.plain .ignored)

def execRouteCancel (tag route : Nat) (s : State) : Host.Outcome State Fault Refusal :=
  control tag 2 none (routeCancel route) s

/-! ## FLEET STOP -/

/-- The slot's fleet remaining becomes 0; in ENTERED it makes the release test and may start overlap timing (R128). -/
def Work.stopFleet (e : Env) (n : Nat) (w : Work) : Work :=
  let w := w.slotTo n (fun x => { x with fleet := 0 })
  (w.releaseTest e n).startOverlap e n

/-- A waiting request's fleet count becomes 0 (R128). -/
def Live.stopRequest (route : Nat) (l : Live) : Live :=
  { l with waiting := l.waiting.map (fun q => if q.route = route then { q with fleet := 0 } else q) }

/-- FLEET STOP (R128). -/
def fleetStop (route : Nat) (s : State) : Taken :=
  if !s.mode.operating then s.refuses (.plain .mode)
  else if !Map.has route s.store.active.routes then s.refuses (.plain .unknown)
  else match s.live.slotOf route with
    | some (n, _) => (s.doing (fun e w => w.stopFleet e n)).answers (.plain .done)
    | none =>
      if (s.live.requestOf route).isSome then
        State.answers { s with live := s.live.stopRequest route } (.plain .done)
      else s.refuses (.plain .ignored)

def execFleetStop (tag route : Nat) (s : State) : Host.Outcome State Fault Refusal :=
  control tag 3 none (fleetStop route) s

/-! ## RELEASE ARM and RELEASE CONFIRM -/

/-- An emergency release acts on a slot in ENTERED or REPLACED (R124, R125). -/
def Slot.armable (x : Slot) : Bool := x.state == .entered || x.state == .replaced

/-- RELEASE ARM (R124). -/
def releaseArm (slot : Nat) (s : State) : Taken :=
  if !s.mode.operating then s.refuses (.plain .mode)
  else match s.live.slot slot with
    | none => s.refuses (.plain .unknown)
    | some x =>
      if x.armable then
        let arm : Arm := { slot := slot, expiry := s.clock + Config.armTime }
        State.answers { s with live := { s.live with arm := some arm } } (.plain .accepted)
      else s.refuses (.plain .ignored)

def execReleaseArm (tag slot : Nat) (s : State) : Host.Outcome State Fault Refusal :=
  control tag 4 none (releaseArm slot) s

/-- The approach release time of a slot's route, in seconds (R13). -/
def Tables.approachTime (t : Tables) (route : Nat) : Nat :=
  ((Map.find route t.routes).map (fun r => r.approachTime)).getD 0

/-- The arm stands for the slot: it is present, names the slot, and its expiry has not come (R125). At the very tick of the
expiry it has come, even for a confirm that is taken ahead of the expiry, by the model's choice between R125 and R126 (log
55). -/
def State.armed (slot : Nat) (s : State) : Bool := s.live.arm.any (fun a => a.slot == slot && s.clock < a.expiry)

/-- The time of a timed release by its cause, in seconds (R122). -/
def Tables.releaseTime (t : Tables) (route : Nat) (cause : ReleaseCause) : Nat :=
  match cause with
  | .approach | .restart => t.approachTime route
  | .emergency => max (t.approachTime route) Config.emergencyTime

/-- The emergency release of a slot (R125). -/
def Work.emergency (e : Env) (n route : Nat) (w : Work) : Work :=
  let w := w.on (fun l => { l with arm := none })
  (w.timedRelease e n .emergency (e.tables.releaseTime route .emergency)).report e .b .emergencyRelease .slot n (some route)

/-- RELEASE CONFIRM (R125). -/
def releaseConfirm (slot : Nat) (s : State) : Taken :=
  if !s.mode.operating then s.refuses (.plain .mode)
  else match s.live.slot slot with
    | some x =>
      if s.armed slot && x.armable then
        (s.doing (fun e w => w.emergency e slot x.route)).answers (.plain .accepted)
      else s.refuses (.plain .notArmed)
    | none => s.refuses (.plain .notArmed)

def execReleaseConfirm (tag slot : Nat) (s : State) : Host.Outcome State Fault Refusal :=
  control tag 5 none (releaseConfirm slot) s

/-! ## STAGE HOLD and STAGE STEP -/

/-- Set a hold entry (R94). -/
def State.setsHold (s : State) (route : Nat) (stage : Stage) : Taken :=
  if s.stageHolds.contains (route, stage) then s.answers (.plain .done)
  else if Config.holdPlaces ≤ s.stageHolds.length then s.refuses (.plain .noSlot)
  else State.answers { s with stageHolds := s.stageHolds ++ [(route, stage)] } (.plain .done)

/-- A slot of the route held at the stage goes on (R94, R96). -/
def Work.endHold (e : Env) (route : Nat) (stage : Stage) (w : Work) : Work :=
  match w.live.slotOf route with
  | some (n, x) => if x.held = some stage then w.goOn e n else w
  | none => w

/-- Remove a hold entry; the slot held there goes on (R94). -/
def State.removesHold (s : State) (route : Nat) (stage : Stage) : Taken :=
  if s.stageHolds.contains (route, stage) then
    let t := { s with stageHolds := s.stageHolds.filter (fun x => x != (route, stage)) }
    (t.doing (fun e w => w.endHold e route stage)).answers (.plain .done)
  else s.refuses (.plain .ignored)

/-- STAGE HOLD (R94); its route, stage and action are checked in this order (log 16). -/
def stageHold (route stage action : Nat) (s : State) : Taken :=
  if !s.mode.operating then s.refuses (.plain .mode)
  else if !Map.has route s.store.active.routes then s.refuses (.plain .unknown)
  else match Stage.ofCode stage, action with
    | some g, 1 => s.setsHold route g
    | some g, 2 => s.removesHold route g
    | _, _ => s.refuses (.plain .badForm)

def execStageHold (tag route stage action : Nat) (s : State) : Host.Outcome State Fault Refusal :=
  control tag 6 none (stageHold route stage action) s

/-- STAGE STEP (R96). -/
def stageStep (route : Nat) (s : State) : Taken :=
  if !s.mode.operating then s.refuses (.plain .mode)
  else if !Map.has route s.store.active.routes then s.refuses (.plain .unknown)
  else match s.live.slotOf route with
    | some (n, x) =>
      if x.held.isSome then (s.doing (fun e w => w.goOn e n)).answers (.plain .done) else s.refuses (.plain .ignored)
    | none => s.refuses (.plain .ignored)

def execStageStep (tag route : Nat) (s : State) : Host.Outcome State Fault Refusal :=
  control tag 7 none (stageStep route) s

end Sys2Proof.Machine
end

