-- ==== Sys2Proof/Machine/Restart.lean ====
section
/-! DEFINITION. MODE SET and RESTART (10.2, 10.4). -/

namespace Sys2Proof.Machine

/-! ## MODE SET (R162) -/

/-- Queue MODE_CHANGED with the mode as detail: class B with detail 4, class C otherwise (R162, 12.4). -/
def State.modeChanged (s : State) : State :=
  s.report (if s.mode = .failed then .b else .c) .modeChanged .table 0 (some s.mode.code)

/-- From COMMISSIONING to IN_SERVICE every held slot goes on, in a free order (R96; log 3). -/
def Work.endHolds (e : Env) (w : Work) : Work :=
  w.forEach (w.live.slotsWhere e (fun x _ => x.held.isSome)) (Work.goOn e)

/-- The mode becomes another (R162). MODE_CHANGED is queued before the reports of the slots that go on, by the model's choice
(log 54). -/
def State.changesMode (s : State) (m : Mode) : State :=
  let t := State.modeChanged { s with mode := m }
  if s.mode = .commissioning ∧ m = .inService then t.doing Work.endHolds else t

/-- MODE SET (R162); a value that names no mode is answered BAD_FORM after check 1 (log 16). -/
def modeSet (mode : Nat) (s : State) : Taken :=
  if s.mode = .failed then s.refuses (.plain .mode)
  else if s.store.busy then s.refuses (.with .busy 1)
  else match Mode.ofSetCode mode with
    | none => s.refuses (.plain .badForm)
    | some m =>
      if m = s.mode then s.answers (.plain .done)
      else if m = .suspended ∧ (s.live.slots ≠ [] ∨ s.live.waiting ≠ []) then s.refuses (.with .busy 2)
      else (s.changesMode m).answers (.plain .done)

def execModeSet (tag mode : Nat) (s : State) : Host.Outcome State Fault Refusal :=
  control tag 12 none (modeSet mode) s

/-! ## RESTART (R165) -/

/-- The waiting list is emptied, each request with its report, in arrival order (R76). -/
def Work.dropRequests (e : Env) (w : Work) : Work :=
  w.live.waiting.foldl (fun w q => w.report e .c .requestDropped .route q.route (some q.tag))
    (w.on (fun l => { l with waiting := [] }))

/-- An overlap in TIMING whose expiry has not come is timed again from full (R129). It has not come while the timer is still
there, even at its very tick with OVERLAP_EXPIRY still in the queue, by the model's choice (log 63). -/
def Slot.retimeOverlap (moment : Nat) (x : Slot) : Slot :=
  if x.overlap = some .timing then { x with timer := x.timer.map (fun y => { y with expiry := moment }) } else x

/-- A slot in ENTERED at restart (R129). -/
def Work.restartEntered (e : Env) (n : Nat) (w : Work) : Work :=
  w.withSlot e n (fun _ r w =>
    (w.slotTo n (Slot.retimeOverlap (e.clock + r.overlapTime * 10))).stopFleet e n)

/-- A slot in TIMED_RELEASE keeps its cause, and its timer restarts from full (R129). -/
def Work.restartTimer (e : Env) (n : Nat) (w : Work) : Work :=
  w.slotTo n (fun x => { x with timer := x.timer.map (fun y => match y.cause with
    | some c => { y with expiry := e.clock + e.tables.releaseTime x.route c * 10 }
    | none => y) })

/-- Treat one slot at restart, by its state (R129). -/
def Work.restartSlot (e : Env) (w : Work) (n : Nat) : Work :=
  match w.live.slot n with
  | none => w
  | some x => match x.state with
    | .setting | .waitLine | .locked => w.freeSlot e n
    | .clearing | .clear | .replaced =>
      (w.slotTo n (fun x => { x with aspect := some .danger })).timedRelease e n .restart
        (e.tables.releaseTime x.route .restart)
    | .entered => w.restartEntered e n
    | .timedRelease => w.restartTimer e n

/-- Outstanding asks and late numbers are removed, and no failure is handed on (R145). -/
def Live.forgetAsks (l : Live) : Live :=
  { l with links := l.links.map (fun k => (k.1, { k.2 with
      lines := k.2.lines.map (fun y => (y.1, { y.2 with ask := none, late := none })) })) }

/-- The entry signal of a slot that the restart takes out of CLEARING, CLEAR or REPLACED, into TIMED_RELEASE or, with an
approach release time of 0, to its freeing (R129). -/
def Live.clearingEntry (t : Tables) (g : Nat) (l : Live) : Bool := l.entryIn t [.clearing, .clear, .replaced] g

/-- The signals that the restart orders DANGER: all but the entry signals of slots that are in ENTERED after it, unless before
it a slot in CLEARING, CLEAR or REPLACED had the same entry signal (R60, R129, R165; log 21). -/
def Live.restartSignals (t : Tables) (before after : Live) : List Nat :=
  t.signals.filter (fun g => !after.entryIn t [.entered] g || before.clearingEntry t g)

/-- The route side at restart: requests, slots in ascending order, arm, asks, line-clear flags; what this hands on is taken
before the DANGER orders (R165). -/
def Work.restartRoutes (e : Env) (w : Work) : Work :=
  let w := w.dropRequests e
  let w := (Map.ids w.live.slots).foldl (Work.restartSlot e) w
  let w := w.on (fun l => Live.formLineFlags e.tables (Live.forgetAsks { l with arm := none }))
  w.settled e

/-- The whole restart of the records, with RESTARTED as its last report (R165; log 32). -/
def Work.restart (e : Env) (w : Work) : Work :=
  let v := w.restartRoutes e
  (v.orderDanger e (Live.restartSignals e.tables w.live v.live)).report e .b .restarted .table 0 (some 0)

/-- A commit in progress is abandoned and answered IGNORED; one in its store write is followed by a restoring write
(R172). -/
def State.abandonCommit (s : State) : State :=
  match s.store.commit with
  | none => s
  | some c =>
    State.reply c.tag 19 (.plain .ignored)
      { s with store := { s.store with
        commit := none, restoring := s.store.restoring || c.phase == .storeWrite } }

/-- RESTART (R165). -/
def restart (s : State) : Taken := (s.abandonCommit.doing Work.restart).answers (.plain .done)

def execRestart (tag : Nat) (s : State) : Host.Outcome State Fault Refusal := control tag 13 none restart s

end Sys2Proof.Machine
end

