-- ==== Sys2Proof/Machine/Power.lean ====
section
/-! DEFINITION. Power-on, the load of the stored image and the loss of power (10.3; R158, R172, R174). -/

namespace Sys2Proof.Machine

/-! ## Records at power-on -/

/-- The possession that holds a section: the lowest-numbered whose set names it (R39, R156). -/
def possessionHolding (possessions : Map (List Nat)) (sec : Nat) : Option Nat :=
  (possessions.find? (fun x => x.2.contains sec)).map (fun x => x.1)

/-- A record for every present SECTIONS entry (R39). -/
def Tables.sectionRecords (t : Tables) (possessions : Map (List Nat)) : Map SectionRec :=
  t.sections.map (fun x => (x.1, SectionRec.renewed (possessionHolding possessions x.1)))

/-- A record for every present ELEMENTS entry (R59). -/
def Tables.elementRecords (t : Tables) : Map ElementRec :=
  t.elements.filterMap (fun x => x.2.renewed.map (fun r => (x.1, r)))

/-- A link record for every present BOUNDARY entry (R130). -/
def Tables.linkRecords (t : Tables) : Map LinkRec := Map.each BoundaryEntry.renewed t.boundary

/-! ## Power -/

/-- Everything that is not in the nonvolatile store has its value of the moment of power-on, with power or without (R76,
R97, R126, R155, R163, R173, R175, R176, R179, R181). The commands waiting, the telegrams sent and the model's own free
choices are not the part's. -/
def State.volatile (power : Bool) (s : State) : State :=
  { power := power, mode := .start, clock := 0, store := Store.powerOn, nv := s.nv, possessions := [],
    possessionWrites := [], stageHolds := [], addressesSeen := [], presenceDue := none,
    live := { Live.powerOn with sent := s.live.sent, choices := s.live.choices }, freeCount := s.freeCount,
    pending := s.pending }

/-- What an interrupted store write or restoring write leaves: a void check word (R172). -/
def Nonvolatile.voided (v : Nonvolatile) : Nonvolatile := { v with image := v.image.map (fun i => { i with word := none }) }

/-- What a running possession write leaves: the stored records all as before it or all as after it, a free value (R158;
log 12). -/
def State.cutPossessionWrite (s : State) (v : Nonvolatile) : Nonvolatile :=
  match s.possessionWrites with
  | [] => v
  | x :: _ => if Config.newPossessionsStand s.freeCount then v.storePossessions x.records else v

/-- What a running identity write leaves: 0 or the new value, a free value (R174; log 12). -/
def State.cutIdentityWrite (s : State) (v : Nonvolatile) : Nonvolatile :=
  match s.store.identityWrite with
  | none => v
  | some (_, i) => if Config.newIdentityStands s.freeCount then { v with identity := i } else { v with identity := 0 }

/-- The nonvolatile store after a loss of power (R158, R172, R174). -/
def State.nvAfterLoss (s : State) : Nonvolatile :=
  s.cutIdentityWrite (s.cutPossessionWrite (if s.store.writing then s.nv.voided else s.nv))

/-- Power is lost (R158, R172, R174). -/
def State.losesPower (s : State) : State :=
  State.volatile false { s with nv := s.nvAfterLoss, freeCount := s.freeCount + 1 }

def execPowerLoss (s : State) : Host.Outcome State Fault Refusal := event State.losesPower s

/-- Power comes on: the part enters START and begins to read the stored image (R163). Power that is on already is lost
first (log 13). -/
def State.powersOn (s : State) : State :=
  if s.power then s.losesPower.volatile true else s.volatile true

def execPowerOn (s : State) : Host.Outcome State Fault Refusal := .next s.powersOn

/-! ## The end of the load (R163) -/

/-- The stored image, when its stored check word is present and is that of its tables (R163, R170). -/
def Nonvolatile.matching (v : Nonvolatile) : Option Image :=
  v.image.filter (fun i => i.word == some i.tables.checkWord)

/-- The Table Store holds an image: active and staged, all UNCHANGED (R166, R174). -/
def Store.loaded (i : Image) (x : Store) : Store :=
  { x with
    active := i.tables, staging := i.tables, marks := Marks.unchanged, amendment := [], version := i.version }

/-- The records that a load creates (R39, R59, R130, R135). -/
def State.createsRecords (i : Image) (s : State) : State :=
  let l : Live := { s.live with
    sections := i.tables.sectionRecords i.possessions
    elements := i.tables.elementRecords
    links := i.tables.linkRecords }
  { s with
    store := s.store.loaded i
    possessions := i.possessions
    live := l.formLineFlags i.tables
    presenceDue := if i.tables.boundary = [] then none else some (s.clock + Config.presenceTime) }

/-- The check matches: records are created, every signal is ordered DANGER, the first PRESENCE of each link is sent, the
mode becomes SUSPENDED and MODE_CHANGED is queued (R134, R163). -/
def State.loads (i : Image) (s : State) : State :=
  let t := s.createsRecords i
  let t := t.doing (fun e w => w.orderDanger e e.tables.signals)
  let t := t.presents t.live.links
  State.modeChanged { t with mode := .suspended }

/-- The check fails or the store is empty: the part enters FAILED with everything empty (R163). -/
def State.fails (s : State) : State := State.modeChanged { s with mode := .failed }

/-- The end of the load, in START (R163). -/
def loadEnds (s : State) : State :=
  if s.mode = .start then
    match s.nv.matching with
    | some i => s.loads i
    | none => s.fails
  else s

def execLoadEnd (s : State) : Host.Outcome State Fault Refusal := event loadEnds s

end Sys2Proof.Machine
end

