-- ==== Sys2Proof/Machine/Loading.lean ====
section
/-! DEFINITION. Loading the tables (Chapter 11): TABLE FRESH, TABLE AMEND, TABLE ENTRY, TABLE COMMIT and its three phases,
TABLE FREEZE, AREA IDENTITY, and the writes to the nonvolatile store. -/

namespace Sys2Proof.Machine

/-! ## Staging by table number -/

/-- The ids of a table (R1). -/
def idInRange (table id : Nat) : Bool :=
  match table with
  | 1 => id ≤ 511
  | 2 => id ≤ 255
  | 3 => id ≤ 383
  | 4 => 1 ≤ id && id ≤ 3
  | 5 => id == 0
  | _ => false

/-- The mark of a table (R166). -/
def Marks.of (table : Nat) (m : Marks) : Mark :=
  match table with
  | 1 => m.elements
  | 2 => m.sections
  | 3 => m.routes
  | 4 => m.boundary
  | _ => m.options

/-- Mark a table (R166). -/
def Marks.set (table : Nat) (x : Mark) (m : Marks) : Marks :=
  match table with
  | 1 => { m with elements := x }
  | 2 => { m with sections := x }
  | 3 => { m with routes := x }
  | 4 => { m with boundary := x }
  | 5 => { m with options := x }
  | _ => m

/-- The tables with one of them, by its number, taken from another image. -/
def Tables.copyTable (table : Nat) (source t : Tables) : Tables :=
  match table with
  | 1 => { t with elements := source.elements }
  | 2 => { t with sections := source.sections }
  | 3 => { t with routes := source.routes }
  | 4 => { t with boundary := source.boundary }
  | 5 => { t with options := source.options }
  | _ => t

/-- Write one entry of any table at an id. -/
def Tables.putEntry (id : Nat) (e : Staged) (t : Tables) : Tables :=
  match e with
  | .element x => { t with elements := Map.put id x t.elements }
  | .trackSection x => { t with sections := Map.put id x t.sections }
  | .route x => { t with routes := Map.put id x t.routes }
  | .boundary x => { t with boundary := Map.put id x t.boundary }
  | .options x => { t with options := Map.put id x t.options }

/-- Make one id of a table absent. -/
def Tables.dropEntry (table id : Nat) (t : Tables) : Tables :=
  match table with
  | 1 => { t with elements := Map.drop id t.elements }
  | 2 => { t with sections := Map.drop id t.sections }
  | 3 => { t with routes := Map.drop id t.routes }
  | 4 => { t with boundary := Map.drop id t.boundary }
  | 5 => { t with options := Map.drop id t.options }
  | _ => t

/-- The entry at an id of a table. -/
def Tables.entryAt (table id : Nat) (t : Tables) : Option Staged :=
  match table with
  | 1 => (Map.find id t.elements).map .element
  | 2 => (Map.find id t.sections).map .trackSection
  | 3 => (Map.find id t.routes).map .route
  | 4 => (Map.find id t.boundary).map .boundary
  | 5 => (Map.find id t.options).map .options
  | _ => none

/-- A table number (R1, R168). -/
def tableNumber (table : Nat) : Bool := 1 ≤ table && table ≤ 5

/-! ## TABLE FRESH, TABLE AMEND, TABLE ENTRY -/

/-- Checks 1 to 3 of the loading telegrams (R167). -/
def State.loadRefused (s : State) : Option Code :=
  if !s.mode.loading then some .mode
  else if s.store.busy then some .busy
  else if s.store.frozen then some .frozen
  else none

/-- A table begins anew from an image, with a mark; its items leave the amendment record (R168). -/
def Store.begins (table : Nat) (source : Tables) (x : Mark) (st : Store) : Store :=
  { st with
    staging := Tables.copyTable table source st.staging
    marks := st.marks.set table x
    amendment := st.amendment.filter (fun y => y.1 != table) }

/-- TABLE FRESH (R168). -/
def tableFresh (table : Nat) (s : State) : Taken :=
  match s.loadRefused with
  | some c => s.refuses (.plain c)
  | none =>
    if tableNumber table then
      State.answers { s with store := s.store.begins table Tables.empty .fresh } (.plain .done)
    else s.refuses (.plain .badForm)

def execTableFresh (tag table : Nat) (s : State) : Host.Outcome State Fault Refusal :=
  control tag 16 none (tableFresh table) s

/-- TABLE AMEND (R168). -/
def tableAmend (table : Nat) (s : State) : Taken :=
  match s.loadRefused with
  | some c => s.refuses (.plain c)
  | none =>
    if tableNumber table then
      State.answers { s with store := s.store.begins table s.store.active .amending } (.plain .done)
    else s.refuses (.plain .badForm)

def execTableAmend (tag table : Nat) (s : State) : Host.Outcome State Fault Refusal :=
  control tag 17 none (tableAmend table) s

/-- The amendment record has no place for a pair that it would have to take (R169). -/
def Store.amendFull (table id : Nat) (st : Store) : Bool :=
  st.marks.of table != .fresh && !st.amendment.contains (table, id) && Config.amendPlaces ≤ st.amendment.length

/-- Write or remove a staged entry, with the mark and the amendment record (R169). -/
def Store.writes (table id : Nat) (entry : Option Staged) (st : Store) : Store :=
  let amending := st.marks.of table != .fresh
  { st with
    staging := match entry with
      | some e => st.staging.putEntry id e
      | none => st.staging.dropEntry table id
    marks := if amending then st.marks.set table .amending else st.marks
    amendment := if amending && !st.amendment.contains (table, id) then st.amendment ++ [(table, id)]
      else st.amendment }

/-- TABLE ENTRY (R169): the content is read by the table's layout; an empty content removes the entry. -/
def tableEntry (table id : Nat) (content : List Octet) (s : State) : Taken :=
  match s.loadRefused with
  | some c => s.refuses (.plain c)
  | none =>
    if !(tableNumber table && idInRange table id) then s.refuses (.plain .badForm)
    else
      let entry := readEntry table content
      if content ≠ [] ∧ entry = none then s.refuses (.plain .badForm)
      else if s.store.amendFull table id then s.refuses (.plain .amendLimit)
      else State.answers { s with store := s.store.writes table id entry } (.plain .done)

def execTableEntry (tag table id : Nat) (content : List Octet) (s : State) : Host.Outcome State Fault Refusal :=
  control tag 18 none (tableEntry table id content) s

/-! ## TABLE COMMIT (R170) -/

/-- Change the commit in progress. -/
def State.setCommit (c : Option Commit) (s : State) : State := { s with store := { s.store with commit := c } }

/-- TABLE COMMIT: in progress from its taking, and answered when it ends (R167, R170). -/
def tableCommit (tag : Nat) (word : Word16) (s : State) : Taken :=
  match s.loadRefused with
  | some .frozen =>
    if s.store.identityWrite.isSome then s.refuses (.plain .busy) else s.refuses (.plain .frozen)
  | some c => s.refuses (.plain c)
  | none =>
    if s.store.identityWrite.isSome then s.refuses (.plain .busy)
    else (s.setCommit (some { tag := tag, word := word, phase := .validation })).defers

def execTableCommit (tag : Nat) (word : Word16) (s : State) : Host.Outcome State Fault Refusal :=
  control tag 19 none (tableCommit tag word) s

/-- Validation ends: INVALID with TABLE_INVALID for the first constraint that fails, or the comparison begins (R17,
R170). -/
def validationEnds (s : State) : State :=
  match s.store.commit with
  | some { tag := tag, word := word, phase := .validation } =>
    match s.store.staging.firstInvalid with
    | some (kind, n, constraint) =>
      let t := (s.setCommit none).report .b .tableInvalid kind n (some constraint)
      t.reply tag 19 (.plain .invalid)
    | none => s.setCommit (some { tag := tag, word := word, phase := .comparison })
  | _ => s

def execValidationDone (s : State) : Host.Outcome State Fault Refusal := event validationEnds s

/-- The comparison ends: CHECK_MISMATCH with the computed word, or the store write begins by making the stored check word
void (R170, R171). -/
def comparisonEnds (s : State) : State :=
  match s.store.commit with
  | some { tag := tag, word := word, phase := .comparison } =>
    let computed := s.store.staging.checkWord
    if computed = word then
      State.setCommit (some { tag := tag, word := word, phase := .storeWrite }) { s with nv := s.nv.voided }
    else (s.setCommit none).reply tag 19 (.with .checkMismatch computed.toNat)
  | _ => s

def execComparisonDone (s : State) : Host.Outcome State Fault Refusal := event comparisonEnds s

/-! ## Bringing the records into line (R41, R61, R97, R145, R160) -/

/-- The sections of a possession that the new tables still hold (R160). -/
def Tables.keptSections (t : Tables) (secs : List Nat) : List Nat := secs.filter (fun n => Map.has n t.sections)

/-- The possession records after trimming: one left with no section becomes FREE (R160). -/
def Tables.trim (t : Tables) (possessions : Map (List Nat)) : Map (List Nat) :=
  (Map.each t.keptSections possessions).filter (fun x => !x.2.isEmpty)

/-- POSSESSION_TRIMMED for each of the possessions before the commit that loses sections, with the number removed (R160). -/
def State.reportTrimmed (before : Map (List Nat)) (s : State) : State :=
  before.foldl (fun t x =>
    let lost := x.2.length - (s.store.active.keptSections x.2).length
    if lost = 0 then t else t.report .c .possessionTrimmed .possession x.1 (some lost)) s

/-- The entry of an element is present and unchanged in both images (R41, R61). -/
def unchangedElement (old new : Tables) (n : Nat) : Bool :=
  Map.has n new.elements && Map.find n old.elements == Map.find n new.elements

/-- Two head lists hold the same heads with the same in-directions, in whatever order (R41; log 26). -/
def sameHeads (a b : List HeadItem) : Bool := a.all (fun i => b.contains i) && b.all (fun i => a.contains i)

/-- A section keeps its record: its entry stands in both images with the same heads and in-directions, and the ELEMENTS
entries of its heads are unchanged (R41). -/
def keptSection (old new : Tables) (n : Nat) : Bool :=
  match Map.find n old.sections, Map.find n new.sections with
  | some a, some b => sameHeads a.heads b.heads && b.heads.all (fun i => unchangedElement old new i.head)
  | _, _ => false

/-- The section records after a commit: kept or renewed, with the disagreement fields of shared sections cleared, the
possession numbers set afresh and no lock holder (R41). -/
def alignSections (old new : Tables) (possessions : Map (List Nat)) (records : Map SectionRec) : Map SectionRec :=
  new.sections.map (fun x =>
    let possession := possessionHolding possessions x.1
    let kept := match Map.find x.1 records with
      | some r => if keptSection old new x.1 then r else SectionRec.renewed possession
      | none => SectionRec.renewed possession
    let kept := { kept with possession := possession, lock := none }
    (x.1, if new.isShared x.1 then { kept with disagreement := 0, neighbourState := none } else kept))

/-- The element records after a commit: kept where the entry is unchanged, renewed otherwise (R61). -/
def alignElements (old new : Tables) (records : Map ElementRec) : Map ElementRec :=
  new.elements.filterMap (fun x =>
    let renewed := x.2.renewed.map (fun r => (x.1, r))
    if unchangedElement old new x.1 then ((Map.find x.1 records).map (fun r => (x.1, r))).or renewed else renewed)

/-- The queue without the orders of renewed or removed records (R61). -/
def alignQueue (old new : Tables) (queue : List FieldOrder) : List FieldOrder :=
  queue.filter (fun x => unchangedElement old new x.element)

/-- A link keeps its record: its BOUNDARY entry is present and unchanged (R145), its lists in the same order by the model's
choice (log 43). -/
def keptLink (old new : Tables) (n : Nat) : Bool := Map.find n old.boundary == Map.find n new.boundary

/-- The link records after a commit: kept without their late numbers, or new (R145). A new record has no unknown numbers seen,
so that UNKNOWN_REMOTE_HEAD is queued again for them, by the model's choice (log 57). -/
def alignLinks (old new : Tables) (records : Map LinkRec) : Map LinkRec :=
  new.boundary.map (fun x =>
    let kept (k : LinkRec) : LinkRec :=
      { k with lines := k.lines.map (fun y => (y.1, { y.2 with late := none })) }
    match Map.find x.1 records with
    | some k => (x.1, if keptLink old new x.1 then kept k else x.2.renewed)
    | none => (x.1, x.2.renewed))

/-- The links whose records a commit creates, and so the ones that send their first PRESENCE (R134, R145). -/
def newLinks (old new : Tables) (records : Map LinkRec) : Map LinkRec :=
  records.filter (fun x => !keptLink old new x.1)

/-- The hold entries whose routes the new table still holds (R97). -/
def alignHolds (new : Tables) (holds : List (Nat × Stage)) : List (Nat × Stage) :=
  holds.filter (fun x => Map.has x.1 new.routes)

/-- The signals whose records a commit creates: they are ordered DANGER (R61). -/
def newSignals (old new : Tables) : List Nat := new.signals.filter (fun g => !unchangedElement old new g)

/-- The records of the other blocks are brought into line with the new tables; the places freed in the queue take pending
orders (R41, R61, R145; log 18). -/
def Live.align (old new : Tables) (possessions : Map (List Nat)) (l : Live) : Live :=
  let m : Live := { l with
    sections := alignSections old new possessions l.sections
    elements := alignElements old new l.elements
    queue := alignQueue old new l.queue
    links := alignLinks old new l.links }
  (m.admitAll new Config.orderPlaces).formLineFlags new

/-! ## The end of the store write (R171) -/

/-- The image that the store write puts into the store (R171). -/
def State.newImage (s : State) : Image :=
  { tables := s.store.staging, version := s.store.version + 1, word := some s.store.staging.checkWord,
    possessions := s.store.staging.trim s.possessions }

/-- The new tables become active, and every record follows them (R171). -/
def State.activates (s : State) : State :=
  let old := s.store.active
  let i := s.newImage
  { s with
    store := { s.store.loaded i with commit := none }
    nv := { s.nv with image := some i }
    possessions := i.possessions
    possessionWrites := s.possessionWrites.map (fun x => { x with records := i.tables.trim x.records })
    stageHolds := alignHolds i.tables s.stageHolds
    live := s.live.align old i.tables i.possessions
    presenceDue := if i.tables.boundary = [] then none else s.presenceDue.or (some (s.clock + Config.presenceTime)) }

/-- The new watermark is compared with the length: at or above it the notice is sent when armed, below it the notice is
armed (R176). -/
def Live.compareWatermark (watermark : Nat) (l : Live) : Live :=
  if l.reports.reports.length < watermark then { l with reports := { l.reports with armed := true } }
  else l.noticeReports watermark

/-- The last of the commit: in FAILED the mode becomes SUSPENDED with its report, TABLES_COMMITTED is queued, and the
answer is DONE with the new version (R164, R171). -/
def State.committed (tag : Nat) (s : State) : State :=
  let t := if s.mode = .failed then State.modeChanged { s with mode := .suspended } else s
  (t.report .c .tablesCommitted .table 0 (some t.store.version.toNat)).reply tag 19 (.with .done t.store.version.toNat)

/-- The watermark of the new options, when it is another, is compared with the length (R176). -/
def State.newWatermark (old : Nat) (s : State) : State :=
  let watermark := s.store.active.watermark
  if old = watermark then s else { s with live := s.live.compareWatermark watermark }

/-- The commit ends: the tables and options become active, the watermark is compared, trimmed possessions are reported, new
signals are ordered DANGER, and new links send their first PRESENCE (R61, R134, R160, R171, R176; log 26). -/
def State.commits (tag : Nat) (s : State) : State :=
  let old := s.store.active
  let t := (s.activates.newWatermark old.watermark).reportTrimmed s.possessions
  let t := t.doing (fun e w => w.orderDanger e (newSignals old e.tables))
  (t.presents (newLinks old t.store.active t.live.links)).committed tag

/-- The store write of a commit completes (R171). -/
def storeWriteEnds (s : State) : State :=
  match s.store.commit with
  | some { tag := tag, phase := .storeWrite, .. } => s.commits tag
  | _ => s

def execStoreWriteDone (s : State) : Host.Outcome State Fault Refusal := event storeWriteEnds s

/-- The image that a restoring write puts back: the active one; the word stays void where the commit was taken in FAILED
(R172). -/
def State.restoredImage (s : State) : Image :=
  { tables := s.store.active, version := s.store.version,
    word := if s.mode = .failed then none else some s.store.active.checkWord, possessions := s.possessions }

/-- The restoring write completes (R172). -/
def restoringEnds (s : State) : State :=
  if s.store.restoring then
    { s with
      store := { s.store with restoring := false }
      nv := { s.nv with image := some s.restoredImage } }
  else s

def execRestoringWriteDone (s : State) : Host.Outcome State Fault Refusal := event restoringEnds s

/-! ## TABLE FREEZE and AREA IDENTITY -/

/-- TABLE FREEZE (R173). -/
def tableFreeze (s : State) : Taken :=
  if s.store.busy then s.refuses (.plain .busy)
  else State.answers { s with store := { s.store with frozen := true } } (.plain .done)

def execTableFreeze (tag : Nat) (s : State) : Host.Outcome State Fault Refusal := control tag 14 none tableFreeze s

/-- AREA IDENTITY (R174); its checks are made in this order (log 16). -/
def areaIdentity (tag : Nat) (identity : Identity) (s : State) : Taken :=
  if s.store.busy then s.refuses (.plain .busy)
  else if identity = 0 then s.refuses (.plain .badForm)
  else if s.nv.identity ≠ 0 then s.refuses (.plain .alreadySet)
  else if s.store.identityWrite.isSome then s.refuses (.plain .busy)
  else State.defers { s with store := { s.store with identityWrite := some (tag, identity) } }

def execAreaIdentity (tag : Nat) (identity : Identity) (s : State) : Host.Outcome State Fault Refusal :=
  control tag 20 none (areaIdentity tag identity) s

/-- The identity write completes: our PRESENCE carries it from now on (R174). -/
def identityWritten (s : State) : State :=
  match s.store.identityWrite with
  | some (tag, identity) =>
    State.reply tag 20 (.plain .done)
      { s with store := { s.store with identityWrite := none }, nv := { s.nv with identity := identity } }
  | none => s

def execIdentityWriteDone (s : State) : Host.Outcome State Fault Refusal := event identityWritten s

end Sys2Proof.Machine
end

