-- ==== Sys2Proof/Machine/Reports.lean ====
section
/-! DEFINITION. The report and status telegrams (12.1), QUERY, and the telegrams that carry no command (R181). -/

namespace Sys2Proof.Machine

/-- Change the Report Queue. -/
def State.onReports (f : ReportQueue → ReportQueue) (s : State) : State :=
  { s with live := { s.live with reports := f s.live.reports } }

/-! ## REPORT FETCH (R177) -/

/-- The oldest reports leave the queue; a length below the watermark re-arms the notice (R176, R177). -/
def ReportQueue.fetch (watermark n : Nat) (q : ReportQueue) : ReportQueue :=
  let rest := q.reports.drop n
  { q with reports := rest, armed := q.armed || rest.length < watermark }

/-- REPORT FETCH: a count above 8 is taken as 8 (R177). -/
def reportFetch (count : Nat) (s : State) : Taken :=
  if count = 0 then s.refuses (.plain .badForm)
  else
    let handed := s.live.reports.reports.take (min count 8)
    (s.onReports (ReportQueue.fetch s.store.active.watermark (min count 8))).answers
      (.carrying .done (some handed.length) (.reports handed))

def execReportFetch (tag count : Nat) (s : State) : Host.Outcome State Fault Refusal :=
  control tag 21 none (reportFetch count) s

/-! ## STATUS READ and STATUS CLEAR (R178) -/

/-- What STATUS READ carries (R178). -/
def State.statusData (s : State) : StatusData :=
  { mode := s.mode, length := s.live.reports.reports.length, lostAB := s.live.reports.lostAB,
    lostC := s.live.reports.lostC, hold := s.live.reports.hold, frozen := s.store.frozen, version := s.store.version,
    commit := s.store.busy, latestA := s.live.reports.latestA }

/-- STATUS READ (R178). -/
def statusRead (s : State) : Taken := s.answers (.carrying .done none (.status s.statusData))

def execStatusRead (tag : Nat) (s : State) : Host.Outcome State Fault Refusal := control tag 15 none statusRead s

/-- STATUS CLEAR: bit 0 names LOST_AB and bit 1 LOST_C (R178, R183). -/
def statusClear (flags : Nat) (s : State) : Taken :=
  if 3 < flags then s.refuses (.plain .badForm)
  else (s.onReports (fun q => { q with
    lostAB := q.lostAB && !flags.testBit 0, lostC := q.lostC && !flags.testBit 1 })).answers (.plain .done)

def execStatusClear (tag flags : Nat) (s : State) : Host.Outcome State Fault Refusal :=
  control tag 22 none (statusClear flags) s

/-! ## ALARM ACK (R179) -/

/-- The hold is cleared, and the Route Engine scans the waiting list (R70, R179). -/
def State.clearsHold (s : State) : State :=
  (s.onReports (fun q => { q with hold := false })).doing (fun _ w => w.scanDue)

/-- ALARM ACK (R179). -/
def alarmAck (sequence : Word16) (s : State) : Taken :=
  if !s.live.reports.hold then s.refuses (.plain .ignored)
  else if s.live.reports.latestA = some sequence then s.clearsHold.answers (.plain .done)
  else s.refuses { code := .stale, detail := s.live.reports.latestA.map (fun w => w.toNat), data := .none }

def execAlarmAck (tag : Nat) (sequence : Word16) (s : State) : Host.Outcome State Fault Refusal :=
  control tag 23 none (alarmAck sequence) s

/-! ## QUERY (R180) -/

/-- The counters exported on a link, as the link query returns them (R130, R180): by export number, by the model's choice
(log 44). -/
def Live.exportsOf (t : Tables) (link : Nat) (k : LinkRec) : List (Nat × Octet × Octet) :=
  (t.exportedHeads link).filterMap (fun x => (Map.find x.2 k.exported).map (fun c => (x.1, c)))

/-- An element's record, with the number of claims on it and the state they require (R180). -/
def State.elementData (s : State) (n : Nat) : Option Payload :=
  (Map.find n s.live.elements).map (fun r =>
    let claims := s.live.claims.filter (fun c => c.element == n)
    .element s.clock r claims.length (claims.head?.map (fun c => c.required)))

/-- A section's record (R180). -/
def State.sectionData (s : State) (n : Nat) : Option Payload :=
  (s.live.sectionAt n).map (fun r => .trackSection (s.store.active.isShared n) r)

/-- A slot's record with its claims; a free slot has a record without the fields of a slot in use (R77, R180; log 27). -/
def State.slotData (s : State) (n : Nat) : Option Payload :=
  if n < Config.slotCount ∧ s.mode ≠ .failed then
    some (.slot s.clock n (s.live.slot n) (s.live.claims.filter (fun c => c.slot == n)))
  else none

/-- A link's record with its line records (R180). -/
def State.linkData (s : State) (n : Nat) : Option Payload :=
  (Map.find n s.live.links).map (fun k => .link s.clock k (Live.exportsOf s.store.active n k))

/-- A possession's state and section set (R156, R180; log 27). -/
def State.possessionData (s : State) (n : Nat) : Option Payload :=
  if n ≤ 7 then some (.possession (Map.find n s.possessions)) else none

/-- A table's mark and staged entry; table number 0 gives the marks and the amendment record (R180). -/
def State.tableData (s : State) (number id : Nat) : Option Payload :=
  let m := s.store.marks
  if number = 0 then
    some (.marks [m.elements, m.sections, m.routes, m.boundary, m.options] s.store.amendment)
  else if tableNumber number then some (.table (m.of number) (s.store.staging.entryAt number id))
  else none

/-- The record that a query names (R180); in FAILED only tables and possessions have records. -/
def State.record (s : State) (kind number id : Nat) : Option Payload :=
  match kind with
  | 1 => s.elementData number
  | 2 => s.sectionData number
  | 4 => s.slotData number
  | 6 => s.linkData number
  | 7 => s.possessionData number
  | _ => s.tableData number id

/-- The subject kinds of a query (R180, R182). -/
def queryKind (kind : Nat) : Bool := [1, 2, 4, 6, 7, 8].contains kind

/-- QUERY (R180). -/
def query (kind number id : Nat) (s : State) : Taken :=
  if !queryKind kind then s.refuses (.plain .badForm)
  else match s.record kind number id with
    | some data => s.answers (.carrying .done none data)
    | none => s.refuses (.plain .unknown)

def execQuery (tag kind number id : Nat) (s : State) : Host.Outcome State Fault Refusal :=
  control tag 24 none (query kind number id) s

/-! ## Telegrams without a command (R181) -/

/-- A control telegram of an unknown kind or an unsuitable body is answered BAD_FORM (R181). -/
def execControlBadForm (tag kind : Nat) (s : State) : Host.Outcome State Fault Refusal :=
  control tag kind none (fun s => s.refuses (.plain .badForm)) s

/-- A telegram whose check fails is discarded on every port without an answer: it reaches no record and restarts no expiry
(R45, R131, R181). -/
def execCheckFailedTelegram (_port : Port) (s : State) : Host.Outcome State Fault Refusal := .next s

end Sys2Proof.Machine
end

