-- ==== Sys2Proof/Machine/Dispatch.lean ====
section
/-! DEFINITION. Each command's meaning: one arm for each row of spec/opcode_table.json, in its order. -/

namespace Sys2Proof.Machine

/-- The effect of a command on everything but the queue of commands. -/
def exec (i : Instr) (s : State) : Host.Outcome State Fault Refusal :=
  match i with
  | .routeCall tag route fleet patience => Sys2Proof.Machine.execRouteCall tag route fleet patience s
  | .routeCancel tag route => Sys2Proof.Machine.execRouteCancel tag route s
  | .fleetStop tag route => Sys2Proof.Machine.execFleetStop tag route s
  | .releaseArm tag slot => Sys2Proof.Machine.execReleaseArm tag slot s
  | .releaseConfirm tag slot => Sys2Proof.Machine.execReleaseConfirm tag slot s
  | .stageHold tag route stage action => Sys2Proof.Machine.execStageHold tag route stage action s
  | .stageStep tag route => Sys2Proof.Machine.execStageStep tag route s
  | .elementOrder tag element order => Sys2Proof.Machine.execElementOrder tag element order s
  | .sectionReset tag number => Sys2Proof.Machine.execSectionReset tag number s
  | .possessionTake tag possession sections => Sys2Proof.Machine.execPossessionTake tag possession sections s
  | .possessionGive tag possession => Sys2Proof.Machine.execPossessionGive tag possession s
  | .modeSet tag mode => Sys2Proof.Machine.execModeSet tag mode s
  | .restart tag => Sys2Proof.Machine.execRestart tag s
  | .tableFreeze tag => Sys2Proof.Machine.execTableFreeze tag s
  | .statusRead tag => Sys2Proof.Machine.execStatusRead tag s
  | .statusClear tag flags => Sys2Proof.Machine.execStatusClear tag flags s
  | .tableFresh tag table => Sys2Proof.Machine.execTableFresh tag table s
  | .tableAmend tag table => Sys2Proof.Machine.execTableAmend tag table s
  | .tableEntry tag table id content => Sys2Proof.Machine.execTableEntry tag table id content s
  | .tableCommit tag word => Sys2Proof.Machine.execTableCommit tag word s
  | .areaIdentity tag identity => Sys2Proof.Machine.execAreaIdentity tag identity s
  | .reportFetch tag count => Sys2Proof.Machine.execReportFetch tag count s
  | .alarmAck tag sequence => Sys2Proof.Machine.execAlarmAck tag sequence s
  | .query tag kind number id => Sys2Proof.Machine.execQuery tag kind number id s
  | .controlBadForm tag kind => Sys2Proof.Machine.execControlBadForm tag kind s
  | .checkFailedTelegram port => Sys2Proof.Machine.execCheckFailedTelegram port s
  | .status address content => Sys2Proof.Machine.execStatus address content s
  | .fieldOrderSent => Sys2Proof.Machine.execFieldOrderSent s
  | .presence port identity version lines => Sys2Proof.Machine.execPresence port identity version lines s
  | .counts port entries => Sys2Proof.Machine.execCounts port entries s
  | .directionAsk port line number => Sys2Proof.Machine.execDirectionAsk port line number s
  | .directionReply port line number verdict => Sys2Proof.Machine.execDirectionReply port line number verdict s
  | .presenceInterval => Sys2Proof.Machine.execPresenceInterval s
  | .freshnessExpiry element => Sys2Proof.Machine.execFreshnessExpiry element s
  | .movementExpiry element => Sys2Proof.Machine.execMovementExpiry element s
  | .provingExpiry element => Sys2Proof.Machine.execProvingExpiry element s
  | .patienceExpiry route => Sys2Proof.Machine.execPatienceExpiry route s
  | .overlapExpiry slot => Sys2Proof.Machine.execOverlapExpiry slot s
  | .timedReleaseExpiry slot => Sys2Proof.Machine.execTimedReleaseExpiry slot s
  | .releaseArmExpiry => Sys2Proof.Machine.execReleaseArmExpiry s
  | .lastHeardExpiry link => Sys2Proof.Machine.execLastHeardExpiry link s
  | .askExpiry link line => Sys2Proof.Machine.execAskExpiry link line s
  | .powerOn => Sys2Proof.Machine.execPowerOn s
  | .loadEnd => Sys2Proof.Machine.execLoadEnd s
  | .powerLoss => Sys2Proof.Machine.execPowerLoss s
  | .validationDone => Sys2Proof.Machine.execValidationDone s
  | .comparisonDone => Sys2Proof.Machine.execComparisonDone s
  | .storeWriteDone => Sys2Proof.Machine.execStoreWriteDone s
  | .restoringWriteDone => Sys2Proof.Machine.execRestoringWriteDone s
  | .possessionWriteDone => Sys2Proof.Machine.execPossessionWriteDone s
  | .identityWriteDone => Sys2Proof.Machine.execIdentityWriteDone s

end Sys2Proof.Machine
end

