-- ==== Sys2Proof/Safety.lean ====
section
/-! DEFINITION. What a safe run keeps: the laws that the manual states for every moment, as tests of a state; the words that
the statements about commands share; and the constraints on the tables (R3 to R17), each as a proposition of its own. -/

namespace Sys2Proof.Machine

/-! ## Laws of every moment -/

/-- The condition that holds in a section's state, and the balance range (R19, R24). -/
def SectionRec.lawful (r : SectionRec) : Bool :=
  r.balance ≤ Config.maxBalance &&
  match r.state with
  | .clear => r.balance == 0 && r.causes.isEmpty
  | .occupied => 0 < r.balance && r.causes.isEmpty
  | .disturbed => !r.causes.isEmpty
  | .sweep => r.causes.isEmpty

/-- Every section record keeps the law of its state (R19, R24). -/
def State.sectionsLawful (s : State) : Bool := s.live.sections.all (fun x => x.2.lawful)

/-- Every store of the part holds at most its number of items: the Report Queue 128 (R175), the field order queue 32 (R55),
the waiting list 16 (R69), the claim pool 256 (R98), the hold entries 8 (R94), the amendment record 8 (R166). -/
def State.withinSizes (s : State) : Bool :=
  s.live.reports.reports.length ≤ Config.reportPlaces && s.live.queue.length ≤ Config.orderPlaces &&
  s.live.waiting.length ≤ Config.waitingPlaces && s.live.claims.length ≤ Config.claimPool &&
  s.stageHolds.length ≤ Config.holdPlaces && s.store.amendment.length ≤ Config.amendPlaces

/-- Outside IN_SERVICE and COMMISSIONING no slot is in use and no request waits (R75, R162, 10.2). -/
def State.trafficLawful (s : State) : Bool := s.mode.inTraffic || (s.live.slots.isEmpty && s.live.waiting.isEmpty)

/-- A slot's number is in use. -/
def Live.inUse (l : Live) (n : Nat) : Bool := Map.has n l.slots

/-- Every section lock, route lock, entry-of-slot, claim and arm names a slot in use (R78, R79, R98, R119, R126). -/
def Live.holdersInUse (l : Live) : Bool :=
  l.sections.all (fun x => x.2.lock.all (fun k => l.inUse k.1)) &&
  l.elements.all (fun x => match x.2 with
    | .point r => r.routeLock.all (fun k => l.inUse k.1)
    | .signal r => r.entryOf.all l.inUse
    | .head _ => true) &&
  l.claims.all (fun c => l.inUse c.slot) && l.arm.all (fun a => l.inUse a.slot)

/-- Our line-clear flag of every line is set exactly while every line section is CLEAR and without a lock holder (R135). -/
def State.lineFlagsLawful (s : State) : Bool :=
  s.live.links.all (fun k => k.2.lines.all (fun y => y.2.lineClear ==
    (s.store.active.lineEntry k.1 y.1).any (fun x => x.sections.all (fun n =>
      (s.live.sectionAt n).any (fun r => r.state == .clear && r.lock.isNone)))))

/-- A commit is in progress in SUSPENDED and FAILED only (R162, R167, R171). -/
def State.commitLawful (s : State) : Bool := s.store.commit.isNone || s.mode == .suspended || s.mode == .failed

/-- A claim is proven exactly while its element shows the required state: a point evaluated in the position, a signal proven
and commanded DANGER (R106). -/
def Live.claimLawful (l : Live) (c : Claim) : Bool :=
  c.proven == match c.required with
    | .position p => (l.point c.element).any (fun r => r.evaluated == some p)
    | .danger => (l.signal c.element).any (fun r => r.proven == some .danger && r.commanded == .danger)

/-- The law of R106, with the laws of the slots, the mode and the commit that keep it: no slot, so no claim, stands when a load
or a commit renews elements. -/
def State.claimsLawful (s : State) : Bool :=
  s.live.claims.all s.live.claimLawful && s.live.holdersInUse && s.trafficLawful && s.commitLawful

/-- No two possessions share a section (R158). -/
def disjointSets (possessions : Map (List Nat)) : Bool :=
  possessions.all (fun x => possessions.all (fun y => x.1 == y.1 || x.2.all (fun n => !y.2.contains n)))

/-- The law of R158: no two granted possessions share a section; each of their sections carries the number and has no lock
holder (R78), and no point of theirs holds a route lock or a claim. -/
def State.possessionsApart (s : State) : Bool :=
  disjointSets s.possessions &&
  s.possessions.all (fun x => x.2.all (fun n =>
    (s.live.sectionAt n).any (fun r => r.possession == some x.1 && r.lock.isNone) &&
    (s.store.active.pointsOf n).all (fun p =>
      (s.live.point p).all (fun r => r.routeLock.isNone) && s.live.claims.all (fun c => c.element != p))))

/-- Possession records fit a table: disjoint, and of present sections (R156, R160). -/
def Tables.fits (t : Tables) (possessions : Map (List Nat)) : Bool :=
  disjointSets possessions && possessions.all (fun x => x.2.all (fun n => Map.has n t.sections))

/-- Every required point lies in a path or overlap section of its route (constraint 322). -/
def Tables.pointsInRoutes (t : Tables) : Bool :=
  t.routes.all (fun x => x.2.requirements.all (fun y => (t.pointSection y.1).any x.2.lockedSections.contains))

/-- What keeps the law of R158: constraint 322 in the active tables, in the stored image and in a staging image past its
validation; a record for exactly the present sections; stored possessions, and those of the writes that run, that fit their
tables; and outside START and FAILED, where no possession write runs, a stored image of the active tables. -/
def State.possessionsFounded (s : State) : Bool :=
  s.store.active.pointsInRoutes &&
  s.store.commit.all (fun c => c.phase == .validation || s.store.staging.pointsInRoutes) &&
  s.live.sections.all (fun x => Map.has x.1 s.store.active.sections) &&
  s.store.active.sections.all (fun x => Map.has x.1 s.live.sections) &&
  s.nv.image.all (fun i => i.tables.pointsInRoutes && i.tables.fits i.possessions) &&
  s.possessionWrites.all (fun x => s.store.active.fits x.records) &&
  (if s.mode == .start || s.mode == .failed then s.possessionWrites.isEmpty
    else s.nv.image.all (fun i => i.tables == s.store.active))

/-- The law of R158 with what keeps it. -/
def State.possessionsLawful (s : State) : Bool :=
  s.possessionsApart && s.possessionsFounded && s.live.holdersInUse && s.trafficLawful && s.commitLawful

/-! ## Laws of the orders (R55, R56, R79, R87) -/

/-- The ids of a collection rise (R1). -/
def Map.rising {α : Type} (m : Map α) : Bool := decide ((Map.ids m).Pairwise (fun a b => a < b))

/-- At most one order waits for any one element, queued or pending (R55). -/
def Live.ordersOnce (l : Live) : Bool :=
  decide ((l.queue.map (fun x => x.element)).Nodup) && l.queue.all (fun x => (l.pendingOrder x.element).isNone)

/-- The positions that a point's route lock and the claims on it require (R79). -/
def Live.wanted (l : Live) (n : Nat) : List Position :=
  (((l.point n).bind (fun r => r.routeLock)).map (fun k => k.2)).toList ++
  (l.claims.filter (fun c => c.element == n)).filterMap (fun c => match c.required with
    | .position p => some p
    | .danger => none)

/-- The orders that wait for an element, queued and pending (R55). -/
def Live.waitingOrders (l : Live) (n : Nat) : List Order :=
  (l.queue.filter (fun x => x.element == n)).map (fun x => x.order) ++ (l.pendingOrder n).toList

/-- For every point its route lock and every claim on it require one position (R79), and an order that waits to move it is for
that position (R56). -/
def Live.pointsAgree (l : Live) : Bool :=
  (Map.ids l.elements ++ l.claims.map (fun c => c.element)).all (fun n => (l.wanted n).all (fun p =>
    (l.wanted n).all (fun q => q == p) && (l.waitingOrders n).all (fun o => match o with
      | .position q => q == p
      | .aspect _ => true)))

/-- Only the entry signal of a slot in CLEARING or CLEAR is commanded off DANGER (R87). -/
def Live.restAtDanger (t : Tables) (l : Live) : Bool :=
  (Map.ids l.elements).all (fun g => (l.signal g).all (fun r => r.commanded == .danger ||
    l.slots.any (fun x => (x.2.state == .clearing || x.2.state == .clear) && t.entryOf x.2 == some g)))

/-- No flank candidate of a route is one of its required points (constraint 335). -/
def Tables.flankApart (t : Tables) : Bool :=
  t.routes.all (fun x => x.2.flank.all (fun f => f.candidates.all (fun c => !Map.has c.element x.2.requirements)))

/-- What keeps the laws of the orders: constraint 335 in the active tables, in the stored image and in a staging image past its
validation; rising ids; a signal's record only for a present signal; and an entry-of-slot that names a slot of a route with that
entry signal (R79). -/
def State.ordersFounded (s : State) : Bool :=
  s.store.active.flankApart && Map.rising s.store.active.elements && Map.rising s.store.staging.elements &&
  s.store.commit.all (fun c => c.phase == .validation || s.store.staging.flankApart) &&
  s.nv.image.all (fun i => i.tables.flankApart && Map.rising i.tables.elements) &&
  Map.rising s.live.elements && Map.rising s.live.slots &&
  s.live.elements.all (fun x => match x.2 with
    | .signal r => s.store.active.isSignal x.1 &&
      r.entryOf.all (fun n => (s.live.slot n).any (fun y => s.store.active.entryOf y == some x.1))
    | _ => true)

/-- The laws of R55, R56, R79 and R87, with what keeps them and the laws of the slots, the mode and the commit. -/
def State.ordersLawful (s : State) : Bool :=
  s.live.ordersOnce && s.live.pointsAgree && s.live.restAtDanger s.store.active && s.ordersFounded && s.trafficLawful &&
  s.commitLawful

/-! ## Words of the statements -/

/-- The part has power and is past START, so a control telegram is decided by its own rule. -/
def State.Running (s : State) : Prop := s.power = true ∧ s.mode ≠ .start

/-- s with one more telegram sent, and nothing else changed. -/
def State.sending (x : Sent) (s : State) : State := { s with live := { s.live with sent := s.live.sent ++ [x] } }

/-- An ANSWER with its code alone. -/
def codeAnswer (tag kind : Nat) (code : Code) : Sent := .answer tag kind code none .none

/-- An ANSWER with a code and a detail value. -/
def detailAnswer (tag kind : Nat) (code : Code) (detail : Nat) : Sent := .answer tag kind code (some detail) .none

/-- s with the work of its step ended: every hand-over settled, the scans made and the element notices sent. -/
def State.ending (w : Work) (s : State) : State := { s with live := Work.finish s.env w }

/-- The moment at which the timer of a timer's command expires, where that timer is set (R42 to R44, R69, R77, R124, R130,
R134); other commands have no timer. -/
def State.timerOf (s : State) : Instr → Option Nat
  | .presenceInterval => s.presenceDue
  | .freshnessExpiry n => (Map.find n s.live.elements).bind ElementRec.freshness
  | .movementExpiry n => ((s.live.point n).bind (fun r => r.movement)).map (fun m => m.2)
  | .provingExpiry n => (s.live.signal n).bind (fun r => r.proving)
  | .patienceExpiry route => (s.live.waiting.find? (fun q => q.route == route)).map (fun q => q.expiry)
  | .overlapExpiry n => ((s.live.slot n).filter (fun x => x.state == .entered && x.overlap == some .timing)).bind
      (fun x => x.timer.map (fun y => y.expiry))
  | .timedReleaseExpiry n => ((s.live.slot n).filter (fun x => x.state == .timedRelease)).bind
      (fun x => x.timer.map (fun y => y.expiry))
  | .releaseArmExpiry => s.live.arm.map (fun a => a.expiry)
  | .lastHeardExpiry link => (Map.find link s.live.links).bind (fun k => k.lastHeard)
  | .askExpiry link line => ((s.live.line link line).bind (fun y => y.ask)).map (fun a => a.2)
  | _ => none

/-- No record stands twice: elements, slots, links, the lines of a link, waiting routes. -/
def Live.recordsOnce (l : Live) : Prop :=
  (Map.ids l.elements).Nodup ∧ (Map.ids l.slots).Nodup ∧ (Map.ids l.links).Nodup ∧
  (∀ k ∈ l.links, (Map.ids k.2.lines).Nodup) ∧ (l.waiting.map (fun q => q.route)).Nodup

/-- What counting and resets write of a section: all but the lock holder, which the Route Engine writes (R18). -/
def SectionRec.counted (r : SectionRec) : SectionRec := { r with lock := none }

/-- What statuses write of an element: all but what an order, a route lock and a slot write (R42, R43). -/
def ElementRec.reported : ElementRec → ElementRec
  | .point r => .point { r with persistence := 0, movement := none, routeLock := none, pendingOrder := none }
  | .signal r => .signal { r with commanded := .danger, proving := none, entryOf := none, pendingOrder := none }
  | .head r => .head r

/-- What a neighbour's telegrams write of a line: all but our flag and our ask (R130). -/
def LineRec.agreed (y : LineRec) : LineRec := { y with lineClear := false, nextAsk := 0, ask := none }

/-- What a neighbour's telegrams write of a link (R130). -/
def LinkRec.agreed (k : LinkRec) : LinkRec := { k with lines := Map.each LineRec.agreed k.lines }

/-- The section's record as counting wrote it. -/
def State.countedAt (s : State) (n : Nat) : Option SectionRec := (s.live.sectionAt n).map SectionRec.counted

/-- The element's record as statuses wrote it. -/
def State.reportedAt (s : State) (n : Nat) : Option ElementRec := (Map.find n s.live.elements).map ElementRec.reported

/-- The link's record as the neighbour's telegrams wrote it. -/
def State.agreedAt (s : State) (n : Nat) : Option LinkRec := (Map.find n s.live.links).map LinkRec.agreed

/-- The content is of the element's kind (R45). -/
def StatusContent.suits : StatusContent → ElementRec → Bool
  | .position _, .point _ => true
  | .aspect _, .signal _ => true
  | .counts _ _, .head _ => true
  | _, _ => false

/-- WRONG_KIND has been queued for the element (R45). -/
def ElementRec.wrongSeen : ElementRec → Bool
  | .point r => r.wrongKind
  | .signal r => r.wrongKind
  | .head r => r.wrongKind

/-- WRONG_KIND is remembered for the element (R45). -/
def ElementRec.rememberWrong : ElementRec → ElementRec
  | .point r => .point { r with wrongKind := true }
  | .signal r => .signal { r with wrongKind := true }
  | .head r => .head { r with wrongKind := true }

/-- The field order queue is full: it holds 32 orders, or a pending order is held (R55). -/
def State.queueIsFull (s : State) : Prop :=
  Config.orderPlaces ≤ s.live.queue.length ∨ ∃ x ∈ s.live.elements, x.2.pendingOrder ≠ none

/-- An order of the element waits, in the queue or as pending (R55). -/
def State.orderWaits (s : State) (n : Nat) : Prop :=
  (∃ x ∈ s.live.queue, x.element = n) ∨ s.live.pendingOrder n ≠ none

/-- The order of the element waits, in the queue or as pending (R55). -/
def Live.waits (l : Live) (n : Nat) (o : Order) : Prop :=
  (∃ x ∈ l.queue, x.element = n ∧ x.order = o) ∨ l.pendingOrder n = some o

/-- Some order of the point waits that is not for position q (R56). -/
def Live.waitsOther (l : Live) (p : Nat) (q : Position) : Prop :=
  (∃ x ∈ l.queue, x.element = p ∧ x.order ≠ .position q) ∨ ∃ o, l.pendingOrder p = some o ∧ o ≠ .position q

/-- What comes of a point that is locked or claimed in position q, from a state to the records after: a waiting order for the
other position is turned to q, and the movement with it (R56), and a point that stands still elsewhere is ordered to q when it
may be (R80, R103); what it shows is as it was. -/
def PointPlaced (s : State) (l : Live) (p : Nat) (q : Position) (may : Prop) : Prop :=
  ∀ y, s.live.point p = some y → ∃ z, l.point p = some z ∧ z.evaluated = y.evaluated ∧ z.supervised = y.supervised ∧
    z.moveFailed = y.moveFailed ∧ ¬ l.waitsOther p q ∧
    let moving := some (q, s.clock + s.store.active.moveLimit p)
    (y.movement ≠ none →
      (s.live.waitsOther p q → z.movement = moving) ∧ (¬ s.live.waitsOther p q → z.movement = y.movement)) ∧
    (y.movement = none →
      (may → y.evaluated ≠ some q → z.movement = moving ∧ z.persistence = 0 ∧ l.waits p (.position q)) ∧
      (¬ may ∨ y.evaluated = some q → z.movement = none))

/-- A point is held by a route lock or a claim (R147, R157). -/
def Live.pointHeld (l : Live) (p : Nat) : Prop :=
  (∃ r, l.point p = some r ∧ r.routeLock ≠ none) ∨ ∃ c ∈ l.claims, c.element = p

/-- A link's record once a head's counters have been passed to the Boundary Unit (R36, R138): the pair is held for a head that
is exported on the link, and every other link is as it was. -/
def Tables.passed (t : Tables) (n : Nat) (nA nB : Octet) (link : Nat) (k : LinkRec) : LinkRec :=
  if (t.exportTarget n).any (fun x => x.1 == link) && Map.find n k.exported != some (nA, nB) then
    { k with exported := Map.put n (nA, nB) k.exported }
  else k

/-- A head's new counters are sent: where the pair is not the one held for its link, a COUNTS that carries it is among the
telegrams sent (R138). -/
def CountersSent (s t : State) (n : Nat) (nA nB : Octet) : Prop :=
  ∀ link number k, s.store.active.exportTarget n = some (link, number) →
    Map.find number (s.store.active.exportedHeads link) = some n → Map.find link s.live.links = some k →
    Map.find n k.exported ≠ some (nA, nB) →
    ∃ a entries b, t.live.sent = s.live.sent ++ a ++ .counts link entries :: b ∧
      { number := number, nA := nA, nB := nB } ∈ entries

/-- What a head's counters do to the sections it bounds, between two states: absent references take the counters alone; a
delta above the step limit adds STEP to each; otherwise each takes its net change. Other sections are not counted. -/
def HeadCounted (s t : State) (n : Nat) (h : HeadRec) (nA nB : Octet) : Prop :=
  t.reportedAt n = some (.head { h with
    supervised := true, freshness := some (s.clock + s.store.active.supervision n), references := some (nA, nB) }) ∧
  (h.references = none → ∀ sec, t.countedAt sec = s.countedAt sec) ∧
  (∀ cA cB, h.references = some (cA, cB) →
    let dA := delta nA cA
    let dB := delta nB cB
    let limit := s.store.active.stepLimit n
    (∀ sec inA, (sec, inA) ∈ s.store.active.boundedBy n → t.countedAt sec = (s.live.sectionAt sec).map (fun y =>
      if limit < dA ∨ limit < dB then ((y.addCause .step).1.leaveClear y.state).counted
      else ((y.applyNet (netChange inA dA dB)).1.leaveClear y.state).counted)) ∧
    ∀ sec, (∀ inA, (sec, inA) ∉ s.store.active.boundedBy n) → t.countedAt sec = s.countedAt sec)

/-- The required points of a route, as a slot orders them (R80), from the records before to those after: a point that is not
detected in its required position, is supervised, stands still, has not failed and is held nowhere against it begins to move
there, with its order waiting; any other is as it was. -/
def PointsOrdered (e : Env) (r : RouteEntry) (before after : Live) : Prop :=
  ∀ p q y, Map.find p r.requirements = some q → before.point p = some y →
    let ordered := y.evaluated ≠ some q ∧ y.supervised = true ∧ y.movement = none ∧ y.moveFailed = false ∧
      (∀ m a, y.routeLock = some (m, a) → a = q) ∧
      ∀ c ∈ before.claims, c.element = p → c.required = .position q
    (¬ ordered → after.point p = some y) ∧
    (ordered → after.waits p (.position q) ∧ ∃ z, after.point p = some z ∧ z = { y with
      movement := some (q, e.clock + e.tables.moveLimit p), persistence := 0
      pendingOrder := z.pendingOrder })

/-- The signal stands ordered to an aspect: it is commanded to it, and its proving time begins now (R52). -/
def Live.ordered (e : Env) (g : Nat) (a : Aspect) (l : Live) : Prop :=
  ∃ z, l.signal g = some z ∧ z.commanded = a ∧ z.proving = some (e.clock + e.tables.provingTime g)

/-- Some overlap sections of a slot x in ENTERED are given back (R118, R119), between two steps at work: each loses this
slot's lock, the slot's route locks of the points that lie in them go, and these points may be placed for the claims on them.
No claim goes. With no overlap section left the overlap is RELEASED, and the slot is freed when its path is complete too;
otherwise it stays TIMING. No timer is left. -/
def OverlapReleased (e : Env) (n : Nat) (x : Slot) (r : RouteEntry) (given : Nat → Prop) (before after : Work) : Prop :=
  ∃ (w : Work) (z : Slot), w.live.slot n = some z ∧ z = { x with timer := none, overlap := z.overlap } ∧
    (∀ sec y, before.live.sectionAt sec = some y →
      (given sec → y.lock.map (fun k => k.1) = some n →
        w.live.sectionAt sec = some { y with lock := none }) ∧
      (¬ given sec ∨ y.lock.map (fun k => k.1) ≠ some n → w.live.sectionAt sec = some y)) ∧
    (∀ p y, before.live.point p = some y →
      let lies := ∃ sec, e.tables.pointSection p = some sec ∧ given sec
      (lies → y.routeLock.map (fun k => k.1) = some n →
        w.live.point p = some { y with routeLock := none } ∧ p ∈ w.places) ∧
      (¬ lies ∨ y.routeLock.map (fun k => k.1) ≠ some n → w.live.point p = some y)) ∧
    w.live.claims = before.live.claims ∧ w.live.queue = before.live.queue ∧ w.live.reports = before.live.reports ∧
    (∀ m ≠ n, w.live.slot m = before.live.slot m) ∧ w.todo = before.todo ∧ w.scan = true ∧
    let noneLeft := ∀ sec ∈ r.overlap, w.live.holder sec ≠ some (n, .overlap)
    let complete := ∀ sec ∈ r.path, w.live.holder sec ≠ some (n, .path)
    (noneLeft → z.overlap = some .released) ∧ (¬ noneLeft → z.overlap = some .timing) ∧
    (noneLeft → complete → after = w.freeSlot e n) ∧ (¬ noneLeft ∨ ¬ complete → after = w)

/-- The overlap sections that an overlap expiry gives back: those that are not OCCUPIED (R118). -/
def Live.vacatedOverlap (r : RouteEntry) (l : Live) (sec : Nat) : Prop :=
  sec ∈ r.overlap ∧ ∃ z, l.sectionAt sec = some z ∧ z.state ≠ .occupied

/-- A slot has gone from LOCKED to CLEARING (R87, R88): the aspect of its exit is ordered for its entry signal. -/
def ClearsFrom (e : Env) (n : Nat) (x : Slot) (r : RouteEntry) (before after : Live) : Prop :=
  after.slot n = some { x with state := .clearing, held := none, aspect := some (before.chosenAspect r) } ∧
  ∀ y, before.signal r.entrySignal = some y → after.ordered e r.entrySignal (before.chosenAspect r)

/-- A slot x enters LOCKED (R82): it is held there when R95 requires it, and otherwise clears at once when the conditions of R87
hold. -/
def EntersLocked (e : Env) (n : Nat) (x : Slot) (r : RouteEntry) (before after : Live) : Prop :=
  let holds := e.mode = .commissioning ∧ (x.route, Stage.locked) ∈ e.holds
  (holds → after.slot n = some { x with state := .locked, held := some .locked }) ∧
  (¬ holds → before.clearable n r = true → ClearsFrom e n x r before after) ∧
  (¬ holds → before.clearable n r = false → after.slot n = some { x with state := .locked, held := none })

/-- The slots in use, in the order of their records, that a condition on the slot and its route chooses. -/
def Live.Chosen (e : Env) (who : Slot → RouteEntry → Prop) (l : Live) (ms : List Nat) : Prop :=
  ms.Sublist (Map.ids l.slots) ∧
  ∀ n, n ∈ ms ↔ ∃ y ∈ l.slots, y.1 = n ∧ ∃ r, Map.find y.2.route e.tables.routes = some r ∧ who y.2 r

/-- Between two steps at work every slot that a condition chooses acts once, in a free order (log 3). -/
def Work.Reaches (e : Env) (who : Slot → RouteEntry → Prop) (act : Nat → Work → Work) (before after : Work) : Prop :=
  ∃ ms ns choices, before.live.Chosen e who ms ∧ List.Perm ns ms ∧
    after = ns.foldl (fun v n => act n v) (before.on (fun l => { l with choices := choices }))

/-- The PRESENCE of a link, from its record and the sections as they stand (R134), and the COUNTS that follows it (R138). -/
def State.presenceOn (s : State) (k : Nat × LinkRec) : List Sent :=
  [ .presence k.1 s.nv.identity s.store.version (k.2.lines.map (fun y =>
      { number := y.1, owner := y.2.owner, askOutstanding := y.2.ask.isSome, lineClear := y.2.lineClear,
        shared := (((s.store.active.lineEntry k.1 y.1).bind (fun z => z.shared)).bind s.live.sectionAt).map
          (fun r => r.state) })),
    .counts k.1 (s.live.countsOut s.store.active k.1) ]

/-- The number of the table that an entry belongs to (R1). -/
def Staged.table : Staged → Nat
  | .element _ => 1
  | .trackSection _ => 2
  | .route _ => 3
  | .boundary _ => 4
  | .options _ => 5

def Location.fits : Location → Bool
  | .field a => fits2 a
  | .remote link n => fits1 link && fits1 n

/-- The fields fit; a kind octet without a layout is none of 1 to 3 (log 17). -/
def ElementBody.fits : ElementBody → Bool
  | .point sec limit p => fits1 sec && fits1 limit && fits1 p
  | .signal time => fits1 time
  | .head limit x => fits1 limit && x.all (fun y => fits1 y.1 && fits1 y.2)
  | .other k => fits1 k && (k == 0 || 3 < k)

/-- A list has as many items as its count octet can say (R182), and each of them fits. -/
def listFits {α : Type} (f : α → Bool) (xs : List α) : Bool := xs.length ≤ 255 && xs.all f

/-- A flank entry has a primary and at most two substitutes (R11; log 17). -/
def FlankEntry.fits (f : FlankEntry) : Bool :=
  fits1 f.index && 1 ≤ f.candidates.length && f.candidates.length ≤ 3 &&
  f.candidates.all (fun c => fits2 c.element && fits1 c.state)

def RouteEntry.fits (r : RouteEntry) : Bool :=
  fits2 r.entrySignal &&
  (match r.exit with
    | .signal g => fits2 g
    | .line link n => fits1 link && fits1 n) &&
  fits1 r.approachTime && fits1 r.overlapTime && fits1 r.fleeting && listFits fits1 r.path &&
  listFits (fun x => fits2 x.element && fits1 x.position) r.points && listFits fits1 r.overlap &&
  listFits fits1 r.approach && listFits FlankEntry.fits r.flank && listFits fits2 r.opposing

def LineEntry.fits (x : LineEntry) : Bool :=
  fits1 x.number && fits1 x.senior && listFits fits1 x.sections && x.shared.all fits1

/-- Every field of a table entry fits its octets (R183). -/
def Staged.fits : Staged → Bool
  | .element e => e.location.fits && fits1 e.supervision && e.body.fits
  | .trackSection e => listFits (fun i => fits2 i.head && fits1 i.direction) e.heads
  | .route r => r.fits
  | .boundary b => fits1 b.supervision && fits1 b.replyTimeout && listFits LineEntry.fits b.lines
  | .options o => fits1 o.stopOnAlarm && fits1 o.watermark && fits1 o.stateNotices

/-! ## The constraints of the tables, as Chapter 1 gives them -/

/-- One constraint of one entry: the kind and number of the report's subject, the constraint number, and what it asks (R17). -/
structure TableRule where
  kind : SubjectKind
  number : Nat
  constraint : Nat
  holds : Prop

/-- The rules of one entry. -/
def rulesOf (kind : SubjectKind) (number : Nat) (rs : List (Nat × Prop)) : List TableRule :=
  rs.map (fun x => ⟨kind, number, x.1, x.2⟩)

/-- A present local SIGNAL element. -/
def Tables.LocalSignal (t : Tables) (g : Nat) : Prop :=
  ∃ x a time, Map.find g t.elements = some x ∧ x.location = .field a ∧ x.body = .signal time

/-- A present local POINT element. -/
def Tables.LocalPoint (t : Tables) (p : Nat) : Prop :=
  ∃ x a sec limit persistence, Map.find p t.elements = some x ∧ x.location = .field a ∧
    x.body = .point sec limit persistence

/-- Every section of a list is present, and none is repeated. -/
def Tables.PresentOnce (t : Tables) (ns : List Nat) : Prop :=
  (∀ n ∈ ns, ∃ x, Map.find n t.sections = some x) ∧ ns.Nodup

/-- 131 to 135 (R6); of a head that a section lists twice the first item counts (log 39). -/
def Tables.headRules (t : Tables) (id : Nat) (e : ElementEntry) (limit : Nat) (x : Option (Nat × Nat)) :
    List (Nat × Prop) :=
  let listing := t.sections.filter (fun s => s.2.heads.any (fun i => i.head == id))
  let direction := fun (s : Nat × SectionEntry) =>
    (s.2.heads.find? (fun i => i.head == id)).map (fun i => i.direction)
  [ (131, 1 ≤ limit ∧ limit ≤ 63),
    (132, listing.length = 1 ∨ listing.length = 2),
    (133, ∀ a b, listing = [a, b] → (direction a = some 1 ∧ direction b = some 2) ∨
      (direction a = some 2 ∧ direction b = some 1)),
    (134, ∀ link n, x = some (link, n) → (∃ a, e.location = .field a) ∧
      (∃ b, Map.find link t.boundary = some b) ∧ n ≤ 63),
    (135, ∀ target, x = some target → ∀ y ∈ t.elements, y.1 < id → t.exportTarget y.1 ≠ some target) ]

/-- 101 to 135, by the kind of the element (R3 to R6). -/
def Tables.elementRules (t : Tables) (id : Nat) (e : ElementEntry) : List (Nat × Prop) :=
  [ (101, ∀ kind, e.body ≠ .other kind),
    (102, 2 ≤ e.supervision ∧ e.supervision ≤ 50),
    (103, ∀ link n, e.location = .remote link n → ∃ limit x, e.body = .head limit x),
    (104, ∀ a, e.location = .field a → a ≤ 4095 ∧ ∀ y ∈ t.elements, y.1 < id → y.2.location ≠ .field a),
    (105, ∀ link n, e.location = .remote link n → (∃ b, Map.find link t.boundary = some b) ∧ n ≤ 63 ∧
      ∀ y ∈ t.elements, y.1 < id → y.2.location ≠ .remote link n),
    (106, ∀ link n, e.location = .remote link n → 20 ≤ e.supervision) ] ++
  match e.body with
  | .point sec limit p =>
    [ (111, ∃ x, Map.find sec t.sections = some x), (112, 1 ≤ limit ∧ limit ≤ 30), (113, 1 ≤ p ∧ p ≤ 8) ]
  | .signal time => [(121, 1 ≤ time ∧ time ≤ 10)]
  | .head limit x => t.headRules id e limit x
  | .other _ => []

/-- 201 to 205 (R7). -/
def Tables.sectionRules (t : Tables) (id : Nat) (e : SectionEntry) : List (Nat × Prop) :=
  [ (201, 1 ≤ e.heads.length ∧ e.heads.length ≤ 6),
    (202, ∀ i ∈ e.heads, ∃ x limit out, Map.find i.head t.elements = some x ∧ x.body = .head limit out),
    (203, (e.heads.map (fun i => i.head)).Nodup),
    (204, ∀ i ∈ e.heads, i.direction = 1 ∨ i.direction = 2),
    (205, ∀ i ∈ e.heads, ∀ link, t.remoteLink i.head = some link →
      (∀ j ∈ e.heads, ∀ other, t.remoteLink j.head = some other → other = link) ∧
      ∃ b, Map.find link t.boundary = some b ∧ ∃ x ∈ b.lines, x.shared = some id) ]

/-- 301 to 314 (R8, R9); a route without a path section is taken to differ in 303 from every route that has one (log 38). -/
def Tables.layoutRules (t : Tables) (id : Nat) (r : RouteEntry) : List (Nat × Prop) :=
  [ (301, t.LocalSignal r.entrySignal),
    (302, (∀ g, r.exit = .signal g → t.LocalSignal g ∧ g ≠ r.entrySignal) ∧
      ∀ link n, r.exit = .line link n → ∃ b, Map.find link t.boundary = some b ∧ ∃ x ∈ b.lines, x.number = n),
    (303, ∀ y ∈ t.routes, y.1 < id → y.2.entrySignal = r.entrySignal → y.2.path.head? = r.path.head?),
    (311, 1 ≤ r.path.length ∧ r.path.length ≤ 12 ∧ t.PresentOnce r.path),
    (312, r.overlap.length ≤ 3 ∧ t.PresentOnce r.overlap ∧ ∀ n ∈ r.overlap, n ∉ r.path),
    (313, r.approach.length ≤ 3 ∧ t.PresentOnce r.approach ∧ ∀ n ∈ r.approach, n ∉ r.path ∧ n ∉ r.overlap),
    (314, ∀ link n, r.exit = .line link n → r.overlap = [] ∧
      ∃ x last, t.lineEntry link n = some x ∧ r.path.getLast? = some last ∧ last ∈ x.sections) ]

/-- 321 to 335 (R10, R11). -/
def Tables.protectionRules (t : Tables) (r : RouteEntry) : List (Nat × Prop) :=
  let inRoute := fun p => ∃ sec ∈ r.path ++ r.overlap, t.pointSection p = some sec
  [ (321, r.points.length ≤ 16 ∧ (∀ x ∈ r.points, t.LocalPoint x.element ∧ (x.position = 1 ∨ x.position = 2)) ∧
      (r.points.map (fun x => x.element)).Nodup),
    (322, ∀ x ∈ r.points, inRoute x.element),
    (323, ∀ y ∈ t.elements, inRoute y.1 → ∃ x ∈ r.points, x.element = y.1),
    (331, r.flank.length ≤ 12),
    (332, ∀ f ∈ r.flank, 1 ≤ f.index ∧ f.index ≤ r.path.length),
    (333, ∀ f ∈ r.flank, ∀ c ∈ f.candidates, (t.LocalPoint c.element ∧ (c.state = 1 ∨ c.state = 2)) ∨
      (t.LocalSignal c.element ∧ c.state = 1)),
    (334, ∀ f ∈ r.flank, (f.candidates.map (fun c => c.element)).Nodup),
    (335, ∀ f ∈ r.flank, ∀ c ∈ f.candidates, c.element ≠ r.entrySignal ∧ r.exit ≠ .signal c.element ∧
      ∀ x ∈ r.points, x.element ≠ c.element) ]

/-- 341 to 353 (R12, R13); the fleeting flag is 0 or 1 (log 19). -/
def Tables.conductRules (t : Tables) (id : Nat) (r : RouteEntry) : List (Nat × Prop) :=
  [ (341, r.opposing.length ≤ 8 ∧ (∀ o ∈ r.opposing, (∃ x, Map.find o t.routes = some x) ∧ o ≠ id) ∧
      r.opposing.Nodup),
    (342, ∀ o ∈ r.opposing, ∃ x, Map.find o t.routes = some x ∧ id ∈ x.opposing),
    (351, r.approachTime ≤ 240),
    (352, r.overlapTime ≤ 180 ∧ (r.overlap = [] → r.overlapTime = 0)),
    (353, r.fleeting = 0 ∨ r.fleeting = 1) ]

/-- 401 to 413 (R14, R15). -/
def Tables.boundaryRules (t : Tables) (id : Nat) (b : BoundaryEntry) : List (Nat × Prop) :=
  [ (401, b.identity ≠ 0),
    (402, 2 ≤ b.supervision ∧ b.supervision ≤ 10),
    (403, 1 ≤ b.replyTimeout ∧ b.replyTimeout ≤ 20),
    (404, b.lines.length ≤ 2 ∧ (b.lines.map (fun x => x.number)).Nodup),
    (405, (t.elements.filter (fun y => t.remoteLink y.1 == some id)).length ≤ 8),
    (406, (t.elements.filter (fun y => (t.exportTarget y.1).any (fun x => x.1 == id))).length ≤ 8),
    (411, ∀ x ∈ b.lines, (x.number = 1 ∨ x.number = 2) ∧ (x.senior = 1 ∨ x.senior = 2)),
    (412, ∀ x ∈ b.lines, 1 ≤ x.sections.length ∧ x.sections.length ≤ 4 ∧ t.PresentOnce x.sections ∧
      ∀ n ∈ x.sections, ∀ y ∈ t.boundary, ∀ z ∈ y.2.lines,
        y.1 < id ∨ (y.1 = id ∧ x.number = 2 ∧ z.number = 1) → n ∉ z.sections),
    (413, ∀ x ∈ b.lines, ∀ n, x.shared = some n → n ∈ x.sections ∧ ∃ s, Map.find n t.sections = some s ∧
      ∃ i ∈ s.heads, t.remoteLink i.head = some id) ]

/-- 501 to 503 (R16). -/
def Tables.optionsRules (t : Tables) : List (Nat × Prop) :=
  [ (501, ∃ o, Map.find 0 t.options = some o),
    (502, ∀ o, Map.find 0 t.options = some o → o.stopOnAlarm ≤ 1 ∧ o.stateNotices ≤ 1),
    (503, ∀ o, Map.find 0 t.options = some o → 1 ≤ o.watermark ∧ o.watermark ≤ 128) ]

/-- Every constraint of an image, in the order in which validation takes them: the tables as R1 numbers them, the entries of a
table by ascending id, the constraints of an entry by ascending number (R17). -/
def Tables.rules (t : Tables) : List TableRule :=
  t.elements.flatMap (fun x => rulesOf .element x.1 (t.elementRules x.1 x.2)) ++
  t.sections.flatMap (fun x => rulesOf .trackSection x.1 (t.sectionRules x.1 x.2)) ++
  t.routes.flatMap (fun x => rulesOf .route x.1 (t.layoutRules x.1 x.2 ++ t.protectionRules x.2 ++
    t.conductRules x.1 x.2)) ++
  t.boundary.flatMap (fun x => rulesOf .link x.1 (t.boundaryRules x.1 x.2)) ++
  rulesOf .table 5 t.optionsRules

/-! ## Claims and orders between two steps at work -/

/-- A claim record without its proven field. -/
def Claim.unproved (c : Claim) : Claim := { c with proven := false }

/-- A point shows a required state: it is evaluated there (R106). -/
def PointRec.showing (r : PointRec) (q : Required) : Bool := r.evaluated.any (fun p => q == .position p)

/-- A signal shows a required state: both its proven and its commanded aspect are DANGER (R106). -/
def SignalRec.showing (r : SignalRec) (q : Required) : Bool :=
  q == .danger && r.proven == some .danger && r.commanded == .danger

/-- The claims on an element follow a change of what it shows (R106): the proven field of each becomes what the element shows of
its required state, and is handed to the claim's slot exactly when it differs from what it was. Without such a change no claim
changes and none is handed on; a claim on another element does neither. -/
def ClaimsFollow (n : Nat) (changed : Prop) (shows : Required → Bool) (before after : Work) : Prop :=
  (¬ changed → after.live.claims = before.live.claims) ∧
  (changed → after.live.claims = before.live.claims.map (fun c =>
    if c.element = n then { c with proven := shows c.required } else c)) ∧
  ∀ slot m v, .claimChanged slot m v ∈ after.todo ↔ .claimChanged slot m v ∈ before.todo ∨
    (changed ∧ m = n ∧ ∃ c ∈ before.live.claims, c.element = n ∧ c.slot = slot ∧ v = shows c.required ∧ v ≠ c.proven)

/-- A signal order is taken (R52, R55): the commanded aspect is written, proving begins anew and the order waits; the claims on
the signal follow it and are all that it hands on (R57, R106). Everything else of the elements, sections, links, waiting
requests and arm is as it was. -/
def SignalOrdered (e : Env) (g : Nat) (a : Aspect) (before after : Work) : Prop :=
  ∃ r z, before.live.signal g = some r ∧ after.live.signal g = some z ∧
    z = { r with commanded := a, proving := some (e.clock + e.tables.provingTime g), pendingOrder := z.pendingOrder } ∧
    after.live.waits g (.aspect a) ∧ ClaimsFollow g True z.showing before after ∧
    (∀ c ∈ after.todo, c ∈ before.todo ∨ ∃ slot v, c = .claimChanged slot g v) ∧
    after.places = before.places ∧ after.notices = before.notices ∧
    (∀ m ≠ g, Map.find m after.live.elements = Map.find m before.live.elements) ∧
    after.live.sections = before.live.sections ∧ after.live.links = before.live.links ∧
    after.live.waiting = before.live.waiting ∧ after.live.arm = before.live.arm

/-- Every section lock, route lock, entry-of-slot and claim stands, and every slot but n is as it was (R78, R79, R108). -/
def Live.HoldingsStand (n : Nat) (before after : Live) : Prop :=
  after.sections = before.sections ∧ after.claims.map Claim.unproved = before.claims.map Claim.unproved ∧
  (∀ p, (after.point p).map (fun y => y.routeLock) = (before.point p).map (fun y => y.routeLock)) ∧
  (∀ g, (after.signal g).map (fun y => y.entryOf) = (before.signal g).map (fun y => y.entryOf)) ∧
  after.waiting = before.waiting ∧ after.arm = before.arm ∧ ∀ m ≠ n, after.slot m = before.slot m

/-- A slot holds the same section locks, route locks, entry-of-slot and claims in two states (R77 to R79, R98). -/
def Live.HoldsAlike (n : Nat) (a b : Live) : Prop :=
  (∀ sec role, a.holder sec = some (n, role) ↔ b.holder sec = some (n, role)) ∧
  (∀ p q, (a.point p).bind (fun y => y.routeLock) = some (n, q) ↔ (b.point p).bind (fun y => y.routeLock) = some (n, q)) ∧
  (∀ g, (a.signal g).bind (fun y => y.entryOf) = some n ↔ (b.signal g).bind (fun y => y.entryOf) = some n) ∧
  (a.claims.filter (fun c => c.slot == n)).map Claim.unproved = (b.claims.filter (fun c => c.slot == n)).map Claim.unproved

/-- A slot number holds no section lock, no route lock, no entry-of-slot and no claim (R86, R119). -/
def Live.HoldsNothing (n : Nat) (l : Live) : Prop :=
  (∀ sec role, l.holder sec ≠ some (n, role)) ∧ (∀ p q, (l.point p).bind (fun y => y.routeLock) ≠ some (n, q)) ∧
  (∀ g, (l.signal g).bind (fun y => y.entryOf) ≠ some n) ∧ ∀ c ∈ l.claims, c.slot ≠ n

/-- The element is a flank primary or substitute of a waiting route (R70). -/
def State.flankAwaited (s : State) (n : Nat) : Prop :=
  ∃ q ∈ s.live.waiting, ∃ r, Map.find q.route s.store.active.routes = some r ∧
    ∃ f ∈ r.flank, ∃ c ∈ f.candidates, c.element = n

end Sys2Proof.Machine
end

