-- ==== Sys2Proof/Certificates/Slice0/Obligations.lean ====
section
/-! DEFINITION. The statements for the provers, in the order of OBLIGATIONS.json: the step, the route telegrams, the Order
Gate and the field order queue, sections, elements, boundaries, possessions and modes, loading, reports, and the laws of
every step. A statement that names a log entry rests on a choice of the model there. -/

open Sys2Proof Sys2Proof.Machine

/-! ## The step -/

/-- A step takes the command at the front of the queue and is its meaning on the state with the queue's rest. -/
def Obligations.StepRunsFrontCommand : Prop :=
  ∀ (i : Instr) (rest : List Instr) (s : State),
    step { s with pending := i :: rest } = exec i { s with pending := rest }

/-- The model's choice (log 1): on an empty queue a tenth of a second passes while the part has power; the queue then holds,
in some order, exactly one command for each timer whose moment the clock has reached, and no other; and nothing else changes
but the model's own free choices (log 3). -/
def Obligations.EmptyQueueLetsTimePass : Prop :=
  ∀ s : State, s.pending = [] →
    (s.power = false → step s = .next s) ∧
    (s.power = true → ∃ t, step s = .next t ∧ t.clock = s.clock + 1 ∧
      t.pending.Perm (State.due { s with clock := s.clock + 1 }) ∧
      t = { s with
        clock := s.clock + 1, pending := t.pending, live := { s.live with choices := t.live.choices } } ∧
      (s.live.recordsOnce → t.pending.Nodup ∧
        ∀ i, i ∈ t.pending ↔ ∃ moment, s.timerOf i = some moment ∧ moment ≤ s.clock + 1))

/-- Every command answers a next state in every state: no command of the manual stops the part. Without power only POWER ON
does anything, which is the model's choice (log 13). In START every control telegram is answered MODE and changes nothing, and
what comes on the other ports is discarded while no link record exists (R161); the detail 0 is that of R146 and R157, and the
other answers have no stated detail (log 8). That a STATUS discarded in START leaves no address remembered as already seen is
the model's choice (log 45). -/
def Obligations.EveryCommandCompletes : Prop :=
  (∀ (i : Instr) (s : State), (∃ t, exec i s = .next t) ∧ (s.power = false → i ≠ .powerOn → exec i s = .next s)) ∧
  ∀ (s : State), s.power = true → s.mode = .start →
    (∀ i kind tag body, controlParts i = some (kind, tag, body) →
      exec i s = .next (s.sending
        (.answer tag kind .mode (if kind = 8 ∨ kind = 10 then some 0 else none) .none))) ∧
    (∀ tag kind, exec (.controlBadForm tag kind) s = .next (s.sending (codeAnswer tag kind .mode))) ∧
    (∀ address content, exec (.status address content) s = .next s) ∧
    (s.live.links = [] → ∀ port, (∀ i v ls, exec (.presence port i v ls) s = .next s) ∧
      (∀ xs, exec (.counts port xs) s = .next s) ∧
      (∀ line n, exec (.directionAsk port line n) s = .next s) ∧
      (∀ line n v, exec (.directionReply port line n v) s = .next s))

/-- What the manual gives for the moment of power-on, at State.reset (R59, R76, R97, R98, R126, R155, R161, R163, R166, R173,
R175, R176, R179), and State.reset keeps the laws that every step keeps. -/
def Obligations.ResetIsTheMomentOfPowerOn : Prop :=
  State.reset.mode = .start ∧ State.reset.clock = 0 ∧ State.reset.stageHolds = [] ∧
  State.reset.store.active = Tables.empty ∧ State.reset.store.staging = Tables.empty ∧
  State.reset.store.marks = Marks.unchanged ∧ State.reset.store.amendment = [] ∧ State.reset.store.frozen = false ∧
  State.reset.live.sections = [] ∧ State.reset.live.elements = [] ∧ State.reset.live.links = [] ∧
  State.reset.live.slots = [] ∧ State.reset.live.waiting = [] ∧ State.reset.live.arm = none ∧
  State.reset.live.claims = [] ∧ State.reset.live.queue = [] ∧ State.reset.live.reports.reports = [] ∧
  State.reset.live.reports.counter = 0 ∧ State.reset.live.reports.lostAB = false ∧
  State.reset.live.reports.lostC = false ∧ State.reset.live.reports.armed = true ∧
  State.reset.live.reports.hold = false ∧ State.reset.live.reports.latestA = none ∧
  State.reset.sectionsLawful = true ∧ State.reset.withinSizes = true ∧ State.reset.trafficLawful = true ∧
  State.reset.live.holdersInUse = true ∧ State.reset.lineFlagsLawful = true ∧ State.reset.claimsLawful = true ∧
  State.reset.possessionsLawful = true ∧ State.reset.ordersLawful = true

/-! ## Route telegrams (Chapters 4, 5 and 7) -/

/-- The checks of a ROUTE CALL, in order. Of checks 1 to 7 the first that fails decides the answer, and no record changes
(R63, R64). Checks 8 to 10 are made on a route that has passed 5 to 7: what stands in the way, the free claim records for the
distinct elements and states of the flank search, and the lowest-numbered free slot (R65, R66). -/
def Obligations.CallChecksInOrder : Prop :=
  (∀ (tag route fleet patience : Nat) (s : State), s.Running →
    let refused := fun code => exec (.routeCall tag route fleet patience) s = .next (s.sending (codeAnswer tag 1 code))
    (s.mode.inTraffic = false → refused .mode) ∧
    (s.mode.inTraffic = true → s.live.reports.hold = true → refused .held) ∧
    (s.mode.inTraffic = true → s.live.reports.hold = false →
      (Map.find route s.store.active.routes = none → refused .unknown) ∧
      ∀ r, Map.find route s.store.active.routes = some r →
        ((∃ x ∈ s.live.slots, x.2.route = route) ∨ (∃ q ∈ s.live.waiting, q.route = route) → refused .active) ∧
        ((∀ x ∈ s.live.slots, x.2.route ≠ route) → (∀ q ∈ s.live.waiting, q.route ≠ route) →
          ((∃ n ∈ r.path ++ r.overlap, (s.live.possessionOf n).isSome = true) → refused .possessed) ∧
          ((∀ n ∈ r.path ++ r.overlap, s.live.possessionOf n = none) →
            ((∃ y ∈ r.requirements, s.live.available y.1 = false) → refused .unavailable) ∧
            ((∀ y ∈ r.requirements, s.live.available y.1 = true) →
              ∀ link line, r.exit = .line link line → s.live.linkState link ≠ .up → refused .line))))) ∧
  ∀ (t : Tables) (r : RouteEntry) (l : Live),
    (∀ n ∈ r.path ++ r.overlap, l.possessionOf n = none) → (∀ y ∈ r.requirements, l.available y.1 = true) →
    (∀ link line, r.exit = .line link line → l.linkState link = .up) →
    let inTheWay :=
      (∃ x ∈ l.slots, x.2.route ∈ r.opposing) ∨
      (∃ n ∈ r.path ++ r.overlap, (l.holder n).isSome = true) ∨
      (∃ y ∈ r.requirements, ∃ p slot q, l.point y.1 = some p ∧ p.routeLock = some (slot, q) ∧ q ≠ y.2) ∨
      (∃ y ∈ r.requirements, ∃ c ∈ l.claims, c.element = y.1 ∧ c.required ≠ .position y.2) ∨
      (∃ c ∈ l.claims, c.element = r.entrySignal) ∨ l.flankSearch t r = none
    (inTheWay → l.checkCall t r = .fails 8) ∧
    ∀ choices, ¬ inTheWay → l.flankSearch t r = some choices →
      let needed := (choices.map (fun c => (c.element, c.required))).dedup.length
      (256 < l.claims.length + needed → l.checkCall t r = .fails 9) ∧
      (l.claims.length + needed ≤ 256 →
        ((∀ n < 32, l.slot n ≠ none) → l.checkCall t r = .fails 10) ∧
        ∀ n < 32, l.slot n = none → (∀ m < n, l.slot m ≠ none) → l.checkCall t r = .passes n choices)

/-- The flank search takes for each entry, in order, the first candidate that is obtainable in its required state, the choices
made before counting as claims; an entry without one makes the flank unobtainable (R100). -/
def Obligations.FlankSearchTakesFirstObtainable : Prop :=
  ∀ (t : Tables) (r : RouteEntry) (l : Live),
    (∀ choices, l.flankSearch t r = some choices →
      choices.length = r.flank.length ∧
      ∀ k (hk : k < choices.length) (hf : k < r.flank.length),
        choices[k].entry = k + 1 ∧
        ∃ c, r.flank[k].candidates[choices[k].level]? = some c ∧ c.element = choices[k].element ∧
          t.requiredState c = some choices[k].required ∧
          l.obtainable t (choices.take k) c.element choices[k].required = true ∧
          ∀ j < choices[k].level, ∀ d, r.flank[k].candidates[j]? = some d → ∀ q, t.requiredState d = some q →
            l.obtainable t (choices.take k) d.element q = false) ∧
    (l.flankSearch t r = none → ∃ k, ∃ hk : k < r.flank.length, ∃ chosen : List Choice,
      l.searchFrom t 1 [] (r.flank.take k) = some chosen ∧ ∀ c ∈ r.flank[k].candidates, ∀ q, t.requiredState c = some q →
        l.obtainable t chosen c.element q = false)

/-- The five conditions of obtainability, for a point and for a signal (R99); each choice made earlier in the same search
counts as a claim that requires its state (R100). -/
def Obligations.ObtainableElement : Prop :=
  ∀ (t : Tables) (chosen : List Choice) (l : Live) (n : Nat),
    (∀ p r, Map.find n l.elements = some (.point r) →
      (l.obtainable t chosen n (.position p) = true ↔
        r.supervised = true ∧ r.moveFailed = false ∧
        (∀ sec, t.pointSection n = some sec → l.possessionOf sec = none) ∧
        (∀ slot q, r.routeLock = some (slot, q) → q = p) ∧
        (∀ c ∈ l.claims, c.element = n → c.required = .position p) ∧
        ∀ c ∈ chosen, c.element = n → c.required = .position p)) ∧
    (∀ r, Map.find n l.elements = some (.signal r) →
      (l.obtainable t chosen n .danger = true ↔
        r.supervised = true ∧ ∀ x ∈ l.slots, t.entryOf x.2 = some n →
          x.2.state ≠ .clearing ∧ x.2.state ≠ .clear ∧ x.2.state ≠ .entered))

/-- A ROUTE CALL that fails check 8, 9 or 10 joins the waiting list at its end, with the values as taken, or is refused: with
the code of the check when its patience is 0, with QUEUE_FULL when 16 requests wait (R62, R68, R69). That a route is fleeting
when its flag octet is 1, so that only such a route takes a fleet count, is the model's choice (log 19). -/
def Obligations.CallWaitsOrIsRefused : Prop :=
  ∀ (tag route fleet patience k : Nat) (r : RouteEntry) (s : State), s.Running → s.mode.inTraffic = true →
    s.live.reports.hold = false → Map.find route s.store.active.routes = some r →
    s.live.slotOf route = none → s.live.requestOf route = none →
    s.live.checkCall s.store.active r = .fails k → 8 ≤ k → k ≤ 10 →
    let fleetTaken := if r.fleeting = 1 then if fleet = 255 then 0 else min fleet 31 else 0
    let request : Request :=
      { route := route, fleet := fleetTaken, expiry := s.clock + min patience 120 * 10, tag := tag }
    exec (.routeCall tag route fleet patience) s = .next
      (if patience = 0 then
        s.sending (codeAnswer tag 1 (if k = 8 then .conflict else if k = 9 then .flankFull else .noSlot))
      else if 16 ≤ s.live.waiting.length then s.sending (codeAnswer tag 1 .queueFull)
      else State.sending (detailAnswer tag 1 .queued k)
        { s with live := { s.live with waiting := s.live.waiting ++ [request] } })

/-- A ROUTE CALL that passes every check is taken in one step: the slot record, the section locks, the route locks, the
entry-of-slot and the claims of the route are made before anything is handed over, and the answer is ACCEPTED with the slot
(R62, R67, R77 to R79, R102). One claim record is made for each distinct element and state of the search result, with the slot
and the entries that it serves, each with its level, in order (R101), and one FLANK_SUBSTITUTE is offered for each entry that
resolved at level 1 or 2 (R102). That a route is fleeting when its flag octet is 1, so that only such a route takes a fleet
count (log 19), that the new claims stand in the pool behind those before them (log 51), and that the reports stand in the
order of the flank entries (log 42), is the model's choice. -/
def Obligations.CallTaken : Prop :=
  ∀ (tag route fleet patience n : Nat) (choices : List Choice) (r : RouteEntry) (s : State), s.Running →
    s.mode.inTraffic = true → s.live.reports.hold = false → Map.find route s.store.active.routes = some r →
    s.live.slotOf route = none → s.live.requestOf route = none →
    s.live.checkCall s.store.active r = .passes n choices →
    ∃ w, exec (.routeCall tag route fleet patience) s = .next
        ((s.ending w).sending (detailAnswer tag 1 .accepted n)) ∧
      (∃ x, w.live.slot n = some x ∧ x.route = route ∧ x.origin = .call ∧ x.pointer = 1 ∧
        x.fleet = (if r.fleeting = 1 then if fleet = 255 then 0 else min fleet 31 else 0) ∧
        x.marks = r.path.map (fun _ => false) ∧ x.timer = none ∧
        x.overlap = if r.overlap = [] then none else some .locked) ∧
      (∀ m ≠ n, w.live.slot m = s.live.slot m) ∧
      (∀ sec, w.live.sectionAt sec = (s.live.sectionAt sec).map (fun y =>
        if sec ∈ r.path then { y with lock := some (n, .path) }
        else if sec ∈ r.overlap then { y with lock := some (n, .overlap) } else y)) ∧
      (∀ p q y, Map.find p r.requirements = some q → s.live.point p = some y →
        ∃ z, w.live.point p = some z ∧ z.routeLock = some (n, q)) ∧
      (∀ y, s.live.signal r.entrySignal = some y →
        ∃ z, w.live.signal r.entrySignal = some z ∧ z.entryOf = some n) ∧
      (let made := claimsFor n choices
       w.live.claims.map Claim.unproved = s.live.claims.map Claim.unproved ++ made.map Claim.unproved ∧
       (made.map (fun c => (c.element, c.required))).Nodup ∧
       (∀ c ∈ made, c.slot = n ∧ c.serves ≠ [] ∧ c.serves = (choices.filter (fun y =>
         y.element == c.element && y.required == c.required)).map (fun y => (y.entry, y.level))) ∧
       ∀ y ∈ choices, ∃ c ∈ made, c.element = y.element ∧ c.required = y.required) ∧
      w.live.reports = (choices.foldl (fun l y => if y.level = 0 then l
        else l.offer s.env .c .flankSubstitute .slot n (some (1000 * y.level + y.element))) s.live).reports ∧
      w.live.waiting = s.live.waiting

/-- A slot begins with its taking (R67). With its exit line not ours it stands in WAIT_LINE, and our ask is sent unless one is
outstanding (R83, R140). Otherwise it stands in SETTING while it is held there or a required point is not detected, and goes
to LOCKED, and to CLEARING when the conditions of R87 hold, of which those on the points follow (R82, R87, R88, R95; log 23).
The required points are ordered unless the slot is held at SETTING, the flank points that hold no route lock are ordered, the
flank signals stand commanded DANGER, and a waiting order for the other position of a point is turned to the one required
(R56, R80, R103, R104); that the turning begins no movement where none is in progress is the model's choice (log 20). The
orders join the queue in this order: required points, flank elements, each by ascending id, and the entry signal (R67). -/
def Obligations.TakenSlotBegins : Prop :=
  ∀ (tag route fleet patience n : Nat) (choices : List Choice) (r : RouteEntry) (s : State), s.Running →
    s.mode.inTraffic = true → s.live.reports.hold = false → Map.find route s.store.active.routes = some r →
    s.live.slotOf route = none → s.live.requestOf route = none →
    s.live.checkCall s.store.active r = .passes n choices → (∀ c ∈ s.live.claims, c.slot ≠ n) →
    ∃ w x, exec (.routeCall tag route fleet patience) s = .next
        ((s.ending w).sending (detailAnswer tag 1 .accepted n)) ∧ w.live.slot n = some x ∧
      let holds := fun stage => s.mode = .commissioning ∧ (route, stage) ∈ s.stageHolds
      let stands := fun (state : SlotState) (held : Option Stage) => x.state = state ∧ x.held = held
      let detected := ∀ y ∈ r.requirements, s.live.detected y.1 y.2 = true
      let proven := ∀ c ∈ choices,
        (∀ q, c.required = .position q → s.live.detected c.element q = true) ∧
        (c.required = .danger → ∃ y, s.live.signal c.element = some y ∧ y.proven = some .danger)
      let clears := (∀ sec ∈ r.path ++ r.overlap, s.live.isClear sec = true) ∧ proven ∧
        (∃ y, s.live.signal r.entrySignal = some y ∧ y.supervised = true) ∧
        (∀ link line, r.exit = .line link line → ∃ y p, s.live.line link line = some y ∧ y.last = some p ∧
          p.lineClear = true)
      (∀ link line, r.exit = .line link line → s.live.lineIsOurs link line = false →
        x.lineWait = some (link, line) ∧ x.aspect = none ∧
        (holds .setting → stands .waitLine (some .setting)) ∧ (¬ holds .setting → stands .waitLine none) ∧
        ∀ y b, s.live.line link line = some y → Map.find link s.store.active.boundary = some b →
          ∃ v, w.live.line link line = some v ∧
            v = { y with lineClear := v.lineClear, ask := v.ask, nextAsk := v.nextAsk } ∧
            (y.ask ≠ none → v.ask = y.ask ∧ v.nextAsk = y.nextAsk) ∧
            (y.ask = none → v.ask = some (y.nextAsk, s.clock + b.replyTimeout * 10) ∧ v.nextAsk = y.nextAsk + 1 ∧
              w.live.sent.getLast? = some (.directionAsk link line y.nextAsk))) ∧
      ((∀ link line, r.exit = .line link line → s.live.lineIsOurs link line = true) →
        x.lineWait = none ∧ (x.state ≠ .clearing → x.aspect = none) ∧
        (holds .setting → stands .setting (some .setting)) ∧
        (¬ holds .setting → ¬ detected → stands .setting none) ∧
        (¬ holds .setting → detected → holds .locked → stands .locked (some .locked)) ∧
        (¬ holds .setting → detected → ¬ holds .locked → ¬ clears → stands .locked none) ∧
        (¬ holds .setting → detected → ¬ holds .locked → clears → stands .clearing none ∧
          x.aspect = some (s.live.chosenAspect r) ∧ ∃ z, w.live.signal r.entrySignal = some z ∧
            z.commanded = s.live.chosenAspect r ∧
            z.proving = some (s.clock + s.store.active.provingTime r.entrySignal))) ∧
      (∀ p q, Map.find p r.requirements = some q → (∀ c ∈ choices, c.element = p → c.required = .position q) →
        PointPlaced s w.live p q (¬ holds .setting)) ∧
      (∀ c ∈ choices, ∀ q, c.required = .position q → Map.find c.element r.requirements = none →
        PointPlaced s w.live c.element q ((s.live.point c.element).bind (fun y => y.routeLock) = none)) ∧
      (∀ c ∈ choices, c.required = .danger → c.element ≠ r.entrySignal → ∀ y, s.live.signal c.element = some y →
        ∃ z, w.live.signal c.element = some z ∧ z.commanded = .danger ∧
          z.proving = if y.commanded = .danger then y.proving
            else some (s.clock + s.store.active.provingTime c.element)) ∧
      ∃ a b c, w.live.queue.map (fun y => y.element) = s.live.queue.map (fun y => y.element) ++ a ++ b ++ c ∧
        a.Pairwise (fun u v => u < v) ∧ (∀ p ∈ a, p ∈ Map.ids r.requirements) ∧
        b.Pairwise (fun u v => u < v) ∧ (∀ p ∈ b, ∃ y ∈ choices, y.element = p) ∧
        (c = [] ∨ c = [r.entrySignal])

/-- A waiting request leaves the list by its patience, or by a scan. Once the clock has reached its expiry (log 2) the request
leaves, those behind it keep their order, and REQUEST_EXPIRED is offered with its tag; otherwise the expiry has nothing to act
on (R69, R72). A scan takes the requests in arrival order until an alarm hold stands: one that fails check 8, 9 or 10 stays,
one that fails 5, 6 or 7 leaves with REQUEST_REFUSED, and one that passes leaves, is taken into the free slot with its fleet
count, and is reported REQUEST_TAKEN with slot and tag, before what its taking hands over is settled (R71; log 42). An event
that has made a scan due, and is settled with a request waiting and no hold, makes that scan, and another while the scan
before it has made one due; one that makes no scan due, or ends with no request or under the hold, makes none (R70; log 5). -/
def Obligations.WaitingRequestLeaves : Prop :=
  (∀ (s : State) (route : Nat), s.power = true →
    (∀ q a b, q.route = route → (∀ x ∈ a ++ b, x.route ≠ route) → s.live.waiting = a ++ q :: b → q.expiry ≤ s.clock →
      exec (.patienceExpiry route) s = .next { s with
        live := Live.offer s.env .c .requestExpired .route route (some q.tag) { s.live with waiting := a ++ b } }) ∧
    ((∀ q ∈ s.live.waiting, q.route = route → s.clock < q.expiry) → exec (.patienceExpiry route) s = .next s)) ∧
  (∀ (e : Env) (q : Request) (r : RouteEntry) (w : Work), Map.find q.route e.tables.routes = some r →
    let left := w.live.waiting.filter (fun x => x.route != q.route)
    (∀ k, w.live.checkCall e.tables r = .fails k →
      (7 < k → w.examine e q = w) ∧
      (k ≤ 7 → w.examine e q =
        w.on (fun l => Live.offer e .c .requestRefused .route q.route (some (256 * k + q.tag)) { l with waiting := left }))) ∧
    (∀ n choices, w.live.checkCall e.tables r = .passes n choices → ∃ (v : Work) (l : Live), w.examine e q = v.settled e ∧
      v.live = Live.offer e .c .requestTaken .route q.route (some (256 * n + q.tag)) l ∧ v.live.waiting = left ∧
      ∃ x, v.live.slot n = some x ∧ x.route = q.route ∧ x.fleet = q.fleet ∧ x.origin = .call)) ∧
  ∀ (e : Env) (w : Work),
    (w.live.reports.hold = true → (w.scanOnce e).live = w.live) ∧
    (w.live.reports.hold = false → ∀ q rest, w.live.waiting = q :: rest →
      w.scanOnce e = rest.foldl (fun v x => if v.live.reports.hold then v else v.examine e x)
        (Work.examine e q { w with scan := false })) ∧
    let due := fun (v : Work) => v.scan = true ∧ v.live.waiting ≠ [] ∧ v.live.reports.hold = false
    let v := w.settled e
    (¬ due v → (w.event e).live = v.live) ∧
    (due v → ¬ due (v.scanOnce e) → (w.event e).live = (v.scanOnce e).live) ∧
    (due v → w.event e = (v.scanOnce e).scans e v.live.waiting.length) ∧
    ∀ k, (due w → w.scans e (k + 1) = (w.scanOnce e).scans e k) ∧ (¬ due w → (w.scans e k).live = w.live)

/-- ROUTE CANCEL: MODE, UNKNOWN and IGNORED change nothing; a waiting request leaves the list without a report, those behind
it keep their order, and the answer is DONE (R74). For a route in a slot it goes by the slot's state (R120, R121): before
clearing the slot is freed; in CLEARING, CLEAR and REPLACED it is freed when every approach section and path section is CLEAR
and there is an approach section, and otherwise held for the approach release time, a time of 0 freeing it at once (R122);
after that it is too late. A slot that is held so keeps its section locks, route locks, claims and entry-of-slot (R110, R122),
and leaving CLEARING or CLEAR makes a scan due (R70; log 5); one that is freed is freed as FreeingEmptiesTheSlot says. In
CLEARING and CLEAR its entry signal is ordered DANGER first, which is all that changes besides (R120); that the claim changes
of this order are taken only then is the model's choice (log 67). -/
def Obligations.CancelByWhereTheRouteStands : Prop :=
  (∀ (tag route : Nat) (s : State), s.Running →
    (s.mode.operating = false → exec (.routeCancel tag route) s = .next (s.sending (codeAnswer tag 2 .mode))) ∧
    (s.mode.operating = true → Map.find route s.store.active.routes = none →
      exec (.routeCancel tag route) s = .next (s.sending (codeAnswer tag 2 .unknown))) ∧
    (s.mode.operating = true → (Map.find route s.store.active.routes).isSome = true →
      (∀ q a b, q.route = route → (∀ x ∈ a ++ b, x.route ≠ route) → s.live.waiting = a ++ q :: b →
        exec (.routeCancel tag route) s = .next (State.sending (codeAnswer tag 2 .done)
          { s with live := { s.live with waiting := a ++ b } })) ∧
      ((∀ x ∈ s.live.waiting, x.route ≠ route) → (∀ x ∈ s.live.slots, x.2.route ≠ route) →
        exec (.routeCancel tag route) s = .next (s.sending (codeAnswer tag 2 .ignored))))) ∧
  ∀ (tag route n : Nat) (r : RouteEntry) (x : Slot) (s : State), s.Running → s.mode.operating = true →
    Map.find route s.store.active.routes = some r → s.live.requestOf route = none →
    s.live.slotOf route = some (n, x) → s.live.slot n = some x →
    let atOnce := r.approach ≠ [] ∧ ∀ sec ∈ r.approach ++ r.path, s.live.isClear sec = true
    ((x.state = .entered ∨ x.state = .timedRelease) →
      exec (.routeCancel tag route) s = .next (s.sending (codeAnswer tag 2 .tooLate))) ∧
    ((x.state = .setting ∨ x.state = .waitLine ∨ x.state = .locked) →
      exec (.routeCancel tag route) s =
        .next ((s.ending (s.work.freeSlot s.env n)).sending (codeAnswer tag 2 .done))) ∧
    ((x.state = .clearing ∨ x.state = .clear ∨ x.state = .replaced) →
      ∃ v w, (atOnce → w = v.freeSlot s.env n ∧ w.live.slot n = none ∧
          exec (.routeCancel tag route) s = .next ((s.ending w).sending (codeAnswer tag 2 .done))) ∧
        (¬ atOnce → exec (.routeCancel tag route) s = .next ((s.ending w).sending (codeAnswer tag 2 .accepted)) ∧
          (0 < r.approachTime → w = v ∧ w.live.slot n = some { x with
            state := .timedRelease, fleet := 0, held := none
            timer := some { expiry := s.clock + r.approachTime * 10, cause := some .approach }
            aspect := if x.state = .replaced then x.aspect else some .danger } ∧
            (w.scan = true ↔ x.state ≠ .replaced)) ∧
          (r.approachTime = 0 → w = v.freeSlot s.env n ∧ w.live.slot n = none)) ∧
        (∃ y, v.live.slot n = some y ∧ y.route = x.route) ∧
        v.live.reports = s.live.reports ∧ v.live.links = s.live.links ∧ s.live.HoldingsStand n v.live ∧
        (x.state = .replaced ∨ s.live.signal r.entrySignal = none → v.live.elements = s.live.elements ∧
          v.live.claims = s.live.claims ∧ v.live.queue = s.live.queue ∧ v.todo = []) ∧
        (x.state ≠ .replaced → ∀ y, s.live.signal r.entrySignal = some y →
          SignalOrdered s.env r.entrySignal .danger s.work v) ∧
        (x.state ≠ .replaced → ∀ y, s.live.signal r.entrySignal = some y →
          ∃ z, w.live.signal r.entrySignal = some z ∧ z.commanded = .danger ∧
            z.proving = some (s.clock + s.store.active.provingTime r.entrySignal)))

/-- Freeing a slot removes in one step its section locks, its route locks, its claims, its entry-of-slot and an arm that names
it; every other lock and record stands, ROUTE_RELEASED is offered, and a scan is due (R86, R110, R119, R126). That a signal
whose entry-of-slot names another slot keeps it is the model's reading of R119 (log 21). -/
def Obligations.FreeingEmptiesTheSlot : Prop :=
  ∀ (e : Env) (n : Nat) (x : Slot) (w : Work), w.live.slot n = some x →
    (w.freeSlot e n).live.slot n = none ∧ (∀ m ≠ n, (w.freeSlot e n).live.slot m = w.live.slot m) ∧
    (∀ sec, (w.freeSlot e n).live.sectionAt sec = (w.live.sectionAt sec).map (fun y =>
      if y.lock.map (fun k => k.1) = some n then { y with lock := none } else y)) ∧
    (∀ p, Map.find p (w.freeSlot e n).live.elements = (Map.find p w.live.elements).map (fun y => match y with
      | .point z => .point (if z.routeLock.map (fun k => k.1) = some n then { z with routeLock := none } else z)
      | .signal z => .signal (if z.entryOf = some n then { z with entryOf := none } else z)
      | .head z => .head z)) ∧
    (w.freeSlot e n).live.claims = w.live.claims.filter (fun c => c.slot != n) ∧
    (w.freeSlot e n).live.arm = w.live.arm.filter (fun a => a.slot != n) ∧
    (w.freeSlot e n).live.queue = w.live.queue ∧ (w.freeSlot e n).live.waiting = w.live.waiting ∧
    (w.freeSlot e n).live.reports = (w.live.offer e .c .routeReleased .slot n (some x.route)).reports ∧
    (w.freeSlot e n).scan = true

/-- The timers of a slot, once the clock has reached them (log 2). The expiry of a timed release frees the slot (R123). At the
overlap expiry the timer goes, and every overlap section that is not OCCUPIED is released: its lock of this slot goes, and the
slot's route locks of the points that lie in it, which may then be placed for the claims on them; no claim goes. With no
overlap section left the overlap is RELEASED, and the slot is freed when its path is complete too; otherwise it stays TIMING
(R118, R119). Without the timer named, or before its moment, there is nothing to act on: an overlap is timed only in ENTERED
(R122), and has no timer after its expiry (R118). -/
def Obligations.SlotTimersExpire : Prop :=
  ∀ (n : Nat) (s : State), s.power = true →
    (∀ x y, s.live.slot n = some x → x.state = .timedRelease → x.timer = some y → y.expiry ≤ s.clock →
      exec (.timedReleaseExpiry n) s = .next (s.ending (s.work.freeSlot s.env n))) ∧
    ((∀ x y, s.live.slot n = some x → x.state = .timedRelease → x.timer = some y → s.clock < y.expiry) →
      exec (.timedReleaseExpiry n) s = .next s) ∧
    (∀ x y r, s.live.slot n = some x → x.state = .entered → x.overlap = some .timing → x.timer = some y →
      y.expiry ≤ s.clock → Map.find x.route s.store.active.routes = some r →
      ∃ w, exec (.overlapExpiry n) s = .next (s.ending w) ∧
        OverlapReleased s.env n x r (s.live.vacatedOverlap r) s.work w) ∧
    ((∀ x y, s.live.slot n = some x → x.state = .entered → x.overlap = some .timing → x.timer = some y →
      s.clock < y.expiry) → exec (.overlapExpiry n) s = .next s)

/-- FLEET STOP: the fleet remaining of the route's slot becomes 0, and a slot in ENTERED then makes the release test and may
start overlap timing; the fleet count of a waiting request becomes 0; otherwise IGNORED (R128). Overlap timing starts for a
slot in ENTERED with fleet remaining 0, its overlap LOCKED and its last path section marked: the overlap is TIMING, with an
expiry at the overlap release time and no cause; a time of 0 expires at once (R117, R118). -/
def Obligations.FleetStopEndsTheRun : Prop :=
  (∀ (e : Env) (n : Nat) (x : Slot) (r : RouteEntry) (w : Work),
    w.live.slot n = some x → Map.find x.route e.tables.routes = some r →
    let starts := x.state = .entered ∧ x.fleet = 0 ∧ x.overlap = some .locked ∧ x.marks.getLast? = some true
    let v := w.startOverlap e n
    (¬ starts → v = w) ∧
    (starts → 0 < r.overlapTime → v = { w with live := { w.live with slots := v.live.slots } } ∧
      (∀ m ≠ n, v.live.slot m = w.live.slot m) ∧ v.live.slot n = some { x with
        overlap := some .timing, timer := some { expiry := e.clock + r.overlapTime * 10, cause := none } }) ∧
    (starts → r.overlapTime = 0 → OverlapReleased e n x r (w.live.vacatedOverlap r) w v)) ∧
  ∀ (tag route : Nat) (s : State), s.Running →
    let answered := fun (t : State) code => exec (.fleetStop tag route) s = .next (t.sending (codeAnswer tag 3 code))
    (s.mode.operating = false → answered s .mode) ∧
    (s.mode.operating = true → Map.find route s.store.active.routes = none → answered s .unknown) ∧
    (s.mode.operating = true → (Map.find route s.store.active.routes).isSome = true →
      (∀ n x, s.live.slotOf route = some (n, x) → s.live.slot n = some x →
        (x.state ≠ .entered →
          answered { s with live := { s.live with
            slots := Map.update n (fun x => { x with fleet := 0 }) s.live.slots } } .done) ∧
        (x.state = .entered →
          answered (s.ending (Work.startOverlap s.env n (Work.releaseTest s.env n
            (s.work.slotTo n (fun x => { x with fleet := 0 }))))) .done)) ∧
      (s.live.slotOf route = none →
        ((∃ q ∈ s.live.waiting, q.route = route) →
          answered { s with live := { s.live with
            waiting := s.live.waiting.map (fun q => if q.route = route then { q with fleet := 0 } else q) } } .done) ∧
        ((∀ q ∈ s.live.waiting, q.route ≠ route) → answered s .ignored)))

/-- Behind the train, with fleet remaining 0: from the release pointer on, each section is released in turn that is CLEAR and
marked and is the last or has the next one marked; where the first of them is not, nothing changes (R115). The pointer moves
to the section after those released, or stays at the last. With each section go its lock of this slot, the slot's route locks
of the points that lie in it, which may then be placed for the claims on them, and the entries for it in the slot's claims, a
claim left with none going itself (R109, R116). The slot is freed when no path section is left and its overlap is RELEASED or
it has none (R119). With fleet remaining above 0: once every path section is CLEAR and marked the slot returns for its next
train, with its marks clear, the pointer at 1, one train fewer and origin FLEET: to LOCKED, from where it clears as R87 and
R95 give, or to SETTING; or, when its exit line is not ours, to WAIT_LINE, or, with the link not UP, to its release with
LINE_REFUSED and no order of its points (R85, R127). A hold at SETTING stays in WAIT_LINE and one at LOCKED ends (log 22). -/
def Obligations.ReleaseFollowsTheTrain : Prop :=
  (∀ (e : Env) (n i : Nat) (x : Slot) (r : RouteEntry) (w : Work),
    w.live.slot n = some x → Map.find x.route e.tables.routes = some r → x.state = .entered → x.fleet = 0 →
    x.pointer = i + 1 →
    let passed := fun j => ∃ sec, r.path[j]? = some sec ∧ w.live.holder sec = some (n, .path) ∧
      w.live.isClear sec = true ∧ x.marks[j]? = some true ∧ (j + 1 = r.path.length ∨ x.marks[j + 1]? = some true)
    (¬ passed i → w.releaseTest e n = w) ∧
    ∀ k, i < k → (∀ j, i ≤ j → j < k → passed j) → ¬ passed k →
      let released := (r.path.drop i).take (k - i)
      ∃ v, v.live.slot n = some { x with pointer := min (k + 1) r.path.length } ∧
        (∀ m ≠ n, v.live.slot m = w.live.slot m) ∧
        (∀ sec, v.live.sectionAt sec = (w.live.sectionAt sec).map (fun y =>
          if sec ∈ released ∧ y.lock.map (fun k => k.1) = some n then { y with lock := none } else y)) ∧
        (∀ p y, w.live.point p = some y →
          let lies := ∃ sec ∈ released, e.tables.pointSection p = some sec
          (lies → y.routeLock.map (fun k => k.1) = some n →
            v.live.point p = some { y with routeLock := none } ∧ p ∈ v.places) ∧
          (¬ lies ∨ y.routeLock.map (fun k => k.1) ≠ some n → v.live.point p = some y)) ∧
        v.live.claims = (w.live.claims.map (fun c => if c.slot = n then { c with
          serves := c.serves.filter (fun y =>
            (r.flank[y.1 - 1]?).all (fun f => f.index ≤ i || k < f.index)) } else c)).filter
              (fun c => c.slot ≠ n ∨ c.serves ≠ []) ∧
        v.live.queue = w.live.queue ∧ v.live.reports = w.live.reports ∧ v.todo = w.todo ∧ v.scan = true ∧
        let complete := (∀ sec ∈ r.path, v.live.holder sec ≠ some (n, .path)) ∧
          (x.overlap = none ∨ x.overlap = some .released)
        (complete → w.releaseTest e n = v.freeSlot e n) ∧ (¬ complete → w.releaseTest e n = v)) ∧
  ∀ (e : Env) (n : Nat) (x : Slot) (r : RouteEntry) (w : Work),
    w.live.slot n = some x → Map.find x.route e.tables.routes = some r →
    let passed := x.state = .entered ∧ 0 < x.fleet ∧ (∀ sec ∈ r.path, w.live.isClear sec = true) ∧ ∀ m ∈ x.marks, m = true
    let back : Slot := { x with
      marks := r.path.map (fun _ => false), pointer := 1, fleet := x.fleet - 1, origin := .fleet }
    let after := w.fleetTest e n
    let becomes := fun (y : Slot) => after.live.slot n = some y
    let ours := ∀ link line, r.exit = .line link line → w.live.lineIsOurs link line = true
    let detected := ∀ y ∈ r.requirements, w.live.detected y.1 y.2 = true
    let holds := e.mode = .commissioning ∧ (x.route, Stage.locked) ∈ e.holds
    (¬ passed → after = w) ∧
    (passed → after.scan = true ∧
      (ours → ¬ detected → becomes { back with state := .setting }) ∧
      (ours → detected → holds → becomes { back with state := .locked, held := some .locked }) ∧
      (ours → detected → ¬ holds → w.live.clearable n r = false →
        becomes { back with state := .locked, held := none }) ∧
      (ours → detected → ¬ holds → w.live.clearable n r = true →
        becomes { back with state := .clearing, held := none, aspect := some (w.live.chosenAspect r) }) ∧
      ∀ link line, r.exit = .line link line → w.live.lineIsOurs link line = false →
        (w.live.linkState link = .up → becomes { back with
          state := .waitLine, lineWait := some (link, line), held := if x.held = some .locked then none else x.held }) ∧
        (w.live.linkState link ≠ .up → after.live.slot n = none ∧ after.live.queue = w.live.queue ∧
          after.live.reports = (Live.offer e .c .routeReleased .slot n (some x.route)
            (w.live.offer e .b .lineRefused .slot n (some (1000 * 3 + x.route)))).reports))

/-- RELEASE ARM: a free slot is UNKNOWN, a slot in ENTERED or REPLACED is armed for 10 s in place of any arm before, and in
any other state the arm is left as it was; once the clock has reached its expiry the arm is removed (R124, R126; log 2).
RELEASE CONFIRM: with an arm that names the slot and has not expired, a slot in ENTERED or REPLACED enters TIMED_RELEASE with
cause EMERGENCY for the larger of its approach release time and 60 s, the arm is removed and EMERGENCY_RELEASE is offered; in
any other case NOT_ARMED and the arm is left (R122, R125). That a confirm at the very tick of the expiry finds it come, though
taken ahead of it, is the model's choice (log 55). -/
def Obligations.EmergencyReleaseNeedsItsArm : Prop :=
  (∀ (tag n : Nat) (s : State), s.Running →
    let answered := fun (t : State) code => exec (.releaseArm tag n) s = .next (t.sending (codeAnswer tag 4 code))
    (s.mode.operating = false → answered s .mode ∧
      exec (.releaseConfirm tag n) s = .next (s.sending (codeAnswer tag 5 .mode))) ∧
    (s.mode.operating = true →
      (s.live.slot n = none → answered s .unknown) ∧
      ∀ x, s.live.slot n = some x →
        (x.state = .entered ∨ x.state = .replaced →
          answered { s with live := { s.live with arm := some { slot := n, expiry := s.clock + 100 } } } .accepted) ∧
        (x.state ≠ .entered → x.state ≠ .replaced → answered s .ignored))) ∧
  (∀ s : State, s.power = true →
    (∀ a, s.live.arm = some a → a.expiry ≤ s.clock →
      exec .releaseArmExpiry s = .next { s with live := { s.live with arm := none } }) ∧
    ((∀ a, s.live.arm = some a → s.clock < a.expiry) → exec .releaseArmExpiry s = .next s)) ∧
  ∀ (tag n : Nat) (s : State), s.Running → s.mode.operating = true →
    let armed := ∃ a, s.live.arm = some a ∧ a.slot = n ∧ s.clock < a.expiry
    (∀ x r, s.live.slot n = some x → Map.find x.route s.store.active.routes = some r → armed →
      (x.state = .entered ∨ x.state = .replaced) →
      ∃ w, exec (.releaseConfirm tag n) s = .next ((s.ending w).sending (codeAnswer tag 5 .accepted)) ∧
        w.live = Live.offer s.env .b .emergencyRelease .slot n (some x.route) { s.live with
          arm := none
          slots := Map.update n (fun x => { x with
            state := .timedRelease, fleet := 0, held := none
            timer := some { expiry := s.clock + max r.approachTime 60 * 10, cause := some .emergency } })
              s.live.slots } ∧
        w.todo = [] ∧ w.scan = (x.state == .entered)) ∧
    (¬ armed ∨ s.live.slot n = none ∨
        (∃ x, s.live.slot n = some x ∧ x.state ≠ .entered ∧ x.state ≠ .replaced) →
      exec (.releaseConfirm tag n) s = .next (s.sending (codeAnswer tag 5 .notArmed)))

/-- STAGE HOLD: at most 8 entries, in the order they were set, no two identical; a removal ends the hold of a slot of the
route held at that stage (R94). The order of the UNKNOWN and BAD_FORM checks is the model's (log 16). -/
def Obligations.StageHoldKeepsEightEntries : Prop :=
  ∀ (tag route stage action : Nat) (g : Stage) (s : State), s.Running →
    let answered := fun (t : State) code =>
      exec (.stageHold tag route stage action) s = .next (t.sending (codeAnswer tag 6 code))
    (s.mode.operating = false → answered s .mode) ∧
    (s.mode.operating = true → Map.find route s.store.active.routes = none → answered s .unknown) ∧
    (s.mode.operating = true → (Map.find route s.store.active.routes).isSome = true →
      ((stage ≠ 1 ∧ stage ≠ 2) ∨ (action ≠ 1 ∧ action ≠ 2) → answered s .badForm) ∧
      (stage = g.code →
        (action = 1 →
          ((route, g) ∈ s.stageHolds → answered s .done) ∧
          ((route, g) ∉ s.stageHolds → 8 ≤ s.stageHolds.length → answered s .noSlot) ∧
          ((route, g) ∉ s.stageHolds → s.stageHolds.length < 8 →
            answered { s with stageHolds := s.stageHolds ++ [(route, g)] } .done)) ∧
        (action = 2 →
          ((route, g) ∉ s.stageHolds → answered s .ignored) ∧
          ((route, g) ∈ s.stageHolds →
            let t := { s with stageHolds := s.stageHolds.filter (fun y => y != (route, g)) }
            ((∀ n x, s.live.slotOf route = some (n, x) → x.held ≠ some g) → answered t .done) ∧
            ∀ n x, s.live.slotOf route = some (n, x) → x.held = some g →
              answered (t.ending (t.work.goOn t.env n)) .done))))

/-- STAGE STEP: MODE, UNKNOWN, and IGNORED for a route in no slot or in a slot that is not held, change nothing. A held slot
loses its held field and goes on at once (R96). Held at SETTING it orders its points as R80 gives, and then stands in
WAIT_LINE as before, or in SETTING until every required point is detected, and otherwise in LOCKED, held there when R95
requires it. From LOCKED it goes to CLEARING with the aspect of R88 ordered for its entry signal exactly when the clearing
conditions hold (R82, R87, R88). -/
def Obligations.StageStepLetsTheSlotGoOn : Prop :=
  ∀ (tag route : Nat) (s : State), s.Running →
    let refused := fun code => exec (.stageStep tag route) s = .next (s.sending (codeAnswer tag 7 code))
    (s.mode.operating = false → refused .mode) ∧
    (s.mode.operating = true →
      (Map.find route s.store.active.routes = none → refused .unknown) ∧
      ∀ r, Map.find route s.store.active.routes = some r →
        (s.live.slotOf route = none → refused .ignored) ∧
        ∀ n x, s.live.slotOf route = some (n, x) → s.live.slot n = some x →
          let v := s.work.goOn s.env n
          let becomes := fun (y : Slot) => v.live.slot n = some y
          let detected := ∀ y ∈ r.requirements, s.live.detected y.1 y.2 = true
          (x.held = none → refused .ignored) ∧
          (x.held ≠ none →
            exec (.stageStep tag route) s = .next ((s.ending v).sending (codeAnswer tag 7 .done))) ∧
          (x.held = some .locked → x.state = .locked →
            (s.live.clearable n r = true → ClearsFrom s.env n x r s.live v.live) ∧
            (s.live.clearable n r = false → becomes { x with held := none })) ∧
          (x.held = some .setting →
            (x.state = .waitLine → becomes { x with held := none }) ∧
            (x.state = .setting → ¬ detected → becomes { x with held := none }) ∧
            (x.state = .setting → detected → EntersLocked s.env n x r s.live v.live) ∧
            (x.state = .setting ∨ x.state = .waitLine →
              PointsOrdered s.env r s.live v.live)))

/-- The clearing conditions of a slot, and the aspect that its exit gives (R87, R88). That every required point is detected is
read from the law in R87 (log 23). -/
def Obligations.ClearingConditions : Prop :=
  ∀ (n : Nat) (r : RouteEntry) (l : Live),
    (l.clearable n r = true ↔
      (∀ sec ∈ r.path ++ r.overlap, ∃ y, l.sectionAt sec = some y ∧ y.state = .clear) ∧
      (∀ c ∈ l.claims, c.slot = n → c.proven = true) ∧
      (∃ y, l.signal r.entrySignal = some y ∧ y.supervised = true) ∧
      (∀ link line, r.exit = .line link line → l.linkState link = .up ∧
        ∃ y, l.line link line = some y ∧ y.owner = .us ∧ ∃ p, y.last = some p ∧ p.lineClear = true) ∧
      (∀ y ∈ r.requirements, ∃ p, l.point y.1 = some p ∧ p.evaluated = some y.2)) ∧
    (∀ link line, r.exit = .line link line → l.chosenAspect r = .caution) ∧
    (∀ g, r.exit = .signal g →
      ((∃ y, l.signal g = some y ∧ (y.proven = some .caution ∨ y.proven = some .proceed)) →
        l.chosenAspect r = .proceed) ∧
      ((∀ y, l.signal g = some y → y.proven = none ∨ y.proven = some .danger) → l.chosenAspect r = .caution))

/-- A section change handed to a slot that has begun to clear. In CLEARING and CLEAR the first path section becoming OCCUPIED
is the entry of the train: the signal is ordered DANGER, the section is marked, and overlap timing may start; any other path
or overlap section that is not CLEAR replaces the slot with cause 1 (R91, R92, R113, R117). In ENTERED a path section that has
become OCCUPIED is marked and may start overlap timing, and a path section's change of any kind makes the release test and the
test for the next train (R114, R115, R117, R127); an overlap section that is no longer OCCUPIED after the overlap expiry is
released then (R118). In TIMED_RELEASE with cause APPROACH the first path section becoming OCCUPIED is an entry with
SIGNAL_PASSED_AFTER_CANCEL and no order (R121). The entry and the replacement keep every lock and claim (R110), and the claim
changes of their order are taken after their report, by the model's choice (log 67). Any other change leaves the slot: in
CLEARING and CLEAR one of an approach section, and one of a section that is CLEAR. -/
def Obligations.EntryOrReplacement : Prop :=
  (∀ (e : Env) (n sec : Nat) (x : Slot) (r : RouteEntry) (y : SectionRec) (g : SignalRec) (w : Work),
    w.live.slot n = some x → Map.find x.route e.tables.routes = some r → (x.state = .clearing ∨ x.state = .clear) →
    sec ∈ r.path ++ r.overlap → w.live.sectionAt sec = some y → y.state ≠ .clear →
    w.live.signal r.entrySignal = some g →
    let entry := r.path.head? = some sec ∧ y.state = .occupied
    let marks := (r.path.zip x.marks).map (fun k => k.2 || k.1 == sec)
    let ordered := fun (v : Work) =>
      SignalOrdered e r.entrySignal .danger w v ∧ w.live.HoldingsStand n v.live
    (w.onSection e sec n).live.ordered e r.entrySignal .danger ∧
    (entry → w.live.holder sec = some (n, .path) →
      ∃ z, (w.onSection e sec n).live.slot n = some z ∧ z.state = .entered ∧ z.aspect = some .danger ∧
      z.fleet = x.fleet ∧ z.pointer = x.pointer ∧ z.marks = marks) ∧
    (entry → ∃ v : Work, w.onSection e sec n = v.startOverlap e n ∧ ordered v ∧ v.scan = w.scan ∧
      v.live.slot n = some { x with state := .entered, aspect := some .danger, marks := marks } ∧
      v.live.sections = w.live.sections ∧ v.live.reports = w.live.reports) ∧
    (¬ entry → ordered (w.onSection e sec n) ∧ (w.onSection e sec n).scan = true ∧
      (w.onSection e sec n).live.slot n = some { x with state := .replaced, aspect := some .danger } ∧
      (w.onSection e sec n).live.reports =
        (w.live.offer e .a .signalReplaced .slot n (some (1000 * 1 + sec))).reports)) ∧
  ∀ (e : Env) (n sec : Nat) (x : Slot) (r : RouteEntry) (w : Work),
    w.live.slot n = some x → Map.find x.route e.tables.routes = some r →
    let occupied := ∃ y, w.live.sectionAt sec = some y ∧ y.state = .occupied
    let after := w.onSection e sec n
    let marked := fun (z : Slot) => { z with marks := (r.path.zip x.marks).map (fun k => k.2 || k.1 == sec) }
    let becomes := fun (v : Work) (z : Slot) => v.live.slot n = some z ∧ (∀ m ≠ n, v.live.slot m = w.live.slot m) ∧
      v = { w with live := { w.live with slots := v.live.slots, reports := v.live.reports, sent := v.live.sent } }
    (x.state = .clearing ∨ x.state = .clear →
      sec ∉ r.path ++ r.overlap ∨ (∃ y, w.live.sectionAt sec = some y ∧ y.state = .clear) → after = w) ∧
    (x.state = .entered →
      let later := sec ∈ r.overlap ∧ x.overlap = some .timing ∧ x.timer = none ∧
        w.live.holder sec = some (n, .overlap) ∧ ∃ y, w.live.sectionAt sec = some y ∧ y.state ≠ .occupied
      (sec ∈ r.path → occupied → ∃ v : Work, becomes v (marked x) ∧ v.live.reports = w.live.reports ∧
        v.live.sent = w.live.sent ∧ after = ((v.startOverlap e n).releaseTest e n).fleetTest e n) ∧
      (sec ∈ r.path → ¬ occupied → after = (w.releaseTest e n).fleetTest e n) ∧
      (sec ∉ r.path → later → OverlapReleased e n x r (fun k => k = sec) w after) ∧
      (sec ∉ r.path → ¬ later → after = w)) ∧
    (x.state = .timedRelease →
      let entry := r.path.head? = some sec ∧ occupied ∧ ∃ y, x.timer = some y ∧ y.cause = some .approach
      (entry → ∃ v : Work, becomes v (marked { x with state := .entered, timer := none }) ∧ after = v.startOverlap e n ∧
        v.live.reports = (w.live.offer e .a .signalPassedAfterCancel .slot n (some x.route)).reports) ∧
      (¬ entry → after = w))

/-- The causes of replacement but the first and the sixth, handed to a slot in CLEARING or CLEAR (R91): a required point that
is not detected (2), a claim that becomes unproven (3), our owner's leaving US (4), the neighbour's line-clear flag dropped,
or the link lost (5), a failed proving (7), and in CLEAR, with no proving in progress, an entry signal that shows another
aspect (8). Each orders DANGER, and puts the slot into REPLACED with its report; a change that is none of these leaves the
slot, but for a proven entry signal, by which CLEARING becomes CLEAR (R89), and an exit signal that changes the aspect chosen,
which is then ordered with the slot's state kept (R89, R90). Each keeps every lock and claim (R108, R110), and its report is
queued before the claim changes of its order are taken, by the model's choice (log 67). A slot in another state is not
replaced, and neither the end of a proving nor a proven aspect changes it (R89, R93, R113). -/
def Obligations.ReplacementCauses : Prop :=
  (∀ (e : Env) (n cause number : Nat) (x : Slot) (w : Work), w.live.slot n = some x → x.state ≠ .clearing →
    x.state ≠ .clear → w.replace e n cause number = w ∧
      ∀ g, (∀ proven, w.onProving e g n proven = w) ∧ w.onAspect e g n = w) ∧
  ∀ (e : Env) (n : Nat) (x : Slot) (r : RouteEntry) (g : SignalRec) (w : Work),
    w.live.slot n = some x → Map.find x.route e.tables.routes = some r → (x.state = .clearing ∨ x.state = .clear) →
    w.live.signal r.entrySignal = some g →
    let shows := fun (v : Work) (a : Aspect) => ∃ z, v.live.signal r.entrySignal = some z ∧ z.commanded = a ∧
      z.proving = some (e.clock + e.tables.provingTime r.entrySignal)
    let replaced := fun (v : Work) (cause number : Nat) =>
      v.live.slot n = some { x with state := .replaced, aspect := some .danger } ∧ shows v .danger ∧ v.scan = true ∧
      SignalOrdered e r.entrySignal .danger w v ∧ w.live.HoldingsStand n v.live ∧
      v.live.reports = (w.live.offer e .a .signalReplaced .slot n (some (1000 * cause + number))).reports
    (∀ p q, Map.find p r.requirements = some q →
      (w.live.detected p q = false → replaced (w.onPoint e p n) 2 p) ∧
      (w.live.detected p q = true → w.onPoint e p n = w)) ∧
    (∀ element, replaced (w.onClaim e n element false) 3 element ∧ w.onClaim e n element true = w) ∧
    (∀ link line, replaced (w.onLineLost e link line n) 4 (10 * link + line)) ∧
    (∀ link line, let shown := ∃ y p, w.live.line link line = some y ∧ y.last = some p ∧ p.lineClear = true
      (shown → w.onLineFlag e link line n = w) ∧
      (¬ shown → replaced (w.onLineFlag e link line n) 5 (10 * link + line))) ∧
    (∀ link line, r.exit = .line link line →
      (∀ y ∈ w.live.slots, ∀ z, Map.find y.2.route e.tables.routes = some z → z.exit = .line link line → y.1 = n) →
      replaced (w.take e (.linkLost link line)) 5 (10 * link + line)) ∧
    replaced (w.onProving e r.entrySignal n false) 7 r.entrySignal ∧
    (x.state = .clear → w.onProving e r.entrySignal n true = w) ∧
    (x.state = .clearing → ∃ l, w.onProving e r.entrySignal n true = { w with live := { w.live with slots := l } } ∧
      Map.find n l = some { x with state := .clear } ∧ ∀ m ≠ n, Map.find m l = w.live.slot m) ∧
    ∀ a,
      let chosen := w.live.chosenAspect r
      let steps := r.exit = .signal a ∧ x.aspect ≠ some chosen
      let fails := a = r.entrySignal ∧ x.state = .clear ∧ g.proving = none ∧ g.proven ≠ x.aspect
      (steps → (w.onAspect e a n).live.slot n = some { x with aspect := some chosen } ∧
        shows (w.onAspect e a n) chosen ∧ SignalOrdered e r.entrySignal chosen w (w.onAspect e a n) ∧
        w.live.HoldingsStand n (w.onAspect e a n).live ∧ (w.onAspect e a n).live.reports = w.live.reports) ∧
      (¬ steps → fails → replaced (w.onAspect e a n) 8 r.entrySignal) ∧
      (¬ steps → ¬ fails → w.onAspect e a n = w)

/-- How a slot before clearing follows the changes handed to it. In SETTING and WAIT_LINE, while it is not held at SETTING, a
change of a required point lets it order its points (R80), and in SETTING it enters LOCKED once every required point is
detected (R81, R82); a slot in LOCKED returns to SETTING, with its hold ended and its points ordered, when a required point is
lost. Once the line is ours a slot in WAIT_LINE enters LOCKED, or SETTING, and its line wait goes (R84). When the line is lost
a slot in SETTING or LOCKED enters WAIT_LINE, where it orders its points and its ask is sent unless one is outstanding, or is
released with LINE_REFUSED, reason 3, when the link is not UP (R83, R85, R140); that a hold at SETTING stays there and one at
LOCKED ends is the model's choice (log 22). In LOCKED a change of a route section, of a claim to proven or of the line-clear
flag makes the clearing test (R87, R106, R136). None of these but the release takes a lock or claim away. REPLACED, ENTERED
and TIMED_RELEASE take none of these changes. -/
def Obligations.SlotsBeforeClearingFollowChanges : Prop :=
  ∀ (e : Env) (n : Nat) (x : Slot) (r : RouteEntry) (w : Work),
    w.live.slot n = some x → Map.find x.route e.tables.routes = some r →
    let becomes := fun (v : Work) (y : Slot) => v.live.slot n = some y
    let detected := ∀ y ∈ r.requirements, w.live.detected y.1 y.2 = true
    let heldThere := x.held = some .setting
    let ended := x.state = .replaced ∨ x.state = .entered ∨ x.state = .timedRelease
    (let v := w.clearTest e n
      let clears := x.state = .locked ∧ x.held ≠ some .locked ∧ w.live.clearable n r = true
      (clears → v.live.slot n = some { x with state := .clearing, aspect := some (w.live.chosenAspect r) } ∧
        ∀ y, w.live.signal r.entrySignal = some y → v.live.ordered e r.entrySignal (w.live.chosenAspect r) ∧
          SignalOrdered e r.entrySignal (w.live.chosenAspect r) w v) ∧
      (¬ clears → v = w)) ∧
    (∀ p,
      let v := w.onPoint e p n
      let lost := ∃ q, Map.find p r.requirements = some q ∧ w.live.detected p q = false
      (x.state = .setting ∨ x.state = .waitLine →
        (heldThere → v = w) ∧ (¬ heldThere → PointsOrdered e r w.live v.live) ∧
        (x.state = .waitLine ∨ ¬ detected → becomes v x) ∧
        (x.state = .setting → ¬ heldThere → detected → EntersLocked e n x r w.live v.live)) ∧
      (x.state = .locked → (¬ lost → v = w) ∧
        (lost → becomes v { x with state := .setting, held := none } ∧ PointsOrdered e r w.live v.live)) ∧
      (ended → v = w)) ∧
    (let v := w.leaveWaitLine e n
      let left : Slot := { x with lineWait := none }
      (x.state ≠ .waitLine → v = w) ∧
      (x.state = .waitLine → heldThere ∨ ¬ detected →
        becomes v { left with state := .setting } ∧ v.live.queue = w.live.queue ∧ v.live.elements = w.live.elements) ∧
      (x.state = .waitLine → ¬ heldThere → detected → EntersLocked e n left r w.live v.live)) ∧
    (∀ link line,
      let v := w.onLineLost e link line n
      (x.state = .setting ∨ x.state = .locked →
        (w.live.linkState link ≠ .up → v = w.refuseSlot e 3 n) ∧
        (w.live.linkState link = .up →
          becomes v { x with
            state := .waitLine, lineWait := some (link, line), held := if x.held = some .locked then none else x.held } ∧
          (heldThere → v.live.elements = w.live.elements ∧ v.live.queue = w.live.queue) ∧
          (¬ heldThere → PointsOrdered e r w.live v.live) ∧
          ∀ y b, w.live.line link line = some y → Map.find link e.tables.boundary = some b →
            (y.ask ≠ none → v.live.links = w.live.links ∧ v.live.sent = w.live.sent) ∧
            (y.ask = none → v.live.line link line = some { y with
                ask := some (y.nextAsk, e.clock + b.replyTimeout * 10), nextAsk := y.nextAsk + 1 } ∧
              v.live.sent = w.live.sent ++ [.directionAsk link line y.nextAsk]))) ∧
      (x.state = .waitLine ∨ ended → v = w) ∧
      (x.state = .locked → w.onLineFlag e link line n = w.clearTest e n) ∧
      (x.state = .setting ∨ x.state = .waitLine ∨ ended → w.onLineFlag e link line n = w)) ∧
    (∀ sec, x.state = .locked →
      (sec ∈ r.path ++ r.overlap → w.onSection e sec n = w.clearTest e n) ∧
      (sec ∉ r.path ++ r.overlap → w.onSection e sec n = w)) ∧
    (∀ sec, x.state = .setting ∨ x.state = .waitLine ∨ x.state = .replaced → w.onSection e sec n = w) ∧
    (let stands := fun (v : Work) => w.live.HoldingsStand n v.live
     stands (w.clearTest e n) ∧ (∀ p, stands (w.onPoint e p n)) ∧ stands (w.leaveWaitLine e n) ∧
      ∀ link line, w.live.linkState link = .up → stands (w.onLineLost e link line n)) ∧
    ∀ element, w.onClaim e n element true = w.clearTest e n ∧ (x.state = .locked → w.onClaim e n element false = w)

/-- Whom each handed change reaches. A section's change reaches every slot whose route has it as path, overlap or approach
section (R28); a point's every slot that requires it; a signal's proven aspect those whose entry or exit signal it is; its
supervised flag those whose entry signal it is; the end of its proving the slot that it names as entry-of-slot (R57); a
claim's change the slot of the claim (R106); a line that becomes ours those that wait for it (R84); a line lost, a flag and a
lost link those that exit onto it (R85, R133, R136). Several slots take one change in a free order (log 3). A failed ask
releases every slot that waits on it, in the order of the slot records, by rising number, each with LINE_REFUSED and then
ROUTE_RELEASED (R84, R86). At the end of an event's changes the points that are due are placed in ascending order: a claimed
point that is supervised, stands still, has not failed, holds no route lock and is not evaluated where its claims require it
is ordered there (R103; log 4). A claimed signal whose proving has ended is ordered DANGER when its commanded aspect is
another and no slot in CLEARING or CLEAR has it as entry signal (R104). -/
def Obligations.ChangesReachTheirSlots : Prop :=
  ∀ (e : Env) (w : Work),
    let reaches := fun (c : Change) (who : Slot → RouteEntry → Prop) (act : Nat → Work → Work) =>
      Work.Reaches e who act w (w.take e c)
    (∀ sec, reaches (.sectionState sec) (fun _ r => sec ∈ r.path ++ r.overlap ++ r.approach) (Work.onSection e sec)) ∧
    (∀ p, reaches (.pointChanged p) (fun _ r => Map.find p r.requirements ≠ none) (Work.onPoint e p)) ∧
    (∀ g, reaches (.aspectChanged g) (fun _ r => r.entrySignal = g ∨ r.exit = .signal g) (Work.onAspect e g)) ∧
    (∀ g, reaches (.signalSupervised g) (fun _ r => r.entrySignal = g) (Work.clearTest e)) ∧
    (∀ link line,
      let exits := fun (_ : Slot) (r : RouteEntry) => r.exit = .line link line
      reaches (.lineOurs link line) (fun x _ => x.lineWait = some (link, line)) (Work.leaveWaitLine e) ∧
      reaches (.lineLost link line) exits (Work.onLineLost e link line) ∧
      reaches (.lineFlag link line) exits (Work.onLineFlag e link line) ∧
      reaches (.linkLost link line) exits (fun n v => v.replace e n 5 (10 * link + line)) ∧
      ∀ reason, ∃ ms, w.live.Chosen e (fun x _ => x.state = .waitLine ∧ x.lineWait = some (link, line)) ms ∧
        w.take e (.askFailed link line reason) = ms.foldl (fun v n => v.refuseSlot e reason n) w) ∧
    (∀ slot element proven, w.take e (.claimChanged slot element proven) = w.onClaim e slot element proven) ∧
    (∀ g y proven, w.live.signal g = some y →
      (∀ n, y.entryOf = some n → w.take e (.provingEnded g proven) = w.onProving e g n proven) ∧
      (y.entryOf = none → w.take e (.provingEnded g proven) = w)) ∧
    (∀ reason n x, w.live.slot n = some x → (w.refuseSlot e reason n).live.slot n = none ∧
      (∀ m ≠ n, (w.refuseSlot e reason n).live.slot m = w.live.slot m) ∧
      (w.refuseSlot e reason n).live.reports = (Live.offer e .c .routeReleased .slot n (some x.route)
        (w.live.offer e .b .lineRefused .slot n (some (1000 * reason + x.route)))).reports) ∧
    (∃ ps : List Nat, ps.Pairwise (fun a b => a < b) ∧ (∀ p, p ∈ ps ↔ p ∈ (w.handedOn e).places) ∧
      w.settled e = ps.foldl (fun v p => v.placePoint e p) { w.handedOn e with places := [] }) ∧
    (∀ p y, w.live.point p = some y →
      let may := fun q => (∃ c ∈ w.live.claims, c.element = p) ∧
        (∀ c ∈ w.live.claims, c.element = p → c.required = .position q) ∧
        y.evaluated ≠ some q ∧ y.routeLock = none ∧ y.supervised = true ∧ y.movement = none ∧ y.moveFailed = false
      (∀ q, may q → (w.placePoint e p).live.waits p (.position q) ∧ ∃ z, (w.placePoint e p).live.point p = some z ∧
        z = { y with
          movement := some (q, e.clock + e.tables.moveLimit p), persistence := 0, pendingOrder := z.pendingOrder }) ∧
      ((∀ q, ¬ may q) → w.placePoint e p = w)) ∧
    ∀ g y, w.live.signal g = some y →
      let clears := ∃ x ∈ w.live.slots, (x.2.state = .clearing ∨ x.2.state = .clear) ∧ e.tables.entryOf x.2 = some g
      let may := (∃ c ∈ w.live.claims, c.element = g) ∧ y.commanded ≠ .danger ∧ ¬ clears
      (may → (w.take e (.placeSignal g)).live.ordered e g .danger ∧
        (w.take e (.placeSignal g)).live.waits g (.aspect .danger)) ∧
      (¬ may → w.take e (.placeSignal g) = w)

/-! ## The Order Gate and the field order queue (Chapters 3 and 9) -/

/-- ELEMENT ORDER. For NORMAL or REVERSE the steps of R146 and the checks of R147 are made in order, each with its answer and
detail value, check 3 refusing whenever the queue is full; an order that passes is DONE when the point stands there, and
otherwise begins a movement and is placed in the field order queue (R146 to R149). An element above 511 and an order value of
no meaning are BAD_FORM, whatever the rest (R146). For a signal, in any mode but START: UNKNOWN where no element has a record,
BAD_FORM where the element is no signal (R146); DANGER passes unless the queue refuses it; CAUTION and PROCEED are IGNORED for
the entry signal of a slot in CLEARING or CLEAR and otherwise send DANGER in their place; a slot in CLEARING or CLEAR whose
entry signal is so ordered is replaced with cause 6, which keeps every lock and claim (R150 to R152). The claims on the signal
follow the order (R106); that the slot is replaced, with its report, before their changes are taken is the model's choice (log
67). -/
def Obligations.ElementOrderDecided : Prop :=
  (∀ (tag n order : Nat) (s : State), s.Running →
    let answered := fun (t : State) code detail =>
      exec (.elementOrder tag n order) s = .next (t.sending (detailAnswer tag 8 code detail))
    (511 < n ∨ Order.ofCode order = none → answered s .badForm 0) ∧
    ∀ p, n ≤ 511 → Order.ofCode order = some (.position p) →
      (s.mode.operating = false → answered s .mode 0) ∧
      (s.mode.operating = true →
        (Map.find n s.live.elements = none → answered s .unknown 0) ∧
        (∀ y, Map.find n s.live.elements = some y → s.live.point n = none → answered s .badForm 0) ∧
        ∀ r sec, s.live.point n = some r → s.store.active.pointSection n = some sec →
          let free := r.supervised = true ∧ ¬ s.live.pointHeld n
          let moving : PointRec :=
            { r with movement := some (p, s.clock + s.store.active.moveLimit n), persistence := 0 }
          let ordered := Live.placeOrder s.store.active n (.position p) (s.live.setElement n (.point moving))
          (r.supervised = false → answered s .unavailable 0) ∧
          (r.supervised = true → ∀ slot q, r.routeLock = some (slot, q) → answered s .lockedIn slot) ∧
          (r.supervised = true → r.routeLock = none → ∀ c ∈ s.live.claims, c.element = n →
            (∀ d ∈ s.live.claims, d.element = n → c.slot ≤ d.slot) → answered s .lockedIn c.slot) ∧
          (free → r.movement ≠ none → answered s .busy 1) ∧
          (free → r.movement = none → s.queueIsFull → answered s .busy 2) ∧
          (free → r.movement = none → ¬ s.queueIsFull →
            (s.live.isClear sec = false → s.live.possessionOf sec = none → answered s .conflict sec) ∧
            (s.live.isClear sec = true ∨ s.live.possessionOf sec ≠ none →
              (r.evaluated = some p → r.moveFailed = false → answered s .done 0) ∧
              (r.evaluated ≠ some p ∨ r.moveFailed = true →
                answered { s with live := ordered } .accepted 0))))) ∧
  ∀ (tag g order : Nat) (a : Aspect) (s : State), s.Running → g ≤ 511 → Order.ofCode order = some (.aspect a) →
    let answered := fun (t : State) code detail =>
      exec (.elementOrder tag g order) s = .next (t.sending (detailAnswer tag 8 code detail))
    (Map.find g s.live.elements = none → answered s .unknown 0) ∧
    (∀ y, Map.find g s.live.elements = some y → s.live.signal g = none → answered s .badForm 0) ∧
    ∀ r, s.live.signal g = some r →
    let clears := fun (x : Nat × Slot) =>
      (x.2.state = .clearing ∨ x.2.state = .clear) ∧ s.store.active.entryOf x.2 = some g
    (a ≠ .danger → ∀ x ∈ s.live.slots, clears x → (∀ y ∈ s.live.slots, clears y → y.1 = x.1) →
      answered s .ignored x.1) ∧
    (a = .danger ∨ (∀ x ∈ s.live.slots, ¬ clears x) →
      (s.queueIsFull → ¬ s.orderWaits g → answered s .busy 2) ∧
      (¬ s.queueIsFull ∨ s.orderWaits g → ∃ w,
        (a = .danger → answered (s.ending w) .accepted 0) ∧ (a ≠ .danger → answered (s.ending w) .replaced 1) ∧
        w.live.signal g = some { r with
          commanded := .danger, proving := some (s.clock + s.store.active.provingTime g)
          pendingOrder := r.pendingOrder.map (fun _ => .aspect .danger) } ∧
        ((∃ x ∈ w.live.queue, x.element = g ∧ x.order = .aspect .danger) ∨
          w.live.pendingOrder g = some (.aspect .danger)) ∧
        SignalOrdered s.env g .danger s.work w ∧
        (r.entryOf = none → w.live.slots = s.live.slots ∧ w.live.reports = s.live.reports) ∧
        ∀ n x, r.entryOf = some n → s.live.slot n = some x → (Map.find x.route s.store.active.routes).isSome = true →
          ((x.state = .clearing ∨ x.state = .clear) →
            w.live.slot n = some { x with state := .replaced, aspect := some .danger } ∧
            w.scan = true ∧ s.live.HoldingsStand n w.live ∧ w.live.reports =
              (s.live.offer s.env .a .signalReplaced .slot n (some (1000 * 6 + g))).reports) ∧
          (x.state ≠ .clearing → x.state ≠ .clear →
            w.live.slots = s.live.slots ∧ w.live.reports = s.live.reports)))

/-- The field order queue: a new order for an element takes the place of its waiting order; otherwise it joins the end, or is
held as pending while the queue is full. The oldest order is sent first, with the content that it has at FIELD_ORDER_SENT (log
18), and the place it leaves takes the pending order of the lowest-numbered element (R55). With no order waiting nothing is
sent (log 30). A signal order is placed so, writes the commanded aspect, begins the proving anew, and hands on the changes of
the claims on the signal, and nothing else (R52, R57, R106); for an element that is no signal there is none. -/
def Obligations.OrderKeepsItsPlace : Prop :=
  (∀ (e : Env) (g : Nat) (a : Aspect) (w : Work),
    (w.live.signal g = none → w.orderSignal e g a = w) ∧
    ∀ r, w.live.signal g = some r → SignalOrdered e g a w (w.orderSignal e g a) ∧
      (w.orderSignal e g a).live.slots = w.live.slots ∧ (w.orderSignal e g a).live.reports = w.live.reports ∧
      (w.orderSignal e g a).scan = w.scan) ∧
  (∀ (t : Tables) (n : Nat) (o : Order) (l : Live),
    let full := Config.orderPlaces ≤ l.queue.length ∨ ∃ x ∈ l.elements, x.2.pendingOrder ≠ none
    let waits := ∃ x ∈ l.queue, x.element = n
    (waits → (l.placeOrder t n o).queue = l.queue.map (fun x => if x.element = n then { x with order := o } else x)) ∧
    (¬ waits → l.pendingOrder n ≠ none → (l.placeOrder t n o).queue = l.queue ∧
      (l.placeOrder t n o).pendingOrder n = some o) ∧
    (¬ waits → l.pendingOrder n = none →
      (¬ full → l.placeOrder t n o =
        { l with queue := l.queue ++ [{ element := n, address := t.fieldAddress n, order := o }] }) ∧
      (full → (l.placeOrder t n o).queue = l.queue ∧
        ((∃ r, l.point n = some r) ∨ (∃ r, l.signal n = some r) → (l.placeOrder t n o).pendingOrder n = some o)))) ∧
  ∀ s : State, s.power = true →
    (s.live.queue = [] → exec .fieldOrderSent s = .next s) ∧
    ∀ x rest, s.live.queue = x :: rest →
      let sent := { s.live with queue := rest, sent := s.live.sent ++ [.order x.address x.order] }
      ((∀ y ∈ s.live.elements, y.2.pendingOrder = none) → exec .fieldOrderSent s = .next { s with live := sent }) ∧
      ∀ a n r b o, s.live.elements = a ++ (n, r) :: b → (∀ y ∈ a, y.2.pendingOrder = none) →
        r.pendingOrder = some o → rest.length < Config.orderPlaces →
        exec .fieldOrderSent s = .next { s with live := { sent with
          queue := rest ++ [{ element := n, address := s.store.active.fieldAddress n, order := o }]
          elements := Map.update n (ElementRec.withPending none) s.live.elements } }

/-! ## Sections (Chapter 2) -/

/-- SECTION RESET: its checks in order; a reset that passes makes the section CLEAR in a possession and puts it into SWEEP
outside one, with balance 0, no causes, and SECTION_RESET with detail 0 or 1 (R31 to R33). That SECTION_RESET is queued before
what is handed on is taken is the model's choice (log 62). -/
def Obligations.SectionResetByPossession : Prop :=
  ∀ (tag n : Nat) (s : State), s.Running →
    let answered := fun (t : State) code => exec (.sectionReset tag n) s = .next (t.sending (codeAnswer tag 9 code))
    (s.mode.operating = false → answered s .mode) ∧
    (s.mode.operating = true →
      (s.live.sectionAt n = none → answered s .unknown) ∧
      ∀ r x, s.live.sectionAt n = some r → Map.find n s.store.active.sections = some x →
        let supervised := ∀ i ∈ x.heads, ∃ h, s.live.head i.head = some h ∧ h.supervised = true
        (r.lock ≠ none → answered s .lockedIn) ∧
        (r.lock = none → r.state ≠ .disturbed → answered s .ignored) ∧
        (r.lock = none → r.state = .disturbed → ¬ supervised → answered s .unavailable) ∧
        (r.lock = none → r.state = .disturbed → supervised →
          let inPossession := r.possession ≠ none
          ∃ w, (inPossession → answered (s.ending w) .done) ∧ (¬ inPossession → answered (s.ending w) .accepted) ∧
            (∃ y, w.live.sectionAt n = some y ∧ y = { r with
              state := y.state, balance := 0, causes := [], axleSeen := false, disagreement := 0 } ∧
              (inPossession → y.state = .clear) ∧ (¬ inPossession → y.state = .sweep)) ∧
            (∀ m ≠ n, w.live.sectionAt m = s.live.sectionAt m) ∧ w.todo = [.sectionState n] ∧
            (inPossession →
              w.live.reports = (s.live.offer s.env .c .sectionReset .trackSection n (some 0)).reports) ∧
            (¬ inPossession →
              w.live.reports = (s.live.offer s.env .c .sectionReset .trackSection n (some 1)).reports)))

/-- The counting of one telegram for one section: each delta is taken modulo 256 and lies in 0 to 255; the net change is axles
in less axles out, within −255 to +255; and the state follows from the state before, the clamp and the balance (R21, R23,
R25). -/
def Obligations.NetChangeSetsTheState : Prop :=
  (∀ new reference : Octet, delta new reference = (new.toNat + 256 - reference.toNat) % 256 ∧
    delta new reference ≤ 255) ∧
  (∀ dA dB : Nat, netChange true dA dB = (dA : Int) - dB ∧ netChange false dA dB = (dB : Int) - dA ∧
    (dA ≤ 255 → dB ≤ 255 → ∀ inA, -255 ≤ netChange inA dA dB ∧ netChange inA dA dB ≤ 255)) ∧
  ∀ (net : Int) (r : SectionRec),
    let t := (r.balance : Int) + net
    let after := (r.applyNet net).1
    (0 ≤ t → t ≤ 1023 → (after.balance : Int) = t ∧ after.causes = r.causes ∧ (r.applyNet net).2 = none ∧
      (r.state = .clear ∨ r.state = .occupied → after.axleSeen = r.axleSeen ∧
        (t = 0 → after.state = .clear) ∧ (0 < t → after.state = .occupied)) ∧
      (r.state = .disturbed → after.state = .disturbed ∧ after.axleSeen = r.axleSeen) ∧
      (r.state = .sweep →
        (r.axleSeen = true → t = 0 → after.state = .clear ∧ after.axleSeen = false) ∧
        (¬ (r.axleSeen = true ∧ t = 0) → after.state = .sweep ∧ after.axleSeen = (r.axleSeen || 0 < net)))) ∧
    ((t < 0 ∨ 1023 < t) →
      let cause := if t < 0 then Cause.underflow else Cause.saturated
      after = { r with
        state := .disturbed, axleSeen := false, causes := after.causes
        balance := if t < 0 then 0 else 1023 } ∧
      (∀ c, c ∈ after.causes ↔ c = cause ∨ c ∈ r.causes) ∧
      (r.applyNet net).2 = if cause ∈ r.causes then none else some cause)

/-- What the Vacancy Evaluator does with a section whose record it changes. The record is written, with the disagreement count
0 when the section leaves CLEAR (R37); a cause that was not in the set is reported SECTION_DISTURBED, class B, with its detail
value (R27); a change of state is handed on to the slots, with the STATE NOTICE when notices are on and the line-clear flags
formed afresh, and a change without one is not (R28, R135). Every other record is as it was, and an absent section takes
nothing. That SECTION_DISTURBED is queued before what is handed on is taken is the model's choice (log 53). A cause makes the
section DISTURBED and joins its set once. A head's counters change so every section that it bounds, in a free order (log 3):
by STEP where a delta exceeds the step limit, and by the net change otherwise (R22, R24); its loss of supervision does so by
HEAD_LOST (R29). That the records of both sections are written, with their reports, before the change of either is taken is
the model's choice (log 40). -/
def Obligations.SectionChangesHandedOn : Prop :=
  (∀ (e : Env) (n : Nat) (f : SectionRec → SectionRec × Option Cause) (w : Work),
    let after := w.section_ e n f
    (w.live.sectionAt n = none → after = w) ∧
    ∀ old, w.live.sectionAt n = some old →
      let left := old.state = .clear ∧ (f old).1.state ≠ .clear
      let new := if left then { (f old).1 with disagreement := 0 } else (f old).1
      let reported := fun (l : Live) => match (f old).2 with
        | some c => l.offer e .b .sectionDisturbed .trackSection n (some c.code)
        | none => l
      let changed := new.state ≠ old.state
      let notice : List Sent :=
        if changed ∧ e.tables.optionsInForce.stateNotices = 1 then [.sectionNotice n new.state new.balance new.causes] else []
      after.live.sectionAt n = some new ∧ (∀ m ≠ n, after.live.sectionAt m = w.live.sectionAt m) ∧
      after = { w with
        live := { reported w.live with
          sections := after.live.sections, links := after.live.links, sent := (reported w.live).sent ++ notice }
        todo := w.todo ++ (if changed then [.sectionState n] else []) } ∧
      (¬ changed → after.live.links = w.live.links) ∧
      (changed → ∀ link line y, w.live.line link line = some y → ∃ v, after.live.line link line = some v ∧
        v = { y with lineClear := v.lineClear } ∧
        (v.lineClear = true ↔ ∃ x, e.tables.lineEntry link line = some x ∧ ∀ sec ∈ x.sections,
          ∃ z, after.live.sectionAt sec = some z ∧ z.state = .clear ∧ z.lock = none))) ∧
  (∀ (c : Cause) (r : SectionRec),
    let added := r.addCause c
    added.1 = { r with state := .disturbed, axleSeen := false, causes := added.1.causes } ∧
    (∀ d, d ∈ added.1.causes ↔ d = c ∨ d ∈ r.causes) ∧ added.2 = if c ∈ r.causes then none else some c) ∧
  [Cause.saturated, .underflow, .step, .headLost, .start, .disagree].map Cause.code = [1, 2, 3, 4, 5, 6] ∧
  ∀ (e : Env) (h : Nat) (cA cB nA nB : Octet) (w : Work),
    let fault := e.tables.stepLimit h < delta nA cA ∨ e.tables.stepLimit h < delta nB cB
    let bounded := fun (after : Work) (f : Nat × Bool → SectionRec → SectionRec × Option Cause) =>
      ∃ xs choices, List.Perm xs (e.tables.boundedBy h) ∧
        after = xs.foldl (fun v x => v.section_ e x.1 (f x)) (w.on (fun l => { l with choices := choices }))
    w.evaluate e h none nA nB = w ∧
    (fault → bounded (w.evaluate e h (some (cA, cB)) nA nB) (fun _ => SectionRec.addCause .step)) ∧
    (¬ fault → bounded (w.evaluate e h (some (cA, cB)) nA nB)
      (fun x => SectionRec.applyNet (netChange x.2 (delta nA cA) (delta nB cB)))) ∧
    bounded (w.loseHead e h) (fun _ => SectionRec.addCause .headLost)

/-- A head's counters are counted once in each section that it bounds, whole: the first after a loss of supervision set the
references alone, a step fault disturbs every bounded section and counts nothing, and otherwise each takes its net change; a
remote head's entry of a COUNTS does the same (R20, R22, R24, R26, R35, R45, R139). The pair is held for the link on which the
head is exported, and is sent there in a COUNTS when it is not the one held before (R36, R138). The entries of a COUNTS are
taken one after another, each with what the ones before it have left, and as an event of its own (log 5); one that names no
remote head of the link is reported while its number is not among the unknown numbers seen, which it then joins, and a COUNTS
with no entry is only heard (R139). That a number joins at the end, and that a record renewed by a commit has none, is the
model's choice (logs 51, 57). A head that becomes supervised is due a STATE NOTICE, and no other (R58). -/
def Obligations.HeadStatusCounts : Prop :=
  (∀ (port : Nat) (entries : List CountsEntry) (k : LinkRec) (s : State), s.power = true →
    Map.find port s.live.links = some k →
    let links := Map.update port (LinkRec.hear (s.clock + s.store.active.linkSupervision port)) s.live.links
    let heard := { s.work with live := { s.live with links := links } }
    exec (.counts port []) s = .next { s with live := { s.live with links := links } } ∧
    exec (.counts port entries) s = .next (s.ending (entries.foldl (fun w x => w.deliver s.env port x) heard)) ∧
    ∀ (x : CountsEntry) (w : Work),
      let delivered := w.deliver s.env port x
      (∀ n h, Map.find x.number (s.store.active.remoteHeads port) = some n →
        Map.find n w.live.elements = some (.head h) → ((s.store.active.boundedBy n).map Prod.fst).Nodup →
        HeadCounted { s with live := w.live } { s with live := delivered.live } n h x.nA x.nB) ∧
      (∀ n h, Map.find x.number (s.store.active.remoteHeads port) = some n →
        Map.find n w.live.elements = some (.head h) →
        delivered.notices = if h.supervised = true ∨ n ∈ w.notices then w.notices else w.notices ++ [n]) ∧
      (Map.find x.number (s.store.active.remoteHeads port) = none → ∀ y, Map.find port w.live.links = some y →
        (x.number ∈ y.unknownSeen → delivered = w) ∧
        (x.number ∉ y.unknownSeen → delivered.notices = w.notices ∧
          Map.find port delivered.live.links = some { y with unknownSeen := y.unknownSeen ++ [x.number] } ∧
          delivered.live.reports =
            (w.live.offer s.env .c .unknownRemoteHead .link port (some x.number)).reports ∧
          delivered.live.sections = w.live.sections ∧ delivered.live.elements = w.live.elements))) ∧
  ∀ (n : Nat) (h : HeadRec) (nA nB : Octet) (s : State), s.power = true → s.mode ≠ .start →
    Map.find n s.live.elements = some (.head h) → ((s.store.active.boundedBy n).map Prod.fst).Nodup →
    (∀ address, s.store.active.atAddress address = some n →
      ∃ w t, exec (.status address (.counts nA nB)) s = .next t ∧ t = s.ending w ∧
        w.notices = (if h.supervised = true then [] else [n]) ∧
        HeadCounted s t n h nA nB ∧ CountersSent s t n nA nB ∧
        ∀ link k, Map.find link s.live.links = some k →
          t.agreedAt link = some (s.store.active.passed n nA nB link k).agreed) ∧
    ∀ port y number, Map.find port s.live.links = some y →
      Map.find number (s.store.active.remoteHeads port) = some n →
      ∃ t, exec (.counts port [{ number := number, nA := nA, nB := nB }]) s = .next t ∧ HeadCounted s t n h nA nB ∧
        CountersSent s t n nA nB ∧
        ∀ link k, Map.find link s.live.links = some k →
          let heard := if link = port then k.hear (s.clock + s.store.active.linkSupervision port) else k
          t.agreedAt link = some (s.store.active.passed n nA nB link heard).agreed

/-! ## Elements (Chapter 3) -/

/-- The STATE NOTICES of elements. A change handed on for a point or a signal makes one notice due, once in an event, when a
field of R58 differs. What is handed on makes none due. At the end of a step's work, with notices off none is sent; with
notices on one is sent for each element due, with the fields as they then stand (R58), after everything else that the work
sends, which is the model's choice (log 6). -/
def Obligations.NoticesOfElements : Prop :=
  (∀ (e : Env) (w : Work),
    let v := w.event e
    let notice := fun (n : Nat) (x : ElementRec) => match x with
      | .point r => Sent.pointNotice n r.supervised r.evaluated r.lastReported r.moveFailed r.movement.isSome
          (r.routeLock.map (fun k => k.1))
      | .signal r => .signalNotice n r.supervised r.commanded r.proven r.proving.isSome
      | .head r => .headNotice n r.supervised
    v.notices = w.notices ∧
    (e.tables.optionsInForce.stateNotices ≠ 1 → w.finish e = v.live) ∧
    (e.tables.optionsInForce.stateNotices = 1 → w.finish e = { v.live with
      sent := v.live.sent ++ w.notices.filterMap (fun n => (Map.find n v.live.elements).map (notice n)) })) ∧
  (∀ (e : Env) (p : Nat) (old new : PointRec) (w : Work),
    let due := old.supervised ≠ new.supervised ∨ old.evaluated ≠ new.evaluated ∨ old.moveFailed ≠ new.moveFailed
    (w.handPoint e p old new).notices = if due ∧ p ∉ w.notices then w.notices ++ [p] else w.notices) ∧
  ∀ (e : Env) (g : Nat) (old new : SignalRec) (ended : Option Bool) (w : Work),
    let due := old.supervised ≠ new.supervised ∨ old.proven ≠ new.proven
    (w.handSignal e g old new ended).notices = if due ∧ g ∉ w.notices then w.notices ++ [g] else w.notices

/-- A point's position status: supervision and freshness, the last reported position, and the evaluated position by the
movement in progress, or at once after a loss of supervision, or by detection persistence; a change is handed on (R45, R47,
R48, R50, R57), and one STATE NOTICE is due when the supervised flag, the evaluated position or MOVE_FAILED has changed (R58).
The claims on the point follow its evaluated position, each change handed to the claim's slot (R106); the point is due for
placing after the end of a movement and after a change of its evaluated position, supervised flag or MOVE_FAILED (R103); and
as a flank candidate of a waiting route it makes a scan due when it becomes supervised or its MOVE_FAILED is cleared (R70,
R111). -/
def Obligations.PointStatus : Prop :=
  ∀ (address code n : Nat) (reported : Option Position) (r : PointRec) (s : State), s.power = true → s.mode ≠ .start →
    s.store.active.atAddress address = some n → reportedPosition code = some reported →
    Map.find n s.live.elements = some (.point r) →
    ∃ w z, exec (.status address (.position code)) s = .next (s.ending w) ∧ w.live.point n = some z ∧
      z.supervised = true ∧ z.freshness = some (s.clock + s.store.active.supervision n) ∧
      z.lastReported = some reported ∧ z.routeLock = r.routeLock ∧ z.pendingOrder = r.pendingOrder ∧
      (∀ target moment, r.movement = some (target, moment) →
        (reported = some target → z.movement = none ∧ z.evaluated = some target ∧ z.moveFailed = false ∧
          z.persistence = 0) ∧
        (reported ≠ some target → z.movement = r.movement ∧ z.evaluated = none ∧ z.moveFailed = r.moveFailed)) ∧
      (r.movement = none → z.movement = none ∧ z.moveFailed = r.moveFailed ∧
        (r.supervised = false → z.evaluated = reported ∧ z.persistence = 0) ∧
        (r.supervised = true →
          (reported = r.evaluated → z.evaluated = r.evaluated ∧ z.persistence = 0) ∧
          (reported ≠ r.evaluated → r.persistence + 1 = s.store.active.persistence n →
            z.evaluated = reported ∧ z.persistence = 0) ∧
          (reported ≠ r.evaluated → r.persistence + 1 ≠ s.store.active.persistence n →
            z.evaluated = r.evaluated ∧ z.persistence = r.persistence + 1))) ∧
      (.pointChanged n ∈ w.todo ↔ z.supervised ≠ r.supervised ∨ z.evaluated ≠ r.evaluated ∨
        z.moveFailed ≠ r.moveFailed ∨ z.movement ≠ r.movement) ∧
      w.notices = (if z.supervised ≠ r.supervised ∨ z.evaluated ≠ r.evaluated ∨ z.moveFailed ≠ r.moveFailed then [n]
        else []) ∧
      (∀ p, p ∈ w.places ↔ p = n ∧ (z.supervised ≠ r.supervised ∨ z.evaluated ≠ r.evaluated ∨
        z.moveFailed ≠ r.moveFailed ∨ z.movement ≠ r.movement)) ∧
      (w.scan = true ↔ (r.supervised = false ∨ (r.moveFailed = true ∧ z.moveFailed = false)) ∧ s.flankAwaited n) ∧
      ClaimsFollow n (z.evaluated ≠ r.evaluated) z.showing s.work w ∧
      w.live.sections = s.live.sections ∧ w.live.slots = s.live.slots ∧ w.live.links = s.live.links ∧
      ∀ m ≠ n, Map.find m w.live.elements = Map.find m s.live.elements

/-- A signal's aspect status: the shown aspect becomes the proven aspect; the commanded aspect ends a proving with "proven";
with no proving in progress a change to another aspect is reported ASPECT_MISMATCH; a change is handed on (R45, R47, R53,
R57), the end of a proving to the Flank Allocator too (R104), and one STATE NOTICE is due when the supervised flag or the
proven aspect has changed (R58). The claims on the signal follow its proven aspect, each change handed to the claim's slot
(R106), and as a flank candidate of a waiting route it makes a scan due when it becomes supervised (R70, R111). In what order
the changes of the one signal are handed on is the model's choice (logs 4, 66), which this does not rest on. That
ASPECT_MISMATCH is queued before what is handed on is taken is the model's choice (log 62). That no report is queued for a
status of NONE after a failed proving, which left the proven aspect NONE already, is the model's choice between R53 and R54
(log 41). -/
def Obligations.SignalStatus : Prop :=
  ∀ (address code g : Nat) (shown : Option Aspect) (r : SignalRec) (s : State), s.power = true → s.mode ≠ .start →
    s.store.active.atAddress address = some g → shownAspect code = some shown →
    Map.find g s.live.elements = some (.signal r) →
    let proved := r.proving ≠ none ∧ shown = some r.commanded
    let mismatch := r.proving = none ∧ r.proven ≠ shown ∧ shown ≠ some r.commanded
    ∃ w z, exec (.status address (.aspect code)) s = .next (s.ending w) ∧ w.live.signal g = some z ∧
      z = { r with
        supervised := true, freshness := some (s.clock + s.store.active.supervision g), proven := shown
        proving := z.proving } ∧
      (proved → z.proving = none) ∧ (¬ proved → z.proving = r.proving) ∧
      (.provingEnded g true ∈ w.todo ↔ proved) ∧ (.placeSignal g ∈ w.todo ↔ proved) ∧
      w.notices = (if r.supervised = false ∨ r.proven ≠ shown then [g] else []) ∧
      (.aspectChanged g ∈ w.todo ↔ r.proven ≠ shown) ∧
      (w.scan = true ↔ r.supervised = false ∧ s.flankAwaited g) ∧ w.places = [] ∧
      ClaimsFollow g (r.proven ≠ shown) z.showing s.work w ∧
      (.signalSupervised g ∈ w.todo ↔ r.supervised = false) ∧
      (mismatch → w.live.reports =
        (s.live.offer s.env .b .aspectMismatch .element g (some (aspectCode shown))).reports) ∧
      (¬ mismatch → w.live.reports = s.live.reports) ∧
      w.live.sections = s.live.sections ∧ w.live.slots = s.live.slots ∧ w.live.links = s.live.links ∧
      ∀ m ≠ g, Map.find m w.live.elements = Map.find m s.live.elements

/-- The telegrams that no record takes: a failed check on any port, a malformed control telegram, a STATUS with a value of no
meaning, of an unknown address, or of another kind than the element's, and a COUNTS entry for no remote head. The last three
are reported the first time (R45, R139, R181). WRONG_KIND carries no detail value (log 9), the meaning of a STATUS is read
before its address (log 35), and an address met in FAILED is not remembered (log 45, which says the same of START;
EveryCommandCompletes shows that). The addresses seen are the model's own list; that the unknown numbers seen of a link
grow at their end is the model's choice too (log 51). -/
def Obligations.TelegramsDiscarded : Prop :=
  (∀ port s, exec (.checkFailedTelegram port) s = .next s) ∧
  ∀ s : State, s.power = true → s.mode ≠ .start →
    (∀ tag kind, exec (.controlBadForm tag kind) s = .next (s.sending (codeAnswer tag kind .badForm))) ∧
    (∀ address content, StatusContent.meaningful content = false → exec (.status address content) s = .next s) ∧
    (∀ address content, StatusContent.meaningful content = true → s.store.active.atAddress address = none →
      (s.mode = .failed ∨ address ∈ s.addressesSeen → exec (.status address content) s = .next s) ∧
      (s.mode ≠ .failed → address ∉ s.addressesSeen → exec (.status address content) s = .next { s with
        addressesSeen := s.addressesSeen ++ [address]
        live := s.live.offer s.env .c .unknownAddress .table 1 (some address) })) ∧
    (∀ address content n r, StatusContent.meaningful content = true → s.store.active.atAddress address = some n →
      Map.find n s.live.elements = some r → StatusContent.suits content r = false →
      (r.wrongSeen = true → exec (.status address content) s = .next s) ∧
      (r.wrongSeen = false → exec (.status address content) s = .next { s with
        live := (s.live.setElement n r.rememberWrong).offer s.env .c .wrongKind .element n none })) ∧
    (∀ port k number nA nB, Map.find port s.live.links = some k →
      Map.find number (s.store.active.remoteHeads port) = none →
      let heard := { s.live with
        links := Map.update port (LinkRec.hear (s.clock + s.store.active.linkSupervision port)) s.live.links }
      (number ∈ k.unknownSeen → exec (.counts port [{ number := number, nA := nA, nB := nB }]) s =
        .next { s with live := heard }) ∧
      (number ∉ k.unknownSeen → exec (.counts port [{ number := number, nA := nA, nB := nB }]) s =
        .next { s with live := Live.offer s.env .c .unknownRemoteHead .link port (some number) { heard with
          links := Map.update port (fun y => { y with unknownSeen := y.unknownSeen ++ [number] }) heard.links } }))

/-- The timers of an element, once the clock has reached them (log 2). A movement that its limit ends has failed: MOVE_FAILED
is set, the evaluated position is NONE, and POINT_MOVE_FAILED is queued. A proving that its time ends has failed: the proven
aspect is NONE, and SIGNAL_NOT_PROVEN is queued (R51, R54, R57). An element whose freshness expires is unsupervised: a point
is evaluated NONE, a signal's proven aspect is NONE, a head loses its references and every section it bounds takes HEAD_LOST
with its balance kept and, where it is new, its report (R27, R29, R46). Each change is handed on: to the slots, and where a
claim may stand on it to the Flank Allocator (R28, R57), and is due one STATE NOTICE when a field of R58 has changed. The
claims on a point or signal that so stops showing a state become unproven, each change handed to the claim's slot (R106); no
scan becomes due. That
POINT_MOVE_FAILED and SIGNAL_NOT_PROVEN (log 62) and SECTION_DISTURBED (log 53) are queued before what is handed on is taken,
and that every bounded section is written before the change of any is taken (log 40), is the model's choice. A timer that is
gone, or was set anew, gives nothing to act on. -/
def Obligations.ElementTimersExpire : Prop :=
  ∀ (n : Nat) (s : State), s.power = true →
    (∀ r target moment, s.live.point n = some r → r.movement = some (target, moment) → moment ≤ s.clock →
      ∃ w, exec (.movementExpiry n) s = .next (s.ending w) ∧
        w.live.point n = some { r with movement := none, moveFailed := true, evaluated := none, persistence := 0 } ∧
        w.live.reports = (s.live.offer s.env .b .pointMoveFailed .element n (some target.code)).reports ∧
        .pointChanged n ∈ w.todo ∧ w.places = [n] ∧ w.scan = false ∧
        ClaimsFollow n (r.evaluated ≠ none) (fun _ => false) s.work w ∧
        w.notices = (if r.evaluated ≠ none ∨ r.moveFailed = false then [n] else []) ∧
        w.live.sections = s.live.sections ∧ w.live.slots = s.live.slots ∧ w.live.links = s.live.links ∧
        ∀ m ≠ n, Map.find m w.live.elements = Map.find m s.live.elements) ∧
    (∀ r moment, s.live.signal n = some r → r.proving = some moment → moment ≤ s.clock →
      ∃ w, exec (.provingExpiry n) s = .next (s.ending w) ∧
        w.live.signal n = some { r with proving := none, proven := none } ∧
        w.live.reports = (s.live.offer s.env .b .signalNotProven .element n (some r.commanded.code)).reports ∧
        w.notices = (if r.proven ≠ none then [n] else []) ∧
        .provingEnded n false ∈ w.todo ∧ .placeSignal n ∈ w.todo ∧
        (.aspectChanged n ∈ w.todo ↔ r.proven ≠ none) ∧ w.places = [] ∧ w.scan = false ∧
        ClaimsFollow n (r.proven ≠ none) (fun _ => false) s.work w ∧
        w.live.sections = s.live.sections ∧ w.live.slots = s.live.slots ∧ w.live.links = s.live.links ∧
        ∀ m ≠ n, Map.find m w.live.elements = Map.find m s.live.elements) ∧
    ((∀ r target moment, s.live.point n = some r → r.movement = some (target, moment) → s.clock < moment) →
      exec (.movementExpiry n) s = .next s) ∧
    ((∀ r moment, s.live.signal n = some r → r.proving = some moment → s.clock < moment) →
      exec (.provingExpiry n) s = .next s) ∧
    (∀ r moment, Map.find n s.live.elements = some (.point r) → r.freshness = some moment → moment ≤ s.clock →
      ∃ w, exec (.freshnessExpiry n) s = .next (s.ending w) ∧
        w.live.point n = some { r with supervised := false, freshness := none, evaluated := none, persistence := 0 } ∧
        (.pointChanged n ∈ w.todo ↔ r.supervised = true ∨ r.evaluated ≠ none) ∧
        w.places = (if r.supervised = true ∨ r.evaluated ≠ none then [n] else []) ∧ w.scan = false ∧
        ClaimsFollow n (r.evaluated ≠ none) (fun _ => false) s.work w ∧
        w.notices = (if r.supervised = true ∨ r.evaluated ≠ none then [n] else []) ∧
        w.live.sections = s.live.sections ∧ w.live.reports = s.live.reports) ∧
    (∀ r moment, Map.find n s.live.elements = some (.signal r) → r.freshness = some moment → moment ≤ s.clock →
      ∃ w, exec (.freshnessExpiry n) s = .next (s.ending w) ∧
        w.live.signal n = some { r with supervised := false, freshness := none, proven := none } ∧
        (.aspectChanged n ∈ w.todo ↔ r.proven ≠ none) ∧ (.signalSupervised n ∈ w.todo ↔ r.supervised = true) ∧
        w.places = [] ∧ w.scan = false ∧ ClaimsFollow n (r.proven ≠ none) (fun _ => false) s.work w ∧
        w.notices = (if r.supervised = true ∨ r.proven ≠ none then [n] else []) ∧
        w.live.sections = s.live.sections ∧ w.live.reports = s.live.reports) ∧
    (∀ r moment, Map.find n s.live.elements = some (.head r) → r.freshness = some moment → moment ≤ s.clock →
      ((s.store.active.boundedBy n).map Prod.fst).Nodup →
      ∃ w, exec (.freshnessExpiry n) s = .next (s.ending w) ∧
        w.live.head n = some { r with supervised := false, freshness := none, references := none } ∧
        (r.supervised = true → w.notices = [n]) ∧
        (∀ sec, .sectionState sec ∈ w.todo ↔ (∃ inA, (sec, inA) ∈ s.store.active.boundedBy n) ∧
          ∃ y, s.live.sectionAt sec = some y ∧ y.state ≠ .disturbed) ∧
        (∀ sec inA y, s.store.active.boundedBy n = [(sec, inA)] → s.live.sectionAt sec = some y → w.live.reports =
          if .headLost ∈ y.causes then s.live.reports
          else (s.live.offer s.env .b .sectionDisturbed .trackSection sec (some 4)).reports) ∧
        ∀ sec, w.live.sectionAt sec = (s.live.sectionAt sec).map (fun y =>
          if ∃ inA, (sec, inA) ∈ s.store.active.boundedBy n then (y.addCause .headLost).1.leaveClear y.state else y)) ∧
    ((∀ y moment, Map.find n s.live.elements = some y → y.freshness = some moment → s.clock < moment) →
      exec (.freshnessExpiry n) s = .next s)

/-- Whatever a step hands on, the hand-overs count no axle, take no status and agree on no line: every section keeps its
state, balance, causes, possession and disagreement, every element what statuses write of it, every link what the neighbour's
telegrams write of it (R28, R57). -/
def Obligations.HandOversKeepMeasurements : Prop :=
  ∀ (w : Work) (s : State) (n : Nat),
    (s.ending w).countedAt n = (w.live.sectionAt n).map SectionRec.counted ∧
    (s.ending w).reportedAt n = (Map.find n w.live.elements).map ElementRec.reported ∧
    (s.ending w).agreedAt n = (Map.find n w.live.links).map LinkRec.agreed

/-! ## Boundaries (Chapter 8) -/

/-- The timers of the boundary ports, once the clock has reached them (log 2). Every 1.0 s each port with a link record is
sent a PRESENCE and then a COUNTS, whatever the link's state, and no record changes (R134, R138); one interval serves all
ports (log 24), and the lines of a PRESENCE stand in the order of the link's line records, by rising number (log 50). A COUNTS
lists, by ascending export number, the heads that the active tables export on the link (log 34) and that are supervised and
have a pair held, with that pair (R138). The last-heard expiry takes a link that is not DOWN there with LINK_DOWN, detail 1
from ALIGNING and 2 from UP; from UP the asks of its lines fail with reason 3, the late numbers go, its shared sections'
disagreement counts become 0, and the slots are told (R38, R131, R133). That LINK_DOWN is queued before what is so handed on
is taken (log 49), and that the failures of all lines come before the replacements, each in the order of the line records (log
58), is the model's choice. -/
def Obligations.LinkTimersExpire : Prop :=
  (∀ (s : State), s.power = true →
    ((∀ moment, s.presenceDue = some moment → s.clock < moment) → exec .presenceInterval s = .next s) ∧
    ∀ moment, s.presenceDue = some moment → moment ≤ s.clock → exec .presenceInterval s = .next { s with
      presenceDue := some (s.clock + 10)
      live := { s.live with sent := s.live.sent ++ s.live.links.flatMap s.presenceOn } }) ∧
  (∀ (t : Tables) (link : Nat) (l : Live),
    let xs := l.countsOut t link
    let carries := fun (n number : Nat) (nA nB : Octet) => t.exportTarget n = some (link, number) ∧
      (∃ h, l.head n = some h ∧ h.supervised = true) ∧
      ∃ k, Map.find link l.links = some k ∧ Map.find n k.exported = some (nA, nB)
    xs.Pairwise (fun x y => x.number < y.number) ∧
    (∀ x ∈ xs, ∃ n, carries n x.number x.nA x.nB) ∧
    ∀ n number nA nB, carries n number nA nB → (∀ m, t.exportTarget m = some (link, number) → m = n) →
      { number := number, nA := nA, nB := nB } ∈ xs) ∧
  ∀ (port : Nat) (k : LinkRec) (s : State), s.power = true → Map.find port s.live.links = some k →
    (k.state = .down ∨ (∀ moment, k.lastHeard = some moment → s.clock < moment) →
      exec (.lastHeardExpiry port) s = .next s) ∧
    ∀ moment, k.lastHeard = some moment → moment ≤ s.clock → k.state ≠ .down →
      ∃ w z, exec (.lastHeardExpiry port) s = .next (s.ending w) ∧
        Map.find port w.live.links = some z ∧ z = { k with state := .down, lastHeard := none, lines := z.lines } ∧
        (k.state = .aligning → z.lines = k.lines ∧ w.todo = [] ∧ w.live.sections = s.live.sections ∧
          w.live.reports = (s.live.offer s.env .b .linkDown .link port (some 1)).reports) ∧
        (k.state = .up → z.lines = Map.each (fun y => { y with ask := none, late := none }) k.lines ∧
          w.todo = ((k.lines.filter (fun y => y.2.ask.isSome)).map (fun y => .askFailed port y.1 3)) ++
            k.lines.map (fun y => .linkLost port y.1) ∧
          (∀ sec, w.live.sectionAt sec = (s.live.sectionAt sec).map (fun y =>
            if sec ∈ s.store.active.sharedOf port then { y with disagreement := 0 } else y)) ∧
          w.live.reports = (s.live.offer s.env .b .linkDown .link port (some 2)).reports) ∧
        w.live.elements = s.live.elements ∧ w.live.slots = s.live.slots

/-- A PRESENCE is heard, and its identity and version are written; the expected identity brings the link UP unless our own is
0, another keeps it in or returns it to ALIGNING; in UP every line takes its last presence, and owners that disagree with no
ask outstanding become UNKNOWN (R131, R132, R136, R137). In UP the shared section of a line takes the state reported for it:
the disagreement count rises while ours is CLEAR and theirs is not, the third makes the section DISTURBED with cause DISAGREE,
and otherwise it is 0; a section that no line reports is as it was (R37). -/
def Obligations.PresenceAligns : Prop :=
  ∀ (port : Nat) (identity : Identity) (version : Word16) (lines : List PresenceLine) (s : State), s.power = true →
    (Map.find port s.live.links = none → exec (.presence port identity version lines) s = .next s) ∧
    ((∃ x ∈ lines, presenceLineMeaningful x = false) → exec (.presence port identity version lines) s = .next s) ∧
    ∀ k, Map.find port s.live.links = some k → (∀ x ∈ lines, presenceLineMeaningful x = true) →
      let expected := identity = s.store.active.expected port
      let up := expected ∧ (k.state = .up ∨ s.nv.identity ≠ 0)
      let sharedBy := fun (n sec : Nat) => (s.store.active.lineEntry port n).bind (fun x => x.shared) = some sec
      let theirs := fun (n : Nat) => (lineReport lines n).bind (fun x => x.shared)
      ∃ t z, exec (.presence port identity version lines) s = .next t ∧ Map.find port t.live.links = some z ∧
        z.lastHeard = some (s.clock + s.store.active.linkSupervision port) ∧ z.identity = some identity ∧
        z.version = some version ∧ z.exported = k.exported ∧ z.unknownSeen = k.unknownSeen ∧
        (up → z.state = .up) ∧ (¬ up → z.state = .aligning) ∧
        (expected → z.mismatch = if k.state = .down then false else k.mismatch) ∧ (¬ expected → z.mismatch = true) ∧
        (∀ n y, Map.find n k.lines = some y → ∃ v, Map.find n z.lines = some v ∧
          (¬ up → v.owner = y.owner ∧ v.last = y.last) ∧
          (up →
            let theirs := (lineReport lines n).getD LineReport.absent
            let conflict := y.ask = none ∧ theirs.askOutstanding = false ∧
              ((y.owner = .us ∧ theirs.owner = .us) ∨ (y.owner = .neighbour ∧ theirs.owner = .neighbour))
            v.last = some theirs ∧ (conflict → v.owner = .unknown) ∧ (¬ conflict → v.owner = y.owner))) ∧
        (up → ∀ sec r, s.live.sectionAt sec = some r →
          ((∀ n ∈ Map.ids k.lines, ¬ sharedBy n sec ∨ theirs n = none) → t.countedAt sec = s.countedAt sec) ∧
          ∀ n y state, Map.find n k.lines = some y → (Map.ids k.lines).Nodup → sharedBy n sec →
            (∀ m ∈ Map.ids k.lines, sharedBy m sec → m = n) → theirs n = some state →
            ∃ v, t.countedAt sec = some v ∧ v.neighbourState = some state ∧ v.balance = r.balance ∧
              v.possession = r.possession ∧
              (r.state = .clear → state ≠ .clear → r.disagreement + 1 < 3 →
                v.state = .clear ∧ v.disagreement = r.disagreement + 1 ∧ v.causes = r.causes) ∧
              (r.state = .clear → state ≠ .clear → 3 ≤ r.disagreement + 1 →
                v.state = .disturbed ∧ v.disagreement = 0 ∧ v.axleSeen = false ∧
                ∀ c, c ∈ v.causes ↔ c = .disagree ∨ c ∈ r.causes) ∧
              (r.state ≠ .clear ∨ state = .clear →
                v.state = r.state ∧ v.disagreement = 0 ∧ v.causes = r.causes))

/-- What a PRESENCE reports and hands on (R132, R133, R136, R137). In UP, and when it brings the link UP, it is applied line
by line in a free order (log 3): the last presence, the shared section, and the flag, handed on when it differs from the one
held before, none being held counting as a difference (log 29), or when the link has come UP. That of one line the change of
the shared section is handed on before the flag is the model's choice (log 56); that what these hand on is taken before the
owners are compared, and what R133 hands on before IDENTITY_MISMATCH is queued, is read from the word "then" (log 4). Owners
that disagree with no ask outstanding leave ours UNKNOWN with DIRECTION_CONFLICT, detail 1 for two US and 2 for two NEIGHBOUR,
and the slots are told when ours was US; that it is queued before the reports of those slots is the model's choice (log 62). A
wrong identity in UP returns the link to ALIGNING: the asks of its lines fail with reason 3, the late numbers go, its shared
sections' disagreement counts become 0, the slots are told, and IDENTITY_MISMATCH follows with the identity modulo 65536; the
order of the failures and replacements is the model's (log 58). In ALIGNING, and from DOWN, it is queued once for each entry
to ALIGNING; the expected identity while ours is 0 reports nothing. -/
def Obligations.PresenceReported : Prop :=
  (∀ (port : Nat) (identity : Identity) (version : Word16) (lines : List PresenceLine) (k : LinkRec) (s : State),
    s.power = true → Map.find port s.live.links = some k → (∀ x ∈ lines, presenceLineMeaningful x = true) →
    let expected := identity = s.store.active.expected port
    let heard : LinkRec := { k with
      lastHeard := some (s.clock + s.store.active.linkSupervision port)
      identity := some identity, version := some version }
    let mismatch := fun (l : Live) => l.offer s.env .b .identityMismatch .link port (some (identity.toNat % 65536))
    let taken := fun (reports : ReportQueue) => ∃ t, exec (.presence port identity version lines) s = .next t ∧
      t.live.reports = reports ∧ t.live.sections = s.live.sections ∧ t.live.slots = s.live.slots ∧
      t.live.elements = s.live.elements
    (expected → k.state = .up ∨ s.nv.identity ≠ 0 → ∃ (v : Work) (z : LinkRec),
      exec (.presence port identity version lines) s = .next (s.ending (v.forEach (Map.ids k.lines)
        (Work.applyLine s.env port lines (k.state != .up)))) ∧
      v = { s.work with live := { s.live with links := v.live.links } } ∧ Map.find port v.live.links = some z ∧
      z = { heard with state := .up, mismatch := if k.state = .down then false else k.mismatch } ∧
      ∀ link ≠ port, Map.find link v.live.links = Map.find link s.live.links) ∧
    (expected → k.state ≠ .up → s.nv.identity = 0 → taken s.live.reports) ∧
    (¬ expected → k.state ≠ .up →
      (k.state ≠ .down → k.mismatch = true → taken s.live.reports) ∧
      (k.state = .down ∨ k.mismatch = false → taken (mismatch s.live).reports)) ∧
    (¬ expected → k.state = .up → ∃ (v : Work) (z : LinkRec),
      exec (.presence port identity version lines) s = .next (s.ending
        (((v.handedOn s.env).updateLink port (fun y => { y with mismatch := true })).on mismatch)) ∧
      Map.find port v.live.links = some z ∧ z = { heard with state := .aligning, mismatch := false, lines := z.lines } ∧
      z.lines = Map.each (fun y => { y with ask := none, late := none }) k.lines ∧
      v.todo = ((k.lines.filter (fun y => y.2.ask.isSome)).map (fun y => .askFailed port y.1 3)) ++
        k.lines.map (fun y => .linkLost port y.1) ∧
      (∀ sec, v.live.sectionAt sec = (s.live.sectionAt sec).map (fun y =>
        if sec ∈ s.store.active.sharedOf port then { y with disagreement := 0 } else y)) ∧
      v.live.reports = s.live.reports ∧ v.live.slots = s.live.slots ∧ v.live.elements = s.live.elements)) ∧
  ∀ (e : Env) (link line : Nat) (y : LineRec) (w : Work), w.live.line link line = some y →
    (∀ (lines : List PresenceLine) (broughtUp : Bool),
      let theirs := (lineReport lines line).getD LineReport.absent
      let handed := broughtUp = true ∨ y.last.map (fun p => p.lineClear) ≠ some theirs.lineClear
      ∃ (v : Work) (z : LineRec), w.applyLine e link lines broughtUp line = (v.handedOn e).agree e link line theirs ∧
        v.live.line link line = some z ∧ z = { y with last := some theirs, lineClear := z.lineClear } ∧
        v.live.slots = w.live.slots ∧ v.live.elements = w.live.elements ∧
        (handed → v.todo.getLast? = some (.lineFlag link line)) ∧
        (¬ handed → ∀ c ∈ v.todo, c ∈ w.todo ∨ ∃ sec, c = .sectionState sec)) ∧
    ∀ theirs : LineReport,
      let v := w.agree e link line theirs
      let quiet := y.ask = none ∧ theirs.askOutstanding = false
      let conflict := fun detail => v.live.line link line = some { y with owner := .unknown } ∧
        v.live.reports =
          (w.live.offer e .a .directionConflict .line (10 * link + line) (some detail)).reports ∧
        v.live.sections = w.live.sections ∧ v.live.slots = w.live.slots ∧ v.live.elements = w.live.elements
      (quiet → y.owner = .us → theirs.owner = .us → conflict 1 ∧ v.todo = w.todo ++ [.lineLost link line]) ∧
      (quiet → y.owner = .neighbour → theirs.owner = .neighbour → conflict 2 ∧ v.todo = w.todo) ∧
      (¬ quiet ∨ ¬ ((y.owner = .us ∧ theirs.owner = .us) ∨ (y.owner = .neighbour ∧ theirs.owner = .neighbour)) →
        v = w)

/-- A DIRECTION ASK of the neighbour in UP is answered by our owner of the line: US yields a clear line onto which no slot
exits, NEIGHBOUR yields, UNKNOWN yields a clear line, or, with an ask of ours outstanding, to a senior neighbour a line whose
sections are CLEAR and locked by none but slots waiting on our ask; a yield gives the line to the neighbour (R131, R141,
R142). Our ask on a line ends by a yield, a refusal, or, once the clock has reached its expiry (log 2), its timeout, whose
number becomes the late number; a yield to the late number still makes the line ours and is reported; any other reply is
discarded, and one for no line of the link is only heard (R131, R143, R144). That LATE_YIELD is queued before what is handed
on is taken is the model's choice (log 62). -/
def Obligations.DirectionTelegrams : Prop :=
  (∀ (port line : Nat) (number : Octet) (k : LinkRec) (s : State), s.power = true →
    Map.find port s.live.links = some k →
    let heard := { s with live := { s.live with
      links := Map.update port (LinkRec.hear (s.clock + s.store.active.linkSupervision port)) s.live.links } }
    (k.state ≠ .up ∨ Map.find line k.lines = none → exec (.directionAsk port line number) s = .next heard) ∧
    ∀ y, Map.find line k.lines = some y → k.state = .up →
      let yields :=
        (y.owner = .us ∧ y.lineClear = true ∧ ∀ x ∈ s.live.slots, ∀ r,
          Map.find x.2.route s.store.active.routes = some r → r.exit ≠ .line port line) ∨
        y.owner = .neighbour ∨
        (y.owner = .unknown ∧ y.ask = none ∧ y.lineClear = true) ∨
        (y.owner = .unknown ∧ y.ask ≠ none ∧ ∃ x, s.store.active.lineEntry port line = some x ∧ x.senior = 2 ∧
          ∀ sec ∈ x.sections, s.live.isClear sec = true ∧ ∀ n role, s.live.holder sec = some (n, role) →
            ∃ z, s.live.slot n = some z ∧ z.state = .waitLine ∧ z.lineWait = some (port, line))
      let crosses := y.owner = .unknown ∧ y.ask ≠ none
      (¬ yields → exec (.directionAsk port line number) s =
        .next (heard.sending (.directionReply port line number false))) ∧
      (yields → ∃ w v, exec (.directionAsk port line number) s = .next (s.ending w) ∧
        w.live.sent = s.live.sent ++ [.directionReply port line number true] ∧ w.live.line port line = some v ∧
        v = { y with owner := .neighbour, ask := v.ask } ∧ (crosses → v.ask = none) ∧ (¬ crosses → v.ask = y.ask) ∧
        (crosses → w.todo = [.askFailed port line 4]) ∧ (¬ crosses → w.todo = []) ∧
        w.live.sections = s.live.sections ∧ w.live.slots = s.live.slots ∧ w.live.elements = s.live.elements)) ∧
  ∀ (port line verdict : Nat) (number : Octet) (k : LinkRec) (s : State), s.power = true →
    Map.find port s.live.links = some k →
    let heard := { s with live := { s.live with
      links := Map.update port (LinkRec.hear (s.clock + s.store.active.linkSupervision port)) s.live.links } }
    (verdict ≠ 1 → verdict ≠ 2 → exec (.directionReply port line number verdict) s = .next s) ∧
    (verdict = 1 ∨ verdict = 2 → Map.find line k.lines = none →
      exec (.directionReply port line number verdict) s = .next heard) ∧
    ∀ y, Map.find line k.lines = some y →
    let taken := fun (v : LineRec) (reports : ReportQueue) (todo : List Change) =>
      ∃ w, exec (.directionReply port line number verdict) s = .next (s.ending w) ∧ w.live.line port line = some v ∧
        w.live.reports = reports ∧ w.todo = todo
    let ours := y.ask.map (fun a => a.1) = some number
    (verdict = 1 ∨ verdict = 2 → k.state ≠ .up ∨ (¬ ours ∧ y.late ≠ some number) →
      exec (.directionReply port line number verdict) s = .next heard) ∧
    (k.state = .up → ours →
      (verdict = 1 → taken { y with owner := .us, ask := none } s.live.reports [.lineOurs port line]) ∧
      (verdict = 2 → taken { y with ask := none } s.live.reports [.askFailed port line 1])) ∧
    (k.state = .up → ¬ ours → y.late = some number →
      (verdict = 1 → taken { y with owner := .us, late := none, ask := none }
        (s.live.offer s.env .c .lateYield .line (10 * port + line) (some number.toNat)).reports [.lineOurs port line]) ∧
      (verdict = 2 → taken { y with late := none } s.live.reports [])) ∧
    (∀ asked moment, y.ask = some (asked, moment) → moment ≤ s.clock →
      ∃ w, exec (.askExpiry port line) s = .next (s.ending w) ∧
        w.live.line port line = some { y with ask := none, late := some asked } ∧ w.todo = [.askFailed port line 2]) ∧
    ((∀ asked moment, y.ask = some (asked, moment) → s.clock < moment) → exec (.askExpiry port line) s = .next s)

/-! ## Possessions, modes, restart and power (Chapter 10) -/

/-- POSSESSION TAKE: the eight checks in order, each with its answer and detail value; a take that passes writes the record
and the numbers at once, and its answer follows the nonvolatile write (R157, R158). BUSY during a store write stands after
check 1 (log 15), each take and give has a write of its own, in turn (log 14), and the set is kept in rising order of section
number (log 52), POSSESSION_TAKEN is queued at the taking, and POSSESSION_GIVEN before the scan and before the write ends
(logs 62, 64): these are the model's choices. POSSESSION GIVE: the numbers leave the sections, the record becomes FREE, the
waiting list is scanned, and the answer follows the write; the end of the oldest write stores its records and answers DONE
(R158, R159). BUSY during a store write stands after the mode (log 15), and with no write running its end does nothing (log
37). -/
def Obligations.PossessionTelegrams : Prop :=
  (∀ (tag number : Nat) (secs : List Nat) (s : State), s.Running →
    let answered := fun code detail => exec (.possessionTake tag number secs) s =
      .next (s.sending (detailAnswer tag 10 code detail))
    let entry := fun n => (Map.find n s.store.active.sections).isSome = true
    let holds := fun n => ∃ p ∈ s.store.active.pointsOf n, s.live.pointHeld p
    (s.mode.operating = false → answered .mode 0) ∧
    (s.mode.operating = true → s.store.writing = true →
      exec (.possessionTake tag number secs) s = .next (s.sending (codeAnswer tag 10 .busy))) ∧
    (s.mode.operating = true → s.store.writing = false →
      (7 < number → answered .unknown 0) ∧
      (number ≤ 7 → secs = [] ∨ 16 < secs.length ∨ ¬ secs.Nodup → answered .badForm 0) ∧
      (number ≤ 7 → secs ≠ [] → secs.length ≤ 16 → secs.Nodup →
        (∀ a n b, secs = a ++ n :: b → (∀ m ∈ a, entry m) → ¬ entry n → answered .unknown n) ∧
        ((∀ n ∈ secs, entry n) →
          (Map.find number s.possessions ≠ none → answered .overlap (256 * number)) ∧
          (Map.find number s.possessions = none →
            (∀ a n b q, secs = a ++ n :: b → (∀ m ∈ a, s.live.possessionOf m = none) →
              s.live.possessionOf n = some q → answered .overlap (256 * q + n)) ∧
            ((∀ n ∈ secs, s.live.possessionOf n = none) →
              (∀ a n b, secs = a ++ n :: b → (∀ m ∈ a, s.live.holder m = none) → s.live.holder n ≠ none →
                answered .lockedIn n) ∧
              ((∀ n ∈ secs, s.live.holder n = none) →
                (∀ a n b u p v, secs = a ++ n :: b → (∀ m ∈ a, ¬ holds m) →
                  s.store.active.pointsOf n = u ++ p :: v → (∀ q ∈ u, ¬ s.live.pointHeld q) → s.live.pointHeld p →
                  answered .lockedIn (1000 + p)) ∧
                ((∀ n ∈ secs, ¬ holds n) →
                  let records := Map.put number (ascending secs) s.possessions
                  let taken : Live := { s.live with sections := s.live.sections.map (fun x =>
                    if x.1 ∈ secs then (x.1, { x.2 with possession := some number }) else x) }
                  exec (.possessionTake tag number secs) s = .next { s with
                    possessions := records
                    possessionWrites := s.possessionWrites ++ [{ tag := tag, kind := 10, records := records }]
                    live := taken.offer s.env .c .possessionTaken .possession number (some secs.length) })))))))) ∧
  (∀ (tag number : Nat) (s : State), s.Running →
    let answered := fun code => exec (.possessionGive tag number) s = .next (s.sending (codeAnswer tag 11 code))
    (s.mode.operating = false → answered .mode) ∧
    (s.mode.operating = true → s.store.writing = true → answered .busy) ∧
    (s.mode.operating = true → s.store.writing = false →
      (7 < number → answered .unknown) ∧
      (number ≤ 7 →
        (Map.find number s.possessions = none → answered .ignored) ∧
        ∀ secs, Map.find number s.possessions = some secs →
          let freed : Live := { s.live with sections := s.live.sections.map (fun x =>
            if x.1 ∈ secs then (x.1, { x.2 with possession := none }) else x) }
          let given : State := { s with
            possessions := Map.drop number s.possessions
            live := freed.offer s.env .c .possessionGiven .possession number (some secs.length) }
          exec (.possessionGive tag number) s = .next { given.ending given.work.scanDue with
            possessionWrites := s.possessionWrites ++
              [{ tag := tag, kind := 11, records := Map.drop number s.possessions }] }))) ∧
  ∀ s : State, s.power = true →
    (s.possessionWrites = [] → exec .possessionWriteDone s = .next s) ∧
    ∀ x rest, s.possessionWrites = x :: rest → exec .possessionWriteDone s = .next (State.sending
      (codeAnswer x.tag x.kind .done) { s with
        possessionWrites := rest
        nv := { s.nv with image := s.nv.image.map (fun i => { i with possessions := x.records }) } })

/-- MODE SET: its checks in order; a change queues MODE_CHANGED with the new mode, and from COMMISSIONING to IN_SERVICE every
held slot goes on, in a free order (R96, R162; log 3). That a value that names no mode is answered BAD_FORM after BUSY (log
16), and that MODE_CHANGED is queued before the reports of the slots that go on (log 54), is the model's choice. -/
def Obligations.ModeSetChangesMode : Prop :=
  ∀ (tag mode : Nat) (s : State), s.Running →
    let answered := fun (t : State) code => exec (.modeSet tag mode) s = .next (t.sending (codeAnswer tag 12 code))
    let busy := s.store.commit ≠ none ∨ s.store.restoring = true
    (s.mode = .failed → answered s .mode) ∧
    (s.mode ≠ .failed → busy → exec (.modeSet tag mode) s = .next (s.sending (detailAnswer tag 12 .busy 1))) ∧
    (s.mode ≠ .failed → ¬ busy →
      (mode = 0 ∨ 3 < mode → answered s .badForm) ∧
      ∀ m, m.code = mode → m = .suspended ∨ m = .inService ∨ m = .commissioning →
        (m = s.mode → answered s .done) ∧
        (m ≠ s.mode → m = .suspended → s.live.slots ≠ [] ∨ s.live.waiting ≠ [] →
          exec (.modeSet tag mode) s = .next (s.sending (detailAnswer tag 12 .busy 2))) ∧
        (m ≠ s.mode → (m = .suspended → s.live.slots = [] ∧ s.live.waiting = []) →
          let t := { s with mode := m, live := s.live.offer s.env .c .modeChanged .table 0 (some mode) }
          ((∀ x ∈ s.live.slots, x.2.held = none) → answered t .done) ∧
          (¬ (s.mode = .commissioning ∧ m = .inService) → answered t .done) ∧
          (s.mode = .commissioning → m = .inService → ∃ w, answered (t.ending w) .done ∧
            Work.Reaches t.env (fun x _ => x.held ≠ none) (Work.goOn t.env) t.work w)))

/-- RESTART: the mode, the stage holds and every section's count are kept; no request waits, no arm stands and no ask is
outstanding; every slot left is in ENTERED, with no train to follow, or in TIMED_RELEASE; and every signal is commanded DANGER
and proving, but the entry signals of slots in ENTERED, which stay as they are unless a slot in CLEARING, CLEAR or REPLACED
had the same one (R40, R60, R76, R97, R126, R129, R145, R165; log 21). A slot before clearing is freed; one in CLEARING, CLEAR
or REPLACED is timed from full with cause RESTART, a time of 0 freeing it; a timed release keeps its cause and is timed from
full, and so is an overlap in TIMING that has a timer, its moment come or not, by the model's choice (log 63); one that the
end of the run now lets start does so (R117, R129). The reports are REQUEST_DROPPED in arrival order, ROUTE_RELEASED in the
order of the slots, and RESTARTED last (R76, R129, R165). A slot left in TIMED_RELEASE keeps all its section locks, route locks,
claims and its entry-of-slot; one left in ENTERED keeps all but what its release test and the start of its overlap timing
give back, with fleet remaining 0 (ReleaseFollowsTheTrain, FleetStopEndsTheRun); one that is freed holds nothing (R86, R112,
R122, R129). A commit in progress is abandoned and answered IGNORED before
anything else is sent, and a restoring write begins when its store write had (R172). DONE is sent last (logs 6, 32). -/
def Obligations.RestartMakesRoutesSafe : Prop :=
  ∀ (tag : Nat) (s : State), s.Running → ∃ t, exec (.restart tag) s = .next t ∧
    t.mode = s.mode ∧ t.stageHolds = s.stageHolds ∧ t.possessions = s.possessions ∧
    (∃ rest, t.live.sent = s.live.sent ++ (s.store.commit.toList.map (fun c => codeAnswer c.tag 19 .ignored)) ++ rest ++
      [codeAnswer tag 13 .done]) ∧
    t.store = { s.store with
      commit := none
      restoring := s.store.restoring || s.store.commit.any (fun c => c.phase == .storeWrite) } ∧
    t.live.waiting = [] ∧ t.live.arm = none ∧
    (∃ freed : List Nat, freed.Sublist (Map.ids s.live.slots) ∧
      (∀ n x, s.live.slot n = some x → (n ∈ freed ↔ t.live.slot n = none)) ∧
      let dropped : Live := s.live.waiting.foldl (fun l q => l.offer s.env .c .requestDropped .route q.route (some q.tag)) s.live
      let released : Live := freed.foldl (fun l n => match s.live.slot n with
        | some x => l.offer s.env .c .routeReleased .slot n (some x.route)
        | none => l) dropped
      t.live.reports = (released.offer s.env .b .restarted .table 0 (some 0)).reports) ∧
    (∀ n x r, s.live.slot n = some x → Map.find x.route s.store.active.routes = some r →
      let timed := fun (cause : ReleaseCause) (seconds : Nat) =>
        some { expiry := s.clock + seconds * 10, cause := some cause : SlotTimer }
      (x.state = .setting ∨ x.state = .waitLine ∨ x.state = .locked → t.live.slot n = none) ∧
      (x.state = .clearing ∨ x.state = .clear ∨ x.state = .replaced →
        (r.approachTime = 0 → t.live.slot n = none) ∧
        (0 < r.approachTime → t.live.slot n = some { x with
          state := .timedRelease, fleet := 0, held := none, timer := timed .restart r.approachTime
          aspect := some .danger })) ∧
      (x.state = .timedRelease → ∀ y, x.timer = some y →
        (y.cause = some .approach → t.live.slot n = some { x with timer := timed .approach r.approachTime }) ∧
        (y.cause = some .restart → t.live.slot n = some { x with timer := timed .restart r.approachTime }) ∧
        (y.cause = some .emergency → t.live.slot n = some { x with timer := timed .emergency (max r.approachTime 60) })) ∧
      (x.state = .entered → ∀ z, t.live.slot n = some z →
        (x.overlap = some .timing → z.overlap = some .timing ∧
          z.timer = x.timer.map (fun y => { y with expiry := s.clock + r.overlapTime * 10 })) ∧
        (x.overlap = some .locked → x.marks.getLast? = some true → 0 < r.overlapTime → z.overlap = some .timing ∧
          z.timer = some { expiry := s.clock + r.overlapTime * 10, cause := none }) ∧
        (x.overlap = some .locked → x.marks.getLast? ≠ some true → z.overlap = x.overlap ∧ z.timer = x.timer))) ∧
    ((Map.ids s.live.slots).Nodup → ∀ n x, s.live.slot n = some x →
      let released := Work.startOverlap s.env n (Work.releaseTest s.env n
        (s.work.slotTo n (fun x => { x with fleet := 0 })))
      (t.live.slot n = none → t.live.HoldsNothing n) ∧
      (x.state ≠ .entered → t.live.slot n ≠ none → t.live.HoldsAlike n s.live) ∧
      (x.state = .entered → (t.live.slot n = none ↔ released.live.slot n = none) ∧
        (t.live.slot n ≠ none → t.live.HoldsAlike n released.live))) ∧
    (∀ n, t.countedAt n = s.countedAt n) ∧ (∀ n, t.reportedAt n = s.reportedAt n) ∧
    (∀ k ∈ t.live.links, ∀ y ∈ k.2.lines, y.2.ask = none ∧ y.2.late = none) ∧
    (∀ n x, t.live.slot n = some x →
      (x.state = .timedRelease ∨ x.state = .entered) ∧
      (x.state = .entered → (Map.find x.route s.store.active.routes).isSome = true → x.fleet = 0)) ∧
    ∀ g y, g ∈ s.store.active.signals → s.live.signal g = some y → ∃ z, t.live.signal g = some z ∧
      let entered := ∃ x ∈ t.live.slots, x.2.state = .entered ∧ s.store.active.entryOf x.2 = some g
      let cleared := ∃ x ∈ s.live.slots, (x.2.state = .clearing ∨ x.2.state = .clear ∨ x.2.state = .replaced) ∧
        s.store.active.entryOf x.2 = some g
      (¬ entered ∨ cleared → z.commanded = .danger ∧
        z.proving = some (s.clock + s.store.active.provingTime g)) ∧
      (entered → ¬ cleared → z.commanded = y.commanded ∧ z.proving = y.proving)

/-- POWER ON enters START with everything at its power-on value and the nonvolatile store as it stands. At the end of the load
an image whose stored check word matches becomes the tables, every section begins DISTURBED with cause START, every signal is
ordered DANGER, each order waiting in the queue or as pending (R55), each link is sent its first PRESENCE with its COUNTS, the
next following 1.0 s later (R134; log 24), and the mode is SUSPENDED; otherwise the part enters FAILED with everything empty
(R39, R59, R130, R163). POWER ON at a part with power is a loss of power and then power-on (log 13), and LOAD_END outside
START does nothing (log 37). A loss of power keeps only the nonvolatile store: an interrupted store or restoring write leaves
a void check word, an interrupted possession write all of the old records or all of the new, an interrupted identity write 0
or the new value, and nothing else is changed in it (R158, R172, R174). Which of the two stands is free (log 12). -/
def Obligations.PowerOnLoadAndLoss : Prop :=
  (∀ (s : State),
    (s.power = false → exec .powerOn s = .next { State.reset with
      nv := s.nv, freeCount := s.freeCount, pending := s.pending
      live := { Live.powerOn with sent := s.live.sent, choices := s.live.choices } }) ∧
    (s.power = true → ∃ t, exec .powerLoss s = .next t ∧ exec .powerOn s = exec .powerOn t) ∧
    (s.power = true → s.mode ≠ .start → exec .loadEnd s = .next s) ∧
    (s.power = true → s.mode = .start →
      ((∀ i, s.nv.image = some i → i.word ≠ some i.tables.checkWord) → exec .loadEnd s = .next { s with
        mode := .failed, live := s.live.offer { s.env with mode := .failed } .b .modeChanged .table 0 (some 4) }) ∧
      ∀ i, s.nv.image = some i → i.word = some i.tables.checkWord → ∃ t, exec .loadEnd s = .next t ∧
        t.mode = .suspended ∧ t.store.active = i.tables ∧ t.store.staging = i.tables ∧ t.store.version = i.version ∧
        t.possessions = i.possessions ∧ t.nv = s.nv ∧
        (∀ n, t.countedAt n = (Map.find n i.tables.sections).map (fun _ =>
          { state := .disturbed, balance := 0, causes := [.start], lock := none,
            possession := possessionHolding i.possessions n, disagreement := 0, neighbourState := none,
            axleSeen := false })) ∧
        (∀ n e r, Map.find n i.tables.elements = some e → e.renewed = some r →
          t.reportedAt n = some r.reported) ∧
        (∀ g e y, Map.find g i.tables.elements = some e → e.body = .signal y → ∃ z, t.live.signal g = some z ∧
          z.commanded = .danger ∧ z.supervised = false ∧ z.proven = none ∧ z.proving = some (s.clock + y * 10)) ∧
        (∀ g e y, Map.find g i.tables.elements = some e → e.body = .signal y → t.live.waits g (.aspect .danger)) ∧
        (∀ n, t.agreedAt n = (Map.find n i.tables.boundary).map (fun b => b.renewed.agreed)) ∧
        t.presenceDue = (if i.tables.boundary = [] then none else some (s.clock + 10)) ∧
        (s.live.slots = [] → s.live.queue = [] → Map.rising i.tables.elements = true →
          ∃ gs : List Nat, gs.Pairwise (fun a b => a < b) ∧
            (∀ g, g ∈ gs ↔ ∃ e y, Map.find g i.tables.elements = some e ∧ e.body = .signal y) ∧
            t.live.queue = (gs.take 32).map (fun g =>
              { element := g, address := i.tables.fieldAddress g, order := .aspect .danger }) ∧
            ∀ g ∈ gs.drop 32, t.live.pendingOrder g = some (.aspect .danger)) ∧
        (s.live.slots = [] → ∃ rest, t.live.sent = s.live.sent ++ t.live.links.flatMap t.presenceOn ++ rest ∧
          ∀ x ∈ rest, ∃ n, x = .reportNotice n) ∧
        (s.live.slots = [] → t.live.slots = [] ∧ (s.live.reports = ReportQueue.powerOn →
          ∃ r, t.live.reports.reports = [r] ∧ r.cls = .c ∧ r.code = .modeChanged ∧ r.detail = some 1)))) ∧
  ∀ (s : State), s.power = true → ∃ t, exec .powerLoss s = .next t ∧ t.power = false ∧ t.mode = .start ∧
    t.live = { Live.powerOn with sent := s.live.sent, choices := s.live.choices } ∧ t.store = Store.powerOn ∧
    t.possessions = [] ∧ t.possessionWrites = [] ∧ t.stageHolds = [] ∧ t.pending = s.pending ∧
    t.nv.image.map (fun i => i.tables) = s.nv.image.map (fun i => i.tables) ∧
    t.nv.image.map (fun i => i.version) = s.nv.image.map (fun i => i.version) ∧
    (s.store.writing = true → ∀ i, t.nv.image = some i → i.word = none) ∧
    (s.store.writing = false → t.nv.image.map (fun i => i.word) = s.nv.image.map (fun i => i.word)) ∧
    (s.possessionWrites = [] →
      t.nv.image.map (fun i => i.possessions) = s.nv.image.map (fun i => i.possessions)) ∧
    (∀ x rest, s.possessionWrites = x :: rest →
      t.nv.image.map (fun i => i.possessions) = s.nv.image.map (fun i => i.possessions) ∨
      t.nv.image.map (fun i => i.possessions) = s.nv.image.map (fun _ => x.records)) ∧
    (s.store.identityWrite = none → t.nv.identity = s.nv.identity) ∧
    ∀ tag identity, s.store.identityWrite = some (tag, identity) → t.nv.identity = 0 ∨ t.nv.identity = identity

/-! ## Loading the tables (Chapter 11) -/

/-- TABLE FRESH and TABLE AMEND: the shared checks in order; a table begins anew with no entries and the mark FRESH, or as the
active table with the mark AMENDING, and its items leave the amendment record (R167, R168). TABLE ENTRY: an entry is written
or removed at its id alone; outside a FRESH table the pair joins the amendment record once, an UNCHANGED table becomes
AMENDING, and a ninth pair is refused AMEND_LIMIT with nothing changed (R167, R169). -/
def Obligations.StagingTelegrams : Prop :=
  (∀ (tag table : Nat) (s : State), s.Running →
    let both := fun (t : State) code =>
      exec (.tableFresh tag table) s = .next (t.sending (codeAnswer tag 16 code)) ∧
      exec (.tableAmend tag table) s = .next (t.sending (codeAnswer tag 17 code))
    let busy := s.store.commit ≠ none ∨ s.store.restoring = true
    (s.mode ≠ .suspended → s.mode ≠ .failed → both s .mode) ∧
    (s.mode = .suspended ∨ s.mode = .failed →
      (busy → both s .busy) ∧ (¬ busy → s.store.frozen = true → both s .frozen) ∧
      (¬ busy → s.store.frozen = false →
        (table = 0 ∨ 5 < table → both s .badForm) ∧
        (1 ≤ table → table ≤ 5 → ∃ a b : Store,
          exec (.tableFresh tag table) s = .next (State.sending (codeAnswer tag 16 .done) { s with store := a }) ∧
          exec (.tableAmend tag table) s = .next (State.sending (codeAnswer tag 17 .done) { s with store := b }) ∧
          (∀ st ∈ [a, b],
            st = { s.store with staging := st.staging, marks := st.marks, amendment := st.amendment } ∧
            st.amendment = s.store.amendment.filter (fun y => y.1 != table) ∧
            ∀ other, 1 ≤ other → other ≤ 5 → other ≠ table → st.marks.of other = s.store.marks.of other ∧
              ∀ id, st.staging.entryAt other id = s.store.staging.entryAt other id) ∧
          a.marks.of table = .fresh ∧ b.marks.of table = .amending ∧
          ∀ id, a.staging.entryAt table id = none ∧ b.staging.entryAt table id = s.store.active.entryAt table id)))) ∧
  ∀ (tag table id : Nat) (content : List Octet) (s : State), s.Running →
    let answered := fun (t : State) code =>
      exec (.tableEntry tag table id content) s = .next (t.sending (codeAnswer tag 18 code))
    let busy := s.store.commit ≠ none ∨ s.store.restoring = true
    let recorded := (table, id) ∈ s.store.amendment
    let fresh := s.store.marks.of table = .fresh
    (s.mode ≠ .suspended → s.mode ≠ .failed → answered s .mode) ∧
    (s.mode = .suspended ∨ s.mode = .failed →
      (busy → answered s .busy) ∧ (¬ busy → s.store.frozen = true → answered s .frozen) ∧
      (¬ busy → s.store.frozen = false →
        (tableNumber table = false ∨ idInRange table id = false → answered s .badForm) ∧
        (tableNumber table = true → idInRange table id = true →
          (content ≠ [] → readEntry table content = none → answered s .badForm) ∧
          (content = [] ∨ readEntry table content ≠ none →
            (¬ fresh → ¬ recorded → 8 ≤ s.store.amendment.length → answered s .amendLimit) ∧
            (fresh ∨ recorded ∨ s.store.amendment.length < 8 → ∃ st, answered { s with store := st } .done ∧
              st = { s.store with staging := st.staging, marks := st.marks, amendment := st.amendment } ∧
              (content = [] → st.staging.entryAt table id = none) ∧
              (content ≠ [] → st.staging.entryAt table id = readEntry table content) ∧
              (∀ u v, u ≠ table ∨ v ≠ id → st.staging.entryAt u v = s.store.staging.entryAt u v) ∧
              (fresh → st.marks = s.store.marks) ∧ (¬ fresh → st.marks.of table = .amending) ∧
              (fresh ∨ recorded → st.amendment = s.store.amendment) ∧
              (¬ fresh → ¬ recorded → st.amendment = s.store.amendment ++ [(table, id)]))))))

/-- Validation finds the first constraint of Chapter 1 that an image fails, in the order of R17, and names the entry and the
constraint; it finds none exactly when every constraint holds. Where the text of a constraint leaves a form open the model's
choice is made (logs 19, 38, 39, 61). The check word is the cyclic check over the entries, table by table and by ascending id,
each as its table number, its id in two octets and its content; it is 65535 with no entry; a change of the last bit alone
changes it by the generator x^16 + x^12 + x^5 + 1, and the word set behind the octets that it was computed over brings it to 0
(R170). -/
def Obligations.ValidationFindsTheFirstFailure : Prop :=
  (∀ t : Tables,
    (t.firstInvalid = none ↔ ∀ x ∈ t.rules, x.holds) ∧
    ∀ kind n constraint, t.firstInvalid = some (kind, n, constraint) ↔
      ∃ a x b, t.rules = a ++ x :: b ∧ (∀ y ∈ a, y.holds) ∧ ¬ x.holds ∧
        x.kind = kind ∧ x.number = n ∧ x.constraint = constraint) ∧
  (∀ t : Tables,
    let entry := fun (table id : Nat) (content : List Octet) =>
      BitVec.ofNat 8 table :: BitVec.ofNat 8 (id / 256) :: BitVec.ofNat 8 id :: content
    t.checkWord = check (
      t.elements.flatMap (fun x => entry 1 x.1 x.2.octets) ++ t.sections.flatMap (fun x => entry 2 x.1 x.2.octets) ++
      t.routes.flatMap (fun x => entry 3 x.1 x.2.octets) ++ t.boundary.flatMap (fun x => entry 4 x.1 x.2.octets) ++
      t.options.flatMap (fun x => entry 5 x.1 x.2.octets))) ∧
  Tables.empty.checkWord = 65535 ∧
  ∀ (xs : List Octet) (x : Octet), check (xs ++ [x ^^^ 1]) = check (xs ++ [x]) ^^^ 0x1021#16 ∧
    check (xs ++ [(check xs).extractLsb' 8 8, (check xs).extractLsb' 0 8]) = 0

/-- TABLE COMMIT is in progress from its taking; validation ends it with INVALID and the first constraint that fails, and
comparison with CHECK_MISMATCH and the computed word; otherwise the store write begins and makes the stored word void (R17,
R167, R170, R171, R174). TABLE FREEZE sets the frozen flag; AREA IDENTITY is written once, answered when its write has ended,
and a value that is set stays; a restoring write puts the active image back, with a void word in FAILED (R172 to R174). The
order of AREA IDENTITY's checks is the model's (log 16), and the end of a phase or write that does not run does nothing (log
37). -/
def Obligations.CommitFreezeAndIdentity : Prop :=
  (∀ (tag : Nat) (word : Word16) (s : State), s.power = true →
    let phase := fun p => some (Commit.mk tag word p)
    let ended := { s with store := { s.store with commit := none } }
    (s.mode ≠ .start →
      let answered := fun code => exec (.tableCommit tag word) s = .next (s.sending (codeAnswer tag 19 code))
      let busy := s.store.commit ≠ none ∨ s.store.restoring = true ∨ s.store.identityWrite ≠ none
      (s.mode ≠ .suspended → s.mode ≠ .failed → answered .mode) ∧
      (s.mode = .suspended ∨ s.mode = .failed →
        (busy → answered .busy) ∧ (¬ busy → s.store.frozen = true → answered .frozen) ∧
        (¬ busy → s.store.frozen = false → exec (.tableCommit tag word) s =
          .next { s with store := { s.store with commit := phase .validation } }))) ∧
    (s.store.commit = phase .validation →
      (∀ kind n constraint, s.store.staging.firstInvalid = some (kind, n, constraint) →
        exec .validationDone s = .next (State.sending (codeAnswer tag 19 .invalid)
          { ended with live := s.live.offer s.env .b .tableInvalid kind n (some constraint) })) ∧
      (s.store.staging.firstInvalid = none → exec .validationDone s =
        .next { s with store := { s.store with commit := phase .comparison } })) ∧
    (s.store.commit = phase .comparison →
      (s.store.staging.checkWord ≠ word → exec .comparisonDone s =
        .next (ended.sending (detailAnswer tag 19 .checkMismatch s.store.staging.checkWord.toNat))) ∧
      (s.store.staging.checkWord = word → exec .comparisonDone s = .next { s with
        store := { s.store with commit := phase .storeWrite }
        nv := { s.nv with image := s.nv.image.map (fun i => { i with word := none }) } })) ∧
    ((∀ c, s.store.commit = some c → c.phase ≠ .validation) → exec .validationDone s = .next s) ∧
    ((∀ c, s.store.commit = some c → c.phase ≠ .comparison) → exec .comparisonDone s = .next s)) ∧
  ∀ (tag : Nat) (identity : Identity) (s : State), s.power = true →
    let busy := s.store.commit ≠ none ∨ s.store.restoring = true
    (s.mode ≠ .start →
      let answered := fun code => exec (.areaIdentity tag identity) s = .next (s.sending (codeAnswer tag 20 code))
      (busy → exec (.tableFreeze tag) s = .next (s.sending (codeAnswer tag 14 .busy)) ∧ answered .busy) ∧
      (¬ busy →
        exec (.tableFreeze tag) s = .next (State.sending (codeAnswer tag 14 .done)
          { s with store := { s.store with frozen := true } }) ∧
        (identity = 0 → answered .badForm) ∧
        (identity ≠ 0 → s.nv.identity ≠ 0 → answered .alreadySet) ∧
        (identity ≠ 0 → s.nv.identity = 0 → s.store.identityWrite ≠ none → answered .busy) ∧
        (identity ≠ 0 → s.nv.identity = 0 → s.store.identityWrite = none →
          exec (.areaIdentity tag identity) s =
            .next { s with store := { s.store with identityWrite := some (tag, identity) } }))) ∧
    (s.store.identityWrite = some (tag, identity) → exec .identityWriteDone s = .next (State.sending
      (codeAnswer tag 20 .done)
      { s with store := { s.store with identityWrite := none }, nv := { s.nv with identity := identity } })) ∧
    (s.store.identityWrite = none → exec .identityWriteDone s = .next s) ∧
    (s.store.restoring = false → exec .restoringWriteDone s = .next s) ∧
    (s.store.restoring = true → ∃ i, exec .restoringWriteDone s = .next { s with
        store := { s.store with restoring := false }, nv := { s.nv with image := some i } } ∧
      i.tables = s.store.active ∧ i.version = s.store.version ∧ i.possessions = s.possessions ∧
      (s.mode = .failed → i.word = none) ∧ (s.mode ≠ .failed → i.word = some s.store.active.checkWord))

/-- The end of a commit's store write: the staging image becomes active and stored with the version plus 1 and its check word,
marks and amendment record are cleared, possessions lose their absent sections and holds their absent routes, and FAILED
becomes SUSPENDED. A section keeps its record exactly when its heads (as a set, log 26) and their entries are unchanged, a
shared one without its disagreement fields; an element and a link keep theirs when their entries are unchanged, a link without
its late numbers; every other record is new, and a new signal is ordered DANGER (R41, R61, R97, R145, R160, R164, R171). That
a BOUNDARY entry is unchanged only when it is the same as written, the order of its lists included, is the model's choice (log
43). With no slot in use, as R171 has it, a kept element keeps all of its record, an order that it holds as pending excepted,
which may enter the queue (log 18); a queued order of a kept element keeps its place and content, one of a renewed or removed
element leaves, and the DANGER order of a new signal waits (R55, R61), and each new link is sent its first PRESENCE with its
COUNTS; one interval serves all ports, and one that runs goes on (R134; logs 24, 26). A watermark that is another is compared
with the length: below it the notice is armed, at or above it an armed notice is sent (R176). POSSESSION_TRIMMED is reported
for each possession that loses sections, with their number, MODE_CHANGED from FAILED, and TABLES_COMMITTED with the version,
in that order, which is the model's (R160, R164, R171; log 26). The answer is DONE with the version, sent last (logs 6, 26);
STORE_WRITE_DONE with no store write running does nothing (log 37). -/
def Obligations.StoreWriteActivates : Prop :=
  ∀ (s : State), s.power = true →
    ((∀ c, s.store.commit = some c → c.phase ≠ .storeWrite) → exec .storeWriteDone s = .next s) ∧
    ∀ c, s.store.commit = some c → c.phase = .storeWrite → ∃ t, exec .storeWriteDone s = .next t ∧
      let old := s.store.active
      let new := s.store.staging
      t.store = { s.store with
        active := new, version := s.store.version + 1, marks := Marks.unchanged, amendment := [], commit := none } ∧
      let image : Image :=
        { tables := new, version := s.store.version + 1, word := some new.checkWord, possessions := t.possessions }
      t.nv = { s.nv with image := some image } ∧
      t.possessions = (s.possessions.map (fun x =>
        (x.1, x.2.filter (fun n => (Map.find n new.sections).isSome)))).filter (fun x => x.2 ≠ []) ∧
      t.mode = (if s.mode = .failed then .suspended else s.mode) ∧
      t.stageHolds = s.stageHolds.filter (fun x => (Map.find x.1 new.routes).isSome) ∧
      t.live.sent.getLast? = some (detailAnswer c.tag 19 .done (s.store.version + 1).toNat) ∧
      (∀ n, Map.find n new.sections = none → t.countedAt n = none) ∧
      (∀ n b, Map.find n new.sections = some b →
        let possession := (t.possessions.find? (fun x => x.2.contains n)).map (fun x => x.1)
        let kept := ∃ a, Map.find n old.sections = some a ∧ (∀ i, i ∈ a.heads ↔ i ∈ b.heads) ∧
          ∀ i ∈ b.heads, ∃ e, Map.find i.head old.elements = some e ∧ Map.find i.head new.elements = some e
        let shared := ∃ y ∈ new.boundary, ∃ x ∈ y.2.lines, x.shared = some n
        (∀ r, kept → s.live.sectionAt n = some r →
          (¬ shared → t.countedAt n = some { r with possession := possession, lock := none }) ∧
          (shared → t.countedAt n = some { r with
            possession := possession, lock := none, disagreement := 0, neighbourState := none })) ∧
        (¬ kept ∨ s.live.sectionAt n = none → t.countedAt n = some (SectionRec.renewed possession))) ∧
      (∀ n, Map.find n new.elements = none → t.reportedAt n = none) ∧
      (∀ n e r, Map.find n new.elements = some e → e.renewed = some r →
        (∀ y, Map.find n old.elements = some e → Map.find n s.live.elements = some y →
          t.reportedAt n = some y.reported) ∧
        (Map.find n old.elements ≠ some e → t.reportedAt n = some r.reported ∧
          ∀ time, e.body = .signal time → ∃ z, t.live.signal n = some z ∧ z.commanded = .danger ∧
            z.proving = some (s.clock + time * 10))) ∧
      (∀ n, Map.find n new.boundary = none → t.agreedAt n = none) ∧
      (∀ n b, Map.find n new.boundary = some b →
        (∀ k, Map.find n old.boundary = some b → Map.find n s.live.links = some k →
          t.agreedAt n = some (LinkRec.agreed { k with lines := Map.each (fun y => { y with late := none }) k.lines })) ∧
        (Map.find n old.boundary ≠ some b → t.agreedAt n = some b.renewed.agreed)) ∧
      t.presenceDue = (if new.boundary = [] then none else s.presenceDue.or (some (s.clock + 10))) ∧
      (s.live.slots = [] →
        let env : Env := { s.env with tables := new }
        let kept := fun n => ∃ e, Map.find n old.elements = some e ∧ Map.find n new.elements = some e
        (∃ added, t.live.queue = s.live.queue.filter (fun y =>
            (Map.find y.element new.elements).isSome && Map.find y.element old.elements == Map.find y.element new.elements) ++
            added ∧
          (∀ n y, kept n → Map.find n s.live.elements = some y → ∃ z, Map.find n t.live.elements = some z ∧
            z.withPending none = y.withPending none ∧ (y.pendingOrder = none → z.pendingOrder = none) ∧
            ∀ o, y.pendingOrder = some o → z.pendingOrder = some o ∨ ∃ f ∈ added, f.element = n ∧ f.order = o)) ∧
        (∀ n e time, Map.find n new.elements = some e → ¬ kept n → e.body = .signal time →
          t.live.waits n (.aspect .danger)) ∧
        let length := s.live.reports.reports.length
        let another := old.watermark ≠ new.watermark
        let noticed := another ∧ new.watermark ≤ length ∧ s.live.reports.armed = true
        let armed := if another ∧ length < new.watermark then true else if noticed then false else s.live.reports.armed
        let compared : Live := { s.live with reports := { s.live.reports with armed := armed } }
        let trimmed : Live := s.possessions.foldl (fun l x =>
          let lost := (x.2.filter (fun n => (Map.find n new.sections).isNone)).length
          if lost = 0 then l else l.offer env .c .possessionTrimmed .possession x.1 (some lost)) compared
        let moded : Live := if s.mode = .failed then trimmed.offer env .c .modeChanged .table 0 (some 1) else trimmed
        t.live.reports =
          (moded.offer env .c .tablesCommitted .table 0 (some (s.store.version + 1).toNat)).reports ∧
        ∃ a b, t.live.sent = s.live.sent ++ (if noticed then [.reportNotice length] else []) ++ a ++
            (t.live.links.filter (fun k => Map.find k.1 old.boundary != Map.find k.1 new.boundary)).flatMap t.presenceOn ++
            b ∧ ∀ x ∈ a ++ b, ∀ port, x.port ≠ .boundary port)

/-! ## Reports (Chapter 12) -/

/-- Every report is numbered before the queue decides: it is appended while there is a place; a full queue discards one of
class C with LOST_C, displaces its oldest class C report for one of class A or B, and without one discards it with LOST_AB.
Class A becomes the latest and sets the alarm hold when stop on alarm is on; the armed notice goes when the queue has grown to
its watermark (R175, R176, R179). -/
def Obligations.EveryReportIsNumbered : Prop :=
  ∀ (e : Env) (cls : ReportClass) (code : ReportCode) (kind : SubjectKind) (number : Nat) (detail : Option Nat) (l : Live),
    let q := l.reports
    let after := (l.offer e cls code kind number detail).reports
    let r : Report :=
      { sequence := q.counter, cls := cls, code := code, kind := kind, number := number, detail := detail,
        time := e.clock / 10 % 65536 }
    let grown := q.reports.length < 128
    let noticed := grown ∧ q.armed = true ∧ e.tables.watermark ≤ q.reports.length + 1
    after.counter = q.counter + 1 ∧ after.latestA = (if cls = .a then some q.counter else q.latestA) ∧
    (after.hold = true ↔ q.hold = true ∨ (cls = .a ∧ e.tables.stopOnAlarm = true)) ∧
    (grown → after.reports = q.reports ++ [r] ∧ after.lostAB = q.lostAB ∧ after.lostC = q.lostC) ∧
    (¬ grown →
      (cls = .c → after.reports = q.reports ∧ after.lostC = true ∧ after.lostAB = q.lostAB) ∧
      (cls ≠ .c →
        (∀ a x b, q.reports = a ++ x :: b → (∀ y ∈ a, y.cls ≠ .c) → x.cls = .c →
          after.reports = a ++ b ++ [r] ∧ after.lostAB = q.lostAB ∧ after.lostC = q.lostC) ∧
        ((∀ y ∈ q.reports, y.cls ≠ .c) →
          after.reports = q.reports ∧ after.lostAB = true ∧ after.lostC = q.lostC))) ∧
    (noticed → after.armed = false ∧
      (l.offer e cls code kind number detail).sent = l.sent ++ [.reportNotice (q.reports.length + 1)]) ∧
    (¬ noticed → after.armed = q.armed ∧ (l.offer e cls code kind number detail).sent = l.sent)

/-- REPORT FETCH hands over the oldest reports and removes them, and re-arms the notice below the watermark; STATUS READ
returns the overall condition and changes nothing; STATUS CLEAR clears the flags it names (R176 to R178). ALARM ACK is IGNORED
with no hold, DONE with a scan for the latest class A number, and STALE with that number otherwise (R179); under a hold with
no class A number, which no run reaches, it is STALE with no detail (log 8). QUERY returns one record and changes nothing
(R180); a free slot and a FREE possession are records (log 27). That the claims of a slot stand in the order in which they
were made, as the unknown numbers of a link do (log 51), and that a link's counters are returned by export number (log 44), is
the model's choice; they are the pairs held for the heads that the active tables export on the link, in ascending order. -/
def Obligations.ReportAndQueryTelegrams : Prop :=
  (∀ (tag count flags : Nat) (s : State), s.Running →
    let q := s.live.reports
    let n := min count 8
    (count = 0 → exec (.reportFetch tag count) s = .next (s.sending (codeAnswer tag 21 .badForm))) ∧
    (0 < count → exec (.reportFetch tag count) s = .next (State.sending
      (.answer tag 21 .done (some (min n q.reports.length)) (.reports (q.reports.take n)))
      { s with live := { s.live with reports := { q with
        reports := q.reports.drop n
        armed := q.armed || q.reports.length - n < s.store.active.watermark } } })) ∧
    exec (.statusRead tag) s = .next (s.sending (.answer tag 15 .done none (.status
      { mode := s.mode, length := q.reports.length, lostAB := q.lostAB, lostC := q.lostC, hold := q.hold,
        frozen := s.store.frozen, version := s.store.version,
        commit := s.store.commit.isSome || s.store.restoring, latestA := q.latestA }))) ∧
    (3 < flags → exec (.statusClear tag flags) s = .next (s.sending (codeAnswer tag 22 .badForm))) ∧
    (flags ≤ 3 → exec (.statusClear tag flags) s = .next (State.sending (codeAnswer tag 22 .done)
      { s with live := { s.live with reports := { q with
        lostAB := q.lostAB && flags % 2 == 0, lostC := q.lostC && flags / 2 == 0 } } }))) ∧
  ∀ (tag n id : Nat) (sequence : Word16) (s : State), s.Running →
    let acked := fun (t : State) (a : Sent) => exec (.alarmAck tag sequence) s = .next (t.sending a)
    let cleared := { s with live := { s.live with reports := { s.live.reports with hold := false } } }
    let asked := fun kind (x : Option Payload) => exec (.query tag kind n id) s = .next (s.sending (match x with
      | some data => .answer tag 24 .done none data
      | none => codeAnswer tag 24 .unknown))
    (s.live.reports.hold = false → acked s (codeAnswer tag 23 .ignored)) ∧
    (s.live.reports.hold = true → ∀ latest, s.live.reports.latestA = some latest →
      (sequence = latest → acked (cleared.ending cleared.work.scanDue) (codeAnswer tag 23 .done)) ∧
      (sequence ≠ latest → acked s (detailAnswer tag 23 .stale latest.toNat))) ∧
    (s.live.reports.hold = true → s.live.reports.latestA = none → acked s (codeAnswer tag 23 .stale)) ∧
    (∀ kind, kind ∉ [1, 2, 4, 6, 7, 8] →
      exec (.query tag kind n id) s = .next (s.sending (codeAnswer tag 24 .badForm))) ∧
    asked 1 ((Map.find n s.live.elements).map (fun r =>
      let claims := s.live.claims.filter (fun c => c.element == n)
      .element s.clock r claims.length (claims.head?.map (fun c => c.required)))) ∧
    asked 2 ((s.live.sectionAt n).map (.trackSection (s.store.active.isShared n))) ∧
    asked 4 (if n < 32 ∧ s.mode ≠ .failed then
      some (.slot s.clock n (s.live.slot n) (s.live.claims.filter (fun c => c.slot == n))) else none) ∧
    asked 6 ((Map.find n s.live.links).map (fun k => .link s.clock k (Live.exportsOf s.store.active n k))) ∧
    asked 7 (if n ≤ 7 then some (.possession (Map.find n s.possessions)) else none) ∧
    (n = 0 → asked 8 (some (.marks [s.store.marks.elements, s.store.marks.sections, s.store.marks.routes,
      s.store.marks.boundary, s.store.marks.options] s.store.amendment))) ∧
    (1 ≤ n → n ≤ 5 → asked 8 (some (.table (s.store.marks.of n) (s.store.staging.entryAt n id)))) ∧
    (5 < n → asked 8 none) ∧
    ∀ (t : Tables) (link : Nat) (k : LinkRec),
      let xs := Live.exportsOf t link k
      let carries := fun (n number : Nat) (c : Octet × Octet) =>
        t.exportTarget n = some (link, number) ∧ Map.find n k.exported = some c
      xs.Pairwise (fun x y => x.1 < y.1) ∧ (∀ x ∈ xs, ∃ n, carries n x.1 x.2) ∧
      ∀ n number c, carries n number c → (∀ m, t.exportTarget m = some (link, number) → m = n) → (number, c) ∈ xs

/-! ## What every step keeps -/

/-- Every step keeps the law of every section: the balance lies within 0 to 1023, CLEAR and OCCUPIED say whether it is 0, and
exactly the DISTURBED sections hold a cause (R19, R24). -/
def Obligations.EveryStepKeepsSectionsLawful : Prop :=
  ∀ s t : State, s.sectionsLawful = true → step s = .next t → t.sectionsLawful = true

/-- Every step keeps the sizes: 128 reports, 32 field orders, 16 waiting requests, 256 claims, 8 stage holds and 8 items of
the amendment record (R55, R69, R94, R98, R166, R175). -/
def Obligations.EveryStepKeepsSizes : Prop :=
  ∀ s t : State, s.withinSizes = true → step s = .next t → t.withinSizes = true

/-- Every step keeps this: outside IN_SERVICE and COMMISSIONING no slot is in use and no request waits (R75, R162). -/
def Obligations.EveryStepKeepsTrafficLawful : Prop :=
  ∀ s t : State, s.trafficLawful = true → step s = .next t → t.trafficLawful = true

/-- Every step keeps this: every section lock, route lock, entry-of-slot, claim and release arm names a slot in use (R78, R79,
R98, R119, R126). -/
def Obligations.EveryStepKeepsHoldersInUse : Prop :=
  ∀ s t : State, s.live.holdersInUse = true → step s = .next t → t.live.holdersInUse = true

/-- Every step keeps this: our line-clear flag of every line is set exactly while every line section is CLEAR and no lock
holder stands on any of them (R135). -/
def Obligations.EveryStepKeepsLineFlags : Prop :=
  ∀ s t : State, s.lineFlagsLawful = true → step s = .next t → t.lineFlagsLawful = true

/-- Every step keeps this: a claim is proven exactly while its element shows its required state (R106). The law stands with
those of the slots, the mode and the commit, which leave no claim when a load or a commit renews the elements. -/
def Obligations.EveryStepKeepsClaimsProven : Prop :=
  ∀ s t : State, s.claimsLawful = true → step s = .next t → t.claimsLawful = true

/-- Every step keeps the laws of the orders: at most one order waits for any one element, queued or pending (R55); for every
point its route lock and the claims on it require one position (R79), and a waiting order that moves it is for that position
(R56); and only the entry signal of a slot in CLEARING or CLEAR is commanded off DANGER (R87). The laws stand with what keeps
them: constraint 335 in the tables, rising ids, a signal's record only for a present signal, an entry-of-slot that names a
slot of a route with that entry signal, and the laws of the slots, the mode and the commit. -/
def Obligations.EveryStepKeepsOrdersLawful : Prop :=
  ∀ s t : State, s.ordersLawful = true → step s = .next t → t.ordersLawful = true

/-- Every step keeps this: no two granted possessions share a section, no section of theirs has a lock holder, and no point of
theirs holds a route lock or a claim (R78, R158). The law stands with what keeps it: constraint 322 in the tables, a record
for every present section, stored possessions that fit their tables, and the laws of the slots, the mode and the commit. -/
def Obligations.EveryStepKeepsPossessionsApart : Prop :=
  ∀ s t : State, s.possessionsLawful = true → step s = .next t → t.possessionsLawful = true

/-- The octets of a well-formed telegram are read back as that telegram, on its port, and those of a table entry whose fields
fit as that entry: no field is dropped or misplaced between the layouts written and read (R181, R183). An entry content that
is taken is the octets of the entry read, so that the check word covers the content as it was loaded (R169, R170); which
contents have the layout's form is the model's choice where the manual leaves it open (log 17). -/
def Obligations.TelegramsReadBack : Prop :=
  (∀ (i : Instr) (port : Port) (octets : List Octet), i.wf = true → telegramOf i = some (port, octets) →
    readTelegram port octets = some i) ∧
  ∀ x : Staged,
    (x.fits = true → readEntry x.table x.octets = some x) ∧
    ∀ table content, readEntry table content = some x → x.octets = content ∧ x.table = table ∧ x.fits = true

/-- What the part sends: the frame with its check, and body by body the fields in order, as R181 to R183 give them, where they
do. What one part sends on a boundary port another takes as it was meant: PRESENCE with the owner, the flags and the shared
state of every line, COUNTS, DIRECTION ASK and DIRECTION REPLY (R134, R138, R140, R141). Codes, tags and details that no rule
gives are free values (logs 8, 10); the other codes are those of R182. The rest is the model's choice where no rule gives a
layout: a body above 240 octets is written whole, its length octet modulo 256 (log 36), the counters of a link are items of
three octets (log 44), the fields that a shared section alone has stand without a presence octet (log 46), a neighbour's state
not yet heard has one (log 47), the fields of a slot in use stand behind one presence octet (log 48), a possession's sections
are a list, empty while FREE (log 52), the state that the claims on an element require is an optional field (log 59), a head's
references have one presence octet together (log 60), and the five marks, the occupation marks and a timer's cause are laid
out by log 65. -/
def Obligations.SentTelegramsLaidOut : Prop :=
  let lo := fun (n : Nat) => (BitVec.ofNat 8 n : Octet)
  let hi := fun (n : Nat) => (BitVec.ofNat 8 (n / 256) : Octet)
  let flag := fun (b : Bool) => Config.unstatedCode (.flag b)
  let opt := fun (x : Option (List Octet)) => match x with
    | some field => 1 :: field
    | none => [(0 : Octet)]
  let left := fun (now expiry : Nat) => [hi (expiry - now), lo (expiry - now)]
  let standing := fun (claims : Nat) (required : Option Required) =>
    lo claims :: opt (required.map (fun x => [lo x.code]))
  let mark := fun (m : Mark) => Config.unstatedCode (.mark (match m with
    | .unchanged => 0
    | .fresh => 1
    | .amending => 2))
  let laidOut := fun (x : Sent) (port : Port) (kind : Nat) (tag : Octet) (body : List Octet) =>
    let xs := lo kind :: tag :: lo body.length :: body
    x.port = port ∧ x.octets = xs ++ [(check xs).extractLsb' 8 8, (check xs).extractLsb' 0 8] ∧
    (kind ≤ 255 → body.length ≤ 255 → readFrame x.octets = some (kind, tag.toNat, body))
  (∀ address p, laidOut (.order address (.position p)) .field 40 0 [hi address, lo address, 1, lo p.code]) ∧
  (∀ address a, laidOut (.order address (.aspect a)) .field 40 0 [hi address, lo address, 2, lo a.code]) ∧
  (∀ port identity version lines, laidOut (.presence port identity version lines) (.boundary port) 48
    (Config.unstatedTag 48) ([ identity.extractLsb' 24 8, identity.extractLsb' 16 8, identity.extractLsb' 8 8,
      identity.extractLsb' 0 8, version.extractLsb' 8 8, version.extractLsb' 0 8, lo lines.length ] ++
      lines.flatMap (fun x => [ lo x.number, lo x.owner.code,
        lo ((if x.askOutstanding then 1 else 0) + (if x.lineClear then 2 else 0)),
        lo ((x.shared.map SectionState.code).getD 0) ]))) ∧
  (∀ port entries, laidOut (.counts port entries) (.boundary port) 49 (Config.unstatedTag 49)
    (lo entries.length :: entries.flatMap (fun x => [lo x.number, x.nA, x.nB]))) ∧
  (∀ port line number, laidOut (.directionAsk port line number) (.boundary port) 50 (Config.unstatedTag 50)
    [lo line, number]) ∧
  (∀ port line number yields, laidOut (.directionReply port line number yields) (.boundary port) 51
    (Config.unstatedTag 51) [lo line, number, if yields then 1 else 2]) ∧
  (∀ tag kind code detail data, laidOut (.answer tag kind code detail data) .control 32 (lo tag)
    ([lo kind, lo code.code] ++ (match detail with
      | some d => [hi d, lo d]
      | none => [(Config.unstatedDetail kind code.code).extractLsb' 8 8,
          (Config.unstatedDetail kind code.code).extractLsb' 0 8]) ++ data.octets)) ∧
  Payload.octets .none = [] ∧
  (∀ rs, Payload.octets (.reports rs) = lo rs.length :: rs.flatMap (fun r =>
    [ r.sequence.extractLsb' 8 8, r.sequence.extractLsb' 0 8, lo r.cls.code, lo r.code.code, lo r.kind.code,
      hi r.number, lo r.number ] ++ opt (r.detail.map (fun d => [hi d, lo d])) ++ [hi r.time, lo r.time])) ∧
  (∀ d, Payload.octets (.status d) =
    [ lo d.mode.code, lo d.length,
      lo ((if d.lostAB then 1 else 0) + (if d.lostC then 2 else 0) + (if d.hold then 4 else 0) +
        (if d.frozen then 8 else 0) + (if d.commit then 16 else 0)),
      d.version.extractLsb' 8 8, d.version.extractLsb' 0 8 ] ++ opt (d.latestA.map (fun n =>
      [n.extractLsb' 8 8, n.extractLsb' 0 8]))) ∧
  (∀ now r claims required, Payload.octets (.element now (.point r) claims required) =
    [flag r.supervised] ++ opt (r.freshness.map (left now)) ++ [lo (positionCode r.evaluated)] ++
    opt (r.lastReported.map (fun p => [lo (positionCode p)])) ++ [lo r.persistence] ++
    opt (r.movement.map (fun m => lo m.1.code :: left now m.2)) ++ [flag r.moveFailed] ++
    opt (r.routeLock.map (fun k => [lo k.1, lo k.2.code])) ++ standing claims required) ∧
  (∀ now r claims required, Payload.octets (.element now (.signal r) claims required) =
    [flag r.supervised] ++ opt (r.freshness.map (left now)) ++ [lo r.commanded.code, lo (aspectCode r.proven)] ++
    opt (r.proving.map (left now)) ++ opt (r.entryOf.map (fun n => [lo n])) ++ standing claims required) ∧
  (∀ now r claims required, Payload.octets (.element now (.head r) claims required) =
    [flag r.supervised] ++ opt (r.freshness.map (left now)) ++ opt (r.references.map (fun c => [c.1, c.2])) ++
    opt (r.exported.map (fun x => [lo x.1, lo x.2])) ++ standing claims required) ∧
  (∀ shared r, Payload.octets (.trackSection shared r) =
    [lo r.state.code, hi r.balance, lo r.balance, lo (causeOctet r.causes)] ++
    opt (r.lock.map (fun k => [lo k.1, Config.unstatedCode (.role (k.2 == .overlap))])) ++
    opt (r.possession.map (fun n => [lo n])) ++
    (if shared then lo r.disagreement :: opt (r.neighbourState.map (fun x => [lo x.code])) else []) ++
    [flag r.axleSeen]) ∧
  (∀ now number x claims, Payload.octets (.slot now number x claims) = lo number :: opt (x.map (fun x =>
      [ hi x.route, lo x.route, lo x.state.code, Config.unstatedCode (.origin (x.origin == .fleet)), lo x.fleet,
        lo x.pointer, lo x.marks.length ] ++ x.marks.map flag ++
      opt (x.overlap.map (fun o => [Config.unstatedCode (.overlapStatus (match o with
        | .locked => 0
        | .timing => 1
        | .released => 2))])) ++
      opt (x.timer.map (fun y => left now y.expiry ++ opt (y.cause.map (fun c => [lo c.code])))) ++
      opt (x.held.map (fun g => [lo g.code])) ++ opt (x.lineWait.map (fun k => [lo k.1, lo k.2])) ++
      opt (x.aspect.map (fun a => [lo a.code])))) ++
    lo claims.length :: claims.flatMap (fun c =>
      [hi c.element, lo c.element, lo c.required.code, flag c.proven, lo c.serves.length])) ∧
  (∀ now k exports, Payload.octets (.link now k exports) =
    [lo k.state.code] ++ opt (k.lastHeard.map (left now)) ++ opt (k.identity.map (fun i =>
      [i.extractLsb' 24 8, i.extractLsb' 16 8, i.extractLsb' 8 8, i.extractLsb' 0 8])) ++
    opt (k.version.map (fun v => [v.extractLsb' 8 8, v.extractLsb' 0 8])) ++ [flag k.mismatch] ++
    lo exports.length :: exports.flatMap (fun x => [lo x.1, x.2.1, x.2.2]) ++
    lo k.unknownSeen.length :: k.unknownSeen.map lo ++
    lo k.lines.length :: k.lines.flatMap (fun y =>
      [lo y.1, lo y.2.owner.code, flag y.2.lineClear, y.2.nextAsk] ++
      opt (y.2.ask.map (fun a => a.1 :: left now a.2)) ++ opt (y.2.late.map (fun n => [n])) ++
      opt (y.2.last.map (fun p => [lo p.owner.code, flag p.askOutstanding, flag p.lineClear] ++
        opt (p.shared.map (fun x => [lo x.code])))))) ∧
  (∀ secs, Payload.octets (.possession secs) = Config.unstatedCode (.possession secs.isSome) ::
    lo (secs.getD []).length :: (secs.getD []).map lo) ∧
  (∀ m x, Payload.octets (.table m x) = mark m :: (match x with
    | some y => y.octets
    | none => [])) ∧
  (∀ ms amendment, Payload.octets (.marks ms amendment) = ms.map mark ++
    lo amendment.length :: amendment.flatMap (fun x => [lo x.1, hi x.2, lo x.2])) ∧
  (∀ n supervised evaluated lastReported moveFailed moving lockSlot,
    laidOut (.pointNotice n supervised evaluated lastReported moveFailed moving lockSlot) .control 33
      (Config.unstatedTag 33) ([1, hi n, lo n, flag supervised, lo (positionCode evaluated)] ++
        opt (lastReported.map (fun p => [lo (positionCode p)])) ++ [flag moveFailed, flag moving] ++
        opt (lockSlot.map (fun k => [lo k])))) ∧
  (∀ n supervised commanded proven proving, laidOut (.signalNotice n supervised commanded proven proving) .control 33
    (Config.unstatedTag 33) [1, hi n, lo n, flag supervised, lo commanded.code, lo (aspectCode proven), flag proving]) ∧
  (∀ n supervised, laidOut (.headNotice n supervised) .control 33 (Config.unstatedTag 33)
    [1, hi n, lo n, flag supervised]) ∧
  (∀ n state balance causes, laidOut (.sectionNotice n state balance causes) .control 33 (Config.unstatedTag 33)
    [2, hi n, lo n, lo state.code, hi balance, lo balance, lo (causeOctet causes)]) ∧
  (∀ n, laidOut (.reportNotice n) .control 34 (Config.unstatedTag 34) [lo n]) ∧
  (∀ (causes : List Cause), causeOctet causes < 64 ∧
    ∀ c : Cause, (causeOctet causes).testBit (c.code - 1) = causes.contains c) ∧
  ([none, some Position.normal, some .reverse].map positionCode = [0, 1, 2] ∧
    [none, some Aspect.danger, some .caution, some .proceed].map aspectCode = [0, 1, 2, 3] ∧
    [SectionState.clear, .occupied, .disturbed, .sweep].map SectionState.code = [1, 2, 3, 4] ∧
    [SlotState.setting, .waitLine, .locked, .clearing, .clear, .replaced, .entered, .timedRelease].map SlotState.code =
      [1, 2, 3, 4, 5, 6, 7, 8] ∧
    [ReleaseCause.approach, .emergency, .restart].map ReleaseCause.code = [1, 2, 3] ∧
    [Mode.suspended, .inService, .commissioning, .failed].map Mode.code = [1, 2, 3, 4] ∧
    [Stage.setting, .locked].map Stage.code = [1, 2] ∧
    [Required.position .normal, .position .reverse, .danger].map Required.code = [1, 2, 1] ∧
    [LinkState.down, .aligning, .up].map LinkState.code = [1, 2, 3] ∧
    [Owner.us, .neighbour, .unknown].map Owner.code = [1, 2, 3] ∧
    [ReportClass.a, .b, .c].map ReportClass.code = [1, 2, 3] ∧
    [SubjectKind.element, .trackSection, .route, .slot, .line, .link, .possession, .table].map SubjectKind.code =
      [1, 2, 3, 4, 5, 6, 7, 8] ∧
    [Code.accepted, .queued, .done, .replaced, .ignored, .mode, .held, .unknown, .active, .possessed, .conflict,
      .unavailable, .noSlot, .flankFull, .queueFull, .line, .busy, .tooLate, .notArmed, .overlap, .lockedIn, .frozen,
      .checkMismatch, .invalid, .amendLimit, .alreadySet, .stale, .badForm].map Code.code = List.range 28) ∧
  ∀ (port : Nat),
    (∀ q identity version lines, lines.length ≤ 58 → (∀ x ∈ lines, x.number ≤ 255) → ∃ read : List PresenceLine,
      readTelegram (.boundary port) (Sent.presence q identity version lines).octets =
        some (.presence port identity version read) ∧
      (∀ x ∈ read, presenceLineMeaningful x = true) ∧
      ∀ number, lineReport read number = (lines.find? (fun x => x.number == number)).map (fun x =>
        { owner := x.owner, askOutstanding := x.askOutstanding, lineClear := x.lineClear, shared := x.shared })) ∧
    (∀ q entries, entries.length ≤ 79 → (∀ x ∈ entries, x.number ≤ 255) →
      readTelegram (.boundary port) (Sent.counts q entries).octets = some (.counts port entries)) ∧
    (∀ q line number, line ≤ 255 →
      readTelegram (.boundary port) (Sent.directionAsk q line number).octets = some (.directionAsk port line number)) ∧
    ∀ q line number yields, line ≤ 255 →
      readTelegram (.boundary port) (Sent.directionReply q line number yields).octets =
        some (.directionReply port line number (if yields then 1 else 2))
end

