-- ==== Sys2Proof/Laws/State.lean ====
section
/-! SUPPORT. One lemma for each field and each plain update of State, Work and Live: the updates are record updates, and no
later proof unfolds them. -/

namespace Sys2Proof.Machine

/-! ### State.sending -/

@[simp] theorem State.sending_power (x : Sent) (s : State) : (s.sending x).power = s.power := rfl
@[simp] theorem State.sending_mode (x : Sent) (s : State) : (s.sending x).mode = s.mode := rfl
@[simp] theorem State.sending_clock (x : Sent) (s : State) : (s.sending x).clock = s.clock := rfl
@[simp] theorem State.sending_store (x : Sent) (s : State) : (s.sending x).store = s.store := rfl
@[simp] theorem State.sending_nv (x : Sent) (s : State) : (s.sending x).nv = s.nv := rfl
@[simp] theorem State.sending_possessions (x : Sent) (s : State) : (s.sending x).possessions = s.possessions := rfl
@[simp] theorem State.sending_possessionWrites (x : Sent) (s : State) :
    (s.sending x).possessionWrites = s.possessionWrites := rfl
@[simp] theorem State.sending_stageHolds (x : Sent) (s : State) : (s.sending x).stageHolds = s.stageHolds := rfl
@[simp] theorem State.sending_addressesSeen (x : Sent) (s : State) : (s.sending x).addressesSeen = s.addressesSeen := rfl
@[simp] theorem State.sending_presenceDue (x : Sent) (s : State) : (s.sending x).presenceDue = s.presenceDue := rfl
@[simp] theorem State.sending_live (x : Sent) (s : State) :
    (s.sending x).live = { s.live with sent := s.live.sent ++ [x] } := rfl
@[simp] theorem State.sending_freeCount (x : Sent) (s : State) : (s.sending x).freeCount = s.freeCount := rfl
@[simp] theorem State.sending_pending (x : Sent) (s : State) : (s.sending x).pending = s.pending := rfl

/-! ### State.send -/

@[simp] theorem State.send_power (x : Sent) (s : State) : (s.send x).power = s.power := rfl
@[simp] theorem State.send_mode (x : Sent) (s : State) : (s.send x).mode = s.mode := rfl
@[simp] theorem State.send_clock (x : Sent) (s : State) : (s.send x).clock = s.clock := rfl
@[simp] theorem State.send_store (x : Sent) (s : State) : (s.send x).store = s.store := rfl
@[simp] theorem State.send_nv (x : Sent) (s : State) : (s.send x).nv = s.nv := rfl
@[simp] theorem State.send_possessions (x : Sent) (s : State) : (s.send x).possessions = s.possessions := rfl
@[simp] theorem State.send_possessionWrites (x : Sent) (s : State) : (s.send x).possessionWrites = s.possessionWrites := rfl
@[simp] theorem State.send_stageHolds (x : Sent) (s : State) : (s.send x).stageHolds = s.stageHolds := rfl
@[simp] theorem State.send_addressesSeen (x : Sent) (s : State) : (s.send x).addressesSeen = s.addressesSeen := rfl
@[simp] theorem State.send_presenceDue (x : Sent) (s : State) : (s.send x).presenceDue = s.presenceDue := rfl
@[simp] theorem State.send_live (x : Sent) (s : State) : (s.send x).live = s.live.send x := rfl
@[simp] theorem State.send_freeCount (x : Sent) (s : State) : (s.send x).freeCount = s.freeCount := rfl
@[simp] theorem State.send_pending (x : Sent) (s : State) : (s.send x).pending = s.pending := rfl

/-! ### State.reply -/

@[simp] theorem State.reply_power (tag kind : Nat) (a : Answer) (s : State) : (s.reply tag kind a).power = s.power := rfl
@[simp] theorem State.reply_mode (tag kind : Nat) (a : Answer) (s : State) : (s.reply tag kind a).mode = s.mode := rfl
@[simp] theorem State.reply_clock (tag kind : Nat) (a : Answer) (s : State) : (s.reply tag kind a).clock = s.clock := rfl
@[simp] theorem State.reply_store (tag kind : Nat) (a : Answer) (s : State) : (s.reply tag kind a).store = s.store := rfl
@[simp] theorem State.reply_nv (tag kind : Nat) (a : Answer) (s : State) : (s.reply tag kind a).nv = s.nv := rfl
@[simp] theorem State.reply_possessions (tag kind : Nat) (a : Answer) (s : State) :
    (s.reply tag kind a).possessions = s.possessions := rfl
@[simp] theorem State.reply_possessionWrites (tag kind : Nat) (a : Answer) (s : State) :
    (s.reply tag kind a).possessionWrites = s.possessionWrites := rfl
@[simp] theorem State.reply_stageHolds (tag kind : Nat) (a : Answer) (s : State) :
    (s.reply tag kind a).stageHolds = s.stageHolds := rfl
@[simp] theorem State.reply_addressesSeen (tag kind : Nat) (a : Answer) (s : State) :
    (s.reply tag kind a).addressesSeen = s.addressesSeen := rfl
@[simp] theorem State.reply_presenceDue (tag kind : Nat) (a : Answer) (s : State) :
    (s.reply tag kind a).presenceDue = s.presenceDue := rfl
@[simp] theorem State.reply_live (tag kind : Nat) (a : Answer) (s : State) :
    (s.reply tag kind a).live = s.live.send (.answer tag kind a.code a.detail a.data) := rfl
@[simp] theorem State.reply_freeCount (tag kind : Nat) (a : Answer) (s : State) :
    (s.reply tag kind a).freeCount = s.freeCount := rfl
@[simp] theorem State.reply_pending (tag kind : Nat) (a : Answer) (s : State) :
    (s.reply tag kind a).pending = s.pending := rfl

/-! ### State.ending -/

@[simp] theorem State.ending_power (w : Work) (s : State) : (s.ending w).power = s.power := rfl
@[simp] theorem State.ending_mode (w : Work) (s : State) : (s.ending w).mode = s.mode := rfl
@[simp] theorem State.ending_clock (w : Work) (s : State) : (s.ending w).clock = s.clock := rfl
@[simp] theorem State.ending_store (w : Work) (s : State) : (s.ending w).store = s.store := rfl
@[simp] theorem State.ending_nv (w : Work) (s : State) : (s.ending w).nv = s.nv := rfl
@[simp] theorem State.ending_possessions (w : Work) (s : State) : (s.ending w).possessions = s.possessions := rfl
@[simp] theorem State.ending_possessionWrites (w : Work) (s : State) :
    (s.ending w).possessionWrites = s.possessionWrites := rfl
@[simp] theorem State.ending_stageHolds (w : Work) (s : State) : (s.ending w).stageHolds = s.stageHolds := rfl
@[simp] theorem State.ending_addressesSeen (w : Work) (s : State) : (s.ending w).addressesSeen = s.addressesSeen := rfl
@[simp] theorem State.ending_presenceDue (w : Work) (s : State) : (s.ending w).presenceDue = s.presenceDue := rfl
@[simp] theorem State.ending_live (w : Work) (s : State) : (s.ending w).live = w.finish s.env := rfl
@[simp] theorem State.ending_freeCount (w : Work) (s : State) : (s.ending w).freeCount = s.freeCount := rfl
@[simp] theorem State.ending_pending (w : Work) (s : State) : (s.ending w).pending = s.pending := rfl

/-! ### State.finish -/

@[simp] theorem State.finish_power (w : Work) (s : State) : (s.finish w).power = s.power := rfl
@[simp] theorem State.finish_mode (w : Work) (s : State) : (s.finish w).mode = s.mode := rfl
@[simp] theorem State.finish_clock (w : Work) (s : State) : (s.finish w).clock = s.clock := rfl
@[simp] theorem State.finish_store (w : Work) (s : State) : (s.finish w).store = s.store := rfl
@[simp] theorem State.finish_nv (w : Work) (s : State) : (s.finish w).nv = s.nv := rfl
@[simp] theorem State.finish_possessions (w : Work) (s : State) : (s.finish w).possessions = s.possessions := rfl
@[simp] theorem State.finish_possessionWrites (w : Work) (s : State) :
    (s.finish w).possessionWrites = s.possessionWrites := rfl
@[simp] theorem State.finish_stageHolds (w : Work) (s : State) : (s.finish w).stageHolds = s.stageHolds := rfl
@[simp] theorem State.finish_addressesSeen (w : Work) (s : State) : (s.finish w).addressesSeen = s.addressesSeen := rfl
@[simp] theorem State.finish_presenceDue (w : Work) (s : State) : (s.finish w).presenceDue = s.presenceDue := rfl
@[simp] theorem State.finish_live (w : Work) (s : State) : (s.finish w).live = w.finish s.env := rfl
@[simp] theorem State.finish_freeCount (w : Work) (s : State) : (s.finish w).freeCount = s.freeCount := rfl
@[simp] theorem State.finish_pending (w : Work) (s : State) : (s.finish w).pending = s.pending := rfl

/-! ### State.report -/

@[simp] theorem State.report_power (cls : ReportClass) (code : ReportCode) (kind : SubjectKind) (number : Nat) (detail : Option Nat)
    (s : State) : (s.report cls code kind number detail).power = s.power := rfl
@[simp] theorem State.report_mode (cls : ReportClass) (code : ReportCode) (kind : SubjectKind) (number : Nat) (detail : Option Nat)
    (s : State) : (s.report cls code kind number detail).mode = s.mode := rfl
@[simp] theorem State.report_clock (cls : ReportClass) (code : ReportCode) (kind : SubjectKind) (number : Nat) (detail : Option Nat)
    (s : State) : (s.report cls code kind number detail).clock = s.clock := rfl
@[simp] theorem State.report_store (cls : ReportClass) (code : ReportCode) (kind : SubjectKind) (number : Nat) (detail : Option Nat)
    (s : State) : (s.report cls code kind number detail).store = s.store := rfl
@[simp] theorem State.report_nv (cls : ReportClass) (code : ReportCode) (kind : SubjectKind) (number : Nat) (detail : Option Nat)
    (s : State) : (s.report cls code kind number detail).nv = s.nv := rfl
@[simp] theorem State.report_possessions (cls : ReportClass) (code : ReportCode) (kind : SubjectKind) (number : Nat) (detail : Option Nat)
    (s : State) : (s.report cls code kind number detail).possessions = s.possessions := rfl
@[simp] theorem State.report_possessionWrites (cls : ReportClass) (code : ReportCode) (kind : SubjectKind) (number : Nat) (detail : Option Nat)
    (s : State) : (s.report cls code kind number detail).possessionWrites = s.possessionWrites := rfl
@[simp] theorem State.report_stageHolds (cls : ReportClass) (code : ReportCode) (kind : SubjectKind) (number : Nat) (detail : Option Nat)
    (s : State) : (s.report cls code kind number detail).stageHolds = s.stageHolds := rfl
@[simp] theorem State.report_addressesSeen (cls : ReportClass) (code : ReportCode) (kind : SubjectKind) (number : Nat) (detail : Option Nat)
    (s : State) : (s.report cls code kind number detail).addressesSeen = s.addressesSeen := rfl
@[simp] theorem State.report_presenceDue (cls : ReportClass) (code : ReportCode) (kind : SubjectKind) (number : Nat) (detail : Option Nat)
    (s : State) : (s.report cls code kind number detail).presenceDue = s.presenceDue := rfl
@[simp] theorem State.report_live (cls : ReportClass) (code : ReportCode) (kind : SubjectKind) (number : Nat) (detail : Option Nat)
    (s : State) : (s.report cls code kind number detail).live = 
      s.live.offer s.env cls code kind number detail := rfl
@[simp] theorem State.report_freeCount (cls : ReportClass) (code : ReportCode) (kind : SubjectKind) (number : Nat) (detail : Option Nat)
    (s : State) : (s.report cls code kind number detail).freeCount = s.freeCount := rfl
@[simp] theorem State.report_pending (cls : ReportClass) (code : ReportCode) (kind : SubjectKind) (number : Nat) (detail : Option Nat)
    (s : State) : (s.report cls code kind number detail).pending = s.pending := rfl

/-! ### State.onReports -/

@[simp] theorem State.onReports_power (f : ReportQueue → ReportQueue) (s : State) : (s.onReports f).power = s.power := rfl
@[simp] theorem State.onReports_mode (f : ReportQueue → ReportQueue) (s : State) : (s.onReports f).mode = s.mode := rfl
@[simp] theorem State.onReports_clock (f : ReportQueue → ReportQueue) (s : State) : (s.onReports f).clock = s.clock := rfl
@[simp] theorem State.onReports_store (f : ReportQueue → ReportQueue) (s : State) : (s.onReports f).store = s.store := rfl
@[simp] theorem State.onReports_nv (f : ReportQueue → ReportQueue) (s : State) : (s.onReports f).nv = s.nv := rfl
@[simp] theorem State.onReports_possessions (f : ReportQueue → ReportQueue) (s : State) :
    (s.onReports f).possessions = s.possessions := rfl
@[simp] theorem State.onReports_possessionWrites (f : ReportQueue → ReportQueue) (s : State) :
    (s.onReports f).possessionWrites = s.possessionWrites := rfl
@[simp] theorem State.onReports_stageHolds (f : ReportQueue → ReportQueue) (s : State) :
    (s.onReports f).stageHolds = s.stageHolds := rfl
@[simp] theorem State.onReports_addressesSeen (f : ReportQueue → ReportQueue) (s : State) :
    (s.onReports f).addressesSeen = s.addressesSeen := rfl
@[simp] theorem State.onReports_presenceDue (f : ReportQueue → ReportQueue) (s : State) :
    (s.onReports f).presenceDue = s.presenceDue := rfl
@[simp] theorem State.onReports_live (f : ReportQueue → ReportQueue) (s : State) :
    (s.onReports f).live = { s.live with reports := f s.live.reports } := rfl
@[simp] theorem State.onReports_freeCount (f : ReportQueue → ReportQueue) (s : State) :
    (s.onReports f).freeCount = s.freeCount := rfl
@[simp] theorem State.onReports_pending (f : ReportQueue → ReportQueue) (s : State) :
    (s.onReports f).pending = s.pending := rfl

/-! ### State.setCommit -/

@[simp] theorem State.setCommit_power (c : Option Commit) (s : State) : (s.setCommit c).power = s.power := rfl
@[simp] theorem State.setCommit_mode (c : Option Commit) (s : State) : (s.setCommit c).mode = s.mode := rfl
@[simp] theorem State.setCommit_clock (c : Option Commit) (s : State) : (s.setCommit c).clock = s.clock := rfl
@[simp] theorem State.setCommit_store (c : Option Commit) (s : State) :
    (s.setCommit c).store = { s.store with commit := c } := rfl
@[simp] theorem State.setCommit_nv (c : Option Commit) (s : State) : (s.setCommit c).nv = s.nv := rfl
@[simp] theorem State.setCommit_possessions (c : Option Commit) (s : State) :
    (s.setCommit c).possessions = s.possessions := rfl
@[simp] theorem State.setCommit_possessionWrites (c : Option Commit) (s : State) :
    (s.setCommit c).possessionWrites = s.possessionWrites := rfl
@[simp] theorem State.setCommit_stageHolds (c : Option Commit) (s : State) :
    (s.setCommit c).stageHolds = s.stageHolds := rfl
@[simp] theorem State.setCommit_addressesSeen (c : Option Commit) (s : State) :
    (s.setCommit c).addressesSeen = s.addressesSeen := rfl
@[simp] theorem State.setCommit_presenceDue (c : Option Commit) (s : State) :
    (s.setCommit c).presenceDue = s.presenceDue := rfl
@[simp] theorem State.setCommit_live (c : Option Commit) (s : State) : (s.setCommit c).live = s.live := rfl
@[simp] theorem State.setCommit_freeCount (c : Option Commit) (s : State) : (s.setCommit c).freeCount = s.freeCount := rfl
@[simp] theorem State.setCommit_pending (c : Option Commit) (s : State) : (s.setCommit c).pending = s.pending := rfl

/-! ### State.writePossessions -/

@[simp] theorem State.writePossessions_power (tag kind : Nat) (s : State) :
    (s.writePossessions tag kind).power = s.power := rfl
@[simp] theorem State.writePossessions_mode (tag kind : Nat) (s : State) :
    (s.writePossessions tag kind).mode = s.mode := rfl
@[simp] theorem State.writePossessions_clock (tag kind : Nat) (s : State) :
    (s.writePossessions tag kind).clock = s.clock := rfl
@[simp] theorem State.writePossessions_store (tag kind : Nat) (s : State) :
    (s.writePossessions tag kind).store = s.store := rfl
@[simp] theorem State.writePossessions_nv (tag kind : Nat) (s : State) : (s.writePossessions tag kind).nv = s.nv := rfl
@[simp] theorem State.writePossessions_possessions (tag kind : Nat) (s : State) :
    (s.writePossessions tag kind).possessions = s.possessions := rfl
@[simp] theorem State.writePossessions_possessionWrites (tag kind : Nat) (s : State) : (s.writePossessions tag kind).possessionWrites = 
      s.possessionWrites ++ [{ tag := tag, kind := kind, records := s.possessions }] := rfl
@[simp] theorem State.writePossessions_stageHolds (tag kind : Nat) (s : State) :
    (s.writePossessions tag kind).stageHolds = s.stageHolds := rfl
@[simp] theorem State.writePossessions_addressesSeen (tag kind : Nat) (s : State) :
    (s.writePossessions tag kind).addressesSeen = s.addressesSeen := rfl
@[simp] theorem State.writePossessions_presenceDue (tag kind : Nat) (s : State) :
    (s.writePossessions tag kind).presenceDue = s.presenceDue := rfl
@[simp] theorem State.writePossessions_live (tag kind : Nat) (s : State) :
    (s.writePossessions tag kind).live = s.live := rfl
@[simp] theorem State.writePossessions_freeCount (tag kind : Nat) (s : State) :
    (s.writePossessions tag kind).freeCount = s.freeCount := rfl
@[simp] theorem State.writePossessions_pending (tag kind : Nat) (s : State) :
    (s.writePossessions tag kind).pending = s.pending := rfl

/-! ### State.presents -/

@[simp] theorem State.presents_power (links : Map LinkRec) (s : State) : (s.presents links).power = s.power := rfl
@[simp] theorem State.presents_mode (links : Map LinkRec) (s : State) : (s.presents links).mode = s.mode := rfl
@[simp] theorem State.presents_clock (links : Map LinkRec) (s : State) : (s.presents links).clock = s.clock := rfl
@[simp] theorem State.presents_store (links : Map LinkRec) (s : State) : (s.presents links).store = s.store := rfl
@[simp] theorem State.presents_nv (links : Map LinkRec) (s : State) : (s.presents links).nv = s.nv := rfl
@[simp] theorem State.presents_possessions (links : Map LinkRec) (s : State) :
    (s.presents links).possessions = s.possessions := rfl
@[simp] theorem State.presents_possessionWrites (links : Map LinkRec) (s : State) :
    (s.presents links).possessionWrites = s.possessionWrites := rfl
@[simp] theorem State.presents_stageHolds (links : Map LinkRec) (s : State) :
    (s.presents links).stageHolds = s.stageHolds := rfl
@[simp] theorem State.presents_addressesSeen (links : Map LinkRec) (s : State) :
    (s.presents links).addressesSeen = s.addressesSeen := rfl
@[simp] theorem State.presents_presenceDue (links : Map LinkRec) (s : State) :
    (s.presents links).presenceDue = s.presenceDue := rfl
@[simp] theorem State.presents_freeCount (links : Map LinkRec) (s : State) :
    (s.presents links).freeCount = s.freeCount := rfl
@[simp] theorem State.presents_pending (links : Map LinkRec) (s : State) : (s.presents links).pending = s.pending := rfl

/-! ### State.env and State.work -/

@[simp] theorem State.env_tables (s : State) : s.env.tables = s.store.active := rfl
@[simp] theorem State.env_mode (s : State) : s.env.mode = s.mode := rfl
@[simp] theorem State.env_clock (s : State) : s.env.clock = s.clock := rfl
@[simp] theorem State.env_holds (s : State) : s.env.holds = s.stageHolds := rfl
@[simp] theorem State.work_live (s : State) : s.work.live = s.live := rfl
@[simp] theorem State.work_todo (s : State) : s.work.todo = [] := rfl
@[simp] theorem State.work_places (s : State) : s.work.places = [] := rfl
@[simp] theorem State.work_scan (s : State) : s.work.scan = false := rfl
@[simp] theorem State.work_notices (s : State) : s.work.notices = [] := rfl

/-! ### Work.on -/

@[simp] theorem Work.on_live (f : Live → Live) (w : Work) : (w.on f).live = f w.live := rfl
@[simp] theorem Work.on_todo (f : Live → Live) (w : Work) : (w.on f).todo = w.todo := rfl
@[simp] theorem Work.on_places (f : Live → Live) (w : Work) : (w.on f).places = w.places := rfl
@[simp] theorem Work.on_scan (f : Live → Live) (w : Work) : (w.on f).scan = w.scan := rfl
@[simp] theorem Work.on_notices (f : Live → Live) (w : Work) : (w.on f).notices = w.notices := rfl

/-! ### Work.hand -/

@[simp] theorem Work.hand_live (cs : List Change) (w : Work) : (w.hand cs).live = w.live := rfl
@[simp] theorem Work.hand_todo (cs : List Change) (w : Work) : (w.hand cs).todo = w.todo ++ cs := rfl
@[simp] theorem Work.hand_places (cs : List Change) (w : Work) : (w.hand cs).places = w.places := rfl
@[simp] theorem Work.hand_scan (cs : List Change) (w : Work) : (w.hand cs).scan = w.scan := rfl
@[simp] theorem Work.hand_notices (cs : List Change) (w : Work) : (w.hand cs).notices = w.notices := rfl

/-! ### Work.placeDue -/

@[simp] theorem Work.placeDue_live (ps : List Nat) (w : Work) : (w.placeDue ps).live = w.live := rfl
@[simp] theorem Work.placeDue_todo (ps : List Nat) (w : Work) : (w.placeDue ps).todo = w.todo := rfl
@[simp] theorem Work.placeDue_places (ps : List Nat) (w : Work) : (w.placeDue ps).places = w.places ++ ps := rfl
@[simp] theorem Work.placeDue_scan (ps : List Nat) (w : Work) : (w.placeDue ps).scan = w.scan := rfl
@[simp] theorem Work.placeDue_notices (ps : List Nat) (w : Work) : (w.placeDue ps).notices = w.notices := rfl

/-! ### Work.scanDue -/

@[simp] theorem Work.scanDue_live (w : Work) : (w.scanDue).live = w.live := rfl
@[simp] theorem Work.scanDue_todo (w : Work) : (w.scanDue).todo = w.todo := rfl
@[simp] theorem Work.scanDue_places (w : Work) : (w.scanDue).places = w.places := rfl
@[simp] theorem Work.scanDue_scan (w : Work) : (w.scanDue).scan = true := rfl
@[simp] theorem Work.scanDue_notices (w : Work) : (w.scanDue).notices = w.notices := rfl

/-! ### Work.noticeDue -/

@[simp] theorem Work.noticeDue_live (n : Nat) (w : Work) : (w.noticeDue n).live = w.live := rfl
@[simp] theorem Work.noticeDue_todo (n : Nat) (w : Work) : (w.noticeDue n).todo = w.todo := rfl
@[simp] theorem Work.noticeDue_places (n : Nat) (w : Work) : (w.noticeDue n).places = w.places := rfl
@[simp] theorem Work.noticeDue_scan (n : Nat) (w : Work) : (w.noticeDue n).scan = w.scan := rfl

/-! ### Work.slotTo -/

@[simp] theorem Work.slotTo_live (n : Nat) (f : Slot → Slot) (w : Work) :
    (w.slotTo n f).live = { w.live with slots := Map.update n f w.live.slots } := rfl
@[simp] theorem Work.slotTo_todo (n : Nat) (f : Slot → Slot) (w : Work) : (w.slotTo n f).todo = w.todo := rfl
@[simp] theorem Work.slotTo_places (n : Nat) (f : Slot → Slot) (w : Work) : (w.slotTo n f).places = w.places := rfl
@[simp] theorem Work.slotTo_scan (n : Nat) (f : Slot → Slot) (w : Work) : (w.slotTo n f).scan = w.scan := rfl
@[simp] theorem Work.slotTo_notices (n : Nat) (f : Slot → Slot) (w : Work) : (w.slotTo n f).notices = w.notices := rfl

/-! ### Work.report -/

@[simp] theorem Work.report_live (e : Env) (cls : ReportClass) (code : ReportCode) (kind : SubjectKind) (number : Nat)
    (detail : Option Nat) (w : Work) : (w.report e cls code kind number detail).live = 
      w.live.offer e cls code kind number detail := rfl
@[simp] theorem Work.report_todo (e : Env) (cls : ReportClass) (code : ReportCode) (kind : SubjectKind) (number : Nat)
    (detail : Option Nat) (w : Work) : (w.report e cls code kind number detail).todo = w.todo := rfl
@[simp] theorem Work.report_places (e : Env) (cls : ReportClass) (code : ReportCode) (kind : SubjectKind) (number : Nat)
    (detail : Option Nat) (w : Work) : (w.report e cls code kind number detail).places = w.places := rfl
@[simp] theorem Work.report_scan (e : Env) (cls : ReportClass) (code : ReportCode) (kind : SubjectKind) (number : Nat)
    (detail : Option Nat) (w : Work) : (w.report e cls code kind number detail).scan = w.scan := rfl
@[simp] theorem Work.report_notices (e : Env) (cls : ReportClass) (code : ReportCode) (kind : SubjectKind) (number : Nat)
    (detail : Option Nat) (w : Work) : (w.report e cls code kind number detail).notices = w.notices := rfl

/-! ### Work.updateLink -/

@[simp] theorem Work.updateLink_live (n : Nat) (f : LinkRec → LinkRec) (w : Work) :
    (w.updateLink n f).live = { w.live with links := Map.update n f w.live.links } := rfl
@[simp] theorem Work.updateLink_todo (n : Nat) (f : LinkRec → LinkRec) (w : Work) : (w.updateLink n f).todo = w.todo := rfl
@[simp] theorem Work.updateLink_places (n : Nat) (f : LinkRec → LinkRec) (w : Work) :
    (w.updateLink n f).places = w.places := rfl
@[simp] theorem Work.updateLink_scan (n : Nat) (f : LinkRec → LinkRec) (w : Work) : (w.updateLink n f).scan = w.scan := rfl
@[simp] theorem Work.updateLink_notices (n : Nat) (f : LinkRec → LinkRec) (w : Work) :
    (w.updateLink n f).notices = w.notices := rfl

/-! ### Work.lineTo -/

@[simp] theorem Work.lineTo_live (link line : Nat) (f : LineRec → LineRec) (w : Work) :
    (w.lineTo link line f).live = w.live.updateLine link line f := rfl
@[simp] theorem Work.lineTo_todo (link line : Nat) (f : LineRec → LineRec) (w : Work) :
    (w.lineTo link line f).todo = w.todo := rfl
@[simp] theorem Work.lineTo_places (link line : Nat) (f : LineRec → LineRec) (w : Work) :
    (w.lineTo link line f).places = w.places := rfl
@[simp] theorem Work.lineTo_scan (link line : Nat) (f : LineRec → LineRec) (w : Work) :
    (w.lineTo link line f).scan = w.scan := rfl
@[simp] theorem Work.lineTo_notices (link line : Nat) (f : LineRec → LineRec) (w : Work) :
    (w.lineTo link line f).notices = w.notices := rfl

/-! ### Live.send -/

@[simp] theorem Live.send_sections (x : Sent) (l : Live) : (l.send x).sections = l.sections := rfl
@[simp] theorem Live.send_elements (x : Sent) (l : Live) : (l.send x).elements = l.elements := rfl
@[simp] theorem Live.send_queue (x : Sent) (l : Live) : (l.send x).queue = l.queue := rfl
@[simp] theorem Live.send_slots (x : Sent) (l : Live) : (l.send x).slots = l.slots := rfl
@[simp] theorem Live.send_waiting (x : Sent) (l : Live) : (l.send x).waiting = l.waiting := rfl
@[simp] theorem Live.send_arm (x : Sent) (l : Live) : (l.send x).arm = l.arm := rfl
@[simp] theorem Live.send_claims (x : Sent) (l : Live) : (l.send x).claims = l.claims := rfl
@[simp] theorem Live.send_links (x : Sent) (l : Live) : (l.send x).links = l.links := rfl
@[simp] theorem Live.send_reports (x : Sent) (l : Live) : (l.send x).reports = l.reports := rfl
@[simp] theorem Live.send_sent (x : Sent) (l : Live) : (l.send x).sent = l.sent ++ [x] := rfl
@[simp] theorem Live.send_choices (x : Sent) (l : Live) : (l.send x).choices = l.choices := rfl

/-! ### Live.setElement -/

@[simp] theorem Live.setElement_sections (n : Nat) (r : ElementRec) (l : Live) :
    (l.setElement n r).sections = l.sections := rfl
@[simp] theorem Live.setElement_elements (n : Nat) (r : ElementRec) (l : Live) :
    (l.setElement n r).elements = Map.put n r l.elements := rfl
@[simp] theorem Live.setElement_queue (n : Nat) (r : ElementRec) (l : Live) : (l.setElement n r).queue = l.queue := rfl
@[simp] theorem Live.setElement_slots (n : Nat) (r : ElementRec) (l : Live) : (l.setElement n r).slots = l.slots := rfl
@[simp] theorem Live.setElement_waiting (n : Nat) (r : ElementRec) (l : Live) :
    (l.setElement n r).waiting = l.waiting := rfl
@[simp] theorem Live.setElement_arm (n : Nat) (r : ElementRec) (l : Live) : (l.setElement n r).arm = l.arm := rfl
@[simp] theorem Live.setElement_claims (n : Nat) (r : ElementRec) (l : Live) : (l.setElement n r).claims = l.claims := rfl
@[simp] theorem Live.setElement_links (n : Nat) (r : ElementRec) (l : Live) : (l.setElement n r).links = l.links := rfl
@[simp] theorem Live.setElement_reports (n : Nat) (r : ElementRec) (l : Live) :
    (l.setElement n r).reports = l.reports := rfl
@[simp] theorem Live.setElement_sent (n : Nat) (r : ElementRec) (l : Live) : (l.setElement n r).sent = l.sent := rfl
@[simp] theorem Live.setElement_choices (n : Nat) (r : ElementRec) (l : Live) :
    (l.setElement n r).choices = l.choices := rfl

/-! ### Live.setSection -/

@[simp] theorem Live.setSection_sections (n : Nat) (r : SectionRec) (l : Live) :
    (l.setSection n r).sections = Map.put n r l.sections := rfl
@[simp] theorem Live.setSection_elements (n : Nat) (r : SectionRec) (l : Live) :
    (l.setSection n r).elements = l.elements := rfl
@[simp] theorem Live.setSection_queue (n : Nat) (r : SectionRec) (l : Live) : (l.setSection n r).queue = l.queue := rfl
@[simp] theorem Live.setSection_slots (n : Nat) (r : SectionRec) (l : Live) : (l.setSection n r).slots = l.slots := rfl
@[simp] theorem Live.setSection_waiting (n : Nat) (r : SectionRec) (l : Live) :
    (l.setSection n r).waiting = l.waiting := rfl
@[simp] theorem Live.setSection_arm (n : Nat) (r : SectionRec) (l : Live) : (l.setSection n r).arm = l.arm := rfl
@[simp] theorem Live.setSection_claims (n : Nat) (r : SectionRec) (l : Live) : (l.setSection n r).claims = l.claims := rfl
@[simp] theorem Live.setSection_links (n : Nat) (r : SectionRec) (l : Live) : (l.setSection n r).links = l.links := rfl
@[simp] theorem Live.setSection_reports (n : Nat) (r : SectionRec) (l : Live) :
    (l.setSection n r).reports = l.reports := rfl
@[simp] theorem Live.setSection_sent (n : Nat) (r : SectionRec) (l : Live) : (l.setSection n r).sent = l.sent := rfl
@[simp] theorem Live.setSection_choices (n : Nat) (r : SectionRec) (l : Live) :
    (l.setSection n r).choices = l.choices := rfl

/-! ### Live.setSlot -/

@[simp] theorem Live.setSlot_sections (n : Nat) (x : Slot) (l : Live) : (l.setSlot n x).sections = l.sections := rfl
@[simp] theorem Live.setSlot_elements (n : Nat) (x : Slot) (l : Live) : (l.setSlot n x).elements = l.elements := rfl
@[simp] theorem Live.setSlot_queue (n : Nat) (x : Slot) (l : Live) : (l.setSlot n x).queue = l.queue := rfl
@[simp] theorem Live.setSlot_slots (n : Nat) (x : Slot) (l : Live) : (l.setSlot n x).slots = Map.put n x l.slots := rfl
@[simp] theorem Live.setSlot_waiting (n : Nat) (x : Slot) (l : Live) : (l.setSlot n x).waiting = l.waiting := rfl
@[simp] theorem Live.setSlot_arm (n : Nat) (x : Slot) (l : Live) : (l.setSlot n x).arm = l.arm := rfl
@[simp] theorem Live.setSlot_claims (n : Nat) (x : Slot) (l : Live) : (l.setSlot n x).claims = l.claims := rfl
@[simp] theorem Live.setSlot_links (n : Nat) (x : Slot) (l : Live) : (l.setSlot n x).links = l.links := rfl
@[simp] theorem Live.setSlot_reports (n : Nat) (x : Slot) (l : Live) : (l.setSlot n x).reports = l.reports := rfl
@[simp] theorem Live.setSlot_sent (n : Nat) (x : Slot) (l : Live) : (l.setSlot n x).sent = l.sent := rfl
@[simp] theorem Live.setSlot_choices (n : Nat) (x : Slot) (l : Live) : (l.setSlot n x).choices = l.choices := rfl

/-! ### Live.updateLine -/

@[simp] theorem Live.updateLine_sections (link number : Nat) (f : LineRec → LineRec) (l : Live) :
    (l.updateLine link number f).sections = l.sections := rfl
@[simp] theorem Live.updateLine_elements (link number : Nat) (f : LineRec → LineRec) (l : Live) :
    (l.updateLine link number f).elements = l.elements := rfl
@[simp] theorem Live.updateLine_queue (link number : Nat) (f : LineRec → LineRec) (l : Live) :
    (l.updateLine link number f).queue = l.queue := rfl
@[simp] theorem Live.updateLine_slots (link number : Nat) (f : LineRec → LineRec) (l : Live) :
    (l.updateLine link number f).slots = l.slots := rfl
@[simp] theorem Live.updateLine_waiting (link number : Nat) (f : LineRec → LineRec) (l : Live) :
    (l.updateLine link number f).waiting = l.waiting := rfl
@[simp] theorem Live.updateLine_arm (link number : Nat) (f : LineRec → LineRec) (l : Live) :
    (l.updateLine link number f).arm = l.arm := rfl
@[simp] theorem Live.updateLine_claims (link number : Nat) (f : LineRec → LineRec) (l : Live) :
    (l.updateLine link number f).claims = l.claims := rfl
@[simp] theorem Live.updateLine_reports (link number : Nat) (f : LineRec → LineRec) (l : Live) :
    (l.updateLine link number f).reports = l.reports := rfl
@[simp] theorem Live.updateLine_sent (link number : Nat) (f : LineRec → LineRec) (l : Live) :
    (l.updateLine link number f).sent = l.sent := rfl
@[simp] theorem Live.updateLine_choices (link number : Nat) (f : LineRec → LineRec) (l : Live) :
    (l.updateLine link number f).choices = l.choices := rfl

/-! ### Live.unlockSections -/

@[simp] theorem Live.unlockSections_elements (n : Nat) (secs : List Nat) (l : Live) :
    (l.unlockSections n secs).elements = l.elements := rfl
@[simp] theorem Live.unlockSections_queue (n : Nat) (secs : List Nat) (l : Live) :
    (l.unlockSections n secs).queue = l.queue := rfl
@[simp] theorem Live.unlockSections_slots (n : Nat) (secs : List Nat) (l : Live) :
    (l.unlockSections n secs).slots = l.slots := rfl
@[simp] theorem Live.unlockSections_waiting (n : Nat) (secs : List Nat) (l : Live) :
    (l.unlockSections n secs).waiting = l.waiting := rfl
@[simp] theorem Live.unlockSections_arm (n : Nat) (secs : List Nat) (l : Live) :
    (l.unlockSections n secs).arm = l.arm := rfl
@[simp] theorem Live.unlockSections_claims (n : Nat) (secs : List Nat) (l : Live) :
    (l.unlockSections n secs).claims = l.claims := rfl
@[simp] theorem Live.unlockSections_links (n : Nat) (secs : List Nat) (l : Live) :
    (l.unlockSections n secs).links = l.links := rfl
@[simp] theorem Live.unlockSections_reports (n : Nat) (secs : List Nat) (l : Live) :
    (l.unlockSections n secs).reports = l.reports := rfl
@[simp] theorem Live.unlockSections_sent (n : Nat) (secs : List Nat) (l : Live) :
    (l.unlockSections n secs).sent = l.sent := rfl
@[simp] theorem Live.unlockSections_choices (n : Nat) (secs : List Nat) (l : Live) :
    (l.unlockSections n secs).choices = l.choices := rfl

/-! ### Live.lockSections -/

@[simp] theorem Live.lockSections_elements (n : Nat) (r : RouteEntry) (l : Live) :
    (l.lockSections n r).elements = l.elements := rfl
@[simp] theorem Live.lockSections_queue (n : Nat) (r : RouteEntry) (l : Live) : (l.lockSections n r).queue = l.queue := rfl
@[simp] theorem Live.lockSections_slots (n : Nat) (r : RouteEntry) (l : Live) : (l.lockSections n r).slots = l.slots := rfl
@[simp] theorem Live.lockSections_waiting (n : Nat) (r : RouteEntry) (l : Live) :
    (l.lockSections n r).waiting = l.waiting := rfl
@[simp] theorem Live.lockSections_arm (n : Nat) (r : RouteEntry) (l : Live) : (l.lockSections n r).arm = l.arm := rfl
@[simp] theorem Live.lockSections_claims (n : Nat) (r : RouteEntry) (l : Live) :
    (l.lockSections n r).claims = l.claims := rfl
@[simp] theorem Live.lockSections_links (n : Nat) (r : RouteEntry) (l : Live) : (l.lockSections n r).links = l.links := rfl
@[simp] theorem Live.lockSections_reports (n : Nat) (r : RouteEntry) (l : Live) :
    (l.lockSections n r).reports = l.reports := rfl
@[simp] theorem Live.lockSections_sent (n : Nat) (r : RouteEntry) (l : Live) : (l.lockSections n r).sent = l.sent := rfl
@[simp] theorem Live.lockSections_choices (n : Nat) (r : RouteEntry) (l : Live) :
    (l.lockSections n r).choices = l.choices := rfl

/-! ### Live.unlockPoints -/

@[simp] theorem Live.unlockPoints_sections (n : Nat) (ps : List Nat) (l : Live) :
    (l.unlockPoints n ps).sections = l.sections := rfl
@[simp] theorem Live.unlockPoints_queue (n : Nat) (ps : List Nat) (l : Live) : (l.unlockPoints n ps).queue = l.queue := rfl
@[simp] theorem Live.unlockPoints_slots (n : Nat) (ps : List Nat) (l : Live) : (l.unlockPoints n ps).slots = l.slots := rfl
@[simp] theorem Live.unlockPoints_waiting (n : Nat) (ps : List Nat) (l : Live) :
    (l.unlockPoints n ps).waiting = l.waiting := rfl
@[simp] theorem Live.unlockPoints_arm (n : Nat) (ps : List Nat) (l : Live) : (l.unlockPoints n ps).arm = l.arm := rfl
@[simp] theorem Live.unlockPoints_claims (n : Nat) (ps : List Nat) (l : Live) :
    (l.unlockPoints n ps).claims = l.claims := rfl
@[simp] theorem Live.unlockPoints_links (n : Nat) (ps : List Nat) (l : Live) : (l.unlockPoints n ps).links = l.links := rfl
@[simp] theorem Live.unlockPoints_reports (n : Nat) (ps : List Nat) (l : Live) :
    (l.unlockPoints n ps).reports = l.reports := rfl
@[simp] theorem Live.unlockPoints_sent (n : Nat) (ps : List Nat) (l : Live) : (l.unlockPoints n ps).sent = l.sent := rfl
@[simp] theorem Live.unlockPoints_choices (n : Nat) (ps : List Nat) (l : Live) :
    (l.unlockPoints n ps).choices = l.choices := rfl

/-! ### Live.removeEntryOf -/

@[simp] theorem Live.removeEntryOf_sections (n : Nat) (l : Live) : (l.removeEntryOf n).sections = l.sections := rfl
@[simp] theorem Live.removeEntryOf_queue (n : Nat) (l : Live) : (l.removeEntryOf n).queue = l.queue := rfl
@[simp] theorem Live.removeEntryOf_slots (n : Nat) (l : Live) : (l.removeEntryOf n).slots = l.slots := rfl
@[simp] theorem Live.removeEntryOf_waiting (n : Nat) (l : Live) : (l.removeEntryOf n).waiting = l.waiting := rfl
@[simp] theorem Live.removeEntryOf_arm (n : Nat) (l : Live) : (l.removeEntryOf n).arm = l.arm := rfl
@[simp] theorem Live.removeEntryOf_claims (n : Nat) (l : Live) : (l.removeEntryOf n).claims = l.claims := rfl
@[simp] theorem Live.removeEntryOf_links (n : Nat) (l : Live) : (l.removeEntryOf n).links = l.links := rfl
@[simp] theorem Live.removeEntryOf_reports (n : Nat) (l : Live) : (l.removeEntryOf n).reports = l.reports := rfl
@[simp] theorem Live.removeEntryOf_sent (n : Nat) (l : Live) : (l.removeEntryOf n).sent = l.sent := rfl
@[simp] theorem Live.removeEntryOf_choices (n : Nat) (l : Live) : (l.removeEntryOf n).choices = l.choices := rfl

/-! ### Live.removeClaims -/

@[simp] theorem Live.removeClaims_sections (slot : Nat) (l : Live) : (l.removeClaims slot).sections = l.sections := rfl
@[simp] theorem Live.removeClaims_elements (slot : Nat) (l : Live) : (l.removeClaims slot).elements = l.elements := rfl
@[simp] theorem Live.removeClaims_queue (slot : Nat) (l : Live) : (l.removeClaims slot).queue = l.queue := rfl
@[simp] theorem Live.removeClaims_slots (slot : Nat) (l : Live) : (l.removeClaims slot).slots = l.slots := rfl
@[simp] theorem Live.removeClaims_waiting (slot : Nat) (l : Live) : (l.removeClaims slot).waiting = l.waiting := rfl
@[simp] theorem Live.removeClaims_arm (slot : Nat) (l : Live) : (l.removeClaims slot).arm = l.arm := rfl
@[simp] theorem Live.removeClaims_links (slot : Nat) (l : Live) : (l.removeClaims slot).links = l.links := rfl
@[simp] theorem Live.removeClaims_reports (slot : Nat) (l : Live) : (l.removeClaims slot).reports = l.reports := rfl
@[simp] theorem Live.removeClaims_sent (slot : Nat) (l : Live) : (l.removeClaims slot).sent = l.sent := rfl
@[simp] theorem Live.removeClaims_choices (slot : Nat) (l : Live) : (l.removeClaims slot).choices = l.choices := rfl

/-! ### Live.removeEntries -/

@[simp] theorem Live.removeEntries_sections (r : RouteEntry) (slot : Nat) (is : List Nat) (l : Live) :
    (l.removeEntries r slot is).sections = l.sections := rfl
@[simp] theorem Live.removeEntries_elements (r : RouteEntry) (slot : Nat) (is : List Nat) (l : Live) :
    (l.removeEntries r slot is).elements = l.elements := rfl
@[simp] theorem Live.removeEntries_queue (r : RouteEntry) (slot : Nat) (is : List Nat) (l : Live) :
    (l.removeEntries r slot is).queue = l.queue := rfl
@[simp] theorem Live.removeEntries_slots (r : RouteEntry) (slot : Nat) (is : List Nat) (l : Live) :
    (l.removeEntries r slot is).slots = l.slots := rfl
@[simp] theorem Live.removeEntries_waiting (r : RouteEntry) (slot : Nat) (is : List Nat) (l : Live) :
    (l.removeEntries r slot is).waiting = l.waiting := rfl
@[simp] theorem Live.removeEntries_arm (r : RouteEntry) (slot : Nat) (is : List Nat) (l : Live) :
    (l.removeEntries r slot is).arm = l.arm := rfl
@[simp] theorem Live.removeEntries_links (r : RouteEntry) (slot : Nat) (is : List Nat) (l : Live) :
    (l.removeEntries r slot is).links = l.links := rfl
@[simp] theorem Live.removeEntries_reports (r : RouteEntry) (slot : Nat) (is : List Nat) (l : Live) :
    (l.removeEntries r slot is).reports = l.reports := rfl
@[simp] theorem Live.removeEntries_sent (r : RouteEntry) (slot : Nat) (is : List Nat) (l : Live) :
    (l.removeEntries r slot is).sent = l.sent := rfl
@[simp] theorem Live.removeEntries_choices (r : RouteEntry) (slot : Nat) (is : List Nat) (l : Live) :
    (l.removeEntries r slot is).choices = l.choices := rfl

/-! ### Live.formLineFlags -/

@[simp] theorem Live.formLineFlags_sections (t : Tables) (l : Live) : (l.formLineFlags t).sections = l.sections := rfl
@[simp] theorem Live.formLineFlags_elements (t : Tables) (l : Live) : (l.formLineFlags t).elements = l.elements := rfl
@[simp] theorem Live.formLineFlags_queue (t : Tables) (l : Live) : (l.formLineFlags t).queue = l.queue := rfl
@[simp] theorem Live.formLineFlags_slots (t : Tables) (l : Live) : (l.formLineFlags t).slots = l.slots := rfl
@[simp] theorem Live.formLineFlags_waiting (t : Tables) (l : Live) : (l.formLineFlags t).waiting = l.waiting := rfl
@[simp] theorem Live.formLineFlags_arm (t : Tables) (l : Live) : (l.formLineFlags t).arm = l.arm := rfl
@[simp] theorem Live.formLineFlags_claims (t : Tables) (l : Live) : (l.formLineFlags t).claims = l.claims := rfl
@[simp] theorem Live.formLineFlags_reports (t : Tables) (l : Live) : (l.formLineFlags t).reports = l.reports := rfl
@[simp] theorem Live.formLineFlags_sent (t : Tables) (l : Live) : (l.formLineFlags t).sent = l.sent := rfl
@[simp] theorem Live.formLineFlags_choices (t : Tables) (l : Live) : (l.formLineFlags t).choices = l.choices := rfl

/-! ### Live.setPossession -/

@[simp] theorem Live.setPossession_elements (secs : List Nat) (p : Option Nat) (l : Live) :
    (l.setPossession secs p).elements = l.elements := rfl
@[simp] theorem Live.setPossession_queue (secs : List Nat) (p : Option Nat) (l : Live) :
    (l.setPossession secs p).queue = l.queue := rfl
@[simp] theorem Live.setPossession_slots (secs : List Nat) (p : Option Nat) (l : Live) :
    (l.setPossession secs p).slots = l.slots := rfl
@[simp] theorem Live.setPossession_waiting (secs : List Nat) (p : Option Nat) (l : Live) :
    (l.setPossession secs p).waiting = l.waiting := rfl
@[simp] theorem Live.setPossession_arm (secs : List Nat) (p : Option Nat) (l : Live) :
    (l.setPossession secs p).arm = l.arm := rfl
@[simp] theorem Live.setPossession_claims (secs : List Nat) (p : Option Nat) (l : Live) :
    (l.setPossession secs p).claims = l.claims := rfl
@[simp] theorem Live.setPossession_links (secs : List Nat) (p : Option Nat) (l : Live) :
    (l.setPossession secs p).links = l.links := rfl
@[simp] theorem Live.setPossession_reports (secs : List Nat) (p : Option Nat) (l : Live) :
    (l.setPossession secs p).reports = l.reports := rfl
@[simp] theorem Live.setPossession_sent (secs : List Nat) (p : Option Nat) (l : Live) :
    (l.setPossession secs p).sent = l.sent := rfl
@[simp] theorem Live.setPossession_choices (secs : List Nat) (p : Option Nat) (l : Live) :
    (l.setPossession secs p).choices = l.choices := rfl

/-! ### Live.agreeShared -/

@[simp] theorem Live.agreeShared_elements (secs : List Nat) (l : Live) : (l.agreeShared secs).elements = l.elements := rfl
@[simp] theorem Live.agreeShared_queue (secs : List Nat) (l : Live) : (l.agreeShared secs).queue = l.queue := rfl
@[simp] theorem Live.agreeShared_slots (secs : List Nat) (l : Live) : (l.agreeShared secs).slots = l.slots := rfl
@[simp] theorem Live.agreeShared_waiting (secs : List Nat) (l : Live) : (l.agreeShared secs).waiting = l.waiting := rfl
@[simp] theorem Live.agreeShared_arm (secs : List Nat) (l : Live) : (l.agreeShared secs).arm = l.arm := rfl
@[simp] theorem Live.agreeShared_claims (secs : List Nat) (l : Live) : (l.agreeShared secs).claims = l.claims := rfl
@[simp] theorem Live.agreeShared_links (secs : List Nat) (l : Live) : (l.agreeShared secs).links = l.links := rfl
@[simp] theorem Live.agreeShared_reports (secs : List Nat) (l : Live) : (l.agreeShared secs).reports = l.reports := rfl
@[simp] theorem Live.agreeShared_sent (secs : List Nat) (l : Live) : (l.agreeShared secs).sent = l.sent := rfl
@[simp] theorem Live.agreeShared_choices (secs : List Nat) (l : Live) : (l.agreeShared secs).choices = l.choices := rfl

/-! ### Live.dropRequest -/

@[simp] theorem Live.dropRequest_sections (route : Nat) (l : Live) : (l.dropRequest route).sections = l.sections := rfl
@[simp] theorem Live.dropRequest_elements (route : Nat) (l : Live) : (l.dropRequest route).elements = l.elements := rfl
@[simp] theorem Live.dropRequest_queue (route : Nat) (l : Live) : (l.dropRequest route).queue = l.queue := rfl
@[simp] theorem Live.dropRequest_slots (route : Nat) (l : Live) : (l.dropRequest route).slots = l.slots := rfl
@[simp] theorem Live.dropRequest_arm (route : Nat) (l : Live) : (l.dropRequest route).arm = l.arm := rfl
@[simp] theorem Live.dropRequest_claims (route : Nat) (l : Live) : (l.dropRequest route).claims = l.claims := rfl
@[simp] theorem Live.dropRequest_links (route : Nat) (l : Live) : (l.dropRequest route).links = l.links := rfl
@[simp] theorem Live.dropRequest_reports (route : Nat) (l : Live) : (l.dropRequest route).reports = l.reports := rfl
@[simp] theorem Live.dropRequest_sent (route : Nat) (l : Live) : (l.dropRequest route).sent = l.sent := rfl
@[simp] theorem Live.dropRequest_choices (route : Nat) (l : Live) : (l.dropRequest route).choices = l.choices := rfl

/-! ### Live.stopRequest -/

@[simp] theorem Live.stopRequest_sections (route : Nat) (l : Live) : (l.stopRequest route).sections = l.sections := rfl
@[simp] theorem Live.stopRequest_elements (route : Nat) (l : Live) : (l.stopRequest route).elements = l.elements := rfl
@[simp] theorem Live.stopRequest_queue (route : Nat) (l : Live) : (l.stopRequest route).queue = l.queue := rfl
@[simp] theorem Live.stopRequest_slots (route : Nat) (l : Live) : (l.stopRequest route).slots = l.slots := rfl
@[simp] theorem Live.stopRequest_arm (route : Nat) (l : Live) : (l.stopRequest route).arm = l.arm := rfl
@[simp] theorem Live.stopRequest_claims (route : Nat) (l : Live) : (l.stopRequest route).claims = l.claims := rfl
@[simp] theorem Live.stopRequest_links (route : Nat) (l : Live) : (l.stopRequest route).links = l.links := rfl
@[simp] theorem Live.stopRequest_reports (route : Nat) (l : Live) : (l.stopRequest route).reports = l.reports := rfl
@[simp] theorem Live.stopRequest_sent (route : Nat) (l : Live) : (l.stopRequest route).sent = l.sent := rfl
@[simp] theorem Live.stopRequest_choices (route : Nat) (l : Live) : (l.stopRequest route).choices = l.choices := rfl

/-! ### Live.forgetAsks -/

@[simp] theorem Live.forgetAsks_sections (l : Live) : (l.forgetAsks).sections = l.sections := rfl
@[simp] theorem Live.forgetAsks_elements (l : Live) : (l.forgetAsks).elements = l.elements := rfl
@[simp] theorem Live.forgetAsks_queue (l : Live) : (l.forgetAsks).queue = l.queue := rfl
@[simp] theorem Live.forgetAsks_slots (l : Live) : (l.forgetAsks).slots = l.slots := rfl
@[simp] theorem Live.forgetAsks_waiting (l : Live) : (l.forgetAsks).waiting = l.waiting := rfl
@[simp] theorem Live.forgetAsks_arm (l : Live) : (l.forgetAsks).arm = l.arm := rfl
@[simp] theorem Live.forgetAsks_claims (l : Live) : (l.forgetAsks).claims = l.claims := rfl
@[simp] theorem Live.forgetAsks_reports (l : Live) : (l.forgetAsks).reports = l.reports := rfl
@[simp] theorem Live.forgetAsks_sent (l : Live) : (l.forgetAsks).sent = l.sent := rfl
@[simp] theorem Live.forgetAsks_choices (l : Live) : (l.forgetAsks).choices = l.choices := rfl

/-! ### Live.changeOrder -/

@[simp] theorem Live.changeOrder_sections (n : Nat) (o : Order) (l : Live) :
    (l.changeOrder n o).sections = l.sections := rfl
@[simp] theorem Live.changeOrder_slots (n : Nat) (o : Order) (l : Live) : (l.changeOrder n o).slots = l.slots := rfl
@[simp] theorem Live.changeOrder_waiting (n : Nat) (o : Order) (l : Live) : (l.changeOrder n o).waiting = l.waiting := rfl
@[simp] theorem Live.changeOrder_arm (n : Nat) (o : Order) (l : Live) : (l.changeOrder n o).arm = l.arm := rfl
@[simp] theorem Live.changeOrder_claims (n : Nat) (o : Order) (l : Live) : (l.changeOrder n o).claims = l.claims := rfl
@[simp] theorem Live.changeOrder_links (n : Nat) (o : Order) (l : Live) : (l.changeOrder n o).links = l.links := rfl
@[simp] theorem Live.changeOrder_reports (n : Nat) (o : Order) (l : Live) : (l.changeOrder n o).reports = l.reports := rfl
@[simp] theorem Live.changeOrder_sent (n : Nat) (o : Order) (l : Live) : (l.changeOrder n o).sent = l.sent := rfl
@[simp] theorem Live.changeOrder_choices (n : Nat) (o : Order) (l : Live) : (l.changeOrder n o).choices = l.choices := rfl

end Sys2Proof.Machine
end

