-- ==== Sys2Proof/Laws/Records.lean ====
section
/-! SUPPORT. What each shared operation over numbered records, orders and the Report Queue can do, said once. -/

namespace Sys2Proof

/-! ## Numbered records -/

@[simp] theorem Map.find_nil {α : Type} (k : Nat) : Map.find k ([] : Map α) = none := rfl

theorem Map.find_cons {α : Type} (k n : Nat) (a : α) (m : Map α) :
    Map.find k ((n, a) :: m) = if n = k then some a else Map.find k m := rfl

/-- What was put is found. -/
@[simp] theorem Map.find_put_self {α : Type} (k : Nat) (a : α) (m : Map α) : Map.find k (Map.put k a m) = some a := by
  induction m with
  | nil => simp [Map.put, Map.find]
  | cons x m ih =>
    obtain ⟨n, b⟩ := x
    simp only [Map.put]
    split
    · simp [Map.find]
    · split
      · simp [Map.find]
      · rename_i h
        simp [Map.find, ih, Ne.symm h]

/-- Every other id is found as before. -/
theorem Map.find_put_ne {α : Type} {j k : Nat} (h : j ≠ k) (a : α) (m : Map α) :
    Map.find j (Map.put k a m) = Map.find j m := by
  induction m with
  | nil => simp [Map.put, Map.find, Ne.symm h]
  | cons x m ih =>
    obtain ⟨n, b⟩ := x
    simp only [Map.put]
    split
    · simp [Map.find, Ne.symm h]
    · split
      · rename_i hk
        subst hk
        simp [Map.find, Ne.symm h]
      · simp [Map.find, ih]

@[simp] theorem Map.find_drop_self {α : Type} (k : Nat) (m : Map α) : Map.find k (Map.drop k m) = none := by
  induction m with
  | nil => rfl
  | cons x m ih =>
    obtain ⟨n, b⟩ := x
    by_cases h : n = k
    · simpa [Map.drop, h] using ih
    · simpa [Map.drop, h, Map.find] using ih

theorem Map.find_drop_ne {α : Type} {j k : Nat} (h : j ≠ k) (m : Map α) :
    Map.find j (Map.drop k m) = Map.find j m := by
  induction m with
  | nil => rfl
  | cons x m ih =>
    obtain ⟨n, b⟩ := x
    by_cases hn : n = k
    · subst hn
      simpa [Map.drop, Map.find, Ne.symm h] using ih
    · by_cases hj : n = j
      · simp [Map.drop, Map.find, hj, h]
      · simpa [Map.drop, hn, Map.find, hj] using ih

/-- A change made to each record under its own id is found at each id. -/
theorem Map.find_mapped {α β : Type} (f : Nat → α → β) (k : Nat) (m : Map α) :
    Map.find k (m.map (fun x => (x.1, f x.1 x.2))) = (Map.find k m).map (f k) := by
  induction m with
  | nil => rfl
  | cons x m ih =>
    obtain ⟨n, b⟩ := x
    by_cases h : n = k
    · simp [Map.find, h]
    · simpa [Map.find, h] using ih

theorem Map.find_each {α β : Type} (f : α → β) (k : Nat) (m : Map α) :
    Map.find k (Map.each f m) = (Map.find k m).map f := Map.find_mapped (fun _ => f) k m

theorem Map.find_update {α : Type} (j k : Nat) (f : α → α) (m : Map α) :
    Map.find j (Map.update k f m) = (Map.find j m).map (fun a => if j = k then f a else a) := by
  induction m with
  | nil => rfl
  | cons x m ih =>
    obtain ⟨n, b⟩ := x
    have e : Map.update k f ((n, b) :: m) = (if n = k then (n, f b) else (n, b)) :: Map.update k f m := rfl
    rw [e]
    by_cases hn : n = k
    · subst hn
      by_cases h : n = j
      · subst h
        simp [Map.find]
      · simp [Map.find, h, ih]
    · by_cases h : n = j
      · subst h
        simp [Map.find, hn]
      · simp [Map.find, hn, h, ih]

@[simp] theorem Map.find_update_self {α : Type} (k : Nat) (f : α → α) (m : Map α) :
    Map.find k (Map.update k f m) = (Map.find k m).map f := by
  simp [Map.find_update]

theorem Map.find_update_ne {α : Type} {j k : Nat} (h : j ≠ k) (f : α → α) (m : Map α) :
    Map.find j (Map.update k f m) = Map.find j m := by
  simp [Map.find_update, h]

/-- Putting keeps ids strictly rising. -/
theorem Map.put_rising {α : Type} (k : Nat) (a : α) (m : Map α) (h : (Map.ids m).Pairwise (· < ·)) :
    (Map.ids (Map.put k a m)).Pairwise (· < ·) ∧ ∀ n ∈ Map.ids (Map.put k a m), n = k ∨ n ∈ Map.ids m := by
  induction m with
  | nil => simp [Map.put, Map.ids]
  | cons x m ih =>
    obtain ⟨n, b⟩ := x
    simp only [Map.ids, List.map_cons, List.pairwise_cons, Map.put] at *
    split
    · refine ⟨?_, by simp⟩
      simp only [List.map_cons, List.pairwise_cons, List.mem_cons]
      refine ⟨?_, h.1, h.2⟩
      rintro c (rfl | hc)
      · assumption
      · exact lt_trans ‹_› (h.1 c hc)
    · split
      · rename_i hk
        subst hk
        simpa using h
      · have hr := ih h.2
        refine ⟨?_, ?_⟩
        · simp only [List.map_cons, List.pairwise_cons]
          refine ⟨?_, hr.1⟩
          intro c hc
          rcases hr.2 c hc with rfl | hc
          · omega
          · exact h.1 c hc
        · intro c hc
          simp only [List.map_cons, List.mem_cons] at hc ⊢
          rcases hc with rfl | hc
          · simp
          · rcases hr.2 c hc with rfl | hc
            · simp
            · simp [hc]

namespace Machine

/-! ## Free orders -/

theorem insertAt_perm {α : Type} (k : Nat) (x : α) (xs : List α) : (insertAt k x xs).Perm (x :: xs) := by
  induction xs generalizing k with
  | nil => simp [insertAt]
  | cons y ys ih => cases k with
    | zero => simp [insertAt]
    | succ k => exact ((ih k).cons y).trans (.swap x y ys)

/-- A free order keeps every thing once. -/
theorem arrangeBy_perm {α : Type} (cs : List Nat) (xs : List α) : (arrangeBy cs xs).Perm xs := by
  induction xs generalizing cs with
  | nil => simp [arrangeBy]
  | cons x xs ih => cases cs with
    | nil => simp [arrangeBy]
    | cons c cs => exact (insertAt_perm _ x _).trans ((ih cs).cons x)

/-! ## The Report Queue -/

/-- The queue without its oldest class C report: it is there, one shorter. -/
theorem withoutOldestC_length {rs qs : List Report} (h : withoutOldestC rs = some qs) : rs.length = qs.length + 1 := by
  induction rs generalizing qs with
  | nil => simp [withoutOldestC] at h
  | cons r rs ih =>
    simp only [withoutOldestC] at h
    split at h
    · simp_all
    · cases hw : withoutOldestC rs with
      | none => simp [hw] at h
      | some ps =>
        simp only [hw, Option.map_some, Option.some.injEq] at h
        subst h
        simp [ih hw]

/-- Keeping a report changes no number, hold or latest alarm, and the queue never exceeds its places. -/
theorem ReportQueue.keep_spec (r : Report) (q : ReportQueue) :
    (q.keep r).counter = q.counter ∧ (q.keep r).hold = q.hold ∧ (q.keep r).latestA = q.latestA ∧
    (q.keep r).armed = q.armed ∧ (q.reports.length ≤ Config.reportPlaces →
      (q.keep r).reports.length ≤ Config.reportPlaces) := by
  unfold ReportQueue.keep
  split
  · simp only [List.length_append, List.length_singleton, true_and]
    omega
  · split
    · simp
    · split
      · rename_i rest hw
        have := withoutOldestC_length hw
        simp only [List.length_append, List.length_singleton, true_and]
        omega
      · simp

/-- Offering touches the Report Queue and the telegrams sent alone. -/
theorem Live.offer_rest (e : Env) (cls : ReportClass) (code : ReportCode) (kind : SubjectKind) (number : Nat)
    (detail : Option Nat) (l : Live) :
    l.offer e cls code kind number detail = { l with
      reports := (l.offer e cls code kind number detail).reports
      sent := (l.offer e cls code kind number detail).sent } := by
  unfold Live.offer Live.noticeReports
  dsimp only
  split
  · split <;> rfl
  · rfl

section OfferFields
variable (e : Env) (cls : ReportClass) (code : ReportCode) (kind : SubjectKind) (number : Nat) (detail : Option Nat)
  (l : Live)

@[simp] theorem Live.offer_sections : (l.offer e cls code kind number detail).sections = l.sections := by
  rw [Live.offer_rest]
@[simp] theorem Live.offer_elements : (l.offer e cls code kind number detail).elements = l.elements := by
  rw [Live.offer_rest]
@[simp] theorem Live.offer_queue : (l.offer e cls code kind number detail).queue = l.queue := by
  rw [Live.offer_rest]
@[simp] theorem Live.offer_slots : (l.offer e cls code kind number detail).slots = l.slots := by
  rw [Live.offer_rest]
@[simp] theorem Live.offer_waiting : (l.offer e cls code kind number detail).waiting = l.waiting := by
  rw [Live.offer_rest]
@[simp] theorem Live.offer_arm : (l.offer e cls code kind number detail).arm = l.arm := by
  rw [Live.offer_rest]
@[simp] theorem Live.offer_claims : (l.offer e cls code kind number detail).claims = l.claims := by
  rw [Live.offer_rest]
@[simp] theorem Live.offer_links : (l.offer e cls code kind number detail).links = l.links := by
  rw [Live.offer_rest]
@[simp] theorem Live.offer_choices : (l.offer e cls code kind number detail).choices = l.choices := by
  rw [Live.offer_rest]

end OfferFields

/-! ## Orders -/

/-- Placing an order touches the queue and the pending orders alone. -/
theorem Live.placeOrder_rest (t : Tables) (n : Nat) (o : Order) (l : Live) :
    l.placeOrder t n o = { l with
      queue := (l.placeOrder t n o).queue, elements := (l.placeOrder t n o).elements } := by
  unfold Live.placeOrder Live.changeOrder
  split
  · rfl
  · split <;> rfl

/-- Placing an order never makes the queue longer than its places. -/
theorem Live.placeOrder_length (t : Tables) (n : Nat) (o : Order) (l : Live)
    (h : l.queue.length ≤ Config.orderPlaces) : (l.placeOrder t n o).queue.length ≤ Config.orderPlaces := by
  unfold Live.placeOrder Live.changeOrder
  split
  · simpa using h
  · split
    · exact h
    · rename_i hf
      simp only [Live.queueFull, Bool.or_eq_true, decide_eq_true_eq, not_or] at hf
      simp only [List.length_append, List.length_singleton]
      omega

/-- An admitted pending order takes a free place. -/
theorem Live.admitPending_length (t : Tables) (l : Live) (h : l.queue.length ≤ Config.orderPlaces) :
    (l.admitPending t).queue.length ≤ Config.orderPlaces := by
  unfold Live.admitPending
  split
  · split
    · split
      · simp only [List.length_append, List.length_singleton]
        omega
      · exact h
    · exact h
  · exact h

end Machine
end Sys2Proof
end

