-- ==== Sys2Proof/Laws/Ops.lean ====
section
/-! SUPPORT. What each shared operation over elements, sections, slots and lines can do, said once: what it writes is named,
and everything else is as it was. -/

namespace Sys2Proof.Machine

/-! ## Records by id -/

theorem Live.point_setElement_self (n : Nat) (r : PointRec) (l : Live) :
    (l.setElement n (.point r)).point n = some r := by simp [Live.point, Live.setElement]

theorem Live.signal_setElement_self (n : Nat) (r : SignalRec) (l : Live) :
    (l.setElement n (.signal r)).signal n = some r := by simp [Live.signal, Live.setElement]

theorem Live.head_setElement_self (n : Nat) (r : HeadRec) (l : Live) :
    (l.setElement n (.head r)).head n = some r := by simp [Live.head, Live.setElement]

/-- Writing one element's record leaves every other. -/
theorem Live.setElement_ne {m n : Nat} (h : m ≠ n) (r : ElementRec) (l : Live) :
    Map.find m (l.setElement n r).elements = Map.find m l.elements := by
  simp [Live.setElement, Map.find_put_ne h]

theorem Live.point_some {l : Live} {n : Nat} {r : PointRec} :
    l.point n = some r ↔ Map.find n l.elements = some (.point r) := by
  unfold Live.point
  split <;> simp_all

theorem Live.signal_some {l : Live} {n : Nat} {r : SignalRec} :
    l.signal n = some r ↔ Map.find n l.elements = some (.signal r) := by
  unfold Live.signal
  split <;> simp_all

theorem Live.head_some {l : Live} {n : Nat} {r : HeadRec} :
    l.head n = some r ↔ Map.find n l.elements = some (.head r) := by
  unfold Live.head
  split <;> simp_all

theorem Live.sectionAt_setSection (m n : Nat) (r : SectionRec) (l : Live) :
    (l.setSection n r).sectionAt m = if m = n then some r else l.sectionAt m := by
  by_cases h : m = n
  · subst h
    simp [Live.sectionAt, Live.setSection]
  · simp [Live.sectionAt, Live.setSection, Map.find_put_ne h, h]

theorem Work.slot_slotTo (m n : Nat) (f : Slot → Slot) (w : Work) :
    (w.slotTo n f).live.slot m = (w.live.slot m).map (fun x => if m = n then f x else x) := by
  simp [Work.slotTo, Work.on, Live.slot, Map.find_update]

theorem Live.line_updateLine (k m link number : Nat) (f : LineRec → LineRec) (l : Live) :
    (l.updateLine link number f).line k m =
      (l.line k m).map (fun y => if k = link ∧ m = number then f y else y) := by
  simp only [Live.line, Live.updateLine, Map.find_update]
  cases Map.find k l.links with
  | none => rfl
  | some x =>
    by_cases h : k = link
    · simp [h, Map.find_update]
    · simp [h]

/-- Forming the line-clear flags changes no field of a line but that flag. -/
theorem Live.line_formLineFlags (t : Tables) (link number : Nat) (l : Live) :
    (l.formLineFlags t).line link number =
      (l.line link number).map (fun y => { y with lineClear := l.lineClearNow t link number }) := by
  let g (k : Nat) (x : LinkRec) : LinkRec := { x with
    lines := x.lines.map (fun y => (y.1, { y.2 with lineClear := l.lineClearNow t k y.1 })) }
  have hl : (l.formLineFlags t).links = l.links.map (fun x => (x.1, g x.1 x.2)) := rfl
  unfold Live.line
  rw [hl, Map.find_mapped g]
  cases Map.find link l.links with
  | none => rfl
  | some x =>
    exact Map.find_mapped (fun n (y : LineRec) => { y with lineClear := l.lineClearNow t link n }) number x.lines

/-! ## Free orders -/

/-- Arranging uses up choices and changes nothing else of the work. -/
theorem Work.arrange_rest {α : Type} (xs : List α) (w : Work) :
    (w.arrange xs).1.Perm xs ∧
    (w.arrange xs).2 = { w with live := { w.live with choices := (w.arrange xs).2.live.choices } } := by
  unfold Work.arrange
  split
  · exact ⟨List.Perm.refl _, rfl⟩
  · exact ⟨arrangeBy_perm _ _, rfl⟩

/-! ## Orders and claims -/

/-- Proving an element's claims afresh writes their proven fields and hands changes over. -/
theorem Work.reprove_rest (n : Nat) (w : Work) :
    w.reprove n = { w with
      live := { w.live with
        claims := w.live.claims.map (fun c => if c.element = n then w.live.proved c else c)
        choices := (w.reprove n).live.choices }
      todo := (w.reprove n).todo } := by
  unfold Work.reprove
  dsimp only
  rw [(Work.arrange_rest _ _).2]
  rfl

/-- Proving an element's claims afresh hands exactly the claims whose proven field differs from what the element shows to
their slots, behind what was handed over before (R106). -/
theorem Work.mem_reprove_todo (n : Nat) (c : Change) (w : Work) :
    c ∈ (w.reprove n).todo ↔ c ∈ w.todo ∨ ∃ d ∈ w.live.claims, d.element = n ∧
      d.proven ≠ w.live.shows d.element d.required ∧ c = .claimChanged d.slot n (!d.proven) := by
  unfold Work.reprove
  dsimp only [Work.hand]
  rw [(Work.arrange_rest _ _).2]
  simp only [Work.on, List.mem_append, List.mem_map, (Work.arrange_rest _ _).1.mem_iff, List.mem_filter, Live.proved,
    Bool.and_eq_true, beq_iff_eq, bne_iff_ne, ne_eq]
  exact or_congr_right ⟨fun ⟨d, ⟨hd, he, hp⟩, hc⟩ => ⟨d, hd, he, hp, hc.symm⟩,
    fun ⟨d, hd, he, hp, hc⟩ => ⟨d, ⟨hd, he, hp⟩, hc.symm⟩⟩

/-- A point order touches the elements and the field order queue alone. -/
theorem Work.orderPoint_rest (e : Env) (p : Nat) (q : Position) (w : Work) :
    w.orderPoint e p q = { w with live := { w.live with
      elements := (w.orderPoint e p q).live.elements, queue := (w.orderPoint e p q).live.queue } } := by
  unfold Work.orderPoint
  split
  · rfl
  · split
    · rfl
    · simp only [Live.takePointOrder, Work.on]
      rw [Live.placeOrder_rest]
      rfl

/-- A signal order touches the elements, the field order queue and what depends on the claims' proving. -/
theorem Work.orderSignal_rest (e : Env) (g : Nat) (a : Aspect) (w : Work) :
    w.orderSignal e g a = { w with
      live := { w.live with
        elements := (w.orderSignal e g a).live.elements, queue := (w.orderSignal e g a).live.queue
        claims := (w.orderSignal e g a).live.claims, choices := (w.orderSignal e g a).live.choices }
      todo := (w.orderSignal e g a).todo } := by
  unfold Work.orderSignal
  split
  · rfl
  · rw [Work.reprove_rest]
    simp only [Live.takeSignalOrder, Work.on]
    rw [Live.placeOrder_rest]
    rfl

/-- Placing a claimed point touches the elements and the field order queue alone. -/
theorem Work.placePoint_rest (e : Env) (p : Nat) (w : Work) :
    w.placePoint e p = { w with live := { w.live with
      elements := (w.placePoint e p).live.elements, queue := (w.placePoint e p).live.queue } } := by
  unfold Work.placePoint
  split
  · split
    · exact Work.orderPoint_rest e p _ w
    · rfl
  · rfl

/-- Placing the points that are due touches the elements and the field order queue, and leaves none due. -/
theorem Work.placeAll_rest (e : Env) (w : Work) :
    w.placeAll e = { w with
      live := { w.live with elements := (w.placeAll e).live.elements, queue := (w.placeAll e).live.queue }
      places := [] } := by
  have go (ps : List Nat) (v : Work) : ps.foldl (fun w p => w.placePoint e p) v = { v with live := { v.live with
      elements := (ps.foldl (fun w p => w.placePoint e p) v).live.elements
      queue := (ps.foldl (fun w p => w.placePoint e p) v).live.queue } } := by
    induction ps generalizing v with
    | nil => rfl
    | cons p ps ih =>
      have h := ih (v.placePoint e p)
      rw [List.foldl_cons]
      generalize ps.foldl _ (v.placePoint e p) = x at h ⊢
      rw [Work.placePoint_rest e p v] at h
      exact h
  exact go (ascending w.places) { w with places := [] }

/-! ## Needing a line -/

/-- While the link is not UP a slot that needs its line is refused, and orders nothing. -/
theorem Work.needLine_apart (e : Env) (n link number : Nat) (waiting : Work → Work) (w : Work)
    (h : w.live.linkState link ≠ .up) : w.needLine e n link number waiting = w.refuseSlot e 3 n := by
  simp [Work.needLine, h]

/-- While the link is UP the slot waits, with an ask outstanding. -/
theorem Work.needLine_up (e : Env) (n link number : Nat) (waiting : Work → Work) (w : Work)
    (h : w.live.linkState link = .up) : w.needLine e n link number waiting =
      if (((waiting w).live.line link number).bind (fun y => y.ask)).isSome then waiting w
      else (waiting w).sendAsk e link number := by
  simp [Work.needLine, h]

/-! ## Sections -/

/-- Changing a section's record: that record is written, every other section keeps its own; the lines' flags, the reports,
the telegrams sent and what is handed over may change, and nothing else does. -/
theorem Work.section_rest (e : Env) (n : Nat) (f : SectionRec → SectionRec × Option Cause) (w : Work) :
    w.section_ e n f = { w with
      live := { w.live with
        sections := (w.section_ e n f).live.sections, links := (w.section_ e n f).live.links
        reports := (w.section_ e n f).live.reports, sent := (w.section_ e n f).live.sent }
      todo := (w.section_ e n f).todo } := by
  unfold Work.section_ Work.handSection Work.report Work.hand Work.on
  split
  · rfl
  · dsimp only
    split <;> split <;> first
      | rfl
      | (rw [Live.offer_rest]; rfl)
      | (split <;> first | rfl | (rw [Live.offer_rest]; rfl))

theorem Work.sectionAt_section (e : Env) (m n : Nat) (f : SectionRec → SectionRec × Option Cause) (w : Work) :
    (w.section_ e n f).live.sectionAt m =
      (w.live.sectionAt m).map (fun r => if m = n then (f r).1.leaveClear r.state else r) := by
  unfold Work.section_
  cases h : w.live.sectionAt n with
  | none =>
    by_cases hm : m = n
    · subst hm; simp [h]
    · cases w.live.sectionAt m <;> simp [hm]
  | some old =>
    have key : Map.find m (Map.put n ((f old).1.leaveClear old.state) w.live.sections) =
        (w.live.sectionAt m).map (fun r => if m = n then (f r).1.leaveClear r.state else r) := by
      by_cases hm : m = n
      · subst hm; simp [h]
      · rw [Map.find_put_ne hm]
        cases hs : w.live.sectionAt m <;> simp_all [Live.sectionAt]
    rw [← key]
    dsimp only
    unfold Work.handSection Work.report Work.hand Work.on Live.sectionAt
    split <;> split <;> (try split) <;> simp [Live.send]

/-! ## Handing on -/

/-- What a change of a point's record touches: that record, the claims' proving, and what is handed over. -/
theorem Work.handPoint_rest (e : Env) (p : Nat) (old new : PointRec) (w : Work) :
    w.handPoint e p old new = { w with
      live := { w.live with
        elements := Map.put p (.point new) w.live.elements
        claims := (w.handPoint e p old new).live.claims, choices := (w.handPoint e p old new).live.choices }
      todo := (w.handPoint e p old new).todo, places := (w.handPoint e p old new).places
      scan := (w.handPoint e p old new).scan, notices := (w.handPoint e p old new).notices } := by
  unfold Work.handPoint
  dsimp only
  generalize hv : (if old.evaluated != new.evaluated then _ else _ : Work) = v
  have hs (b : Bool) (x : Work) : (x.scanIf b).live = x.live := by cases b <;> rfl
  have hl : v.live = { w.live with
      elements := Map.put p (.point new) w.live.elements, claims := v.live.claims, choices := v.live.choices } := by
    subst hv
    split
    · rw [Work.reprove_rest]
      split <;> split <;> rfl
    · split <;> split <;> rfl
  have key (b : Bool) : v.scanIf b =
      { live := v.live, todo := (v.scanIf b).todo, places := (v.scanIf b).places, scan := (v.scanIf b).scan
        notices := (v.scanIf b).notices } := by cases b <;> rfl
  rw [hs, ← hl]
  exact key _

/-- What a change of a signal's record touches: that record, the claims' proving, and what is handed over. -/
theorem Work.handSignal_rest (e : Env) (g : Nat) (old new : SignalRec) (ended : Option Bool) (w : Work) :
    w.handSignal e g old new ended = { w with
      live := { w.live with
        elements := Map.put g (.signal new) w.live.elements
        claims := (w.handSignal e g old new ended).live.claims
        choices := (w.handSignal e g old new ended).live.choices }
      todo := (w.handSignal e g old new ended).todo, scan := (w.handSignal e g old new ended).scan
      notices := (w.handSignal e g old new ended).notices } := by
  let P (y : Work) : Prop := y.places = w.places ∧ y.live = { w.live with
    elements := Map.put g (.signal new) w.live.elements, claims := y.live.claims, choices := y.live.choices }
  have start : P (w.on (Live.setElement g (.signal new))) := ⟨rfl, rfl⟩
  have branch (b : Bool) (x y : Work) (hx : P x) (hy : P y) : P (if b then x else y) := by
    cases b
    · exact hy
    · exact hx
  have hand (cs : List Change) (y : Work) (h : P y) : P (y.hand cs) := h
  have notice (y : Work) (h : P y) : P (y.noticeDue g) := h
  have scan (b : Bool) (y : Work) (h : P y) : P (y.scanIf b) := by cases b <;> exact h
  have prove_ (y : Work) (h : P y) : P (y.reprove g) := by
    show (y.reprove g).places = _ ∧ (y.reprove g).live = _
    rw [Work.reprove_rest]
    dsimp only
    exact ⟨h.1, by rw [h.2]⟩
  have noticed (b : Bool) := branch b _ _ (notice _ start) start
  have hl : P (w.handSignal e g old new ended) := by
    unfold Work.handSignal
    refine scan _ _ (branch _ _ _ (hand _ _ ?_) ?_) <;>
      refine branch _ _ _ (prove_ _ (hand _ _ ?_)) ?_ <;>
      (cases ended; exacts [noticed _, hand _ _ (noticed _)])
  generalize w.handSignal e g old new ended = v at hl ⊢
  obtain ⟨hp, hl⟩ : v.places = w.places ∧ v.live = _ := hl
  rw [← hl, ← hp]

end Sys2Proof.Machine
end

