-- ==== Sys2Proof/Laws/Steps.lean ====
section
/-! SUPPORT. How a command is taken and how a step ends, said once: the settling, the scans and the notices keep whatever
each hand-over keeps, and a step that hands nothing on ends as it stands. -/

namespace Sys2Proof.Machine

/-! ## A step that hands nothing on -/

theorem Work.settle_idle (e : Env) (k : Nat) (w : Work) (h : w.todo = []) : w.settle e k = w := by
  cases k with
  | zero => rfl
  | succ k => simp [Work.settle, h]

theorem Work.scans_idle (e : Env) (k : Nat) (w : Work) (h : w.scan = false) : w.scans e k = w := by
  cases w
  cases k with
  | zero => rfl
  | succ k =>
    simp only at h
    simp [Work.scans, h]

theorem Work.placeAll_idle (e : Env) (w : Work) (h : w.places = []) : w.placeAll e = w := by
  cases w
  simp only at h
  simp [Work.placeAll, ascending, Map.ids, h]

theorem Work.handedOn_idle (e : Env) (w : Work) (h : w.todo = []) : w.handedOn e = w := Work.settle_idle e _ w h

theorem Work.settled_idle (e : Env) (w : Work) (h : w.todo = []) (hp : w.places = []) : w.settled e = w := by
  simp [Work.settled, Work.handedOn_idle e w h, Work.placeAll_idle e w hp]

theorem Work.event_idle (e : Env) (w : Work) (h : w.todo = []) (hp : w.places = []) (hs : w.scan = false) :
    w.event e = w := by
  simp [Work.event, Work.settled_idle e w h hp, Work.scans_idle e _ w hs]

theorem Live.sendNotices_nil (t : Tables) (l : Live) : l.sendNotices t [] = l := by
  simp [Live.sendNotices]

/-- A step that hands nothing on, has no point to place, calls for no scan and owes no notice ends as it stands. -/
theorem Work.finish_idle (e : Env) (w : Work) (h : w.todo = []) (hp : w.places = []) (hs : w.scan = false)
    (hn : w.notices = []) : w.finish e = w.live := by
  simp [Work.finish, Work.event_idle e w h hp hs, hn, Live.sendNotices_nil]

/-- The same, of the state. -/
theorem State.ending_idle (w : Work) (s : State) (h : w.todo = []) (hp : w.places = []) (hs : w.scan = false)
    (hn : w.notices = []) : s.ending w = { s with live := w.live } := by
  simp [State.ending, Work.finish_idle _ w h hp hs hn]

@[simp] theorem State.ending_work (s : State) : s.ending s.work = s := by
  rw [State.ending_idle _ _ rfl rfl rfl rfl, State.work_live]

theorem State.doing_eq (f : Env → Work → Work) (s : State) : s.doing f = s.ending (f s.env s.work) := rfl

/-- With no request waiting a scan finds nothing. -/
theorem Work.scans_empty (e : Env) (k : Nat) (w : Work) (h : w.live.waiting = []) :
    (w.scans e k).live = w.live := by
  cases k with
  | zero => rfl
  | succ k => simp [Work.scans, h]

/-- A step whose one hand-over is a scan of an empty list ends as it stands. -/
theorem State.ending_scan (s : State) (h : s.live.waiting = []) : s.ending s.work.scanDue = s := by
  have hs : (s.work.scanDue.settled s.env) = s.work.scanDue := Work.settled_idle _ _ rfl rfl
  have he : (s.work.scanDue.event s.env).live = s.live := by
    unfold Work.event
    dsimp only
    rw [hs]
    exact Work.scans_empty _ _ _ h
  have hn : (s.work.scanDue.event s.env).notices = [] := by
    unfold Work.event
    dsimp only
    rw [hs]
    simp [Work.scans, h]
  simp [State.ending, Work.finish, he, hn, Live.sendNotices_nil]

/-! ## What every hand-over keeps, a step's end keeps -/

section Keeps
variable {P : Live → Prop} {e : Env}

/-- What taking any change keeps, settling keeps. -/
theorem Work.settle_keeps (take : ∀ c w, P w.live → P (Work.take e c w).live) (k : Nat) (w : Work) (h : P w.live) :
    P (w.settle e k).live := by
  induction k generalizing w with
  | zero => exact h
  | succ k ih =>
    unfold Work.settle
    split
    · exact h
    · exact ih _ (take _ _ h)

/-- What taking any change keeps, taking what has been handed over keeps. -/
theorem Work.handedOn_keeps (take : ∀ c w, P w.live → P (Work.take e c w).live) (w : Work) (h : P w.live) :
    P (w.handedOn e).live :=
  Work.settle_keeps take _ w h

/-- What placing any point keeps, placing the points that are due keeps. -/
theorem Work.placeAll_keeps (place : ∀ p w, P w.live → P (Work.placePoint e p w).live) (w : Work) (h : P w.live) :
    P (w.placeAll e).live := by
  have go : ∀ (ps : List Nat) (v : Work), P v.live → P (ps.foldl (fun w p => w.placePoint e p) v).live := by
    intro ps
    induction ps with
    | nil => exact fun v hv => hv
    | cons p ps ih => exact fun v hv => ih _ (place p v hv)
  exact go _ _ h

/-- What taking any change and placing any point keep, settling a step's changes keeps. -/
theorem Work.settled_keeps (take : ∀ c w, P w.live → P (Work.take e c w).live)
    (place : ∀ p w, P w.live → P (Work.placePoint e p w).live) (w : Work) (h : P w.live) : P (w.settled e).live :=
  Work.placeAll_keeps place _ (Work.handedOn_keeps take w h)

/-- What examining any request keeps, one scan keeps. -/
theorem Work.scanOnce_keeps (examine : ∀ q w, P w.live → P (Work.examine e q w).live) (w : Work) (h : P w.live) :
    P (w.scanOnce e).live := by
  have go : ∀ (qs : List Request) (v : Work), P v.live →
      P (qs.foldl (fun w q => if w.live.reports.hold then w else w.examine e q) v).live := by
    intro qs
    induction qs with
    | nil => exact fun v hv => hv
    | cons q qs ih =>
      intro v hv
      rw [List.foldl_cons]
      split
      · exact ih v hv
      · exact ih _ (examine q v hv)
  exact go _ _ h

theorem Work.scans_keeps (examine : ∀ q w, P w.live → P (Work.examine e q w).live) (k : Nat) (w : Work)
    (h : P w.live) : P (w.scans e k).live := by
  induction k generalizing w with
  | zero => exact h
  | succ k ih =>
    unfold Work.scans
    split
    · exact ih _ (Work.scanOnce_keeps examine w h)
    · exact h

/-- What taking any change, placing any point and examining any request keep, the whole of an event keeps. -/
theorem Work.event_keeps (take : ∀ c w, P w.live → P (Work.take e c w).live)
    (place : ∀ p w, P w.live → P (Work.placePoint e p w).live)
    (examine : ∀ q w, P w.live → P (Work.examine e q w).live) (w : Work) (h : P w.live) : P (w.event e).live :=
  Work.scans_keeps examine _ _ (Work.settled_keeps take place w h)

/-- What sending a telegram keeps, the notices of a step keep. -/
theorem Live.sendNotices_keeps (send : ∀ x l, P l → P (Live.send x l)) (due : List Nat) (l : Live) (h : P l) :
    P (l.sendNotices e.tables due) := by
  unfold Live.sendNotices
  split
  · induction due generalizing l with
    | nil => exact h
    | cons n ns ih =>
      rw [List.foldl_cons]
      apply ih
      split
      · exact send _ _ h
      · exact h
  · exact h

/-- What changes, points placed, requests and telegrams keep, the end of a step keeps. -/
theorem Work.finish_keeps (take : ∀ c w, P w.live → P (Work.take e c w).live)
    (place : ∀ p w, P w.live → P (Work.placePoint e p w).live)
    (examine : ∀ q w, P w.live → P (Work.examine e q w).live) (send : ∀ x l, P l → P (Live.send x l)) (w : Work)
    (h : P w.live) : P (w.finish e) :=
  Live.sendNotices_keeps send _ _ (Work.event_keeps take place examine w h)

/-- What each application keeps, applying for each of several things in a free order keeps. -/
theorem Work.forEach_keeps {α : Type} (f : α → Work → Work) (step : ∀ x w, P w.live → P (f x w).live)
    (choices : ∀ l cs, P l → P { l with choices := cs }) (xs : List α) (w : Work) (h : P w.live) :
    P (w.forEach xs f).live := by
  have go : ∀ (ys : List α) (v : Work), P v.live → P (ys.foldl (fun v x => f x v) v).live := by
    intro ys
    induction ys with
    | nil => exact fun v hv => hv
    | cons y ys ih => exact fun v hv => ih _ (step y v hv)
  unfold Work.forEach Work.arrange
  dsimp only
  split
  · exact go _ _ h
  · exact go _ _ (choices _ _ h)

end Keeps

/-! ## Taking a command -/

/-- With power and past START a control telegram is decided by its own rule. -/
theorem control_running (tag kind : Nat) (detail : Option Nat) (rule : State → Taken) (s : State) (h : s.Running) :
    control tag kind detail rule s = .next ((rule s).outcome tag kind) := by
  simp [control, h.1, h.2]

/-- In START a control telegram is answered MODE. -/
theorem control_start (tag kind : Nat) (detail : Option Nat) (rule : State → Taken) (s : State) (hp : s.power = true)
    (h : s.mode = .start) : control tag kind detail rule s =
      .next (s.reply tag kind { code := .mode, detail := detail, data := .none }) := by
  simp [control, hp, h]

/-- Without power a control telegram does nothing. -/
theorem control_off (tag kind : Nat) (detail : Option Nat) (rule : State → Taken) (s : State) (h : s.power = false) :
    control tag kind detail rule s = .next s := by
  simp [control, h]

theorem event_on (rule : State → State) (s : State) (h : s.power = true) : event rule s = .next (rule s) := by
  simp [event, h]

theorem event_off (rule : State → State) (s : State) (h : s.power = false) : event rule s = .next s := by
  simp [event, h]

@[simp] theorem State.expire_none (rule : State → State) (s : State) : s.expire none rule = s := rfl

/-- An expiry acts once the clock has reached it. -/
theorem State.expire_reached {moment : Nat} (rule : State → State) {s : State} (h : moment ≤ s.clock) :
    s.expire (some moment) rule = rule s := by
  simp [State.expire, h]

/-- A timer that is absent, or whose moment has not come, gives an expiry nothing to act on. -/
theorem State.expire_early {timer : Option Nat} (rule : State → State) {s : State}
    (h : ∀ moment, timer = some moment → s.clock < moment) : s.expire timer rule = s := by
  cases timer with
  | none => rfl
  | some moment =>
    have := h moment rfl
    simp [State.expire, this]

/-- An answer with its code alone, as it is sent. -/
theorem Taken.outcome_plain (tag kind : Nat) (code : Code) (s : State) :
    Taken.outcome tag kind { state := s, answer := some (.plain code) } = s.sending (codeAnswer tag kind code) := rfl

/-- An answer with a code and a detail, as it is sent. -/
theorem Taken.outcome_with (tag kind : Nat) (code : Code) (detail : Nat) (s : State) :
    Taken.outcome tag kind { state := s, answer := some (.with code detail) } =
      s.sending (detailAnswer tag kind code detail) := rfl

/-- A step takes the front command. -/
theorem step_cons (i : Instr) (rest : List Instr) (s : State) (h : s.pending = i :: rest) :
    step s = exec i { s with pending := rest } := by
  simp [step, h]

theorem step_nil (s : State) (h : s.pending = []) : step s = .next s.tick := by
  simp [step, h]

end Sys2Proof.Machine
end

