-- ==== Sys2Proof/Laws/PerInstr.lean ====
section
/-! SUPPORT. The family Parts: a well-formed command that is a telegram has a body of at most 240 octets, and its kind and tag
fit an octet (R181). One lemma for each constructor. -/

namespace Sys2Proof.Laws.Parts

open Sys2Proof.Machine

/-- A well-formed telegram fits its frame (R181). -/
def Statement (i : Instr) : Prop :=
  i.wf = true → ∀ port kind tag body, telegramParts i = some (port, kind, tag, body) →
    body.length ≤ 240 ∧ kind < 256 ∧ tag < 256

theorem holds {i : Instr} {p : Port} {k t : Nat} {b : List Octet} (e : telegramParts i = some (p, k, t, b))
    (h : i.wf = true → b.length ≤ 240 ∧ k < 256 ∧ t < 256) : Statement i := by
  intro hw port kind tag body hp
  rw [e] at hp
  cases hp
  exact h hw

theorem holds_none {i : Instr} (e : telegramParts i = none) : Statement i := by
  intro _ port kind tag body hp
  rw [e] at hp
  cases hp

theorem length_flatMap_le {α : Type} (f : α → List Octet) (n : Nat) (h : ∀ a, (f a).length = n) (xs : List α) :
    (xs.flatMap f).length = n * xs.length := by
  induction xs with
  | nil => rfl
  | cons x xs ih => simp [ih, h, Nat.mul_succ, Nat.add_comm]

theorem length_counted {α : Type} (f : α → List Octet) (n : Nat) (h : ∀ a, (f a).length = n) (xs : List α) :
    (counted f xs).length = n * xs.length + 1 := by
  simp [counted, length_flatMap_le f n h xs]

@[simp] theorem fits1_iff (n : Nat) : fits1 n = true ↔ n < 256 := by simp [fits1]

@[simp] theorem fits2_iff (n : Nat) : fits2 n = true ↔ n < 65536 := by simp [fits2]

@[simp] theorem length_one (n : Nat) : (one n).length = 1 := rfl

@[simp] theorem length_two (n : Nat) : (two n).length = 2 := rfl

@[simp] theorem length_four (n : Nat) : (four n).length = 4 := rfl

theorem length_content (c : StatusContent) : (contentOctets c).length ≤ 3 := by
  cases c <;> simp [contentOctets, one]

theorem routeCall (tag route fleet patience : Nat) : Statement (.routeCall tag route fleet patience) := by
  refine holds (p := .control) (k := 1) (t := tag) (b := two route ++ one fleet ++ one patience) rfl ?_
  intro h
  have hw : (fits1 tag && fits2 route && fits1 fleet && fits1 patience) = true := h
  simp at hw
  simp
  omega

theorem routeCancel (tag route : Nat) : Statement (.routeCancel tag route) := by
  refine holds (p := .control) (k := 2) (t := tag) (b := two route) rfl ?_
  intro h
  have hw : (fits1 tag && fits2 route) = true := h
  simp at hw
  simp
  omega

theorem fleetStop (tag route : Nat) : Statement (.fleetStop tag route) := by
  refine holds (p := .control) (k := 3) (t := tag) (b := two route) rfl ?_
  intro h
  have hw : (fits1 tag && fits2 route) = true := h
  simp at hw
  simp
  omega

theorem releaseArm (tag slot : Nat) : Statement (.releaseArm tag slot) := by
  refine holds (p := .control) (k := 4) (t := tag) (b := one slot) rfl ?_
  intro h
  have hw : (fits1 tag && fits1 slot) = true := h
  simp at hw
  simp
  omega

theorem releaseConfirm (tag slot : Nat) : Statement (.releaseConfirm tag slot) := by
  refine holds (p := .control) (k := 5) (t := tag) (b := one slot) rfl ?_
  intro h
  have hw : (fits1 tag && fits1 slot) = true := h
  simp at hw
  simp
  omega

theorem stageHold (tag route stage action : Nat) : Statement (.stageHold tag route stage action) := by
  refine holds (p := .control) (k := 6) (t := tag) (b := two route ++ one stage ++ one action) rfl ?_
  intro h
  have hw : (fits1 tag && fits2 route && fits1 stage && fits1 action) = true := h
  simp at hw
  simp
  omega

theorem stageStep (tag route : Nat) : Statement (.stageStep tag route) := by
  refine holds (p := .control) (k := 7) (t := tag) (b := two route) rfl ?_
  intro h
  have hw : (fits1 tag && fits2 route) = true := h
  simp at hw
  simp
  omega

theorem elementOrder (tag element order : Nat) : Statement (.elementOrder tag element order) := by
  refine holds (p := .control) (k := 8) (t := tag) (b := two element ++ one order) rfl ?_
  intro h
  have hw : (fits1 tag && fits2 element && fits1 order) = true := h
  simp at hw
  simp
  omega

theorem sectionReset (tag number : Nat) : Statement (.sectionReset tag number) := by
  refine holds (p := .control) (k := 9) (t := tag) (b := one number) rfl ?_
  intro h
  have hw : (fits1 tag && fits1 number) = true := h
  simp at hw
  simp
  omega

theorem possessionTake (tag possession : Nat) (sections : List Nat) : Statement (.possessionTake tag possession sections) := by
  refine holds (p := .control) (k := 10) (t := tag) (b := one possession ++ counted one sections) rfl ?_
  intro h
  have hw : (fits1 tag && fits1 possession && sections.length ≤ 238 && sections.all fits1) = true := h
  simp at hw
  rw [List.length_append, length_one, length_counted one 1 (fun _ => rfl)]
  omega

theorem possessionGive (tag possession : Nat) : Statement (.possessionGive tag possession) := by
  refine holds (p := .control) (k := 11) (t := tag) (b := one possession) rfl ?_
  intro h
  have hw : (fits1 tag && fits1 possession) = true := h
  simp at hw
  simp
  omega

theorem modeSet (tag mode : Nat) : Statement (.modeSet tag mode) := by
  refine holds (p := .control) (k := 12) (t := tag) (b := one mode) rfl ?_
  intro h
  have hw : (fits1 tag && fits1 mode) = true := h
  simp at hw
  simp
  omega

theorem restart (tag : Nat) : Statement (.restart tag) := by
  refine holds (p := .control) (k := 13) (t := tag) (b := []) rfl ?_
  intro h
  have hw : (fits1 tag) = true := h
  simp at hw
  simp
  omega

theorem tableFreeze (tag : Nat) : Statement (.tableFreeze tag) := by
  refine holds (p := .control) (k := 14) (t := tag) (b := []) rfl ?_
  intro h
  have hw : (fits1 tag) = true := h
  simp at hw
  simp
  omega

theorem statusRead (tag : Nat) : Statement (.statusRead tag) := by
  refine holds (p := .control) (k := 15) (t := tag) (b := []) rfl ?_
  intro h
  have hw : (fits1 tag) = true := h
  simp at hw
  simp
  omega

theorem statusClear (tag flags : Nat) : Statement (.statusClear tag flags) := by
  refine holds (p := .control) (k := 22) (t := tag) (b := one flags) rfl ?_
  intro h
  have hw : (fits1 tag && fits1 flags) = true := h
  simp at hw
  simp
  omega

theorem tableFresh (tag table : Nat) : Statement (.tableFresh tag table) := by
  refine holds (p := .control) (k := 16) (t := tag) (b := one table) rfl ?_
  intro h
  have hw : (fits1 tag && fits1 table) = true := h
  simp at hw
  simp
  omega

theorem tableAmend (tag table : Nat) : Statement (.tableAmend tag table) := by
  refine holds (p := .control) (k := 17) (t := tag) (b := one table) rfl ?_
  intro h
  have hw : (fits1 tag && fits1 table) = true := h
  simp at hw
  simp
  omega

theorem tableEntry (tag table id : Nat) (content : List Octet) : Statement (.tableEntry tag table id content) := by
  refine holds (p := .control) (k := 18) (t := tag) (b := one table ++ two id ++ content) rfl ?_
  intro h
  have hw : (fits1 tag && fits1 table && fits2 id && content.length ≤ 237) = true := h
  simp at hw
  simp
  omega

theorem tableCommit (tag : Nat) (word : Word16) : Statement (.tableCommit tag word) := by
  refine holds (p := .control) (k := 19) (t := tag) (b := two word.toNat) rfl ?_
  intro h
  have hw : (fits1 tag) = true := h
  simp at hw
  simp
  omega

theorem areaIdentity (tag : Nat) (identity : Identity) : Statement (.areaIdentity tag identity) := by
  refine holds (p := .control) (k := 20) (t := tag) (b := four identity.toNat) rfl ?_
  intro h
  have hw : (fits1 tag) = true := h
  simp at hw
  simp
  omega

theorem reportFetch (tag count : Nat) : Statement (.reportFetch tag count) := by
  refine holds (p := .control) (k := 21) (t := tag) (b := one count) rfl ?_
  intro h
  have hw : (fits1 tag && fits1 count) = true := h
  simp at hw
  simp
  omega

theorem alarmAck (tag : Nat) (sequence : Word16) : Statement (.alarmAck tag sequence) := by
  refine holds (p := .control) (k := 23) (t := tag) (b := two sequence.toNat) rfl ?_
  intro h
  have hw : (fits1 tag) = true := h
  simp at hw
  simp
  omega

theorem query (tag kind number id : Nat) : Statement (.query tag kind number id) := by
  refine holds (p := .control) (k := 24) (t := tag) (b := one kind ++ two number ++ (if kind = 8 then two id else [])) rfl ?_
  intro h
  have hw : (fits1 tag && fits1 kind && fits2 number && fits2 id && (kind == 8 || id == 0)) = true := h
  simp at hw
  cases hk : kind == 8 <;> simp_all

theorem controlBadForm (tag kind : Nat) : Statement (.controlBadForm tag kind) := holds_none rfl

theorem checkFailedTelegram (port : Port) : Statement (.checkFailedTelegram port) := holds_none rfl

theorem status (address : Nat) (content : StatusContent) : Statement (.status address content) := by
  refine holds (p := .field) (k := 41) (t := 0) (b := two address ++ contentOctets content) rfl ?_
  intro h
  have hw : (fits2 address && content.wf) = true := h
  simp at hw
  have := length_content content
  simp
  omega

theorem fieldOrderSent : Statement .fieldOrderSent := holds_none rfl

theorem presence (port : Nat) (identity : Identity) (version : Word16) (lines : List PresenceLine) : Statement (.presence port identity version lines) := by
  refine holds (p := .boundary port) (k := 48) (t := 0) (b := four identity.toNat ++ two version.toNat ++ counted presenceLineOctets lines) rfl ?_
  intro h
  have hw : (1 ≤ port && port ≤ 3 && lines.length ≤ 58 && lines.all PresenceLine.wf) = true := h
  simp at hw
  simp only [List.length_append, length_four, length_two, length_counted presenceLineOctets 4 (fun _ => rfl)]
  omega

theorem counts (port : Nat) (entries : List CountsEntry) : Statement (.counts port entries) := by
  refine holds (p := .boundary port) (k := 49) (t := 0) (b := counted countsEntryOctets entries) rfl ?_
  intro h
  have hw : (1 ≤ port && port ≤ 3 && entries.length ≤ 79 && entries.all (fun x => fits1 x.number)) = true := h
  simp at hw
  rw [length_counted countsEntryOctets 3 (fun _ => rfl)]
  omega

theorem directionAsk (port line : Nat) (number : Octet) : Statement (.directionAsk port line number) := by
  refine holds (p := .boundary port) (k := 50) (t := 0) (b := one line ++ [number]) rfl ?_
  intro h
  have hw : (1 ≤ port && port ≤ 3 && fits1 line) = true := h
  simp at hw
  simp

theorem directionReply (port line : Nat) (number : Octet) (verdict : Nat) : Statement (.directionReply port line number verdict) := by
  refine holds (p := .boundary port) (k := 51) (t := 0) (b := one line ++ [number] ++ one verdict) rfl ?_
  intro h
  have hw : (1 ≤ port && port ≤ 3 && fits1 line && fits1 verdict) = true := h
  simp at hw
  simp

theorem presenceInterval : Statement .presenceInterval := holds_none rfl

theorem freshnessExpiry (element : Nat) : Statement (.freshnessExpiry element) := holds_none rfl

theorem movementExpiry (element : Nat) : Statement (.movementExpiry element) := holds_none rfl

theorem provingExpiry (element : Nat) : Statement (.provingExpiry element) := holds_none rfl

theorem patienceExpiry (route : Nat) : Statement (.patienceExpiry route) := holds_none rfl

theorem overlapExpiry (slot : Nat) : Statement (.overlapExpiry slot) := holds_none rfl

theorem timedReleaseExpiry (slot : Nat) : Statement (.timedReleaseExpiry slot) := holds_none rfl

theorem releaseArmExpiry : Statement .releaseArmExpiry := holds_none rfl

theorem lastHeardExpiry (link : Nat) : Statement (.lastHeardExpiry link) := holds_none rfl

theorem askExpiry (link line : Nat) : Statement (.askExpiry link line) := holds_none rfl

theorem powerOn : Statement .powerOn := holds_none rfl

theorem loadEnd : Statement .loadEnd := holds_none rfl

theorem powerLoss : Statement .powerLoss := holds_none rfl

theorem validationDone : Statement .validationDone := holds_none rfl

theorem comparisonDone : Statement .comparisonDone := holds_none rfl

theorem storeWriteDone : Statement .storeWriteDone := holds_none rfl

theorem restoringWriteDone : Statement .restoringWriteDone := holds_none rfl

theorem possessionWriteDone : Statement .possessionWriteDone := holds_none rfl

theorem identityWriteDone : Statement .identityWriteDone := holds_none rfl

end Sys2Proof.Laws.Parts
end

