-- ==== Sys2Proof/Tests/Slice0.lean ====
section
/-! SUPPORT. Tests on a small site: the ill-formed terms that WellFormed refuses, the worked values of the manual, and for each
statement of Obligations.lean a state and operands that meet its hypotheses, with what the command then does there. -/

namespace Sys2Proof.Tests

open Sys2Proof Sys2Proof.Machine

set_option Elab.async false
set_option maxRecDepth 100000
set_option synthInstance.maxSize 1000

/-! ## WellFormed refuses each ill-formed term -/

theorem test_wf_refuses_tags : ([
    .routeCall 256 1 0 0, .routeCancel 256 1, .fleetStop 256 1, .releaseArm 256 1, .releaseConfirm 256 1,
    .stageHold 256 1 1 1, .stageStep 256 1, .elementOrder 256 1 1, .sectionReset 256 1, .possessionTake 256 1 [1],
    .possessionGive 256 1, .modeSet 256 1, .restart 256, .tableFreeze 256, .statusRead 256, .statusClear 256 1,
    .tableFresh 256 1, .tableAmend 256 1, .tableEntry 256 1 1 [], .tableCommit 256 0, .areaIdentity 256 1,
    .reportFetch 256 1, .alarmAck 256 0, .query 256 1 1 0, .controlBadForm 256 1 ] : List Instr).all
      (fun i => !i.wf) = true := by decide +kernel

theorem test_wf_refuses_operating_operands : ([
    .routeCall 1 65536 0 0, .routeCall 1 1 256 0, .routeCall 1 1 0 256, .routeCancel 1 65536, .fleetStop 1 65536,
    .releaseArm 1 256, .releaseConfirm 1 256, .stageHold 1 65536 1 1, .stageHold 1 1 256 1, .stageHold 1 1 1 256,
    .stageStep 1 65536, .elementOrder 1 65536 1, .elementOrder 1 1 256, .sectionReset 1 256,
    .possessionTake 1 256 [1], .possessionTake 1 1 [256], .possessionTake 1 1 (List.replicate 239 1),
    .possessionGive 1 256 ] : List Instr).all (fun i => !i.wf) = true := by decide +kernel

theorem test_wf_refuses_management_operands : ([
    .modeSet 1 256, .statusClear 1 256, .tableFresh 1 256, .tableAmend 1 256, .tableEntry 1 256 1 [],
    .tableEntry 1 1 65536 [], .tableEntry 1 1 1 (List.replicate 238 0), .reportFetch 1 256, .query 1 256 1 0,
    .query 1 1 65536 0, .query 1 8 1 65536, .query 1 1 1 1, .controlBadForm 1 256 ] : List Instr).all
      (fun i => !i.wf) = true := by decide +kernel

theorem test_wf_refuses_port_operands : ([
    .checkFailedTelegram (.boundary 0), .checkFailedTelegram (.boundary 4), .status 65536 (.position 0),
    .status 1 (.position 256), .status 1 (.aspect 256), .status 1 (.other 1), .status 1 (.other 256),
    .presence 0 1 0 [], .presence 4 1 0 [], .presence 1 1 0 (List.replicate 59 ⟨1, 1, 0, 0⟩),
    .presence 1 1 0 [⟨256, 1, 0, 0⟩], .presence 1 1 0 [⟨1, 256, 0, 0⟩], .presence 1 1 0 [⟨1, 1, 256, 0⟩],
    .presence 1 1 0 [⟨1, 1, 0, 256⟩], .counts 0 [], .counts 4 [], .counts 1 (List.replicate 80 ⟨1, 0, 0⟩),
    .counts 1 [⟨256, 0, 0⟩], .directionAsk 0 1 0, .directionAsk 4 1 0, .directionAsk 1 256 0, .directionReply 0 1 0 1,
    .directionReply 4 1 0 1, .directionReply 1 256 0 1, .directionReply 1 1 0 256 ] : List Instr).all
      (fun i => !i.wf) = true := by decide +kernel

theorem test_wf_refuses_timer_operands : ([
    .freshnessExpiry 512, .movementExpiry 512, .provingExpiry 512, .patienceExpiry 384, .overlapExpiry 32,
    .timedReleaseExpiry 32, .lastHeardExpiry 0, .lastHeardExpiry 4, .askExpiry 0 1, .askExpiry 4 1,
    .askExpiry 1 3 ] : List Instr).all (fun i => !i.wf) = true := by decide +kernel

theorem test_wf_accepts : ([
    .routeCall 255 383 31 120, .possessionTake 0 7 [0, 255], .tableEntry 9 3 383 [1, 2], .query 1 8 5 65535,
    .status 4095 (.counts 255 0), .presence 3 0 0 [⟨2, 3, 3, 4⟩], .checkFailedTelegram .field, .restoringWriteDone ]
    : List Instr).all Instr.wf = true := by decide +kernel

/-! ## Values that the manual works out -/

/-- The table of R21. -/
theorem test_deltas_of_r21 : [delta 126 118, delta 6 250, delta 194 250, delta 40 40] = [8, 12, 200, 0] := by decide +kernel

/-- R170: an image with no present entry gives 65535. -/
theorem test_check_word_of_no_entry : Tables.empty.checkWord = 65535 := by decide +kernel

/-- The check of R170 and R181 is the one known by its value 29B1 hexadecimal for the nine digits 1 to 9 in ASCII. -/
theorem test_check_of_the_nine_digits : check [49, 50, 51, 52, 53, 54, 55, 56, 57] = 0x29B1 := by decide +kernel

/-- R24: a section at balance 2 that takes −3 and then +5 is DISTURBED at balance 5, and in the other order OCCUPIED at 4. -/
theorem test_two_heads_in_either_order :
    let r : SectionRec := { SectionRec.renewed none with state := .occupied, balance := 2, causes := [] }
    (((r.applyNet (-3)).1.applyNet 5).1.state, ((r.applyNet (-3)).1.applyNet 5).1.balance) = (.disturbed, 5) ∧
    (((r.applyNet 5).1.applyNet (-3)).1.state, ((r.applyNet 5).1.applyNet (-3)).1.balance) = (.occupied, 4) := by decide +kernel

/-- R48: with P equal to 3, a point evaluated NORMAL that reports NONE, REVERSE, NONE is evaluated NONE after the third. -/
theorem test_persistence_of_three :
    let r : PointRec := { PointRec.renewed with supervised := true, evaluated := some .normal }
    ((r.underPersistence 3 none).underPersistence 3 (some .reverse)).evaluated = some .normal ∧
    (((r.underPersistence 3 none).underPersistence 3 (some .reverse)).underPersistence 3 none).evaluated = none := by
  decide +kernel

/-! ## A small site -/

/-- Points 1 and 7, signals 2 and 3, heads 4, 5 and 8, and the remote head 6 of link 1. -/
def siteElements : Map ElementEntry :=
  [ (1, { location := .field 101, supervision := 20, body := .point 2 5 3 }),
    (2, { location := .field 102, supervision := 20, body := .signal 4 }),
    (3, { location := .field 103, supervision := 20, body := .signal 4 }),
    (4, { location := .field 104, supervision := 20, body := .head 8 none }),
    (5, { location := .field 105, supervision := 20, body := .head 8 (some (1, 7)) }),
    (6, { location := .remote 1 9, supervision := 20, body := .head 8 none }),
    (7, { location := .field 107, supervision := 20, body := .point 4 5 1 }),
    (8, { location := .field 108, supervision := 20, body := .head 8 none }) ]

/-- Four sections in a row, 4 in rear of 1; section 3 is the shared section of line 1 of link 1. -/
def siteSections : Map SectionEntry :=
  [ (1, { heads := [{ head := 8, direction := 1 }, { head := 4, direction := 2 }] }),
    (2, { heads := [{ head := 4, direction := 1 }, { head := 5, direction := 2 }] }),
    (3, { heads := [{ head := 5, direction := 1 }, { head := 6, direction := 2 }] }),
    (4, { heads := [{ head := 8, direction := 2 }] }) ]

/-- From signal 2 to signal 3, fleeting. -/
def route0 : RouteEntry :=
  { entrySignal := 2, exit := .signal 3, approachTime := 30, overlapTime := 20, fleeting := 1, path := [2],
    points := [{ element := 1, position := 1 }], overlap := [3], approach := [1],
    flank := [{ index := 1, candidates := [{ element := 7, state := 1 }] }], opposing := [] }

/-- From signal 3 onto the line. -/
def route1 : RouteEntry :=
  { entrySignal := 3, exit := .line 1 1, approachTime := 40, overlapTime := 0, fleeting := 0, path := [3], points := [],
    overlap := [], approach := [2], flank := [], opposing := [] }

def site : Tables :=
  { elements := siteElements, sections := siteSections, routes := [(0, route0), (1, route1)],
    boundary := [(1, { identity := 77, supervision := 3, replyTimeout := 5,
                       lines := [{ number := 1, senior := 2, sections := [3], shared := some 3 }] })],
    options := [(0, { stopOnAlarm := 1, watermark := 2, stateNotices := 1 })] }

theorem test_site_is_valid : site.firstInvalid = none := by decide +kernel

def siteImage : Image := { tables := site, version := 6, word := some site.checkWord, possessions := [] }

/-- The part in IN_SERVICE with every element supervised, every section CLEAR, the link UP and the line ours. -/
def ready : State :=
  let s := State.createsRecords siteImage { State.reset with nv := { image := some siteImage, identity := 5 } }
  let element : ElementRec → ElementRec
    | .point r => .point { r with
        supervised := true, freshness := some 20, evaluated := some .normal, lastReported := some (some .normal) }
    | .signal r => .signal { r with supervised := true, freshness := some 20, proven := some .danger }
    | .head r => .head { r with supervised := true, freshness := some 20, references := some (250, 10) }
  let track (r : SectionRec) : SectionRec := { r with state := .clear, causes := [] }
  let line (y : LineRec) : LineRec := { y with
    owner := .us, lineClear := true
    last := some { owner := .neighbour, askOutstanding := false, lineClear := true, shared := some .clear } }
  let link (k : LinkRec) : LinkRec := { k with state := .up, lastHeard := some 30, lines := Map.each line k.lines }
  { s with
    mode := .inService
    live := { s.live with
      elements := Map.each element s.live.elements
      sections := Map.each track s.live.sections
      links := Map.each link s.live.links } }

/-- The next state of a command. -/
def after (i : Instr) (s : State) : State :=
  match exec i s with
  | .next t => t
  | _ => s

/-- The telegrams that a command sends. -/
def sends (i : Instr) (s : State) : List Sent := (after i s).live.sent.drop s.live.sent.length

/-- The state with one section's record changed. -/
def withSection (n : Nat) (f : SectionRec → SectionRec) (s : State) : State :=
  { s with live := { s.live with sections := Map.update n f s.live.sections } }

/-- The state with one element's record changed. -/
def withElement (n : Nat) (f : ElementRec → ElementRec) (s : State) : State :=
  { s with live := { s.live with elements := Map.update n f s.live.elements } }

/-- The state with a slot in use for a route. -/
def withSlot (n : Nat) (x : Slot) (s : State) : State :=
  { s with live := { s.live with slots := Map.put n x s.live.slots } }

/-- The state with the link's record changed. -/
def withLink (f : LinkRec → LinkRec) (s : State) : State :=
  { s with live := { s.live with links := Map.update 1 f s.live.links } }

/-- The state with line 1's record changed. -/
def withLine (f : LineRec → LineRec) (s : State) : State := withLink (fun k => { k with lines := Map.each f k.lines }) s

/-- The state at a later moment. -/
def atClock (clock : Nat) (s : State) : State := { s with clock := clock }

/-- All the laws that every step keeps. -/
def lawful (s : State) : Bool :=
  s.sectionsLawful && s.withinSizes && s.trafficLawful && s.live.holdersInUse && s.lineFlagsLawful && s.claimsLawful &&
  s.possessionsLawful && s.ordersLawful

theorem test_ready_keeps_the_laws : lawful ready = true := by decide +kernel

/-! ## Witnesses: the step, and route telegrams -/

/-- ready with the alarm hold set. -/
def held : State := ready.onReports (fun q => { q with hold := true, latestA := some 4 })

/-- Route 0 called and taken into slot 0: its point and its flank stand, so its signal clears. -/
def clearing : State := after (.routeCall 9 0 2 60) ready

/-- Route 0 CLEAR: its signal is proven CAUTION. -/
def cleared : State := after (.status 102 (.aspect 2)) clearing

/-- A train of two axles has passed head 4 into section 2. -/
def entered : State :=
  after (.status 104 (.counts 252 10)) (withSection 1 (fun r => { r with state := .occupied, balance := 2 }) cleared)

/-- Slot 0 of route 0 in a state. -/
def slotIn (state : SlotState) : Slot :=
  { route := 0, state := state, origin := .call, fleet := 0, pointer := 1, marks := [false], overlap := some .locked,
    timer := none, held := none, lineWait := none, aspect := none }

/-- A request for route 1 waits. -/
def waiting : State :=
  { ready with live := { ready.live with waiting := [{ route := 1, fleet := 0, expiry := 600, tag := 5 }] } }

theorem test_witness_EmptyQueueLetsTimePass :
    ready.pending = [] ∧ ready.power = true ∧ ready.tick.clock = 1 ∧ ready.tick.pending = [] ∧
    State.due (atClock 10 ready) = [.presenceInterval] ∧ ready.timerOf .presenceInterval = some 10 ∧
    ready.timerOf (.freshnessExpiry 1) = some 20 ∧ (Map.ids ready.live.elements).Nodup ∧
    (Map.ids ready.live.links).Nodup := by decide +kernel

theorem test_witness_EveryCommandCompletes :
    ({ State.reset with power := false }).power = false ∧
    after .loadEnd { State.reset with power := false } = { State.reset with power := false } := by decide +kernel

theorem test_witness_EveryCommandCompletes_start :
    State.reset.power = true ∧ State.reset.mode = .start ∧ State.reset.live.links = [] ∧
    controlParts (.elementOrder 3 1 1) = some (8, 3, [0, 1, 1]) ∧
    sends (.elementOrder 3 1 1) State.reset = [.answer 3 8 .mode (some 0) .none] ∧
    sends (.statusRead 3) State.reset = [.answer 3 15 .mode none .none] ∧
    after (.counts 1 []) State.reset = State.reset ∧ after (.status 4095 (.position 1)) State.reset = State.reset := by
  decide +kernel

theorem test_witness_CallChecksInOrder :
    sends (.routeCall 9 0 0 60) { ready with mode := .suspended } = [codeAnswer 9 1 .mode] ∧
    sends (.routeCall 9 0 0 60) held = [codeAnswer 9 1 .held] ∧
    sends (.routeCall 9 383 0 60) ready = [codeAnswer 9 1 .unknown] ∧
    sends (.routeCall 9 0 0 60) clearing = [codeAnswer 9 1 .active] ∧
    sends (.routeCall 9 1 0 60) waiting = [codeAnswer 9 1 .active] ∧
    sends (.routeCall 9 0 0 60) (withSection 3 (fun r => { r with possession := some 0 }) ready) =
      [codeAnswer 9 1 .possessed] ∧
    sends (.routeCall 9 0 0 60) (withElement 1 (fun _ => .point PointRec.renewed) ready) =
      [codeAnswer 9 1 .unavailable] ∧
    sends (.routeCall 9 1 0 60) (withLink (fun k => { k with state := .aligning }) ready) =
      [codeAnswer 9 1 .line] := by decide +kernel

theorem test_witness_CallChecksInOrder_later :
    let claim : Claim := { element := 8, required := .danger, slot := 31, serves := [], proven := false }
    let full := { ready.live with claims := List.replicate 256 claim }
    let slots := { ready.live with slots := (List.range 32).map (fun n => (n, { slotIn .locked with route := 300 })) }
    ready.live.checkCall site route0 = .passes 0 [{ element := 7, required := .position .normal, entry := 1, level := 0 }] ∧
    clearing.live.checkCall site route0 = .fails 8 ∧ full.checkCall site route0 = .fails 9 ∧ slots.checkCall site route0 = .fails 10 := by
  decide +kernel

theorem test_witness_FlankSearchTakesFirstObtainable :
    let lost := withElement 7 (fun _ => .point PointRec.renewed) ready
    let choice : Choice := { element := 7, required := .position .normal, entry := 1, level := 0 }
    let second : FlankEntry := { index := 1, candidates := [{ element := 7, state := 2 }] }
    let r := { route0 with flank := route0.flank ++ [second] }
    ready.live.flankSearch site route0 = some [choice] ∧ lost.live.flankSearch site route0 = none ∧
    ready.live.flankSearch site r = none ∧ ready.live.searchFrom site 1 [] (r.flank.take 1) = some [choice] ∧
    ready.live.obtainable site [choice] 7 (.position .reverse) = false := by decide +kernel

theorem test_witness_ObtainableElement :
    (ready.live.point 7).isSome = true ∧ ready.live.obtainable site [] 7 (.position .reverse) = true ∧
    clearing.live.obtainable site [] 7 (.position .reverse) = false ∧
    clearing.live.obtainable site [] 7 (.position .normal) = true ∧
    ready.live.obtainable site [] 2 .danger = true ∧ clearing.live.obtainable site [] 2 .danger = false := by decide +kernel

theorem test_witness_CallWaitsOrIsRefused :
    let blocked := withSection 3 (fun r => { r with lock := some (5, .path) }) ready
    let full := { blocked with live := { blocked.live with
      waiting := List.replicate 16 { route := 1, fleet := 0, expiry := 600, tag := 5 } } }
    blocked.live.checkCall site route0 = .fails 8 ∧
    sends (.routeCall 9 0 40 0) blocked = [codeAnswer 9 1 .conflict] ∧
    sends (.routeCall 9 0 40 200) blocked = [detailAnswer 9 1 .queued 8] ∧
    (after (.routeCall 9 0 40 200) blocked).live.waiting = [{ route := 0, fleet := 31, expiry := 1200, tag := 9 }] ∧
    sends (.routeCall 9 0 40 200) full = [codeAnswer 9 1 .queueFull] := by decide +kernel

theorem test_witness_CallTaken :
    (sends (.routeCall 9 0 2 60) ready).getLast? = some (detailAnswer 9 1 .accepted 0) ∧
    (clearing.live.slot 0).map (fun x => (x.state, x.fleet, x.aspect)) = some (.clearing, 2, some .caution) ∧
    clearing.live.holder 2 = some (0, .path) ∧ clearing.live.holder 3 = some (0, .overlap) ∧
    (clearing.live.point 1).map (fun r => r.routeLock) = some (some (0, .normal)) ∧
    clearing.live.claims =
      [{ element := 7, required := .position .normal, slot := 0, serves := [(1, 0)], proven := true }] := by decide +kernel

/-- R101, R102: two flank entries that share a record, the second at level 1, so that one substitute is reported. -/
theorem test_witness_CallTaken_claims :
    let flank : List FlankEntry := [ { index := 1, candidates := [{ element := 7, state := 1 }] },
      { index := 1, candidates := [{ element := 7, state := 2 }, { element := 7, state := 1 }] } ]
    let s := { ready with store := { ready.store with active := { site with routes := [(0, { route0 with flank := flank })] } } }
    let t := after (.routeCall 9 0 2 60) s
    s.live.checkCall s.store.active { route0 with flank := flank } = .passes 0 [
      { element := 7, required := .position .normal, entry := 1, level := 0 },
      { element := 7, required := .position .normal, entry := 2, level := 1 } ] ∧
    t.live.claims.map (fun c => (c.element, c.slot, c.serves)) = [(7, 0, [(1, 0), (2, 1)])] ∧
    t.live.reports.reports.map (fun r => (r.code, r.number, r.detail)) = [(.flankSubstitute, 0, some 1007)] := by
  decide +kernel

/-- The codes, numbers and details of the reports held. -/
def told (l : Live) : List (ReportCode × Nat × Option Nat) := l.reports.reports.map (fun r => (r.code, r.number, r.detail))

/-- ready with a point's record changed. -/
def withPoint (n : Nat) (f : PointRec → PointRec) (s : State) : State :=
  withElement n (fun x => match x with
    | .point r => .point (f r)
    | y => y) s

/-- The state, held field, line wait and aspect of slot 0. -/
def slotLook (s : State) : Option (SlotState × Option Stage × Option (Nat × Nat) × Option Aspect) :=
  (s.live.slot 0).map (fun x => (x.state, x.held, x.lineWait, x.aspect))

/-- The movement of a point. -/
def movementOf (n : Nat) (s : State) : Option (Option (Position × Nat)) := (s.live.point n).map (fun r => r.movement)

theorem test_witness_TakenSlotBegins :
    let call (route : Nat) (s : State) := after (.routeCall 9 route 2 60) s
    let turned := withPoint 1 (fun r => { r with evaluated := some .reverse }) ready
    let stops (g : Stage) (s : State) := { s with mode := .commissioning, stageHolds := [(0, g)] }
    let theirs := withLine (fun y => { y with owner := .neighbour, nextAsk := 255 }) ready
    let asked := withLine (fun y => { y with ask := some (4, 50) }) theirs
    ready.live.checkCall site route1 = .passes 0 [] ∧ ready.live.claims = [] ∧
    slotLook (call 0 ready) = some (.clearing, none, none, some .caution) ∧
    slotLook (call 0 turned) = some (.setting, none, none, none) ∧
    movementOf 1 (call 0 turned) = some (some (.normal, 50)) ∧
    slotLook (call 0 (stops .setting turned)) = some (.setting, some .setting, none, none) ∧
    movementOf 1 (call 0 (stops .setting turned)) = some none ∧
    slotLook (call 0 (stops .locked ready)) = some (.locked, some .locked, none, none) ∧
    slotLook (call 0 (withSection 3 (fun r => { r with state := .sweep }) ready)) = some (.locked, none, none, none) ∧
    slotLook (call 1 theirs) = some (.waitLine, none, some (1, 1), none) ∧
    sends (.routeCall 9 1 2 60) theirs = [.directionAsk 1 1 255, detailAnswer 9 1 .accepted 0] ∧
    ((call 1 theirs).live.line 1 1).map (fun y => (y.ask, y.nextAsk)) = some (some (255, 50), 0) ∧
    ((call 1 asked).live.line 1 1).map (fun y => (y.ask, y.nextAsk)) = some (some (4, 50), 255) := by decide +kernel

theorem test_witness_TakenSlotBegins_points :
    let call (s : State) := after (.routeCall 9 0 2 60) s
    let waits (n : Nat) (q : Position) (s : State) := { s with live := { s.live with
      queue := s.live.queue ++ [{ element := n, address := 100 + n, order := .position q }] } }
    let crossed := atClock 10 (waits 7 .reverse (withPoint 7 (fun r => { r with movement := some (.reverse, 50) }) ready))
    let sent := withPoint 1 (fun r => { r with movement := some (.reverse, 40), evaluated := none }) ready
    let flank := withPoint 7 (fun r => { r with evaluated := some .reverse }) ready
    let locked := withPoint 7 (fun r => { r with evaluated := some .reverse, routeLock := some (5, .normal) }) ready
    let both := withPoint 1 (fun r => { r with evaluated := none }) flank
    let off := withElement 3 (fun _ => .signal { SignalRec.renewed with supervised := true, commanded := .proceed })
      { ready with store := { ready.store with active := { site with
          routes := [(0, { route0 with flank := [{ index := 1, candidates := [{ element := 3, state := 1 }] }] })] } } }
    movementOf 7 (call crossed) = some (some (.normal, 60)) ∧
    (call crossed).live.queue.map (fun x => (x.element, x.order)) = [(7, .position .normal), (2, .aspect .caution)] ∧
    movementOf 1 (call sent) = some (some (.reverse, 40)) ∧ (call sent).live.queue = [] ∧
    movementOf 7 (call flank) = some (some (.normal, 50)) ∧ slotLook (call flank) = some (.locked, none, none, none) ∧
    movementOf 7 (call locked) = some none ∧ (call both).live.queue.map (fun x => x.element) = [1, 7] ∧
    ((call off).live.signal 3).map (fun g => (g.commanded, g.proving)) = some (.danger, some 40) := by decide +kernel

theorem test_witness_WaitingRequestLeaves :
    let expired := after (.patienceExpiry 1) (atClock 600 waiting)
    let locked := withSection 3 (fun r => { r with lock := some (5, .path) }) waiting
    let possessed := withSection 3 (fun r => { r with possession := some 0 }) waiting
    let scanned (s : State) := (s.work.scanOnce s.env).live
    expired.live.waiting = [] ∧ told expired.live = [(.requestExpired, 1, some 5)] ∧
    after (.patienceExpiry 1) (atClock 599 waiting) = atClock 599 waiting ∧
    after (.patienceExpiry 0) waiting = waiting ∧
    waiting.live.checkCall site route1 = .passes 0 [] ∧ told (scanned waiting) = [(.requestTaken, 1, some 5)] ∧
    ((scanned waiting).slot 0).map (fun x => (x.route, x.fleet)) = some (1, 0) ∧
    locked.live.checkCall site route1 = .fails 8 ∧ scanned locked = locked.live ∧
    possessed.live.checkCall site route1 = .fails 5 ∧ told (scanned possessed) = [(.requestRefused, 1, some (256 * 5 + 5))] ∧
    scanned { held with live := { held.live with waiting := waiting.live.waiting } } =
      { held.live with waiting := waiting.live.waiting } := by decide +kernel

theorem test_witness_WaitingRequestLeaves_event :
    let due (s : State) := s.work.scanDue.event s.env
    waiting.work.scanDue.settled waiting.env = waiting.work.scanDue ∧ told (due waiting).live = [(.requestTaken, 1, some 5)] ∧
    (due waiting).live.waiting = [] ∧ (due ready).live = ready.live ∧
    (due { held with live := { held.live with waiting := waiting.live.waiting } }).live.waiting = waiting.live.waiting := by
  decide +kernel

theorem test_witness_CancelByWhereTheRouteStands :
    sends (.routeCancel 9 1) { waiting with mode := .failed } = [codeAnswer 9 2 .mode] ∧
    sends (.routeCancel 9 2) waiting = [codeAnswer 9 2 .unknown] ∧
    sends (.routeCancel 9 1) waiting = [codeAnswer 9 2 .done] ∧ (after (.routeCancel 9 1) waiting).live.waiting = [] ∧
    sends (.routeCancel 9 0) waiting = [codeAnswer 9 2 .ignored] := by decide +kernel

theorem test_witness_CancelByWhereTheRouteStands_slot :
    let near := withSection 1 (fun r => { r with state := .occupied, balance := 2 }) cleared
    cleared.live.slotOf 0 = cleared.live.slots.head? ∧ cleared.live.requestOf 0 = none ∧
    (sends (.routeCancel 9 0) cleared).getLast? = some (codeAnswer 9 2 .done) ∧
    (after (.routeCancel 9 0) cleared).live.slots = [] ∧
    (sends (.routeCancel 9 0) near).getLast? = some (codeAnswer 9 2 .accepted) ∧
    ((after (.routeCancel 9 0) near).live.slot 0).map (fun x => (x.state, x.timer)) =
      some (.timedRelease, some { expiry := 300, cause := some .approach }) ∧
    ((after (.routeCancel 9 0) near).live.signal 2).map (fun g => g.commanded) = some .danger ∧
    sends (.routeCancel 9 0) entered = [codeAnswer 9 2 .tooLate] ∧
    (after (.routeCancel 9 0) { near with store := { near.store with
      active := { site with routes := [(0, { route0 with approachTime := 0 })] } } }).live.slots = [] ∧
    (sends (.routeCancel 9 0) (withSlot 0 (slotIn .locked) ready)).getLast? = some (codeAnswer 9 2 .done) := by decide +kernel

theorem test_witness_FreeingEmptiesTheSlot :
    let w := clearing.work.freeSlot clearing.env 0
    (clearing.live.slot 0).isSome = true ∧ w.live.slots = [] ∧ w.live.claims = [] ∧ w.live.holder 2 = none ∧
    w.live.holder 3 = none ∧ (w.live.point 1).map (fun r => r.routeLock) = some none ∧
    (w.live.signal 2).map (fun g => g.entryOf) = some none := by decide +kernel

theorem test_witness_SlotTimersExpire :
    let timed := withSlot 0 { slotIn .timedRelease with timer := some { expiry := 50, cause := some .restart } } ready
    let timing := withSlot 0 { slotIn .entered with
      overlap := some .timing, timer := some { expiry := 50, cause := none } }
        (withSection 3 (fun r => { r with lock := some (0, .overlap) }) ready)
    let overrun := withSection 3 (fun r => { r with state := .occupied, balance := 1 }) timing
    let ends := fun (s : State) => after (.overlapExpiry 0) (atClock 50 s)
    (after (.timedReleaseExpiry 0) (atClock 50 timed)).live.slots = [] ∧ after (.timedReleaseExpiry 0) timed = timed ∧
    after (.timedReleaseExpiry 0) (atClock 50 timing) = atClock 50 timing ∧ after (.overlapExpiry 0) timing = timing ∧
    ends timed = atClock 50 timed ∧ (ends timing).live.holder 3 = none ∧
    (ends overrun).live.holder 3 = some (0, .overlap) ∧
    ((ends overrun).live.slot 0).map (fun x => (x.timer, x.overlap)) = some (none, some .timing) := by decide +kernel

theorem test_witness_SlotTimersExpire_points :
    let lies := { site with routes := [(0, { route0 with path := [3], overlap := [2], points := [] })] }
    let timing := withSlot 0 { slotIn .entered with
      overlap := some .timing, timer := some { expiry := 0, cause := none } }
        (withSection 3 (fun r => { r with lock := some (0, .path) })
          (withSection 2 (fun r => { r with lock := some (0, .overlap) })
            (withPoint 1 (fun r => { r with routeLock := some (0, .normal) })
              { ready with store := { ready.store with active := lies } })))
    let ended := after (.overlapExpiry 0) timing
    ((ended.live.slot 0).map (fun x => (x.timer, x.overlap)) = some (none, some .released)) ∧
    ended.live.holder 2 = none ∧ ended.live.holder 3 = some (0, .path) ∧
    (ended.live.point 1).map (fun r => r.routeLock) = some none := by decide +kernel

theorem test_witness_FleetStopEndsTheRun :
    sends (.fleetStop 9 0) { ready with mode := .failed } = [codeAnswer 9 3 .mode] ∧
    sends (.fleetStop 9 2) ready = [codeAnswer 9 3 .unknown] ∧
    ((after (.fleetStop 9 0) clearing).live.slot 0).map (fun x => x.fleet) = some 0 ∧
    ((after (.fleetStop 9 0) entered).live.slot 0).map (fun x => (x.fleet, x.overlap)) = some (0, some .timing) ∧
    sends (.fleetStop 9 1) waiting = [codeAnswer 9 3 .done] ∧
    sends (.fleetStop 9 0) waiting = [codeAnswer 9 3 .ignored] := by decide +kernel

theorem test_witness_FleetStopEndsTheRun_overlap :
    let passed (fleet : Nat) := withSlot 0 { slotIn .entered with fleet := fleet, marks := [true] }
      (withSection 3 (fun r => { r with lock := some (0, .overlap) })
        (withSection 2 (fun r => { r with lock := some (0, .path) }) ready))
    let brief := { passed 0 with store := { ready.store with active :=
      { site with routes := [(0, { route0 with overlapTime := 0 })] } } }
    let look (s : State) := ((s.work.startOverlap s.env 0).live.slot 0).map (fun x => (x.overlap, x.timer))
    look (passed 0) = some (some .timing, some { expiry := 200, cause := none }) ∧
    (passed 1).work.startOverlap ready.env 0 = (passed 1).work ∧ look brief = some (some .released, none) ∧
    (brief.work.startOverlap brief.env 0).live.holder 3 = none := by decide +kernel

theorem test_witness_ReleaseFollowsTheTrain :
    let behind := withSlot 0 { slotIn .entered with marks := [true] }
      (withSection 2 (fun r => { r with lock := some (0, .path) }) ready)
    let ahead := withSlot 0 (slotIn .entered) behind
    behind.live.holder 2 = some (0, .path) ∧
    (behind.work.releaseTest behind.env 0).live.holder 2 = none ∧
    ahead.work.releaseTest ahead.env 0 = ahead.work := by decide +kernel

theorem test_witness_ReleaseFollowsTheTrain_sections :
    let long := { route0 with path := [1, 2, 3], overlap := [], flank := [
      { index := 1, candidates := [{ element := 7, state := 1 }] }, { index := 3, candidates := [{ element := 7, state := 1 }] }] }
    let locks := [1, 2, 3].foldl (fun s n => withSection n (fun r => { r with lock := some (0, .path) }) s)
      { ready with store := { ready.store with active := { site with routes := [(0, long)] } } }
    let claim : Claim := { element := 7, required := .position .normal, slot := 0, serves := [(1, 0), (2, 0)], proven := true }
    let train := withPoint 1 (fun r => { r with routeLock := some (0, .normal) })
      (withSlot 0 { slotIn .entered with marks := [true, true, true], overlap := none }
        { locks with live := { locks.live with claims := [claim] } })
    let behind := withSection 3 (fun r => { r with state := .occupied, balance := 2 }) train
    let w := behind.work.releaseTest behind.env 0
    [1, 2, 3].map w.live.holder = [none, none, some (0, .path)] ∧ (w.live.slot 0).map (fun x => x.pointer) = some 3 ∧
    w.live.claims = [{ claim with serves := [(2, 0)] }] ∧ (w.live.point 1).map (fun r => r.routeLock) = some none ∧
    w.places = [1] ∧ w.scan = true ∧ (train.work.releaseTest train.env 0).live.slots = [] := by decide +kernel

theorem test_witness_ReleaseFollowsTheTrain_fleeting :
    let back (route : Nat) (s : State) : Live :=
      ((withSlot 0 { slotIn .entered with route := route, fleet := 2, marks := [true] } s).work.fleetTest s.env 0).live
    let turned := withElement 1 (fun _ => .point { PointRec.renewed with supervised := true, evaluated := some .reverse }) ready
    let stopped := { ready with mode := .commissioning, stageHolds := [(0, .locked)] }
    let theirs := withLine (fun y => { y with owner := .neighbour }) ready
    let apart := withLink (fun k => { k with state := .aligning }) theirs
    let look (l : Live) := (l.slot 0).map (fun x => (x.state, x.fleet, x.marks, x.held))
    look (back 0 ready) = some (.clearing, 1, [false], none) ∧ look (back 0 turned) = some (.setting, 1, [false], none) ∧
    look (back 0 stopped) = some (.locked, 1, [false], some .locked) ∧
    look (back 0 (withSection 3 (fun r => { r with state := .sweep }) ready)) = some (.locked, 1, [false], none) ∧
    look (back 0 (withSection 2 (fun r => { r with state := .sweep }) ready)) = some (.entered, 2, [true], none) ∧
    look (back 1 theirs) = some (.waitLine, 1, [false], none) ∧ look (back 1 apart) = none ∧
    (back 1 apart).queue = [] ∧ told (back 1 apart) = [(.lineRefused, 0, some 3001), (.routeReleased, 0, some 1)] := by
  decide +kernel

theorem test_witness_EmergencyReleaseNeedsItsArm :
    let armed := after (.releaseArm 9 0) entered
    sends (.releaseArm 9 0) { entered with mode := .failed } = [codeAnswer 9 4 .mode] ∧
    sends (.releaseArm 9 1) entered = [codeAnswer 9 4 .unknown] ∧
    sends (.releaseArm 9 0) cleared = [codeAnswer 9 4 .ignored] ∧
    armed.live.arm = some { slot := 0, expiry := 100 } ∧
    (after .releaseArmExpiry (atClock 100 armed)).live.arm = none ∧
    after .releaseArmExpiry (atClock 99 armed) = atClock 99 armed ∧ after .releaseArmExpiry entered = entered ∧
    (sends (.releaseConfirm 9 0) armed).getLast? = some (codeAnswer 9 5 .accepted) ∧
    ((after (.releaseConfirm 9 0) armed).live.slot 0).map (fun x => (x.state, x.timer)) =
      some (.timedRelease, some { expiry := 600, cause := some .emergency }) ∧
    sends (.releaseConfirm 9 1) armed = [codeAnswer 9 5 .notArmed] ∧
    sends (.releaseConfirm 9 0) { armed with clock := 100 } = [codeAnswer 9 5 .notArmed] ∧
    sends (.releaseConfirm 9 0) entered = [codeAnswer 9 5 .notArmed] := by decide +kernel

theorem test_witness_StageHoldKeepsEightEntries :
    let one := after (.stageHold 9 0 1 1) ready
    let full := { ready with stageHolds := List.replicate 8 (1, .locked) }
    let stopped := { withSlot 0 { slotIn .locked with held := some .locked } ready with stageHolds := [(0, .locked)] }
    sends (.stageHold 9 0 1 1) { ready with mode := .failed } = [codeAnswer 9 6 .mode] ∧
    sends (.stageHold 9 2 1 1) ready = [codeAnswer 9 6 .unknown] ∧
    sends (.stageHold 9 0 3 1) ready = [codeAnswer 9 6 .badForm] ∧
    sends (.stageHold 9 0 1 0) ready = [codeAnswer 9 6 .badForm] ∧ one.stageHolds = [(0, .setting)] ∧
    after (.stageHold 9 0 1 1) one = one.sending (codeAnswer 9 6 .done) ∧
    sends (.stageHold 9 0 1 1) full = [codeAnswer 9 6 .noSlot] ∧
    sends (.stageHold 9 0 2 2) one = [codeAnswer 9 6 .ignored] ∧ (after (.stageHold 9 0 1 2) one).stageHolds = [] ∧
    ((after (.stageHold 9 0 2 2) stopped).live.slot 0).map (fun x => x.state) = some .clearing := by decide +kernel

theorem test_witness_StageStepLetsTheSlotGoOn :
    let stopped := withSlot 0 { slotIn .locked with held := some .locked } ready
    let occupied := withSection 2 (fun r => { r with state := .occupied, balance := 1 }) stopped
    sends (.stageStep 9 0) cleared = [codeAnswer 9 7 .ignored] ∧
    ((after (.stageStep 9 0) stopped).live.slot 0).map (fun x => (x.state, x.held, x.aspect)) =
      some (.clearing, none, some .caution) ∧
    ((after (.stageStep 9 0) occupied).live.slot 0).map (fun x => (x.state, x.held)) = some (.locked, none) := by
  decide +kernel

theorem test_witness_StageStepLetsTheSlotGoOn_setting :
    let stops (state : SlotState) := withSlot 0 { slotIn state with held := some .setting }
    let turned := withPoint 1 (fun r => { r with evaluated := some .reverse, routeLock := some (0, .normal) }) ready
    let both := { stops .setting ready with mode := .commissioning, stageHolds := [(0, .locked)] }
    let on := fun s => after (.stageStep 9 0) s
    sends (.stageStep 9 0) { ready with mode := .failed } = [codeAnswer 9 7 .mode] ∧
    sends (.stageStep 9 2) ready = [codeAnswer 9 7 .unknown] ∧ sends (.stageStep 9 0) ready = [codeAnswer 9 7 .ignored] ∧
    slotLook (on (stops .setting ready)) = some (.clearing, none, none, some .caution) ∧
    slotLook (on (stops .setting turned)) = some (.setting, none, none, none) ∧
    movementOf 1 (on (stops .setting turned)) = some (some (.normal, 50)) ∧
    slotLook (on (stops .waitLine turned)) = some (.waitLine, none, none, none) ∧
    movementOf 1 (on (stops .waitLine turned)) = some (some (.normal, 50)) ∧
    slotLook (on both) = some (.locked, some .locked, none, none) ∧
    slotLook (on (stops .setting (withSection 3 (fun r => { r with state := .sweep }) ready))) =
      some (.locked, none, none, none) := by decide +kernel

theorem test_witness_ClearingConditions :
    let proceed := withElement 3 (fun _ => .signal { SignalRec.renewed with proven := some .caution }) ready
    ready.live.clearable 0 route0 = true ∧ ready.live.chosenAspect route0 = .caution ∧ proceed.live.chosenAspect route0 = .proceed ∧
    ready.live.clearable 0 route1 = true ∧ ready.live.chosenAspect route1 = .caution ∧
    (withLine (fun y => { y with owner := .neighbour }) ready).live.clearable 0 route1 = false := by decide +kernel

theorem test_witness_EntryOrReplacement :
    let train := withSection 2 (fun r => { r with state := .occupied, balance := 2 }) cleared
    let broken := withSection 3 (fun r => { r with state := .disturbed, causes := [.step] }) cleared
    train.live.holder 2 = some (0, .path) ∧
    ((train.work.onSection train.env 2 0).live.slot 0).map (fun x => (x.state, x.marks, x.aspect)) =
      some (.entered, [true], some .danger) ∧
    ((broken.work.onSection broken.env 3 0).live.slot 0).map (fun x => x.state) = some .replaced ∧
    ((broken.work.onSection broken.env 3 0).live.reports.reports.map (fun r => (r.code, r.detail))) =
      [(.signalReplaced, some 1003)] := by decide +kernel

/-- R91: section 4 is no section of the route, section 1 is its approach section, and section 2 is CLEAR. -/
theorem test_witness_EntryOrReplacement_others :
    let near := withSection 1 (fun r => { r with state := .occupied, balance := 2 }) cleared
    (cleared.live.slot 0).map (fun x => x.state) = some .clear ∧ near.work.onSection near.env 1 0 = near.work ∧
    near.work.onSection near.env 4 0 = near.work ∧ near.work.onSection near.env 2 0 = near.work := by decide +kernel

theorem test_witness_EntryOrReplacement_entered :
    let occupied (n : Nat) := withSection n (fun r => { r with state := .occupied, balance := 2 })
    let locked := withSection 3 (fun r => { r with lock := some (0, .overlap) })
      (withSection 2 (fun r => { r with lock := some (0, .path) }) ready)
    let behind := withSlot 0 (slotIn .entered) locked
    let late := withSlot 0 { slotIn .entered with marks := [true], overlap := some .timing } (occupied 2 locked)
    let timed (cause : ReleaseCause) := withSlot 0 { slotIn .timedRelease with
      timer := some { expiry := 300, cause := some cause } } (occupied 2 locked)
    let on (sec : Nat) (s : State) := s.work.onSection s.env sec 0
    let look (w : Work) := (w.live.slot 0).map (fun x => (x.state, x.marks, x.overlap, x.timer.map (fun y => y.expiry)))
    look (on 2 (occupied 2 behind)) = some (.entered, [true], some .timing, some 200) ∧
    on 2 behind = behind.work ∧ on 3 (occupied 3 behind) = (occupied 3 behind).work ∧
    look (on 3 late) = some (.entered, [true], some .released, none) ∧ (on 3 late).live.holder 3 = none ∧
    look (on 2 (timed .approach)) = some (.entered, [true], some .timing, some 200) ∧
    told (on 2 (timed .approach)).live = [(.signalPassedAfterCancel, 0, some 0)] ∧
    on 2 (timed .restart) = (timed .restart).work := by decide +kernel

theorem test_witness_ReplacementCauses :
    let w := cleared.work
    let e := cleared.env
    let lost := withPoint 1 (fun r => { r with evaluated := none }) cleared
    let onLine := withSlot 0 { slotIn .clear with route := 1 } ready
    let dropped := withLine (fun y => { y with
      last := some { owner := .neighbour, askOutstanding := false, lineClear := false, shared := none } }) cleared
    let shown := withElement 2 (fun _ => .signal { SignalRec.renewed with proven := some .danger, entryOf := some 0 }) cleared
    let stepped := withElement 3 (fun _ => .signal { SignalRec.renewed with proven := some .caution }) cleared
    let replaced (k : Nat) (v : Work) := ((v.live.slot 0).map (fun x => x.state), told v.live) =
      (some .replaced, [(.signalReplaced, 0, some k)])
    replaced 2001 (lost.work.onPoint e 1 0) ∧ w.onPoint e 1 0 = w ∧ replaced 3007 (w.onClaim e 0 7 false) ∧
    w.onClaim e 0 7 true = w ∧ replaced 4011 (w.onLineLost e 1 1 0) ∧ w.onLineFlag e 1 1 0 = w ∧
    replaced 5011 (dropped.work.onLineFlag e 1 1 0) ∧ replaced 5011 (onLine.work.take e (.linkLost 1 1)) ∧
    replaced 7002 (w.onProving e 2 0 false) ∧ w.onProving e 2 0 true = w ∧
    slotLook { clearing with live := (clearing.work.onProving e 2 0 true).live } = some (.clear, none, none, some .caution) ∧
    replaced 8002 (shown.work.onAspect e 2 0) ∧ w.onAspect e 2 0 = w ∧ w.onAspect e 3 0 = w ∧
    slotLook { ready with live := (stepped.work.onAspect e 3 0).live } = some (.clear, none, none, some .proceed) ∧
    entered.work.replace e 0 2 1 = entered.work := by decide +kernel

/-- R89, R93, R113: a proven DANGER, a failed proving and a proven aspect leave a slot in REPLACED and in ENTERED. -/
theorem test_witness_ReplacementCauses_others :
    let stands (state : SlotState) := withSlot 0 (slotIn state) ready
    [SlotState.replaced, .entered].all (fun state =>
      let w := (stands state).work
      decide (w.onProving ready.env 2 0 true = w) && decide (w.onProving ready.env 2 0 false = w) &&
      decide (w.onAspect ready.env 2 0 = w) && decide (w.onAspect ready.env 3 0 = w)) = true := by decide +kernel

theorem test_witness_SlotsBeforeClearingFollowChanges :
    let lost := withPoint 1 (fun r => { r with evaluated := some .reverse })
    let stands (state : SlotState) (s : State) := withSlot 0 { slotIn state with aspect := none } s
    let onPoint (s : State) : State := { s with live := (s.work.onPoint s.env 1 0).live }
    let stopped := withSlot 0 { slotIn .setting with held := some .setting } ready
    let blocked := withSection 3 (fun r => { r with state := .sweep })
    slotLook (onPoint (stands .setting ready)) = some (.clearing, none, none, some .caution) ∧
    slotLook (onPoint (stands .setting (blocked ready))) = some (.locked, none, none, none) ∧
    onPoint stopped = stopped ∧ slotLook (onPoint (lost (stands .locked ready))) = some (.setting, none, none, none) ∧
    movementOf 1 (onPoint (lost (stands .locked ready))) = some (some (.normal, 50)) ∧
    onPoint (stands .locked ready) = stands .locked ready ∧ onPoint (lost (stands .entered ready)) = lost (stands .entered ready) ∧
    slotLook { ready with live := ((stands .locked ready).work.onSection ready.env 2 0).live } =
      some (.clearing, none, none, some .caution) ∧
    (stands .setting ready).work.onSection ready.env 2 0 = (stands .setting ready).work := by decide +kernel

theorem test_witness_SlotsBeforeClearingFollowChanges_line :
    let waits (held : Option Stage) :=
      withSlot 0 { slotIn .waitLine with route := 1, overlap := none, lineWait := some (1, 1), held := held } ready
    let stands (state : SlotState) (s : State) := withSlot 0 { slotIn state with route := 1, overlap := none } s
    let theirs := withLine (fun y => { y with owner := .neighbour, nextAsk := 255 }) ready
    let apart := withLink (fun k => { k with state := .aligning }) theirs
    let asked := withLine (fun y => { y with ask := some (4, 50) }) theirs
    let ours (s : State) : State := { s with live := (s.work.leaveWaitLine s.env 0).live }
    let lost (s : State) : State := { s with live := (s.work.onLineLost s.env 1 1 0).live }
    slotLook (ours (waits none)) = some (.clearing, none, none, some .caution) ∧
    slotLook (ours (waits (some .setting))) = some (.setting, some .setting, none, none) ∧
    ours (stands .locked ready) = stands .locked ready ∧
    slotLook (lost (stands .locked theirs)) = some (.waitLine, none, some (1, 1), none) ∧
    (lost (stands .locked theirs)).live.sent.getLast? = some (.directionAsk 1 1 255) ∧
    ((lost (stands .locked theirs)).live.line 1 1).map (fun y => (y.ask, y.nextAsk)) = some (some (255, 50), 0) ∧
    (lost (stands .locked asked)).live.links = asked.live.links ∧
    told (lost (stands .setting apart)).live = [(.lineRefused, 0, some 3001), (.routeReleased, 0, some 1)] ∧
    lost (stands .replaced theirs) = stands .replaced theirs := by decide +kernel

theorem test_witness_ChangesReachTheirSlots :
    let w := (withSlot 4 { slotIn .clear with route := 1 } cleared).work
    let e := ready.env
    let waits := withSlot 5 { slotIn .waitLine with route := 1, lineWait := some (1, 1) }
      (withSlot 2 { slotIn .waitLine with route := 1, lineWait := some (1, 1) } ready)
    let states (v : Work) := v.live.slots.map (fun x => (x.1, x.2.state))
    let broken := (withSection 3 (fun r => { r with state := .sweep }) { ready with live := w.live }).work
    let claim : Claim := { element := 7, required := .position .reverse, slot := 0, serves := [(1, 0)], proven := false }
    let danger : Claim := { claim with element := 3, required := .danger }
    let claimed := { ready with live := { ready.live with claims := [claim, danger] } }
    let shown := withElement 3 (fun _ => .signal { SignalRec.renewed with commanded := .caution }) claimed
    states (w.take e (.sectionState 4)) = [(0, .clear), (4, .clear)] ∧
    states (broken.take e (.sectionState 3)) = [(0, .replaced), (4, .replaced)] ∧
    states (w.take e (.linkLost 1 1)) = [(0, .clear), (4, .replaced)] ∧
    told (waits.work.take e (.askFailed 1 1 2)).live = [(.lineRefused, 2, some 2001), (.routeReleased, 2, some 1),
      (.lineRefused, 5, some 2001), (.routeReleased, 5, some 1)] ∧
    movementOf 7 { ready with live := ({ claimed.work with places := [7, 1, 7] }.settled e).live } =
      some (some (.reverse, 50)) ∧
    (claimed.work.placePoint e 1 = claimed.work) ∧
    ((shown.work.take e (.placeSignal 3)).live.signal 3).map (fun g => (g.commanded, g.proving)) =
      some (.danger, some 40) := by decide +kernel

/-! ## Witnesses: the Order Gate, sections and elements -/

/-- 32 orders wait, none of them for elements 1 to 3. -/
def crowded : State :=
  { ready with live := { ready.live with
      queue := List.replicate 32 { element := 7, address := 107, order := .position .normal } } }

theorem test_witness_ElementOrderDecided_point :
    let order := Instr.elementOrder 9 1
    let moving := after (order 2) ready
    sends (order 2) { ready with mode := .failed } = [detailAnswer 9 8 .mode 0] ∧
    sends (.elementOrder 9 511 2) ready = [detailAnswer 9 8 .unknown 0] ∧
    sends (.elementOrder 9 4 2) ready = [detailAnswer 9 8 .badForm 0] ∧
    sends (.elementOrder 9 512 2) { ready with mode := .failed } = [detailAnswer 9 8 .badForm 0] ∧
    sends (.elementOrder 9 1 6) ready = [detailAnswer 9 8 .badForm 0] ∧
    sends (.elementOrder 9 7 2) crowded = [detailAnswer 9 8 .busy 2] ∧
    sends (order 2) (withElement 1 (fun _ => .point PointRec.renewed) ready) = [detailAnswer 9 8 .unavailable 0] ∧
    sends (order 1) clearing = [detailAnswer 9 8 .lockedIn 0] ∧
    sends (.elementOrder 9 7 1) clearing = [detailAnswer 9 8 .lockedIn 0] ∧
    sends (order 2) moving = [detailAnswer 9 8 .busy 1] ∧ sends (order 2) crowded = [detailAnswer 9 8 .busy 2] ∧
    sends (order 2) (withSection 2 (fun r => { r with state := .sweep }) ready) = [detailAnswer 9 8 .conflict 2] ∧
    sends (order 1) ready = [detailAnswer 9 8 .done 0] ∧ sends (order 2) ready = [detailAnswer 9 8 .accepted 0] ∧
    moving.live.queue = [{ element := 1, address := 101, order := .position .reverse }] ∧
    (moving.live.point 1).map (fun r => r.movement) = some (some (.reverse, 50)) := by decide +kernel

theorem test_witness_ElementOrderDecided_signal :
    let replaced := after (.elementOrder 9 2 3) cleared
    sends (.elementOrder 9 9 5) { ready with mode := .failed } = [detailAnswer 9 8 .unknown 0] ∧
    sends (.elementOrder 9 4 5) ready = [detailAnswer 9 8 .badForm 0] ∧
    sends (.elementOrder 9 2 5) cleared = [detailAnswer 9 8 .ignored 0] ∧
    sends (.elementOrder 9 2 3) crowded = [detailAnswer 9 8 .busy 2] ∧
    sends (.elementOrder 9 2 3) (withElement 2 (fun r => r.withPending (some (.aspect .caution))) crowded) =
      [detailAnswer 9 8 .accepted 0] ∧
    sends (.elementOrder 9 2 3) ready = [detailAnswer 9 8 .accepted 0] ∧
    sends (.elementOrder 9 3 4) ready = [detailAnswer 9 8 .replaced 1] ∧
    (replaced.live.slot 0).map (fun x => x.state) = some .replaced ∧
    replaced.live.reports.reports.map (fun r => (r.code, r.detail)) = [(.signalReplaced, some 6002)] ∧
    (replaced.live.signal 2).map (fun g => (g.commanded, g.proving)) = some (.danger, some 40) := by decide +kernel

theorem test_witness_OrderKeepsItsPlace :
    let pending := withElement 2 (fun r => r.withPending (some (.aspect .danger))) crowded
    let sent := after .fieldOrderSent pending
    after .fieldOrderSent ready = ready ∧ sent.live.queue.length = 32 ∧
    sent.live.queue.getLast? = some { element := 2, address := 102, order := .aspect .danger } ∧
    sent.live.pendingOrder 2 = none ∧ sends .fieldOrderSent pending = [.order 107 (.position .normal)] ∧
    (crowded.live.placeOrder site 2 (.aspect .danger)).pendingOrder 2 = some (.aspect .danger) ∧
    (ready.live.placeOrder site 2 (.aspect .danger)).queue =
      [{ element := 2, address := 102, order := .aspect .danger }] := by decide +kernel

theorem test_witness_SectionResetByPossession :
    let bad (p : Option Nat) := withSection 2 (fun r => { r with
      state := .disturbed, causes := [.step], balance := 7, possession := p }) ready
    let lost := withElement 5 (fun _ => .head (HeadRec.renewed none)) (bad none)
    sends (.sectionReset 9 2) { ready with mode := .failed } = [codeAnswer 9 9 .mode] ∧
    sends (.sectionReset 9 0) ready = [codeAnswer 9 9 .unknown] ∧
    sends (.sectionReset 9 2) clearing = [codeAnswer 9 9 .lockedIn] ∧
    sends (.sectionReset 9 2) ready = [codeAnswer 9 9 .ignored] ∧
    sends (.sectionReset 9 2) lost = [codeAnswer 9 9 .unavailable] ∧
    (sends (.sectionReset 9 2) (bad none)).getLast? = some (codeAnswer 9 9 .accepted) ∧
    ((after (.sectionReset 9 2) (bad none)).live.sectionAt 2).map (fun r => (r.state, r.balance)) = some (.sweep, 0) ∧
    (sends (.sectionReset 9 2) (bad (some 0))).getLast? = some (codeAnswer 9 9 .done) ∧
    ((after (.sectionReset 9 2) (bad (some 0))).live.sectionAt 2).map (fun r => (r.state, r.balance)) =
      some (.clear, 0) := by decide +kernel

theorem test_witness_NetChangeSetsTheState :
    let r : SectionRec := { SectionRec.renewed none with state := .sweep, balance := 1023, causes := [] }
    (r.applyNet 0).1.state = .sweep ∧ (r.applyNet 1).1.state = .disturbed ∧ (r.applyNet 1).1.balance = 1023 ∧
    (r.applyNet (-1023)).1.state = .sweep ∧ (r.applyNet (-1024)).1.state = .disturbed ∧
    ({ r with axleSeen := true }.applyNet (-1023)).1.state = .clear ∧ netChange true 255 0 = 255 ∧
    netChange false 255 0 = -255 := by decide +kernel

theorem test_witness_SectionChangesHandedOn :
    let add (c : Cause) (s : State) := s.work.section_ s.env 3 (SectionRec.addCause c)
    let broken := withSection 3 (fun r => { r with state := .disturbed, causes := [.step] }) ready
    let w := add .headLost ready
    told w.live = [(.sectionDisturbed, 3, some 4)] ∧ w.todo = [.sectionState 3] ∧
    w.live.sent = ready.live.sent ++ [.sectionNotice 3 .disturbed 0 [.headLost]] ∧
    (w.live.line 1 1).map (fun y => y.lineClear) = some false ∧ (add .step broken) = broken.work ∧
    (add .headLost broken).todo = [] ∧ (add .headLost broken).live.links = broken.live.links ∧
    ready.work.section_ ready.env 9 (SectionRec.addCause .step) = ready.work ∧ site.stepLimit 4 = 8 ∧
    told (ready.work.evaluate ready.env 4 (some (250, 10)) 3 10).live =
      [(.sectionDisturbed, 1, some 3), (.sectionDisturbed, 2, some 3)] ∧
    told (ready.work.evaluate ready.env 4 (some (250, 10)) 2 10).live = [(.sectionDisturbed, 1, some 2)] ∧
    told (ready.work.loseHead ready.env 8).live = [(.sectionDisturbed, 1, some 4), (.sectionDisturbed, 4, some 4)] := by
  decide +kernel

theorem test_witness_HeadStatusCounts :
    let train := withSection 1 (fun r => { r with state := .occupied, balance := 2 }) ready
    let counted (s : State) := [1, 2, 3].map (fun n => ((s.live.sectionAt n).map (fun r => (r.state, r.balance))))
    ((site.boundedBy 4).map Prod.fst).Nodup ∧ site.atAddress 104 = some 4 ∧
    Map.find 9 (site.remoteHeads 1) = some 6 ∧
    counted (after (.status 104 (.counts 252 10)) train) =
      [some (.clear, 0), some (.occupied, 2), some (.clear, 0)] ∧
    counted (after (.status 104 (.counts 3 10)) train) =
      [some (.disturbed, 2), some (.disturbed, 0), some (.clear, 0)] ∧
    counted (after (.status 104 (.counts 2 10)) train) =
      [some (.disturbed, 0), some (.occupied, 8), some (.clear, 0)] ∧
    counted (after (.counts 1 [⟨9, 250, 11⟩]) ready) = [some (.clear, 0), some (.clear, 0), some (.occupied, 1)] ∧
    site.exportTarget 5 = some (1, 7) ∧ Map.find 7 (site.exportedHeads 1) = some 5 ∧
    sends (.status 105 (.counts 250 10)) ready = [.counts 1 [⟨7, 250, 10⟩]] ∧
    sends (.status 105 (.counts 250 10)) (after (.status 105 (.counts 250 10)) ready) = [] ∧
    (Map.find 1 (after (.status 105 (.counts 250 10)) ready).live.links).map (fun k => k.exported) =
      some [(5, 250, 10)] := by decide +kernel

theorem test_witness_HeadStatusCounts_entries :
    let counted (s : State) := (s.live.sectionAt 3).map (fun r => (r.state, r.balance))
    let two := after (.counts 1 [⟨9, 250, 11⟩, ⟨63, 0, 0⟩, ⟨9, 250, 14⟩, ⟨63, 1, 1⟩]) ready
    (Map.find 1 ready.live.links).isSome = true ∧ Map.find 63 (site.remoteHeads 1) = none ∧
    counted two = some (.occupied, 4) ∧ told two.live = [(.unknownRemoteHead, 1, some 63)] ∧
    (Map.find 1 two.live.links).map (fun k => k.unknownSeen) = some [63] ∧
    (Map.find 1 (after (.counts 1 []) (atClock 7 ready)).live.links).map (fun k => k.lastHeard) = some (some 37) ∧
    (after (.counts 1 []) (atClock 7 ready)).live.reports = ready.live.reports := by decide +kernel

/-- R58: the notices of a step, one for each element, with the fields as they stand at its end. -/
theorem test_witness_NoticesOfElements :
    let silent := withElement 6 (fun _ => .head (HeadRec.renewed none)) ready
    let quiet := { ready with store := { ready.store with active := { site with options := [] } } }
    let moved := { ready.work with notices := [1, 9] }
    site.optionsInForce.stateNotices = 1 ∧ quiet.env.tables.optionsInForce.stateNotices = 0 ∧
    (moved.finish ready.env).sent = ready.live.sent ++
      [.pointNotice 1 true (some .normal) (some (some .normal)) false false none] ∧
    moved.finish quiet.env = moved.live ∧
    sends (.freshnessExpiry 2) (atClock 20 ready) = [.signalNotice 2 false .danger none false] ∧
    sends (.freshnessExpiry 1) (atClock 20 ready) = [.pointNotice 1 false none (some (some .normal)) false false none] ∧
    sends (.status 101 (.position 1)) ready = [] ∧ sends (.status 102 (.aspect 1)) ready = [] ∧
    sends (.counts 1 [⟨9, 250, 10⟩, ⟨9, 250, 11⟩]) silent =
      [.sectionNotice 3 .occupied 1 [], .headNotice 6 true] := by decide +kernel

/-- R58: the work of each command makes its own notices due. -/
theorem test_witness_NoticesOfElements_due :
    let w := ready.work
    let e := ready.env
    let stopped := withPoint 1 (fun r => { r with moveFailed := true, evaluated := none }) ready
    (w.elementStatus e 1 (.position 1)).notices = [] ∧ (w.silence e 1).notices = [1] ∧ (w.silence e 2).notices = [2] ∧
    (w.silence e 4).notices = [4] ∧ (w.failMovement e 1 { PointRec.renewed with supervised := true } .normal).notices = [1] ∧
    (stopped.work.failMovement e 1 { PointRec.renewed with moveFailed := true } .normal).notices = [] ∧
    (w.failProving e 2 { SignalRec.renewed with proven := some .danger }).notices = [2] ∧
    (w.failProving e 2 SignalRec.renewed).notices = [] ∧ (w.elementStatus e 2 (.aspect 2)).notices = [2] ∧
    (w.elementStatus e 4 (.counts 250 10)).notices = [] ∧ (w.deliver e 1 ⟨63, 0, 0⟩).notices = [] := by decide +kernel

/-- What point 1 is evaluated as, its persistence and its movement. -/
def look (s : State) : Option (Option Position × Nat × Option (Position × Nat)) :=
  (s.live.point 1).map (fun r => (r.evaluated, r.persistence, r.movement))

theorem test_witness_PointStatus :
    let moving := after (.elementOrder 9 1 2) ready
    site.atAddress 101 = some 1 ∧ reportedPosition 0 = some none ∧
    look (after (.status 101 (.position 0)) ready) = some (some .normal, 1, none) ∧
    look (after (.status 101 (.position 1)) moving) = some (none, 0, some (.reverse, 50)) ∧
    look (after (.status 101 (.position 2)) moving) = some (some .reverse, 0, none) ∧
    look (after (.status 101 (.position 2)) (withElement 1 (fun _ => .point PointRec.renewed) ready)) =
      some (some .reverse, 0, none) := by decide +kernel

theorem test_witness_SignalStatus :
    let look (s : State) := (s.live.signal 2).map (fun r => (r.proven, r.proving))
    site.atAddress 102 = some 2 ∧ shownAspect 2 = some (some .caution) ∧
    look cleared = some (some .caution, none) ∧ (cleared.live.slot 0).map (fun x => x.state) = some .clear ∧
    look (after (.status 102 (.aspect 1)) clearing) = some (some .danger, some 40) ∧
    (after (.status 102 (.aspect 3)) ready).live.reports.reports.map (fun r => (r.code, r.detail)) =
      [(.aspectMismatch, some 3)] := by decide +kernel

theorem test_witness_TelegramsDiscarded :
    after (.checkFailedTelegram .control) ready = ready ∧
    sends (.controlBadForm 9 99) ready = [codeAnswer 9 99 .badForm] ∧
    StatusContent.meaningful (.position 3) = false ∧ after (.status 101 (.position 3)) ready = ready ∧
    site.atAddress 4095 = none ∧ (after (.status 4095 (.position 1)) ready).addressesSeen = [4095] ∧
    after (.status 4095 (.position 1)) { ready with addressesSeen := [4095] } =
      { ready with addressesSeen := [4095] } ∧
    (after (.status 101 (.aspect 1)) ready).live.reports.reports.map (fun r => (r.code, r.number)) =
      [(.wrongKind, 1)] ∧
    Map.find 63 (site.remoteHeads 1) = none ∧
    (after (.counts 1 [⟨63, 0, 0⟩]) ready).live.reports.reports.map (fun r => (r.code, r.detail)) =
      [(.unknownRemoteHead, some 63)] := by decide +kernel

theorem test_witness_ElementTimersExpire :
    let moving := after (.elementOrder 9 1 2) ready
    let failed := after (.movementExpiry 1) (atClock 50 moving)
    let unproven := after (.provingExpiry 2) (atClock 40 clearing)
    let silent (n : Nat) := after (.freshnessExpiry n) (atClock 20 ready)
    (failed.live.point 1).map (fun r => (r.movement, r.moveFailed, r.evaluated)) = some (none, true, none) ∧
    after (.movementExpiry 1) (atClock 49 moving) = atClock 49 moving ∧ after (.movementExpiry 1) ready = ready ∧
    (unproven.live.signal 2).map (fun r => r.proven) = some none ∧
    (unproven.live.slot 0).map (fun x => x.state) = some .replaced ∧
    after (.provingExpiry 2) clearing = clearing ∧ after (.provingExpiry 2) ready = ready ∧
    ((silent 1).live.point 1).map (fun r => (r.supervised, r.evaluated)) = some (false, none) ∧
    ((silent 2).live.signal 2).map (fun r => (r.supervised, r.proven)) = some (false, none) ∧
    ((silent 4).live.head 4).map (fun r => (r.supervised, r.references)) = some (false, none) ∧
    [1, 2, 3].map (fun n => ((silent 4).live.sectionAt n).map (fun r => r.causes)) =
      [some [.headLost], some [.headLost], some []] ∧
    (ready.work.silence ready.env 1).todo = [.pointChanged 1] ∧ (ready.work.silence ready.env 1).places = [1] ∧
    (ready.work.silence ready.env 2).todo = [.aspectChanged 2, .signalSupervised 2] ∧
    (ready.work.silence ready.env 4).todo = [.sectionState 1, .sectionState 2] ∧
    after (.freshnessExpiry 1) ready = ready ∧ silent 9 = atClock 20 ready := by decide +kernel

/-! ## Witnesses: boundaries, possessions, modes and power -/

theorem test_witness_LinkTimersExpire_interval :
    let now := atClock 10 ready
    ready.presenceDue = some 10 ∧ (after .presenceInterval now).presenceDue = some 20 ∧
    sends .presenceInterval now = [.presence 1 5 6 [
      { number := 1, owner := .us, askOutstanding := false, lineClear := true, shared := some .clear }], .counts 1 []] ∧
    site.exportTarget 5 = some (1, 7) ∧
    (withLink (fun k => { k with exported := [(5, 250, 10)] }) ready).live.countsOut site 1 = [⟨7, 250, 10⟩] ∧
    after .presenceInterval ready = ready ∧ after .presenceInterval State.reset = State.reset := by decide +kernel

theorem test_witness_PresenceAligns :
    let down := withLink (fun k => { k with state := .down, lastHeard := none }) ready
    let look (s : State) := (Map.find 1 s.live.links).map (fun k => (k.state, k.mismatch, k.identity))
    let owner (s : State) := (s.live.line 1 1).map (fun y => y.owner)
    after (.presence 2 77 0 []) ready = ready ∧ after (.presence 1 77 0 [⟨1, 4, 0, 0⟩]) ready = ready ∧
    look (after (.presence 1 77 3 [⟨1, 2, 2, 1⟩]) down) = some (.up, false, some 77) ∧
    look (after (.presence 1 78 3 []) down) = some (.aligning, true, some 78) ∧
    look (after (.presence 1 78 3 []) ready) = some (.aligning, true, some 78) ∧
    look (after (.presence 1 77 3 []) { down with nv := { down.nv with identity := 0 } }) =
      some (.aligning, false, some 77) ∧
    owner (after (.presence 1 77 3 [⟨1, 2, 2, 1⟩]) ready) = some .us ∧
    owner (after (.presence 1 77 3 [⟨1, 1, 2, 1⟩]) ready) = some .unknown ∧
    owner (after (.presence 1 77 3 [⟨1, 1, 3, 1⟩]) ready) = some .us := by decide +kernel

theorem test_witness_PresenceAligns_shared :
    let look (s : State) := (s.live.sectionAt 3).map (fun r => (r.state, r.disagreement, r.causes, r.neighbourState))
    let hear (shared : Nat) := fun s => after (.presence 1 77 3 [⟨1, 2, 2, shared⟩]) s
    (site.lineEntry 1 1).bind (fun x => x.shared) = some 3 ∧
    look (hear 2 ready) = some (.clear, 1, [], some .occupied) ∧
    look (hear 1 (hear 2 ready)) = some (.clear, 0, [], some .clear) ∧
    look (hear 0 ready) = look ready ∧
    look (hear 2 (hear 2 (hear 2 ready))) = some (.disturbed, 0, [.disagree], some .occupied) := by decide +kernel

theorem test_witness_PresenceReported :
    let hear (identity : Identity) (lines : List PresenceLine) := fun s => (after (.presence 1 identity 3 lines) s).live
    let waits := withSlot 0 { slotIn .waitLine with route := 1, lineWait := some (1, 1) }
      (withLine (fun y => { y with owner := .neighbour, ask := some (4, 50), late := some 3 }) ready)
    let aligning := withLink (fun k => { k with state := .aligning }) ready
    let unwritten := { aligning with nv := { aligning.nv with identity := 0 } }
    let theirs := withLine (fun y => { y with owner := .neighbour }) ready
    told (hear 65614 [] waits) =
      [(.lineRefused, 0, some 3001), (.routeReleased, 0, some 1), (.identityMismatch, 1, some 78)] ∧
    ((hear 78 [] waits).line 1 1).map (fun y => (y.owner, y.ask, y.late)) = some (.neighbour, none, none) ∧
    told (hear 78 [] aligning) = [(.identityMismatch, 1, some 78)] ∧
    told (hear 78 [] (withLink (fun k => { k with mismatch := true }) aligning)) = [] ∧
    told (hear 77 [] unwritten) = [] ∧ told (hear 77 [⟨1, 1, 2, 1⟩] ready) = [(.directionConflict, 11, some 1)] ∧
    told (hear 77 [⟨1, 2, 2, 1⟩] theirs) = [(.directionConflict, 11, some 2)] ∧
    told (hear 77 [⟨1, 1, 3, 1⟩] ready) = [] := by decide +kernel

/-- R136, R137: one PRESENCE raises the line-clear flag and shows both sides US. The slot in LOCKED clears by the flag, and is then
replaced with cause 4. -/
theorem test_witness_PresenceReported_order :
    let before := withSlot 0 { slotIn .locked with route := 1, overlap := none } (withLine (fun y => { y with
      last := some { owner := .neighbour, askOutstanding := false, lineClear := false, shared := some .clear } }) ready)
    let t := after (.presence 1 77 3 [⟨1, 1, 2, 1⟩]) before
    told t.live = [(.directionConflict, 11, some 1), (.signalReplaced, 0, some 4011)] ∧
    slotLook t = some (.replaced, none, none, some .danger) := by decide +kernel

theorem test_witness_DirectionTelegrams :
    let owned (o : Owner) (ask : Option (Octet × Nat)) := withLine (fun y => { y with owner := o, ask := ask }) ready
    let junior := owned .unknown (some (0, 50))
    let waits := withSlot 0 { slotIn .waitLine with route := 1, lineWait := some (1, 1) }
    let locked := withSection 3 (fun r => { r with lock := some (0, .path) }) junior
    let occupied := withLine (fun y => { y with lineClear := false }) ready
    let owner (s : State) := (s.live.line 1 1).map (fun y => (y.owner, y.ask))
    sends (.directionAsk 1 1 4) ready = [.directionReply 1 1 4 true] ∧
    owner (after (.directionAsk 1 1 4) ready) = some (.neighbour, none) ∧
    sends (.directionAsk 1 1 4) occupied = [.directionReply 1 1 4 false] ∧
    sends (.directionAsk 1 1 4) (owned .neighbour none) = [.directionReply 1 1 4 true] ∧
    sends (.directionAsk 1 1 4) (owned .unknown none) = [.directionReply 1 1 4 true] ∧
    owner (after (.directionAsk 1 1 4) junior) = some (.neighbour, none) ∧
    owner (after (.directionAsk 1 1 4) locked) = some (.unknown, some (0, 50)) ∧
    owner (after (.directionAsk 1 1 4) (waits locked)) = some (.neighbour, none) ∧
    sends (.directionAsk 1 1 4) (withSlot 0 { slotIn .locked with route := 1 } ready) = [.directionReply 1 1 4 false] ∧
    sends (.directionAsk 1 2 4) ready = [] ∧
    sends (.directionAsk 1 1 4) (withLink (fun k => { k with state := .aligning }) ready) = [] := by decide +kernel

/-- ready with ask 255 outstanding and ask 254 late. -/
def asked : State :=
  withLine (fun y => { y with owner := .neighbour, ask := some (255, 50), late := some 254 }) ready

/-- The owner of line 1, its ask outstanding and its late ask. -/
def lineLook (s : State) : Option (Owner × Option (Octet × Nat) × Option Octet) :=
  (s.live.line 1 1).map (fun y => (y.owner, y.ask, y.late))

theorem test_witness_DirectionTelegrams_replies :
    after (.directionReply 1 1 255 3) asked = asked ∧
    lineLook (after (.directionReply 1 1 255 1) asked) = some (.us, none, some 254) ∧
    lineLook (after (.directionReply 1 1 255 2) asked) = some (.neighbour, none, some 254) ∧
    lineLook (after (.directionReply 1 1 254 1) asked) = some (.us, none, none) ∧
    lineLook (after (.directionReply 1 1 254 2) asked) = some (.neighbour, some (255, 50), none) ∧
    lineLook (after (.directionReply 1 1 0 1) asked) = some (.neighbour, some (255, 50), some 254) ∧
    lineLook (after (.askExpiry 1 1) (atClock 50 asked)) = some (.neighbour, none, some 255) ∧
    after (.askExpiry 1 1) asked = asked ∧ after (.askExpiry 1 1) ready = ready := by decide +kernel

/-- R143: a reply for line 2, which the link does not have, is only heard. -/
theorem test_witness_DirectionTelegrams_noLine :
    (Map.find 1 asked.live.links).map (fun k => Map.ids k.lines) = some [1] ∧
    after (.directionReply 1 2 255 1) (atClock 7 asked) = withLink (fun k => { k with lastHeard := some 37 }) (atClock 7 asked) ∧
    after (.directionReply 1 2 255 3) asked = asked := by decide +kernel

theorem test_witness_LinkTimersExpire :
    let asked := atClock 30 (withLine (fun y => { y with ask := some (255, 50), late := some 254 }) ready)
    let aligning := atClock 30 (withLink (fun k => { k with state := .aligning }) ready)
    let down := atClock 30 (withLink (fun k => { k with state := .down }) ready)
    let look (s : State) := (Map.find 1 s.live.links).map (fun k => (k.state, k.lastHeard))
    let gone (s : State) := after (.lastHeardExpiry 1) s
    look (gone asked) = some (.down, none) ∧ told (gone asked).live = [(.linkDown, 1, some 2)] ∧
    told (gone aligning).live = [(.linkDown, 1, some 1)] ∧
    ((gone asked).live.line 1 1).map (fun y => (y.ask, y.late)) = some (none, none) ∧
    gone ready = ready ∧ gone down = down := by decide +kernel

theorem test_witness_PossessionTelegrams :
    let take := Instr.possessionTake 9
    let taken := after (take 7 [4]) ready
    sends (take 7 [4]) { ready with mode := .failed } = [detailAnswer 9 10 .mode 0] ∧
    sends (take 7 [4]) { ready with store := { ready.store with restoring := true } } = [codeAnswer 9 10 .busy] ∧
    sends (take 8 [4]) ready = [detailAnswer 9 10 .unknown 0] ∧ sends (take 7 []) ready = [detailAnswer 9 10 .badForm 0] ∧
    sends (take 7 [4, 4]) ready = [detailAnswer 9 10 .badForm 0] ∧
    sends (take 7 (List.range 17)) ready = [detailAnswer 9 10 .badForm 0] ∧
    sends (take 7 [4, 255, 9]) ready = [detailAnswer 9 10 .unknown 255] ∧
    sends (take 7 [1]) taken = [detailAnswer 9 10 .overlap (256 * 7)] ∧
    sends (take 0 [1, 4]) taken = [detailAnswer 9 10 .overlap (256 * 7 + 4)] ∧
    sends (take 0 [1, 2]) clearing = [detailAnswer 9 10 .lockedIn 2] ∧
    sends (take 0 [1, 4]) clearing = [detailAnswer 9 10 .lockedIn 1007] ∧ sends (take 7 [4]) ready = [] ∧
    taken.possessions = [(7, [4])] ∧ taken.live.possessionOf 4 = some 7 ∧
    taken.possessionWrites = [{ tag := 9, kind := 10, records := [(7, [4])] }] := by decide +kernel

theorem test_witness_PossessionTelegrams_give :
    let taken := after (.possessionTake 9 7 [4]) ready
    let written := after .possessionWriteDone taken
    sends (.possessionGive 9 7) { taken with mode := .failed } = [codeAnswer 9 11 .mode] ∧
    sends (.possessionGive 9 7) { taken with store := { taken.store with restoring := true } } =
      [codeAnswer 9 11 .busy] ∧
    sends (.possessionGive 9 8) taken = [codeAnswer 9 11 .unknown] ∧
    sends (.possessionGive 9 0) taken = [codeAnswer 9 11 .ignored] ∧
    (after (.possessionGive 9 7) taken).possessions = [] ∧
    (after (.possessionGive 9 7) taken).live.possessionOf 4 = none ∧
    sends .possessionWriteDone taken = [codeAnswer 9 10 .done] ∧
    written.nv.image.map (fun i => i.possessions) = some [(7, [4])] ∧
    after .possessionWriteDone ready = ready := by decide +kernel

theorem test_witness_ModeSetChangesMode :
    let stopped := { withSlot 0 { slotIn .locked with held := some .locked } ready with mode := .commissioning }
    sends (.modeSet 9 2) { ready with mode := .failed } = [codeAnswer 9 12 .mode] ∧
    sends (.modeSet 9 1) { ready with store := { ready.store with restoring := true } } =
      [detailAnswer 9 12 .busy 1] ∧
    sends (.modeSet 9 0) ready = [codeAnswer 9 12 .badForm] ∧ sends (.modeSet 9 4) ready = [codeAnswer 9 12 .badForm] ∧
    sends (.modeSet 9 2) ready = [codeAnswer 9 12 .done] ∧ sends (.modeSet 9 1) clearing = [detailAnswer 9 12 .busy 2] ∧
    (after (.modeSet 9 1) ready).mode = .suspended ∧ (after (.modeSet 9 2) stopped).mode = .inService ∧
    ((after (.modeSet 9 2) stopped).live.slot 0).map (fun x => (x.state, x.held)) = some (.clearing, none) := by
  decide +kernel

theorem test_witness_RestartMakesRoutesSafe :
    let t := after (.restart 9) (after (.routeCall 9 1 0 60) entered)
    t.mode = .inService ∧ t.live.waiting = [] ∧ t.live.slots.map (fun x => (x.2.state, x.2.fleet)) = [(.entered, 0)] ∧
    (t.live.signal 3).map (fun g => (g.commanded, g.proving)) = some (.danger, some 40) ∧
    ((after (.restart 9) cleared).live.slot 0).map (fun x => (x.state, x.timer)) =
      some (.timedRelease, some { expiry := 300, cause := some .restart }) := by decide +kernel

theorem test_witness_RestartMakesRoutesSafe_timers :
    let timer (cause : Option ReleaseCause) : Option SlotTimer := some { expiry := 9, cause := cause }
    let expiry (x : Slot) (s : State) := ((after (.restart 9) (atClock 7 (withSlot 3 x s))).live.slot 3).map
      (fun y => (y.overlap, y.timer.map (fun z => z.expiry)))
    let timed (cause : ReleaseCause) : Slot := { slotIn .timedRelease with timer := timer (some cause) }
    let all := withSlot 4 (slotIn .setting) (withSlot 2 (slotIn .locked) waiting)
    expiry (timed .approach) ready = some (some .locked, some 307) ∧
    expiry (timed .emergency) ready = some (some .locked, some 607) ∧
    expiry { slotIn .entered with overlap := some .timing, timer := timer none } ready = some (some .timing, some 207) ∧
    expiry { slotIn .entered with marks := [true], fleet := 3 } ready = some (some .timing, some 207) ∧
    expiry (slotIn .entered) ready = some (some .locked, none) ∧
    told (after (.restart 9) all).live = [(.requestDropped, 1, some 5), (.routeReleased, 2, some 0),
      (.routeReleased, 4, some 0), (.restarted, 0, some 0)] := by decide +kernel

theorem test_witness_RestartMakesRoutesSafe_entries :
    let two (state : SlotState) := { withSlot 1 (slotIn state) (withSlot 0 (slotIn .entered) ready) with
      live := { (withSlot 1 (slotIn state) (withSlot 0 (slotIn .entered) ready)).live with
        elements := Map.update 2 (fun _ => .signal { SignalRec.renewed with commanded := .caution }) ready.live.elements } }
    let look (s : State) := ((after (.restart 9) s).live.signal 2).map (fun g => (g.commanded, g.proving))
    let committing := { ready with mode := .suspended, store := { ready.store with commit := some ⟨8, 0, .storeWrite⟩ } }
    look (two .entered) = some (.caution, none) ∧ look (two .timedRelease) = some (.caution, none) ∧
    look (two .clear) = some (.danger, some 40) ∧ (sends (.restart 9) committing).head? = some (codeAnswer 8 19 .ignored) ∧
    (after (.restart 9) committing).store.restoring = true := by decide +kernel

theorem test_witness_PowerOnLoadAndLoss :
    let off := { State.reset with power := false, nv := { image := some siteImage, identity := 5 } }
    let loaded := after .loadEnd (after .powerOn off)
    (after .powerOn off).mode = .start ∧ loaded.mode = .suspended ∧ loaded.store.active = site ∧
    (loaded.live.sectionAt 2).map (fun r => (r.state, r.causes)) = some (.disturbed, [.start]) ∧
    (loaded.live.signal 2).map (fun g => (g.commanded, g.proving)) = some (.danger, some 40) ∧
    (after .loadEnd State.reset).mode = .failed ∧ after .loadEnd ready = ready ∧
    (after .powerOn ready).mode = .start ∧ after .powerOn ready = after .powerOn (after .powerLoss ready) := by decide +kernel

/-- R55, R134, R163: 40 signals and the two of the site; 32 orders are queued, in ascending order, and 10 are pending. -/
theorem test_witness_PowerOnLoadAndLoss_orders :
    let many : Map ElementEntry := (List.range 40).map (fun i =>
      (20 + i, { location := .field (200 + i), supervision := 20, body := .signal 4 }))
    let tables := { site with elements := siteElements ++ many }
    let s := State.loads { siteImage with tables := tables } State.reset
    Map.rising tables.elements = true ∧ s.live.queue.length = 32 ∧
    s.live.queue.head? = some { element := 2, address := 102, order := .aspect .danger } ∧
    s.live.queue.getLast? = some { element := 49, address := 229, order := .aspect .danger } ∧
    s.live.pendingOrder 49 = none ∧ s.live.pendingOrder 50 = some (.aspect .danger) ∧
    s.live.pendingOrder 59 = some (.aspect .danger) ∧ s.presenceDue = some 10 ∧
    s.live.sent = [ .presence 1 0 6 [
      { number := 1, owner := .unknown, askOutstanding := false, lineClear := false, shared := some .disturbed }],
      .counts 1 [] ] ∧ s.live.links.flatMap s.presenceOn = s.live.sent := by decide +kernel

theorem test_witness_PowerOnLoadAndLoss_loss :
    let writing := { ready with store := { ready.store with restoring := true } }
    let identity := { ready with store := { ready.store with identityWrite := some (9, 5) } }
    (after .powerLoss ready).power = false ∧ (after .powerLoss ready).nv = ready.nv ∧
    (after .powerLoss writing).nv.image.map (fun i => (i.version, i.word)) = some (6, none) ∧
    identity.store.identityWrite = some (9, 5) ∧ (after .possessionWriteDone
      (after (.possessionTake 9 7 [4]) ready)).possessionWrites = [] := by decide +kernel

/-! ## Witnesses: loading and reports -/

/-- ready in SUSPENDED, with a place for tables. -/
def loading : State := { ready with mode := .suspended }

theorem test_witness_StoreWriteActivates_records :
    let pending := withElement 3 (fun r => r.withPending (some (.aspect .danger)))
      (withPoint 1 (fun r => { r with movement := some (.reverse, 50) }) loading)
    let changed := after (.tableEntry 9 5 0 [1, 1, 1]) (after (.tableEntry 9 2 4 []) (after (.tableEntry 9 1 7 [])
      (after (.tableEntry 9 1 8 [3, 1, 0, 108, 20, 9, 0]) (after (.tableEntry 9 1 2 [2, 1, 0, 102, 20, 5]) { pending with
        possessions := [(7, [3, 4])]
        live := { pending.live with queue := [{ element := 7, address := 107, order := .position .normal },
          { element := 1, address := 101, order := .position .reverse }] } }))))
    let done := after .storeWriteDone { changed with store := { changed.store with commit := some ⟨9, 0, .storeWrite⟩ } }
    changed.live.slots = [] ∧ done.live.queue = [{ element := 1, address := 101, order := .position .reverse },
      { element := 3, address := 103, order := .aspect .danger }, { element := 2, address := 102, order := .aspect .danger }] ∧
    movementOf 1 done = some (some (.reverse, 50)) ∧ done.live.pendingOrder 3 = none ∧
    told done.live = [(.possessionTrimmed, 7, some 1), (.tablesCommitted, 0, some 7)] := by decide +kernel

theorem test_witness_StagingTelegrams :
    let s := { loading with store := { loading.store with amendment := [(1, 9), (2, 4)] } }
    let fresh := after (.tableFresh 9 1) s
    let amended := after (.tableAmend 9 1) fresh
    sends (.tableFresh 9 1) ready = [codeAnswer 9 16 .mode] ∧
    sends (.tableAmend 9 1) { loading with store := { loading.store with restoring := true } } =
      [codeAnswer 9 17 .busy] ∧
    sends (.tableFresh 9 1) { loading with store := { loading.store with frozen := true } } =
      [codeAnswer 9 16 .frozen] ∧
    sends (.tableFresh 9 0) loading = [codeAnswer 9 16 .badForm] ∧
    sends (.tableAmend 9 6) loading = [codeAnswer 9 17 .badForm] ∧
    fresh.store.staging = { site with elements := [] } ∧ fresh.store.marks.elements = .fresh ∧
    fresh.store.amendment = [(2, 4)] ∧ amended.store.staging = site ∧ amended.store.marks.elements = .amending := by
  decide +kernel

theorem test_witness_StagingTelegrams_entry :
    let full := { loading with store := { loading.store with amendment := (List.range 8).map (fun n => (1, n)) } }
    let entry := Instr.tableEntry 9 5 0
    sends (entry []) ready = [codeAnswer 9 18 .mode] ∧
    sends (.tableEntry 9 5 1 []) loading = [codeAnswer 9 18 .badForm] ∧
    sends (.tableEntry 9 4 0 []) loading = [codeAnswer 9 18 .badForm] ∧
    sends (entry [1]) loading = [codeAnswer 9 18 .badForm] ∧ sends (entry [0, 9, 0]) full = [codeAnswer 9 18 .amendLimit] ∧
    readEntry 5 [0, 9, 0] = some (.options { stopOnAlarm := 0, watermark := 9, stateNotices := 0 }) ∧
    (after (entry [0, 9, 0]) loading).store.staging.entryAt 5 0 = readEntry 5 [0, 9, 0] ∧
    (after (entry [0, 9, 0]) loading).store.amendment = [(5, 0)] ∧
    (after (entry [0, 9, 0]) loading).store.marks.options = .amending ∧
    (after (entry []) loading).store.staging.entryAt 5 0 = none ∧
    (after (.tableEntry 9 1 7 []) full).store.amendment = full.store.amendment := by decide +kernel

theorem test_witness_ValidationFindsTheFirstFailure :
    let bare : Tables := { Tables.empty with options := site.options }
    let low (n : Nat) (e : ElementEntry) := { site with elements := Map.put n e site.elements }
    bare.firstInvalid = none ∧ Tables.empty.firstInvalid = some (.table, 5, 501) ∧
    (low 1 { location := .field 102, supervision := 1, body := .point 2 5 3 }).firstInvalid = some (.element, 1, 102) ∧
    (low 2 { location := .field 101, supervision := 20, body := .signal 4 }).firstInvalid = some (.element, 2, 104) ∧
    ({ site with sections := Map.update 3 (fun _ => { heads := [] }) site.sections } : Tables).firstInvalid =
      some (.element, 6, 132) ∧
    ({ site with routes := [(0, { route0 with points := [] })] } : Tables).firstInvalid = some (.route, 0, 323) ∧
    ({ site with boundary := Map.each (fun b => { b with supervision := 11 }) site.boundary } : Tables).firstInvalid =
      some (.link, 1, 402) ∧
    check [0, 1] = check [0, 0] ^^^ 0x1021 ∧
    check [1, 7, (check [1, 7]).extractLsb' 8 8, (check [1, 7]).extractLsb' 0 8] = 0 := by
  decide +kernel

theorem test_witness_CommitFreezeAndIdentity_commit :
    let word := site.checkWord
    let validating := after (.tableCommit 9 word) loading
    let comparing := after .validationDone validating
    let writing := after .comparisonDone comparing
    let bad := after (.tableCommit 9 word) (after (.tableFresh 9 5) loading)
    let other := after .validationDone (after (.tableCommit 9 (word + 1)) loading)
    sends (.tableCommit 9 word) ready = [codeAnswer 9 19 .mode] ∧
    sends (.tableCommit 9 word) validating = [codeAnswer 9 19 .busy] ∧
    sends (.tableCommit 9 word) { loading with store := { loading.store with frozen := true } } =
      [codeAnswer 9 19 .frozen] ∧
    validating.store.commit = some ⟨9, word, .validation⟩ ∧ comparing.store.commit = some ⟨9, word, .comparison⟩ ∧
    writing.store.commit = some ⟨9, word, .storeWrite⟩ ∧ writing.nv.image.map (fun i => i.word) = some none ∧
    sends .validationDone bad = [codeAnswer 9 19 .invalid] ∧
    sends .comparisonDone other = [detailAnswer 9 19 .checkMismatch word.toNat] ∧
    after .validationDone loading = loading ∧ after .comparisonDone loading = loading := by decide +kernel

theorem test_witness_StoreWriteActivates :
    let counted := withSection 3 (fun r => { r with disagreement := 2 }) loading
    let changed := after (.tableEntry 9 2 4 []) (after (.tableEntry 9 1 7 [])
      (after (.tableEntry 9 1 8 [3, 1, 0, 108, 20, 9, 0]) counted))
    let writing := { changed with store := { changed.store with commit := some ⟨9, 0, .storeWrite⟩ } }
    let done := after .storeWriteDone writing
    done.store.version = 7 ∧ done.store.active = writing.store.staging ∧ done.store.commit = none ∧
    done.nv.image.map (fun i => i.version) = some 7 ∧ keptSection site writing.store.staging 3 = true ∧
    (done.live.sectionAt 3).map (fun r => (r.state, r.disagreement)) = some (.clear, 0) ∧ done.live.sectionAt 4 = none ∧
    (done.live.sectionAt 1).map (fun r => r.causes) = some [.start] ∧ done.live.point 7 = none ∧
    done.live.point 1 = ready.live.point 1 ∧ (Map.find 1 done.live.links).map (fun k => k.state) = some .up ∧
    done.live.sent.getLast? = some (detailAnswer 9 19 .done 7) ∧ after .storeWriteDone loading = loading := by
  decide +kernel

/-- R134, R145: a link that a commit creates is sent its first PRESENCE, and the interval that runs goes on. -/
theorem test_witness_StoreWriteActivates_presence :
    let second : BoundaryEntry := { identity := 9, supervision := 3, replyTimeout := 5, lines := [] }
    let tables := { site with boundary := site.boundary ++ [(2, second)] }
    let ends (t : Tables) := after .storeWriteDone { loading with
      store := { loading.store with staging := t, commit := some ⟨9, 0, .storeWrite⟩ } }
    (ends tables).presenceDue = some 10 ∧ (ends { site with boundary := [] }).presenceDue = none ∧
    (ends tables).live.sent.drop loading.live.sent.length =
      [.presence 2 5 7 [], .counts 2 [], detailAnswer 9 19 .done 7] := by decide +kernel

theorem test_witness_CommitFreezeAndIdentity :
    let blank := { ready with nv := { ready.nv with identity := 0 } }
    let asked := after (.areaIdentity 9 0xFFFFFFFF) blank
    let restoring := { ready with store := { ready.store with restoring := true } }
    (after (.tableFreeze 9) ready).store.frozen = true ∧ sends (.tableFreeze 9) restoring = [codeAnswer 9 14 .busy] ∧
    sends (.areaIdentity 9 1) restoring = [codeAnswer 9 20 .busy] ∧
    sends (.areaIdentity 9 0) blank = [codeAnswer 9 20 .badForm] ∧
    sends (.areaIdentity 9 1) ready = [codeAnswer 9 20 .alreadySet] ∧ sends (.areaIdentity 9 1) asked =
      [codeAnswer 9 20 .busy] ∧
    sends .identityWriteDone asked = [codeAnswer 9 20 .done] ∧
    (after .identityWriteDone asked).nv.identity = 0xFFFFFFFF ∧ after .identityWriteDone ready = ready ∧
    after .restoringWriteDone ready = ready ∧ (after .restoringWriteDone restoring).store.restoring = false ∧
    (after .restoringWriteDone restoring).nv = ready.nv ∧
    (after .restoringWriteDone { restoring with mode := .failed }).nv.image.map (fun i => i.word) = some none := by
  decide +kernel

theorem test_witness_EveryReportIsNumbered :
    let report (cls : ReportClass) : Report :=
      { sequence := 0, cls := cls, code := .modeChanged, kind := .table, number := 0, detail := none, time := 0 }
    let queue (rs : List Report) : Live := { ready.live with reports := { ready.live.reports with reports := rs } }
    let offered (cls : ReportClass) (l : Live) := l.offer ready.env cls .modeChanged .table 0 none
    let full := queue (List.replicate 127 (report .b) ++ [report .c])
    let grave := queue (List.replicate 128 (report .b))
    (offered .c full).reports.lostC = true ∧ (offered .a full).reports.reports.length = 128 ∧
    (offered .a full).reports.lostAB = false ∧ (offered .a grave).reports.lostAB = true ∧
    (offered .a ready.live).reports.hold = true ∧
    (offered .c (queue [report .c])).sent.getLast? = some (.reportNotice 2) ∧
    (offered .c ready.live).reports.armed = true := by decide +kernel

theorem test_witness_ReportAndQueryTelegrams :
    let s := after (.modeSet 9 1) ready
    let lost := s.onReports (fun q => { q with lostAB := true, lostC := true })
    sends (.reportFetch 9 0) s = [codeAnswer 9 21 .badForm] ∧
    sends (.reportFetch 9 255) s = [.answer 9 21 .done (some 1) (.reports s.live.reports.reports)] ∧
    (after (.reportFetch 9 255) s).live.reports.reports = [] ∧ after (.statusRead 9) s = s.sending
      (.answer 9 15 .done none (.status s.statusData)) ∧
    sends (.statusClear 9 4) lost = [codeAnswer 9 22 .badForm] ∧
    (after (.statusClear 9 1) lost).live.reports.lostAB = false ∧
    (after (.statusClear 9 1) lost).live.reports.lostC = true ∧
    (after (.statusClear 9 3) lost).live.reports.lostC = false := by decide +kernel

theorem test_witness_ReportAndQueryTelegrams_records :
    sends (.alarmAck 9 4) ready = [codeAnswer 9 23 .ignored] ∧ sends (.alarmAck 9 3) held = [detailAnswer 9 23 .stale 4] ∧
    sends (.alarmAck 9 4) (held.onReports (fun q => { q with latestA := none })) = [codeAnswer 9 23 .stale] ∧
    sends (.alarmAck 9 4) held = [codeAnswer 9 23 .done] ∧ (after (.alarmAck 9 4) held).live.reports.hold = false ∧
    sends (.query 9 3 0 0) ready = [codeAnswer 9 24 .badForm] ∧ sends (.query 9 1 9 0) ready = [codeAnswer 9 24 .unknown] ∧
    sends (.query 9 7 0 0) ready = [.answer 9 24 .done none (.possession none)] ∧
    sends (.query 9 7 8 0) ready = [codeAnswer 9 24 .unknown] ∧
    sends (.query 9 4 31 0) ready = [.answer 9 24 .done none (.slot 0 31 none [])] ∧
    sends (.query 9 4 32 0) ready = [codeAnswer 9 24 .unknown] ∧
    sends (.query 9 8 6 0) ready = [codeAnswer 9 24 .unknown] := by decide +kernel

/-- R180: the pair held for head 5 is returned by its export number 7, and one held for head 4, which is not exported, is not. -/
theorem test_witness_ReportAndQueryTelegrams_exports :
    let paired := withLink (fun k => { k with exported := [(4, 1, 2), (5, 250, 10)] }) ready
    (Map.find 1 paired.live.links).map (Live.exportsOf site 1) = some [(7, 250, 10)] ∧
    site.exportTarget 5 = some (1, 7) ∧ site.exportTarget 4 = none := by decide +kernel

theorem test_witness_StepInvariants :
    let s := { clearing with pending := [.status 104 (.counts 252 10)] }
    lawful s = true ∧ s.live.claims.length = 1 ∧
    (match step s with
      | .next t => lawful t && decide (t.live.sent ≠ s.live.sent)
      | _ => false) = true := by decide +kernel

theorem test_witness_PossessionsApart :
    let taken := after (.possessionTake 9 7 [4]) ready
    let s := { taken with pending := [.possessionTake 8 0 [1, 2]] }
    lawful s = true ∧ (match step s with
      | .next t => lawful t && decide (t.possessions = [(0, [1, 2]), (7, [4])])
      | _ => false) = true := by decide +kernel

/-- R55, R56, R79, R87: an order for a point waits, and a call locks the point and turns its order. -/
theorem test_witness_OrdersLawful :
    let moving := after (.elementOrder 9 1 2) ready
    let s := { moving with pending := [.routeCall 9 0 2 60] }
    lawful s = true ∧ (match step s with
      | .next t => lawful t && decide (t.live.queue.map (fun x => x.order) = [.position .normal, .aspect .caution]) &&
        decide ((t.live.point 1).bind (fun r => r.routeLock) = some (0, .normal))
      | _ => false) = true := by decide +kernel

theorem test_witness_TelegramsReadBack :
    let i : Instr := .routeCall 9 383 31 120
    i.wf = true ∧ (telegramOf i).map (fun x => readTelegram x.1 x.2) = some (some i) := by decide +kernel

/-- R183: the entry of point 1 written out, and a content with an octet too many. -/
theorem test_witness_TelegramsReadBack_entries :
    let x : Staged := .element { location := .field 101, supervision := 20, body := .point 2 5 3 }
    let y : Staged := .route route0
    x.fits = true ∧ x.octets = [1, 1, 0, 101, 20, 2, 5, 3] ∧ readEntry 1 [1, 1, 0, 101, 20, 2, 5, 3] = some x ∧
    readEntry 1 [1, 1, 0, 101, 20, 2, 5, 3, 0] = none ∧ y.fits = true ∧ readEntry 3 y.octets = some y ∧
    (Staged.element { location := .field 65536, supervision := 20, body := .signal 4 }).fits = false := by decide +kernel

/-- R181 to R183, R134: an ORDER and a PRESENCE, written out octet by octet before their check. -/
theorem test_witness_SentTelegramsLaidOut :
    let line : PresenceOut := { number := 1, owner := .us, askOutstanding := true, lineClear := false, shared := some .sweep }
    (Sent.order 4095 (.aspect .danger)).octets.take 7 = [40, 0, 4, 15, 255, 2, 1] ∧
    readFrame (Sent.order 4095 (.aspect .danger)).octets = some (40, 0, [15, 255, 2, 1]) ∧
    (Sent.presence 1 77 6 [line]).parts.2.2 = [0, 0, 0, 77, 0, 6, 1, 1, 1, 1, 4] ∧
    (Sent.counts 1 [⟨7, 250, 10⟩]).parts.2.2 = [1, 7, 250, 10] ∧
    (Sent.directionReply 1 2 255 false).parts.2.2 = [2, 255, 2] ∧ [line].length ≤ 58 ∧ line.number ≤ 255 ∧ causeOctet [.step, .disagree] = 36 := by decide +kernel

/-! ## Witnesses: claims that follow their elements, and what a slot keeps -/

/-- R70, R103, R106: point 7 is claimed by slot 0 for NORMAL and is a flank candidate of a waiting request. -/
def claimed (n : Nat) (required : Required) (proven : Bool) (s : State) : State :=
  { s with live := { s.live with
      waiting := [{ route := 0, fleet := 0, expiry := 600, tag := 5 }]
      claims := [{ element := n, required := required, slot := 0, serves := [(1, 0)], proven := proven }] } }

theorem test_witness_PointStatus_handsOn :
    let lost := claimed 7 (.position .normal) true ready
    let renewed := claimed 7 (.position .normal) false (withElement 7 (fun _ => .point PointRec.renewed) ready)
    let w := renewed.work.elementStatus renewed.env 7 (.position 1)
    let same := lost.work.elementStatus lost.env 7 (.position 1)
    let failed := withElement 7 (fun _ => .point { PointRec.renewed with supervised := true, moveFailed := true }) renewed
    let ordered := withElement 7 (fun _ => .point { PointRec.renewed with
      supervised := true, moveFailed := true, movement := some (.normal, 50) }) renewed
    site.atAddress 107 = some 7 ∧ w.todo = [.pointChanged 7, .claimChanged 0 7 true] ∧ w.places = [7] ∧ w.scan = true ∧
    w.live.claims.map (fun c => c.proven) = [true] ∧ same.todo = [] ∧ same.places = [] ∧ same.scan = false ∧
    (failed.work.elementStatus failed.env 7 (.position 2)).scan = false ∧
    (ordered.work.elementStatus ordered.env 7 (.position 1)).scan = true ∧
    (ready.work.elementStatus (withElement 7 (fun _ => .point PointRec.renewed) ready).env 7 (.position 1)).scan = false := by
  decide +kernel

theorem test_witness_SignalStatus_handsOn :
    let dark := withElement 3 (fun _ => .signal SignalRec.renewed) ready
    let s := claimed 3 .danger false dark
    let w := s.work.elementStatus s.env 3 (.aspect 1)
    let lit := claimed 3 .danger true ready
    let flank := { s with store := { s.store with active := { site with
      routes := [(0, { route0 with flank := [{ index := 1, candidates := [{ element := 3, state := 3 }] }] })] } } }
    w.todo = [.aspectChanged 3, .claimChanged 0 3 true, .signalSupervised 3] ∧ w.scan = false ∧
    (flank.work.elementStatus flank.env 3 (.aspect 1)).scan = true ∧
    (lit.work.elementStatus lit.env 3 (.aspect 2)).todo = [.aspectChanged 3, .claimChanged 0 3 false] ∧
    (lit.work.elementStatus lit.env 3 (.aspect 1)).todo = [] := by decide +kernel

theorem test_witness_ElementTimersExpire_claims :
    let point := claimed 7 (.position .normal) true ready
    let signal := claimed 3 .danger true ready
    let moving : PointRec := { PointRec.renewed with supervised := true, evaluated := some .normal }
    (point.work.silence point.env 7).todo = [.pointChanged 7, .claimChanged 0 7 false] ∧
    (point.work.failMovement point.env 7 moving .reverse).todo = [.pointChanged 7, .claimChanged 0 7 false] ∧
    (signal.work.silence signal.env 3).todo = [.aspectChanged 3, .claimChanged 0 3 false, .signalSupervised 3] ∧
    (signal.work.failProving signal.env 3 { SignalRec.renewed with proven := some .danger }).todo =
      [.provingEnded 3 false, .placeSignal 3, .aspectChanged 3, .claimChanged 0 3 false] := by decide +kernel

theorem test_witness_OrderKeepsItsPlace_signal :
    let s := claimed 3 .danger false (withElement 3 (fun _ => .signal { SignalRec.renewed with
      commanded := .caution, proven := some .danger }) ready)
    let w := s.work.orderSignal s.env 3 .danger
    s.work.orderSignal s.env 1 .danger = s.work ∧ w.todo = [.claimChanged 0 3 true] ∧
    (w.live.signal 3).map (fun g => (g.commanded, g.proving)) = some (.danger, some 40) ∧
    w.live.queue.map (fun x => (x.element, x.order)) = [(3, .aspect .danger)] := by decide +kernel

/-- R151, R106: the claim on signal 2 becomes proven by the gate's order, and the slot that it clears is replaced. -/
theorem test_witness_ElementOrderDecided_claims :
    let s := { cleared with live := { (withElement 2 (fun _ => .signal { SignalRec.renewed with
      commanded := .caution, proven := some .danger, entryOf := some 0 }) cleared).live with
        claims := [{ element := 2, required := .danger, slot := 1, serves := [(1, 0)], proven := false }] } }
    let w := s.work.gateDanger s.env 2 { SignalRec.renewed with entryOf := some 0 }
    w.todo = [.claimChanged 1 2 true] ∧ w.scan = true ∧ (w.live.slot 0).map (fun x => x.state) = some .replaced ∧
    w.live.sections = s.live.sections := by decide +kernel

theorem test_witness_CancelByWhereTheRouteStands_kept :
    let near := withSection 1 (fun r => { r with state := .occupied, balance := 2 }) cleared
    let t := after (.routeCancel 9 0) near
    (t.live.slot 0).map (fun x => x.state) = some .timedRelease ∧ t.live.holder 2 = some (0, .path) ∧
    t.live.holder 3 = some (0, .overlap) ∧ (t.live.point 1).map (fun r => r.routeLock) = some (some (0, .normal)) ∧
    (t.live.signal 2).map (fun g => g.entryOf) = some (some 0) ∧ t.live.claims.map (fun c => (c.element, c.slot)) = [(7, 0)] ∧
    (after (.routeCancel 9 0) cleared).live.claims = [] ∧
    told (after (.routeCancel 9 0) cleared).live = [(.routeReleased, 0, some 0)] := by decide +kernel

theorem test_witness_RestartMakesRoutesSafe_holds :
    let t := after (.restart 9) cleared
    let e := after (.restart 9) entered
    let past := withSlot 0 { slotIn .entered with marks := [true] }
      (withSection 2 (fun r => { r with state := .clear, balance := 0 }) entered)
    (Map.ids cleared.live.slots).Nodup ∧ t.live.holder 2 = some (0, .path) ∧
    (t.live.point 1).map (fun r => r.routeLock) = some (some (0, .normal)) ∧ t.live.claims.map (fun c => c.slot) = [0] ∧
    (t.live.signal 2).map (fun g => g.entryOf) = some (some 0) ∧ e.live.holder 2 = some (0, .path) ∧
    e.live.claims.map (fun c => c.slot) = [0] ∧ (after (.restart 9) past).live.holder 2 = none ∧
    (after (.restart 9) past).live.holder 3 = some (0, .overlap) ∧ (after (.restart 9) past).live.claims = [] := by
  decide +kernel

end Sys2Proof.Tests
end

section
/-! PROOFS. The counting of one telegram for one section (2.2 and 2.3): what a delta and a net change are, what the clamp adds
to a section, and the state that follows from the balance. -/

namespace Sys2Proof.Machine

/-! ### Causes -/

/-- Inserting a cause adds it to the set and nothing else (R18, R27). -/
@[simp] theorem mem_insertCause (c d : Cause) (cs : List Cause) : d ∈ insertCause c cs ↔ d = c ∨ d ∈ cs := by
  induction cs with
  | nil => simp [insertCause]
  | cons x xs ih =>
    simp only [insertCause]
    split_ifs with heq hlt
    · simp [heq]
    · simp
    · simp only [List.mem_cons, ih]
      exact or_left_comm

@[simp] theorem SectionRec.mem_causes_addCause (c d : Cause) (r : SectionRec) :
    d ∈ (r.addCause c).1.causes ↔ d = c ∨ d ∈ r.causes := mem_insertCause c d r.causes

/-- A cause is new to the set, and so to be reported, exactly when it was not in it (R27). -/
theorem SectionRec.addCause_reported (c : Cause) (r : SectionRec) :
    (r.addCause c).2 = if c ∈ r.causes then none else some c := by
  simp [SectionRec.addCause]

/-! ### Deltas and net changes -/

/-- The delta of two running counters is their difference modulo 256, also over a wrap (R21). -/
theorem delta_eq (new reference : Octet) : delta new reference = (new.toNat + 256 - reference.toNat) % 256 := by
  rw [delta, BitVec.toNat_sub]
  have href : reference.toNat < 256 := reference.isLt
  omega

theorem delta_le (new reference : Octet) : delta new reference ≤ 255 := Nat.le_of_lt_succ (new - reference).isLt

@[simp] theorem netChange_true (dA dB : Nat) : netChange true dA dB = (dA : Int) - dB := rfl
@[simp] theorem netChange_false (dA dB : Nat) : netChange false dA dB = (dB : Int) - dA := rfl

/-- The law of R23: two deltas of a telegram give a net change within −255 to +255. -/
theorem netChange_bounds {dA dB : Nat} (hA : dA ≤ 255) (hB : dB ≤ 255) (inA : Bool) :
    -255 ≤ netChange inA dA dB ∧ netChange inA dA dB ≤ 255 := by
  cases inA with
  | false => rw [netChange_false]; omega
  | true => rw [netChange_true]; omega

/-! ### The state that a balance gives without a clamp (R25) -/

/-- Settling writes the state and axle seen, and leaves every other field. -/
theorem SectionRec.settle_frame (net : Int) (r : SectionRec) :
    r.settle net = { r with state := (r.settle net).state, axleSeen := (r.settle net).axleSeen } := by
  unfold SectionRec.settle
  split
  · rfl
  · rfl
  · rfl
  · split <;> rfl

@[simp] theorem SectionRec.settle_balance (net : Int) (r : SectionRec) : (r.settle net).balance = r.balance := by
  rw [SectionRec.settle_frame]

@[simp] theorem SectionRec.settle_causes (net : Int) (r : SectionRec) : (r.settle net).causes = r.causes := by
  rw [SectionRec.settle_frame]

/-- A CLEAR or OCCUPIED section takes its state from the balance alone. -/
theorem SectionRec.settle_counted (net : Int) {r : SectionRec} (h : r.state = .clear ∨ r.state = .occupied) :
    r.settle net = { r with state := if r.balance = 0 then .clear else .occupied } := by
  obtain hs | hs := h <;> rw [SectionRec.settle, hs]

/-- A DISTURBED section does not leave DISTURBED by counting. -/
theorem SectionRec.settle_disturbed (net : Int) {r : SectionRec} (h : r.state = .disturbed) : r.settle net = r := by
  rw [SectionRec.settle, h]

theorem SectionRec.settle_sweep (net : Int) {r : SectionRec} (h : r.state = .sweep) :
    r.settle net = if (r.axleSeen || 0 < net) = true ∧ r.balance = 0 then { r with state := .clear, axleSeen := false }
      else { r with axleSeen := r.axleSeen || 0 < net } := by
  rw [SectionRec.settle, h]
  simp

/-! ### Counting a net change (R24) -/

theorem SectionRec.applyNet_within {net : Int} {r : SectionRec} (h0 : 0 ≤ (r.balance : Int) + net)
    (h1 : (r.balance : Int) + net ≤ 1023) :
    r.applyNet net = (SectionRec.settle net { r with balance := ((r.balance : Int) + net).toNat }, none) := by
  rw [SectionRec.applyNet, if_neg (by omega), if_neg (by rw [Config.maxBalance]; omega)]

theorem SectionRec.applyNet_underflow {net : Int} {r : SectionRec} (h : (r.balance : Int) + net < 0) :
    r.applyNet net = SectionRec.addCause .underflow { r with balance := 0 } := by
  rw [SectionRec.applyNet, if_pos h]

theorem SectionRec.applyNet_saturated {net : Int} {r : SectionRec} (h : 1023 < (r.balance : Int) + net) :
    r.applyNet net = SectionRec.addCause .saturated { r with balance := 1023 } := by
  rw [SectionRec.applyNet, if_neg (by omega), if_pos (by rw [Config.maxBalance]; omega), Config.maxBalance]

/-- Both clamps in one form: the balance stays at the end of its range that the count passed, and the clamp's cause is
added. -/
theorem SectionRec.applyNet_clamped {net : Int} {r : SectionRec}
    (h : (r.balance : Int) + net < 0 ∨ 1023 < (r.balance : Int) + net) :
    r.applyNet net = SectionRec.addCause (if (r.balance : Int) + net < 0 then .underflow else .saturated)
      { r with balance := if (r.balance : Int) + net < 0 then 0 else 1023 } := by
  by_cases hlow : (r.balance : Int) + net < 0
  · rw [SectionRec.applyNet_underflow hlow, if_pos hlow, if_pos hlow]
  · rw [SectionRec.applyNet_saturated (h.resolve_left hlow), if_neg hlow, if_neg hlow]

/-- Without a clamp a CLEAR or OCCUPIED section keeps axle seen, and is CLEAR at balance 0 and OCCUPIED above it (R25). -/
theorem SectionRec.applyNet_counted {net : Int} {r : SectionRec} (h0 : 0 ≤ (r.balance : Int) + net)
    (h1 : (r.balance : Int) + net ≤ 1023) (hs : r.state = .clear ∨ r.state = .occupied) :
    (r.applyNet net).1.axleSeen = r.axleSeen ∧
    ((r.balance : Int) + net = 0 → (r.applyNet net).1.state = .clear) ∧
    (0 < (r.balance : Int) + net → (r.applyNet net).1.state = .occupied) := by
  rw [SectionRec.applyNet_within h0 h1, SectionRec.settle_counted (h := ?state)]
  case state => exact hs
  refine ⟨rfl, fun hzero => if_pos ?_, fun hpos => if_neg ?_⟩
  · exact Int.toNat_eq_zero.2 hzero.le
  · exact fun hzero => hpos.not_ge (Int.toNat_eq_zero.1 hzero)

/-- Counting does not take a section out of DISTURBED, whatever its balance becomes (R25). -/
theorem SectionRec.applyNet_disturbed {net : Int} {r : SectionRec} (h0 : 0 ≤ (r.balance : Int) + net)
    (h1 : (r.balance : Int) + net ≤ 1023) (hs : r.state = .disturbed) :
    (r.applyNet net).1.state = .disturbed ∧ (r.applyNet net).1.axleSeen = r.axleSeen := by
  rw [SectionRec.applyNet_within h0 h1, SectionRec.settle_disturbed (h := ?state)]
  case state => exact hs
  exact ⟨hs, rfl⟩

/-- A positive net change cannot leave a balance of 0, so the telegram that sets axle seen never makes a section in SWEEP
CLEAR (R25): axle seen before the telegram decides. -/
theorem SectionRec.applyNet_sweep {net : Int} {r : SectionRec} (h0 : 0 ≤ (r.balance : Int) + net)
    (h1 : (r.balance : Int) + net ≤ 1023) (hs : r.state = .sweep) :
    (r.axleSeen = true → (r.balance : Int) + net = 0 →
      (r.applyNet net).1.state = .clear ∧ (r.applyNet net).1.axleSeen = false) ∧
    (¬ (r.axleSeen = true ∧ (r.balance : Int) + net = 0) →
      (r.applyNet net).1.state = .sweep ∧ (r.applyNet net).1.axleSeen = (r.axleSeen || 0 < net)) := by
  have hzero : ((r.balance : Int) + net).toNat = 0 ↔ (r.balance : Int) + net = 0 := by omega
  have hseen : ((r.axleSeen || 0 < net) = true ∧ ((r.balance : Int) + net).toNat = 0) ↔
      (r.axleSeen = true ∧ (r.balance : Int) + net = 0) := by
    have hpos : 0 < net → (r.balance : Int) + net ≠ 0 := by omega
    simp only [hzero, Bool.or_eq_true, decide_eq_true_eq]
    tauto
  rw [SectionRec.applyNet_within h0 h1, SectionRec.settle_sweep (h := ?state)]
  case state => exact hs
  constructor
  · intro hax ht
    rw [if_pos (hseen.2 ⟨hax, ht⟩)]
    exact ⟨rfl, rfl⟩
  · intro hnot
    rw [if_neg (hseen.not.2 hnot)]
    exact ⟨hs, rfl⟩

/-- Settles O28: a count within the balance range is settled by the state before, and one outside it is clamped. -/
theorem netChangeSetsTheState : Obligations.NetChangeSetsTheState := by
  refine ⟨fun new reference => ⟨delta_eq new reference, delta_le new reference⟩,
    fun dA dB => ⟨netChange_true dA dB, netChange_false dA dB, netChange_bounds⟩, ?_⟩
  intro net r t after
  constructor
  · intro h0 h1
    have hwithin := SectionRec.applyNet_within h0 h1
    refine ⟨?balance, ?causes, ?new, SectionRec.applyNet_counted h0 h1, SectionRec.applyNet_disturbed h0 h1,
      SectionRec.applyNet_sweep h0 h1⟩
    case balance =>
      simp only [after, hwithin, SectionRec.settle_balance]
      exact Int.toNat_of_nonneg h0
    case causes => simp only [after, hwithin, SectionRec.settle_causes]
    case new => rw [hwithin]
  · intro hclamp cause
    have hclamped : r.applyNet net = SectionRec.addCause cause { r with balance := if t < 0 then 0 else 1023 } :=
      SectionRec.applyNet_clamped hclamp
    simp only [after, hclamped]
    exact ⟨rfl, fun c => SectionRec.mem_causes_addCause cause c _, SectionRec.addCause_reported cause _⟩

end Sys2Proof.Machine
end

section
/-! PROOFS. The ROUTE CALL (4.1): a call that passes checks 1 to 4 comes to checks 5 to 10, and one that fails a check from 8
on is refused for its patience, refused for a full list, or put at the end of the waiting list. -/

namespace Sys2Proof.Machine

/-! ### The operands as taken (R62) -/

/-- The longest patience is not 0, so only a patience of 0 is taken as none. -/
theorem patienceTaken_eq_zero (patience : Nat) : patienceTaken patience = 0 ↔ patience = 0 := by
  rw [patienceTaken]
  omega

/-! ### From the command to checks 5 to 10 (R63) -/

/-- With power and past START a ROUTE CALL is decided by its own rule. -/
theorem exec_routeCall (tag route fleet patience : Nat) {s : State} (h : s.Running) :
    exec (.routeCall tag route fleet patience) s = .next ((routeCall tag route fleet patience s).outcome tag 1) :=
  control_running tag 1 none _ s h

/-- Checks 1 to 4 pass: the mode is one of traffic, no alarm hold stands, the route is in the table, and it is neither in a
slot nor on the waiting list. -/
theorem routeCall_calls (tag fleet patience : Nat) {route : Nat} {r : RouteEntry} {s : State}
    (hmode : s.mode.inTraffic = true) (hhold : s.live.reports.hold = false)
    (hroute : Map.find route s.store.active.routes = some r) (hslot : s.live.slotOf route = none)
    (hrequest : s.live.requestOf route = none) :
    routeCall tag route fleet patience s = s.calls r route (r.fleetTaken fleet) (patienceTaken patience) tag := by
  simp [routeCall, hmode, hhold, hroute, hslot, hrequest]

/-- A call that fails a check after the seventh may wait (R64, R68). -/
theorem State.calls_awaits {s : State} {r : RouteEntry} {check : Nat} (route fleet patience tag : Nat)
    (hcheck : s.live.checkCall s.store.active r = .fails check) (hlate : 7 < check) :
    s.calls r route fleet patience tag = s.awaits check route fleet patience tag := by
  simp only [State.calls, hcheck, if_neg hlate.not_ge]

/-- The codes of the three checks that a call may wait on (R63). -/
theorem checkCode_late {check : Nat} (hlate : 8 ≤ check) (hlast : check ≤ 10) :
    checkCode check = if check = 8 then .conflict else if check = 9 then .flankFull else .noSlot := by
  interval_cases check <;> rfl

/-! ### Waiting or refused (R68, R69) -/

theorem State.awaits_impatient (s : State) (check route fleet tag : Nat) :
    s.awaits check route fleet 0 tag = s.refuses (.plain (checkCode check)) := if_pos rfl

theorem State.awaits_full {s : State} {patience : Nat} (check route fleet tag : Nat) (hpatience : patience ≠ 0)
    (hfull : 16 ≤ s.live.waiting.length) :
    s.awaits check route fleet patience tag = s.refuses (.plain .queueFull) := by
  rw [State.awaits, if_neg hpatience, if_pos (by rwa [Config.waitingPlaces])]

theorem State.awaits_queued {s : State} {patience : Nat} (check route fleet tag : Nat) (hpatience : patience ≠ 0)
    (hplace : ¬ 16 ≤ s.live.waiting.length) :
    s.awaits check route fleet patience tag = State.answers
      { s with live := { s.live with waiting := s.live.waiting ++
        [{ route := route, fleet := fleet, expiry := s.clock + patience * 10, tag := tag }] } }
      (.with .queued check) := by
  rw [State.awaits, if_neg hpatience, if_neg (by rwa [Config.waitingPlaces])]

/-- Settles O8: such a call passes checks 1 to 4, so that its patience and the places on the list alone decide it. -/
theorem callWaitsOrIsRefused : Obligations.CallWaitsOrIsRefused := by
  intro tag route fleet patience k r s hrunning hmode hhold hroute hslot hrequest hcheck hlate hlast fleetTaken request
  have hcall : exec (.routeCall tag route fleet patience) s =
      .next ((s.awaits k route (r.fleetTaken fleet) (patienceTaken patience) tag).outcome tag 1) := by
    rw [exec_routeCall tag route fleet patience hrunning,
      routeCall_calls tag fleet patience hmode hhold hroute hslot hrequest,
      State.calls_awaits (hcheck := hcheck) (hlate := hlate)]
  rw [hcall]
  by_cases hpatience : patience = 0
  · have htaken := (patienceTaken_eq_zero patience).2 hpatience
    rw [if_pos hpatience, htaken, State.awaits_impatient, checkCode_late hlate hlast]
    rfl
  · have htaken := (patienceTaken_eq_zero patience).not.2 hpatience
    rw [if_neg hpatience]
    by_cases hfull : 16 ≤ s.live.waiting.length
    · rw [if_pos hfull, State.awaits_full (hpatience := htaken) (hfull := hfull)]
      rfl
    · rw [if_neg hfull, State.awaits_queued (hpatience := htaken) (hplace := hfull)]
      rfl

end Sys2Proof.Machine
end

section
/-! PROOFS. The conditions of obtainability (R99): what each test of the Flank Allocator's search says of the records. -/

namespace Sys2Proof.Machine

/-! ### The tests on a point -/

/-- No route lock for the other position: one that stands requires this position (R99, condition 4). -/
theorem PointRec.lockedAgainst_eq_false (r : PointRec) (p : Position) :
    r.lockedAgainst p = false ↔ ∀ slot q, r.routeLock = some (slot, q) → q = p := by
  unfold PointRec.lockedAgainst
  split
  next slot q hlock => simp [hlock]
  next hfree => simp [hfree]

/-- No claim record for the other position: every one on the point requires this position (R99, condition 4). -/
theorem Live.claimedAgainst_eq_false (l : Live) (n : Nat) (p : Position) :
    l.claimedAgainst n p = false ↔ ∀ c ∈ l.claims, c.element = n → c.required = .position p := by
  simp [Live.claimedAgainst]

/-- A choice made earlier in the search requires the point in a position other than p: such a choice counts as a claim
(R100). -/
def chosenAgainst (chosen : List Choice) (n : Nat) (p : Position) : Bool :=
  chosen.any (fun c => c.element == n && c.required != .position p)

theorem chosenAgainst_eq_false (chosen : List Choice) (n : Nat) (p : Position) :
    chosenAgainst chosen n p = false ↔ ∀ c ∈ chosen, c.element = n → c.required = .position p := by
  simp [chosenAgainst]

/-- The point section has no possession number, and a point without a section has none to ask (R99, condition 3). -/
theorem Live.pointPossession_isNone (t : Tables) (l : Live) (n : Nat) :
    ((t.pointSection n).bind l.possessionOf).isNone = true ↔
      ∀ sec, t.pointSection n = some sec → l.possessionOf sec = none := by
  rw [Option.isNone_iff_eq_none, Option.bind_eq_none_iff]

/-! ### The test on a signal -/

/-- The signal is the entry signal of no slot in one of the states (R99, condition 5). -/
theorem Live.entryIn_eq_false (t : Tables) (states : List SlotState) (g : Nat) (l : Live) :
    l.entryIn t states g = false ↔ ∀ x ∈ l.slots, t.entryOf x.2 = some g → x.2.state ∉ states := by
  rw [Live.entryIn, List.any_eq_false]
  refine forall₂_congr fun x _ => ?_
  rw [Bool.and_eq_true, not_and', beq_iff_eq, List.contains_iff_mem]

/-! ### The tests together -/

/-- A point is tested for a position by conditions 1 to 4, condition 4 for the lock, the pool and the choices in turn. -/
theorem Live.obtainable_point {n : Nat} {r : PointRec} {l : Live} (t : Tables) (chosen : List Choice) (p : Position)
    (hpoint : Map.find n l.elements = some (.point r)) :
    l.obtainable t chosen n (.position p) =
      (r.supervised && !r.moveFailed && ((t.pointSection n).bind l.possessionOf).isNone &&
        !r.lockedAgainst p && !l.claimedAgainst n p &&
        !chosenAgainst chosen n p) := by
  simp only [Live.obtainable, hpoint, chosenAgainst]

/-- A signal is tested for DANGER by conditions 1 and 5. -/
theorem Live.obtainable_signal {n : Nat} {r : SignalRec} {l : Live} (t : Tables) (chosen : List Choice)
    (hsignal : Map.find n l.elements = some (.signal r)) :
    l.obtainable t chosen n .danger = (r.supervised && !l.entryIn t [.clearing, .clear, .entered] n) := by
  simp only [Live.obtainable, hsignal]

/-- Settles O7: each test of the search is one condition of R99, and the tests are taken together. -/
theorem obtainableElement : Obligations.ObtainableElement := by
  intro t chosen l n
  constructor
  · intro p r hpoint
    rw [Live.obtainable_point (hpoint := hpoint)]
    simp only [Bool.and_eq_true, Bool.not_eq_true', and_assoc, Live.pointPossession_isNone,
      PointRec.lockedAgainst_eq_false, Live.claimedAgainst_eq_false, chosenAgainst_eq_false]
  · intro r hsignal
    rw [Live.obtainable_signal (hsignal := hsignal)]
    simp only [Bool.and_eq_true, Bool.not_eq_true', Live.entryIn_eq_false, List.mem_cons, List.not_mem_nil, or_false,
      not_or, ne_eq]

end Sys2Proof.Machine
end

section
/-! PROOFS. What the operations on orders, locks and slots leave of an element's record, read by its id: an order touches the
pending order and a movement, a lock touches the lock, and what the element shows stays. -/

namespace Sys2Proof.Machine

/-! ### Parts of an element's record -/

/-- An element's record without the order it may hold as pending (R55). -/
def ElementRec.bare (r : ElementRec) : ElementRec := r.withPending none

/-- The route lock of a point's record (R42). -/
def ElementRec.routeLock : ElementRec → Option (Nat × Position)
  | .point r => r.routeLock
  | _ => none

/-- The entry-of-slot of a signal's record (R43). -/
def ElementRec.entryOf : ElementRec → Option Nat
  | .signal r => r.entryOf
  | _ => none

/-- The commanded aspect of a signal's record (R43). -/
def ElementRec.commanded : ElementRec → Option Aspect
  | .signal r => some r.commanded
  | _ => none

/-- What an element's record shows of a required state (R106). -/
def ElementRec.shows : ElementRec → Required → Bool
  | .point r, .position p => r.evaluated == some p
  | .signal r, .danger => r.proven == some .danger && r.commanded == .danger
  | _, _ => false

@[simp] theorem ElementRec.withPending_bare (o : Option Order) (r : ElementRec) : (r.withPending o).bare = r.bare := by
  cases r <;> rfl
@[simp] theorem ElementRec.reported_bare (r : ElementRec) : r.bare.reported = r.reported := by cases r <;> rfl
@[simp] theorem ElementRec.routeLock_bare (r : ElementRec) : r.bare.routeLock = r.routeLock := by cases r <;> rfl
@[simp] theorem ElementRec.entryOf_bare (r : ElementRec) : r.bare.entryOf = r.entryOf := by cases r <;> rfl
@[simp] theorem ElementRec.commanded_bare (r : ElementRec) : r.bare.commanded = r.commanded := by cases r <;> rfl
@[simp] theorem ElementRec.reported_withPending (o : Option Order) (r : ElementRec) :
    (r.withPending o).reported = r.reported := by cases r <;> rfl

/-- What a record shows is read from what statuses wrote and from the commanded aspect. -/
theorem ElementRec.shows_congr {a b : ElementRec} (hr : a.reported = b.reported) (hc : a.commanded = b.commanded)
    (q : Required) : a.shows q = b.shows q := by
  cases a <;> cases b <;> cases q <;>
    simp_all [ElementRec.reported, ElementRec.commanded, ElementRec.shows]

theorem Live.shows_eq (l : Live) (n : Nat) (q : Required) :
    l.shows n q = ((Map.find n l.elements).map (fun r => r.shows q)).getD false := by
  unfold Live.shows
  cases Map.find n l.elements with
  | none => rfl
  | some r => cases r <;> cases q <;> rfl

/-! ### Records of two moments -/

/-- At every id the elements have the same part f of their records in two moments. -/
def Live.SamePart {α : Type} (f : ElementRec → α) (a b : Live) : Prop :=
  ∀ n, (Map.find n b.elements).map f = (Map.find n a.elements).map f

theorem Live.SamePart.refl {α : Type} (f : ElementRec → α) (a : Live) : Live.SamePart f a a := fun _ => rfl

theorem Live.SamePart.trans {α : Type} {f : ElementRec → α} {a b c : Live} (h : Live.SamePart f a b)
    (k : Live.SamePart f b c) : Live.SamePart f a c := fun n => (k n).trans (h n)

/-- A part of a part is the same where the part is. -/
theorem Live.SamePart.comp {α β : Type} {f : ElementRec → α} (g : ElementRec → β) (k : α → β) (hk : ∀ r, k (f r) = g r)
    {a b : Live} (h : Live.SamePart f a b) : Live.SamePart g a b := fun n => by
  have := congrArg (Option.map k) (h n)
  simpa [Option.map_map, Function.comp_def, hk] using this

theorem Live.SamePart.reported {a b : Live} (h : Live.SamePart ElementRec.bare a b) :
    Live.SamePart ElementRec.reported a b := h.comp _ ElementRec.reported ElementRec.reported_bare
theorem Live.SamePart.routeLock {a b : Live} (h : Live.SamePart ElementRec.bare a b) :
    Live.SamePart ElementRec.routeLock a b := h.comp _ ElementRec.routeLock ElementRec.routeLock_bare
theorem Live.SamePart.entryOf {a b : Live} (h : Live.SamePart ElementRec.bare a b) :
    Live.SamePart ElementRec.entryOf a b := h.comp _ ElementRec.entryOf ElementRec.entryOf_bare
theorem Live.SamePart.commanded {a b : Live} (h : Live.SamePart ElementRec.bare a b) :
    Live.SamePart ElementRec.commanded a b := h.comp _ ElementRec.commanded ElementRec.commanded_bare

/-- Where an element's record keeps what statuses wrote and its commanded aspect, it shows what it showed. -/
theorem Live.shows_at {a b : Live} {n : Nat}
    (h1 : (Map.find n b.elements).map ElementRec.reported = (Map.find n a.elements).map ElementRec.reported)
    (h2 : (Map.find n b.elements).map ElementRec.commanded = (Map.find n a.elements).map ElementRec.commanded)
    (q : Required) : b.shows n q = a.shows n q := by
  simp only [Live.shows_eq]
  cases ha : Map.find n a.elements <;> cases hb : Map.find n b.elements <;> simp only [ha, hb] at h1 h2 ⊢
  · simp at h1
  · simp at h1
  · simp only [Option.map_some, Option.some.injEq] at h1 h2
    simp [ElementRec.shows_congr h1 h2 q]

theorem Live.shows_same {a b : Live} (hr : Live.SamePart ElementRec.reported a b)
    (hc : Live.SamePart ElementRec.commanded a b) (n : Nat) (q : Required) : b.shows n q = a.shows n q :=
  Live.shows_at (hr n) (hc n) q

/-- A change made to each record under its id that keeps a part of it. -/
theorem Live.samePart_of_mapped {α : Type} {f : ElementRec → α} {a b : Live} (g : Nat → ElementRec → ElementRec)
    (hb : b.elements = a.elements.map (fun x => (x.1, g x.1 x.2))) (hg : ∀ n r, f (g n r) = f r) :
    Live.SamePart f a b := fun n => by
  rw [hb, Map.find_mapped g]
  cases Map.find n a.elements <;> simp [hg]

theorem Live.samePart_of_update {α : Type} {f : ElementRec → α} {a b : Live} (k : Nat) (g : ElementRec → ElementRec)
    (hb : b.elements = Map.update k g a.elements) (hg : ∀ r, f (g r) = f r) : Live.SamePart f a b := fun n => by
  rw [hb, Map.find_update]
  cases Map.find n a.elements with
  | none => rfl
  | some r => by_cases h : n = k <;> simp [h, hg]

theorem Live.samePart_of_elements {α : Type} {f : ElementRec → α} {a b : Live} (hb : b.elements = a.elements) :
    Live.SamePart f a b := fun n => by rw [hb]

/-- Writing a record keeps a part that the record before it had. -/
theorem Live.samePart_setElement {α : Type} {f : ElementRec → α} {n : Nat} {old new : ElementRec} {l : Live}
    (hold : Map.find n l.elements = some old) (hf : f new = f old) : Live.SamePart f l (l.setElement n new) := fun m => by
  by_cases h : m = n
  · subst h
    simp [hold, hf]
  · rw [Live.setElement_ne h]

/-! ### Orders -/

theorem Live.changeOrder_bare (n : Nat) (o : Order) (l : Live) : Live.SamePart ElementRec.bare l (l.changeOrder n o) := by
  refine Live.samePart_of_update n (fun r => if r.pendingOrder.isSome then r.withPending (some o) else r) rfl fun r => ?_
  split <;> simp

/-- Placing an order writes pending orders alone of the elements (R55). -/
theorem Live.placeOrder_bare (t : Tables) (n : Nat) (o : Order) (l : Live) :
    Live.SamePart ElementRec.bare l (l.placeOrder t n o) := by
  unfold Live.placeOrder
  split
  · exact Live.changeOrder_bare n o l
  · split
    · exact Live.samePart_of_update n (ElementRec.withPending (some o)) rfl (by simp)
    · exact Live.samePart_of_elements rfl

theorem Live.admitPending_bare (t : Tables) (l : Live) : Live.SamePart ElementRec.bare l (l.admitPending t) := by
  unfold Live.admitPending
  split
  · split
    · split
      · exact Live.samePart_of_update _ (ElementRec.withPending none) rfl (by simp)
      · exact .refl _ _
    · exact .refl _ _
  · exact .refl _ _

/-- A point order writes the point's movement, persistence and pending orders alone. -/
theorem Live.takePointOrder_part {α : Type} {f : ElementRec → α} (hbare : ∀ r : ElementRec, f r.bare = f r)
    (e : Env) {p : Nat} {q : Position} {r : PointRec} {l : Live} (hp : l.point p = some r)
    (hf : ∀ m k, f (.point { r with movement := m, persistence := k }) = f (.point r)) :
    Live.SamePart f l (l.takePointOrder e p q r) :=
  (Live.samePart_setElement (Live.point_some.1 hp) (hf _ _)).trans
    ((Live.placeOrder_bare _ _ _ _).comp f f hbare)

theorem Live.takePointOrder_reported (e : Env) {p : Nat} (q : Position) {r : PointRec} {l : Live}
    (hp : l.point p = some r) : Live.SamePart ElementRec.reported l (l.takePointOrder e p q r) :=
  Live.takePointOrder_part (fun _ => ElementRec.reported_bare _) e hp (fun _ _ => rfl)
theorem Live.takePointOrder_routeLock (e : Env) {p : Nat} (q : Position) {r : PointRec} {l : Live}
    (hp : l.point p = some r) : Live.SamePart ElementRec.routeLock l (l.takePointOrder e p q r) :=
  Live.takePointOrder_part (fun _ => ElementRec.routeLock_bare _) e hp (fun _ _ => rfl)
theorem Live.takePointOrder_entryOf (e : Env) {p : Nat} (q : Position) {r : PointRec} {l : Live}
    (hp : l.point p = some r) : Live.SamePart ElementRec.entryOf l (l.takePointOrder e p q r) :=
  Live.takePointOrder_part (fun _ => ElementRec.entryOf_bare _) e hp (fun _ _ => rfl)
theorem Live.takePointOrder_commanded (e : Env) {p : Nat} (q : Position) {r : PointRec} {l : Live}
    (hp : l.point p = some r) : Live.SamePart ElementRec.commanded l (l.takePointOrder e p q r) :=
  Live.takePointOrder_part (fun _ => ElementRec.commanded_bare _) e hp (fun _ _ => rfl)

/-- A signal order writes the signal's commanded aspect, proving and pending orders alone. -/
theorem Live.takeSignalOrder_part {α : Type} {f : ElementRec → α} (hbare : ∀ r : ElementRec, f r.bare = f r)
    (e : Env) {g : Nat} {a : Aspect} {r : SignalRec} {l : Live} (hg : l.signal g = some r)
    (hf : ∀ c k, f (.signal { r with commanded := c, proving := k }) = f (.signal r)) :
    Live.SamePart f l (l.takeSignalOrder e g a r) :=
  (Live.samePart_setElement (Live.signal_some.1 hg) (hf _ _)).trans
    ((Live.placeOrder_bare _ _ _ _).comp f f hbare)

theorem Live.takeSignalOrder_reported (e : Env) {g : Nat} (a : Aspect) {r : SignalRec} {l : Live}
    (hg : l.signal g = some r) : Live.SamePart ElementRec.reported l (l.takeSignalOrder e g a r) :=
  Live.takeSignalOrder_part (fun _ => ElementRec.reported_bare _) e hg (fun _ _ => rfl)
theorem Live.takeSignalOrder_routeLock (e : Env) {g : Nat} (a : Aspect) {r : SignalRec} {l : Live}
    (hg : l.signal g = some r) : Live.SamePart ElementRec.routeLock l (l.takeSignalOrder e g a r) :=
  Live.takeSignalOrder_part (fun _ => ElementRec.routeLock_bare _) e hg (fun _ _ => rfl)
theorem Live.takeSignalOrder_entryOf (e : Env) {g : Nat} (a : Aspect) {r : SignalRec} {l : Live}
    (hg : l.signal g = some r) : Live.SamePart ElementRec.entryOf l (l.takeSignalOrder e g a r) :=
  Live.takeSignalOrder_part (fun _ => ElementRec.entryOf_bare _) e hg (fun _ _ => rfl)

/-- The commanded aspects after a signal order. -/
theorem Live.takeSignalOrder_commanded (e : Env) {g : Nat} (a : Aspect) {r : SignalRec} {l : Live}
    (hg : l.signal g = some r) (n : Nat) :
    (Map.find n (l.takeSignalOrder e g a r).elements).map ElementRec.commanded =
      if n = g then some (some a) else (Map.find n l.elements).map ElementRec.commanded := by
  rw [show (Map.find n (l.takeSignalOrder e g a r).elements).map ElementRec.commanded = _ from
    (Live.placeOrder_bare _ _ _ _).commanded n]
  by_cases h : n = g
  · subst h
    simp [ElementRec.commanded]
  · rw [Live.setElement_ne h, if_neg h]

/-- Turning a waiting order round writes the point's movement and pending orders alone (R56). -/
theorem Live.redirect_part {α : Type} {f : ElementRec → α} (hbare : ∀ r : ElementRec, f r.bare = f r)
    (hf : ∀ (r : PointRec) m, f (.point { r with movement := m }) = f (.point r)) (e : Env) (p : Nat) (q : Position)
    (l : Live) : Live.SamePart f l (l.redirect e p q) := by
  have hc : Live.SamePart f l (l.changeOrder p (.position q)) := (Live.changeOrder_bare _ _ _).comp f f hbare
  unfold Live.redirect
  split
  · dsimp only
    split
    · next r hr => exact hc.trans (Live.samePart_setElement (Live.point_some.1 hr) (hf _ _))
    · exact hc
  · exact .refl _ _

/-- A point's route lock and the turning of its order write lock, movement and pending orders alone (R56, R79). -/
theorem Live.lockPoint_part {α : Type} {f : ElementRec → α} (hbare : ∀ r : ElementRec, f r.bare = f r)
    (hf : ∀ (r : PointRec) m k, f (.point { r with movement := m, routeLock := k }) = f (.point r)) (e : Env)
    (n p : Nat) (q : Position) (l : Live) : Live.SamePart f l (l.lockPoint e n p q) := by
  unfold Live.lockPoint
  split
  · exact .refl _ _
  · next r hr =>
    exact (Live.samePart_setElement (Live.point_some.1 hr) (hf r _ _)).trans
      (Live.redirect_part hbare (fun r m => hf r m _) e p q _)

/-- A fold of operations that each keep a part keeps it. -/
theorem Live.samePart_foldl {α β : Type} {f : ElementRec → α} (op : Live → β → Live)
    (h : ∀ l x, Live.SamePart f l (op l x)) (xs : List β) (l : Live) : Live.SamePart f l (xs.foldl op l) := by
  induction xs generalizing l with
  | nil => exact .refl _ _
  | cons x xs ih => exact (h l x).trans (ih _)

theorem Live.redirectClaims_part {α : Type} {f : ElementRec → α} (hbare : ∀ r : ElementRec, f r.bare = f r)
    (hf : ∀ (r : PointRec) m, f (.point { r with movement := m }) = f (.point r)) (e : Env) (cs : List Claim) (l : Live) :
    Live.SamePart f l (l.redirectClaims e cs) :=
  Live.samePart_foldl _ (fun l c => by
    split
    · exact Live.redirect_part hbare hf e _ _ l
    · exact .refl _ _) cs l

/-! ### Locks and entries taken away -/

/-- A record once the slot's route lock on it is removed. -/
def ElementRec.unlocked (n : Nat) (ps : List Nat) (p : Nat) : ElementRec → ElementRec
  | .point r => if ps.contains p && (r.routeLock.map (fun k => k.1)) == some n then .point { r with routeLock := none }
      else .point r
  | r => r

/-- A record once the slot is its entry-of-slot no more. -/
def ElementRec.left (n : Nat) : ElementRec → ElementRec
  | .signal r => if r.entryOf = some n then .signal { r with entryOf := none } else .signal r
  | r => r

theorem Live.unlockPoints_elements (n : Nat) (ps : List Nat) (l : Live) :
    (l.unlockPoints n ps).elements = l.elements.map (fun x => (x.1, x.2.unlocked n ps x.1)) := by
  unfold Live.unlockPoints
  refine List.map_congr_left ?_
  rintro ⟨p, r⟩ -
  cases r with
  | point r =>
    simp only [ElementRec.unlocked]
    split <;> rfl
  | signal r => rfl
  | head r => rfl

theorem Live.removeEntryOf_elements (n : Nat) (l : Live) :
    (l.removeEntryOf n).elements = l.elements.map (fun x => (x.1, x.2.left n)) := by
  unfold Live.removeEntryOf
  refine List.map_congr_left ?_
  rintro ⟨p, r⟩ -
  cases r with
  | signal r =>
    simp only [ElementRec.left]
    split <;> rfl
  | point r => rfl
  | head r => rfl

theorem Live.find_unlockPoints (n : Nat) (ps : List Nat) (l : Live) (p : Nat) :
    Map.find p (l.unlockPoints n ps).elements = (Map.find p l.elements).map (ElementRec.unlocked n ps p) := by
  rw [Live.unlockPoints_elements, Map.find_mapped (fun p r => ElementRec.unlocked n ps p r)]

theorem Live.find_removeEntryOf (n : Nat) (l : Live) (g : Nat) :
    Map.find g (l.removeEntryOf n).elements = (Map.find g l.elements).map (ElementRec.left n) := by
  rw [Live.removeEntryOf_elements, Map.find_mapped (fun _ r => ElementRec.left n r)]

theorem ElementRec.unlocked_reported (n : Nat) (ps : List Nat) (p : Nat) (r : ElementRec) :
    (r.unlocked n ps p).reported = r.reported := by
  cases r <;> simp only [ElementRec.unlocked]
  split <;> rfl
theorem ElementRec.unlocked_entryOf (n : Nat) (ps : List Nat) (p : Nat) (r : ElementRec) :
    (r.unlocked n ps p).entryOf = r.entryOf := by
  cases r <;> simp only [ElementRec.unlocked]
  split <;> rfl
theorem ElementRec.unlocked_commanded (n : Nat) (ps : List Nat) (p : Nat) (r : ElementRec) :
    (r.unlocked n ps p).commanded = r.commanded := by
  cases r <;> simp only [ElementRec.unlocked]
  split <;> rfl
theorem ElementRec.left_reported (n : Nat) (r : ElementRec) : (r.left n).reported = r.reported := by
  cases r <;> simp only [ElementRec.left]
  split <;> rfl
theorem ElementRec.left_routeLock (n : Nat) (r : ElementRec) : (r.left n).routeLock = r.routeLock := by
  cases r <;> simp only [ElementRec.left]
  split <;> rfl
theorem ElementRec.left_commanded (n : Nat) (r : ElementRec) : (r.left n).commanded = r.commanded := by
  cases r <;> simp only [ElementRec.left]
  split <;> rfl

/-- The elements of a state whose slot is emptied (R119). -/
theorem Live.emptySlot_find (t : Tables) (n : Nat) (l : Live) (m : Nat) :
    Map.find m (l.emptySlot t n).elements =
      (Map.find m l.elements).map (fun r => (r.unlocked n (l.lockedPoints n) m).left n) := by
  have h : (l.emptySlot t n).elements =
      (((l.unlockSections n (Map.ids l.sections)).unlockPoints n (l.lockedPoints n)).removeEntryOf n).elements := rfl
  rw [h, Live.find_removeEntryOf, Live.find_unlockPoints, Option.map_map]
  rfl

/-- The signal whose entry-of-slot is written (R79). -/
theorem Live.setEntryOf_part {α : Type} {f : ElementRec → α}
    (hf : ∀ (r : SignalRec) m, f (.signal { r with entryOf := m }) = f (.signal r)) (n g : Nat) (l : Live) :
    Live.SamePart f l (l.setEntryOf n g) := by
  unfold Live.setEntryOf
  split
  · exact .refl _ _
  · next r hr => exact Live.samePart_setElement (Live.signal_some.1 hr) (hf r _)

end Sys2Proof.Machine
end

section
/-! PROOFS. What a step's work can do to the records, said once: LiveStep lists the single changes, each with what is known
where it is made, and Evolves is a run of them. Every operation of the Route Engine, the Flank Allocator and the other
blocks is such a run; every law of the records is kept by each single change. -/

namespace Sys2Proof.Machine

/-! ### Single changes -/

/-- The slot's entry signal may stand off DANGER: the slot is in CLEARING or CLEAR (R87). -/
def Slot.clears (x : Slot) : Bool := x.state == .clearing || x.state == .clear

/-- The element, where it is a signal, is commanded DANGER. -/
def Live.atDanger (l : Live) (g : Nat) : Prop := ∀ r, l.signal g = some r → r.commanded = .danger

/-- What holds of the slots when the signals' rest at DANGER is followed (R79): slot numbers rise, and an entry-of-slot
names a slot of a route with that entry signal. -/
structure Live.Founded (t : Tables) (l : Live) : Prop where
  slotsRise : (Map.ids l.slots).Pairwise (· < ·)
  entries : ∀ g r n, l.signal g = some r → r.entryOf = some n → ∃ y, l.slot n = some y ∧ t.entryOf y = some g

/-- What a piece of work may do beyond the hand-overs: founded asks that the signals' rest be followed, takes lets routes
be taken into slots, measures lets telegrams be measured, and rests are the signals that are put to DANGER later. -/
structure Scope where
  founded : Prop
  takes : Prop
  measures : Prop
  rests : Nat → Prop

/-- A slot may leave CLEARING and CLEAR: its entry signal is commanded DANGER, or is put there later (R87). -/
def Live.MayRest (e : Env) (σ : Scope) (x : Slot) (l : Live) : Prop :=
  σ.founded → x.clears = true → ∀ g, e.tables.entryOf x = some g → σ.rests g ∨ l.atDanger g

/-- Two records of one element agree in all that orders, locks and slots write. -/
def ElementRec.alike : ElementRec → ElementRec → Prop
  | .point a, .point b => a.pendingOrder = b.pendingOrder ∧ a.routeLock = b.routeLock
  | .signal a, .signal b => a.pendingOrder = b.pendingOrder ∧ a.entryOf = b.entryOf ∧ a.commanded = b.commanded
  | .head _, .head _ => True
  | _, _ => False

/-- A section's record changes by counting: the lock holder and the possession number stay, and the law of R19 is kept. -/
structure SectionRec.Counted (old new : SectionRec) : Prop where
  lock : new.lock = old.lock
  possession : new.possession = old.possession
  lawful : old.lawful = true → new.lawful = true

/-- The links of two moments agree in our line-clear flags (R135). -/
def sameFlags (a b : Map LinkRec) : Prop :=
  ∀ k ∈ b, ∀ y ∈ k.2.lines, ∃ j ∈ a, j.1 = k.1 ∧ ∃ z ∈ j.2.lines, z.1 = y.1 ∧ z.2.lineClear = y.2.lineClear

/-- The links of two moments agree in what a neighbour's telegrams write (R130). -/
def sameAgreed (a b : Map LinkRec) : Prop := ∀ n, (Map.find n b).map LinkRec.agreed = (Map.find n a).map LinkRec.agreed

/-- The claims once those on an element are proved as the records say (R106). -/
def Live.claimsProved (n : Nat) (l : Live) : Live :=
  { l with claims := l.claims.map (fun c => if c.element = n then l.proved c else c) }

/-- A route is taken into a free slot: the slot's record, its locks and its claims (R67, R77 to R79, R101). -/
def Live.taking (e : Env) (route : Nat) (r : RouteEntry) (fleet n : Nat) (choices : List Choice) (l : Live) : Live :=
  let m := (l.setSlot n (newSlot e l route r fleet)).lockRoute e n r
  Live.redirectClaims e (claimsFor n choices) { m with claims := m.claims ++ (claimsFor n choices).map m.proved }

/-- One change of the records inside a step's work. -/
inductive LiveStep (e : Env) (σ : Scope) (l : Live) : Live → Prop
  | send (x : Sent) : LiveStep e σ l (l.send x)
  | offer (cls : ReportClass) (code : ReportCode) (kind : SubjectKind) (number : Nat) (detail : Option Nat) :
      LiveStep e σ l (l.offer e cls code kind number detail)
  | reports (q : ReportQueue) : q.reports.length ≤ l.reports.reports.length → LiveStep e σ l { l with reports := q }
  | choices (cs : List Nat) : LiveStep e σ l { l with choices := cs }
  | waiting (qs : List Request) : qs.length ≤ l.waiting.length → LiveStep e σ l { l with waiting := qs }
  | arm (a : Option Arm) : (∀ x, a = some x → l.inUse x.slot = true) → LiveStep e σ l { l with arm := a }
  | slot (n : Nat) (f : Slot → Slot) : (∀ x, (f x).route = x.route) →
      (∀ x, l.slot n = some x → (f x).clears = true ∨ l.MayRest e σ x) →
      LiveStep e σ l { l with slots := Map.update n f l.slots }
  | links (ls : Map LinkRec) : sameFlags l.links ls → σ.measures ∨ sameAgreed l.links ls →
      LiveStep e σ l { l with links := ls }
  | flags : LiveStep e σ l (l.formLineFlags e.tables)
  | orderPoint (p : Nat) (q : Position) (r : PointRec) : l.point p = some r → r.lockedAgainst q = false →
      l.claimedAgainst p q = false → LiveStep e σ l (l.takePointOrder e p q r)
  | orderSignal (g : Nat) (a : Aspect) (r : SignalRec) : l.signal g = some r →
      (a = .danger ∨ ∃ n x, l.slot n = some x ∧ x.clears = true ∧ e.tables.entryOf x = some g) →
      LiveStep e σ l ((l.takeSignalOrder e g a r).claimsProved g)
  | orderSent : LiveStep e σ l { l with queue := l.queue.tail }
  | admitted : LiveStep e σ l (l.admitPending e.tables)
  | empty (n : Nat) (x : Slot) : l.slot n = some x → l.MayRest e σ x → LiveStep e σ l (l.emptySlot e.tables n)
  | release (n : Nat) (secs ps : List Nat) :
      LiveStep e σ l (Live.formLineFlags e.tables ((l.unlockSections n secs).unlockPoints n ps))
  | entries (r : RouteEntry) (n : Nat) (is : List Nat) : LiveStep e σ l (l.removeEntries r n is)
  | taken (route : Nat) (r : RouteEntry) (fleet n : Nat) (choices : List Choice) : σ.takes →
      Map.find route e.tables.routes = some r → l.checkCall e.tables r = .passes n choices →
      LiveStep e σ l (l.taking e route r fleet n choices)
  | counted (n : Nat) (old new : SectionRec) : σ.measures → l.sectionAt n = some old → old.Counted new →
      new.state = old.state → LiveStep e σ l (l.setSection n new)
  | sectionChanged (n : Nat) (old new : SectionRec) : σ.measures → l.sectionAt n = some old → old.Counted new →
      LiveStep e σ l ((l.setSection n new).formLineFlags e.tables)
  | agree (secs : List Nat) : σ.measures → LiveStep e σ l (l.agreeShared secs)
  | element (n : Nat) (old new : ElementRec) : σ.measures → Map.find n l.elements = some old → old.alike new →
      (∀ q, new.shows q = old.shows q) → LiveStep e σ l (l.setElement n new)
  | shown (n : Nat) (old new : ElementRec) : σ.measures → Map.find n l.elements = some old → old.alike new →
      LiveStep e σ l ((l.setElement n new).claimsProved n)

/-! ### What is founded stays founded -/

theorem Live.slot_congr {a b : Live} (h : b.slots = a.slots) (n : Nat) : b.slot n = a.slot n := by
  simp [Live.slot, h]

/-- The entry-of-slot of an element, as its record has it. -/
theorem Live.signal_entryOf {l : Live} {g : Nat} {r : SignalRec} (h : l.signal g = some r) :
    (Map.find g l.elements).bind ElementRec.entryOf = r.entryOf := by
  rw [Live.signal_some.1 h]
  rfl

theorem Live.signal_of_entryOf {l : Live} {g n : Nat} (h : (Map.find g l.elements).bind ElementRec.entryOf = some n) :
    ∃ r, l.signal g = some r ∧ r.entryOf = some n := by
  cases hf : Map.find g l.elements with
  | none => simp [hf] at h
  | some r =>
    cases r with
    | signal r => exact ⟨r, Live.signal_some.2 hf, by simpa [hf, ElementRec.entryOf] using h⟩
    | point r => simp [hf, ElementRec.entryOf] at h
    | head r => simp [hf, ElementRec.entryOf] at h

/-- The entries of slots, read from the records of elements. -/
theorem Live.Founded.of_entryOf {t : Tables} {l : Live} (hs : (Map.ids l.slots).Pairwise (· < ·))
    (h : ∀ g n, (Map.find g l.elements).bind ElementRec.entryOf = some n → ∃ y, l.slot n = some y ∧ t.entryOf y = some g) :
    l.Founded t :=
  ⟨hs, fun g r n hg hn => h g n (by rw [Live.signal_entryOf hg, hn])⟩

theorem Live.Founded.entryOf {t : Tables} {l : Live} (h : l.Founded t) {g n : Nat}
    (hg : (Map.find g l.elements).bind ElementRec.entryOf = some n) : ∃ y, l.slot n = some y ∧ t.entryOf y = some g := by
  obtain ⟨r, hr, hn⟩ := Live.signal_of_entryOf hg
  exact h.entries g r n hr hn

theorem Live.SamePart.bind_entryOf {a b : Live} (h : Live.SamePart ElementRec.entryOf a b) (g : Nat) :
    (Map.find g b.elements).bind ElementRec.entryOf = (Map.find g a.elements).bind ElementRec.entryOf := by
  have := h g
  cases ha : Map.find g a.elements <;> cases hb : Map.find g b.elements <;> simp_all

/-- Where slots and entries of slots are as they were. -/
theorem Live.Founded.same {t : Tables} {a b : Live} (h : a.Founded t) (hs : b.slots = a.slots)
    (he : Live.SamePart ElementRec.entryOf a b) : b.Founded t :=
  .of_entryOf (by rw [hs]; exact h.slotsRise) (fun g n hg => by
    rw [Live.slot_congr hs]
    exact h.entryOf (he.bind_entryOf g ▸ hg))

theorem Map.ids_update {α : Type} (k : Nat) (f : α → α) (m : Map α) : Map.ids (Map.update k f m) = Map.ids m := by
  simp only [Map.ids, Map.update, List.map_map]
  refine List.map_congr_left fun x _ => ?_
  dsimp only [Function.comp]
  split <;> rfl

theorem Map.ids_drop_sublist {α : Type} (k : Nat) (m : Map α) : (Map.ids (Map.drop k m)).Sublist (Map.ids m) :=
  (List.filter_sublist).map _

theorem Map.mem_of_find {α : Type} {k : Nat} {a : α} {m : Map α} (h : Map.find k m = some a) : (k, a) ∈ m := by
  induction m with
  | nil => simp at h
  | cons x m ih =>
    obtain ⟨n, b⟩ := x
    rw [Map.find_cons] at h
    split at h
    · next hn =>
      subst hn
      simp_all
    · exact List.mem_cons_of_mem _ (ih h)

/-- Where ids rise, every record listed is found. -/
theorem Map.find_of_mem {α : Type} {k : Nat} {a : α} {m : Map α} (hm : (Map.ids m).Nodup) (h : (k, a) ∈ m) :
    Map.find k m = some a := by
  induction m with
  | nil => simp at h
  | cons x m ih =>
    obtain ⟨n, b⟩ := x
    simp only [Map.ids, List.map_cons, List.nodup_cons] at hm
    rw [Map.find_cons]
    rcases List.mem_cons.1 h with h | h
    · simp_all
    · split
      · next hn =>
        subst hn
        exact absurd (List.mem_map_of_mem (f := fun x => x.1) h) hm.1
      · exact ih hm.2 h

theorem Live.emptySlot_slots (t : Tables) (n : Nat) (l : Live) : (l.emptySlot t n).slots = Map.drop n l.slots := rfl

/-- A slot that is emptied is the entry-of-slot of no signal, and another keeps its signals (R119). -/
theorem Live.emptySlot_entryOf (t : Tables) (n : Nat) (l : Live) (g : Nat) :
    (Map.find g (l.emptySlot t n).elements).bind ElementRec.entryOf =
      ((Map.find g l.elements).bind ElementRec.entryOf).filter (fun m => m != n) := by
  rw [Live.emptySlot_find]
  cases Map.find g l.elements with
  | none => rfl
  | some r =>
    cases r with
    | signal r =>
      by_cases h : r.entryOf = some n
      · simp [ElementRec.unlocked, ElementRec.left, ElementRec.entryOf, h, Option.filter]
      · cases hr : r.entryOf <;> simp_all [ElementRec.unlocked, ElementRec.left, ElementRec.entryOf, Option.filter]
    | point r =>
      simp only [ElementRec.unlocked, Option.map_some, Option.bind_some]
      split <;> rfl
    | head r => rfl

theorem Live.Founded.empty {t : Tables} {l : Live} (h : l.Founded t) (n : Nat) : (l.emptySlot t n).Founded t := by
  refine .of_entryOf ?_ ?_
  · rw [Live.emptySlot_slots]
    exact h.slotsRise.sublist (Map.ids_drop_sublist n _)
  · intro g m hg
    rw [Live.emptySlot_entryOf, Option.filter_eq_some_iff] at hg
    obtain ⟨y, hy, he⟩ := h.entryOf hg.1
    refine ⟨y, ?_, he⟩
    rw [← hy, Live.slot, Live.emptySlot_slots]
    exact Map.find_drop_ne (by simpa using hg.2) _

/-! ### The parts of a taking -/

theorem Live.redirect_rest (e : Env) (p : Nat) (q : Position) (l : Live) :
    l.redirect e p q = { l with queue := (l.redirect e p q).queue, elements := (l.redirect e p q).elements } := by
  unfold Live.redirect Live.changeOrder
  split
  · dsimp only
    split <;> rfl
  · rfl

theorem Live.lockPoint_rest (e : Env) (n p : Nat) (q : Position) (l : Live) :
    l.lockPoint e n p q = { l with queue := (l.lockPoint e n p q).queue, elements := (l.lockPoint e n p q).elements } := by
  unfold Live.lockPoint
  split
  · rfl
  · rw [Live.redirect_rest]
    rfl

/-- A fold of changes of elements and queue alone is one. -/
theorem Live.foldl_rest {β : Type} (op : Live → β → Live)
    (h : ∀ l x, op l x = { l with queue := (op l x).queue, elements := (op l x).elements }) (xs : List β) (l : Live) :
    xs.foldl op l = { l with queue := (xs.foldl op l).queue, elements := (xs.foldl op l).elements } := by
  induction xs generalizing l with
  | nil => rfl
  | cons x xs ih =>
    have hk := ih (op l x)
    rw [List.foldl_cons]
    generalize xs.foldl op (op l x) = y at hk ⊢
    rw [h l x] at hk
    exact hk

theorem Live.redirectClaims_rest (e : Env) (cs : List Claim) (l : Live) :
    l.redirectClaims e cs =
      { l with queue := (l.redirectClaims e cs).queue, elements := (l.redirectClaims e cs).elements } :=
  Live.foldl_rest _ (fun l c => by
    split
    · exact Live.redirect_rest e _ _ l
    · rfl) cs l

theorem Live.setEntryOf_rest (n g : Nat) (l : Live) :
    l.setEntryOf n g = { l with elements := (l.setEntryOf n g).elements } := by
  unfold Live.setEntryOf
  split <;> rfl

theorem Live.lockPoints_rest (e : Env) (n : Nat) (ys : Map Position) (l : Live) :
    ys.foldl (fun l y => l.lockPoint e n y.1 y.2) l =
      { l with
        queue := (ys.foldl (fun l y => l.lockPoint e n y.1 y.2) l).queue
        elements := (ys.foldl (fun l y => l.lockPoint e n y.1 y.2) l).elements } :=
  Live.foldl_rest _ (fun l y => Live.lockPoint_rest e n y.1 y.2 l) ys l

/-- The locks of a route touch the sections, the elements, the queue and the line-clear flags (R78, R79, R135). -/
theorem Live.lockRoute_rest (e : Env) (n : Nat) (r : RouteEntry) (l : Live) :
    l.lockRoute e n r = Live.formLineFlags e.tables { l.lockSections n r with
      queue := (l.lockRoute e n r).queue, elements := (l.lockRoute e n r).elements } := by
  unfold Live.lockRoute
  dsimp only
  rw [Live.setEntryOf_rest]
  have h := Live.lockPoints_rest e n r.requirements (l.lockSections n r)
  generalize r.requirements.foldl _ (l.lockSections n r) = y at h ⊢
  rw [h]
  rfl

/-- What a taking is, field by field. -/
theorem Live.taking_rest (e : Env) (route : Nat) (r : RouteEntry) (fleet n : Nat) (choices : List Choice) (l : Live) :
    l.taking e route r fleet n choices =
      { Live.formLineFlags e.tables (l.lockSections n r) with
        slots := Map.put n (newSlot e l route r fleet) l.slots
        claims := (l.taking e route r fleet n choices).claims
        queue := (l.taking e route r fleet n choices).queue
        elements := (l.taking e route r fleet n choices).elements } := by
  unfold Live.taking
  dsimp only
  rw [Live.redirectClaims_rest, Live.lockRoute_rest]
  rfl

/-- A part of the elements that neither locks nor turned orders write is kept by a taking. -/
theorem Live.taking_part {α : Type} {f : ElementRec → α} (hbare : ∀ r : ElementRec, f r.bare = f r)
    (hpoint : ∀ (r : PointRec) m k, f (.point { r with movement := m, routeLock := k }) = f (.point r))
    (hsignal : ∀ (r : SignalRec) m, f (.signal { r with entryOf := m }) = f (.signal r)) (e : Env) (route : Nat)
    (r : RouteEntry) (fleet n : Nat) (choices : List Choice) (l : Live) :
    Live.SamePart f l (l.taking e route r fleet n choices) := by
  have hlock : Live.SamePart f l (r.requirements.foldl (fun l y => l.lockPoint e n y.1 y.2)
      ((l.setSlot n (newSlot e l route r fleet)).lockSections n r)) :=
    (Live.samePart_of_elements rfl).trans
      (Live.samePart_foldl _ (fun l (y : Nat × Position) => Live.lockPoint_part hbare hpoint e n y.1 y.2 l) _ _)
  have hentry := hlock.trans (Live.setEntryOf_part hsignal n r.entrySignal _)
  exact (hentry.trans (Live.samePart_of_elements rfl)).trans
    (Live.redirectClaims_part hbare (fun r m => hpoint r m _) e _ _)

theorem Live.taking_reported (e : Env) (route : Nat) (r : RouteEntry) (fleet n : Nat) (choices : List Choice)
    (l : Live) : Live.SamePart ElementRec.reported l (l.taking e route r fleet n choices) :=
  Live.taking_part ElementRec.reported_bare (fun _ _ _ => rfl) (fun _ _ => rfl) e route r fleet n choices l
theorem Live.taking_commanded (e : Env) (route : Nat) (r : RouteEntry) (fleet n : Nat) (choices : List Choice)
    (l : Live) : Live.SamePart ElementRec.commanded l (l.taking e route r fleet n choices) :=
  Live.taking_part ElementRec.commanded_bare (fun _ _ _ => rfl) (fun _ _ => rfl) e route r fleet n choices l

/-- A taking writes the entry-of-slot of the route's entry signal alone (R79). -/
theorem Live.taking_entryOf (e : Env) (route : Nat) (r : RouteEntry) (fleet n : Nat) (choices : List Choice)
    (l : Live) (g m : Nat)
    (h : (Map.find g (l.taking e route r fleet n choices).elements).bind ElementRec.entryOf = some m) :
    (m = n ∧ g = r.entrySignal) ∨ (Map.find g l.elements).bind ElementRec.entryOf = some m := by
  let locked := r.requirements.foldl (fun l y => l.lockPoint e n y.1 y.2)
    ((l.setSlot n (newSlot e l route r fleet)).lockSections n r)
  have hlock : Live.SamePart ElementRec.entryOf l locked :=
    (Live.samePart_of_elements rfl).trans (Live.samePart_foldl _ (fun l (y : Nat × Position) =>
      Live.lockPoint_part (f := ElementRec.entryOf) ElementRec.entryOf_bare (fun _ _ _ => rfl) e n y.1 y.2 l) _ _)
  have hlast : Live.SamePart ElementRec.entryOf (locked.setEntryOf n r.entrySignal)
      (l.taking e route r fleet n choices) :=
    (Live.samePart_of_elements rfl).trans
      (Live.redirectClaims_part (f := ElementRec.entryOf) ElementRec.entryOf_bare (fun _ _ => rfl) e _ _)
  rw [hlast.bind_entryOf g] at h
  rw [← hlock.bind_entryOf g]
  unfold Live.setEntryOf at h
  split at h
  · exact .inr h
  · next y hy =>
    by_cases hg : g = r.entrySignal
    · subst hg
      simp only [Live.setElement_elements, Map.find_put_self, Option.bind_some, ElementRec.entryOf,
        Option.some.injEq] at h
      exact .inl ⟨h.symm, rfl⟩
    · rw [Live.setElement_ne hg] at h
      exact .inr h

theorem Map.find_none_of_has {α : Type} {k : Nat} {m : Map α} (h : Map.has k m = false) : Map.find k m = none := by
  simpa [Map.has] using h

/-- A call that passes finds its slot free, and its number below the number of slots (R66). -/
theorem Live.freeSlotNumber_spec {l : Live} {n : Nat} (h : l.freeSlotNumber = some n) :
    n < Config.slotCount ∧ l.slot n = none := by
  unfold Live.freeSlotNumber at h
  have h1 := List.mem_of_find?_eq_some h
  have h2 := List.find?_some h
  exact ⟨List.mem_range.1 h1, Map.find_none_of_has (by simpa using h2)⟩

/-- What a call that passes has passed: checks 5 to 10 (R63 to R66). -/
structure Live.CallPasses (t : Tables) (r : RouteEntry) (n : Nat) (choices : List Choice) (l : Live) : Prop where
  possessed : ∀ s ∈ r.lockedSections, l.possessionOf s = none
  available : ∀ y ∈ r.requirements, l.available y.1 = true
  line : r.exitLine.any (fun k => l.linkState k.1 != .up) = false
  clear : l.obstructed r = false
  flank : l.flankSearch t r = some choices
  pool : l.claims.length + (claimsFor 0 choices).length ≤ Config.claimPool
  free : l.freeSlotNumber = some n

theorem Live.checkCall_passes {t : Tables} {r : RouteEntry} {n : Nat} {choices : List Choice} {l : Live} :
    l.checkCall t r = .passes n choices ↔ l.CallPasses t r n choices := by
  unfold Live.checkCall
  constructor
  · intro h
    split at h
    · cases h
    split at h
    · cases h
    split at h
    · cases h
    split at h
    · cases h
    split at h
    · cases h
    split at h
    · cases h
    split at h
    · cases h
    next hpossessed havailable hline hclear _ _ hflank hpool _ _ hfree =>
    cases h
    exact ⟨by simpa using hpossessed, by simpa using havailable, by simpa using hline, by simpa using hclear, hflank,
      by simpa using hpool, hfree⟩
  · rintro ⟨h1, h2, h3, h4, h5, h6, h7⟩
    rw [if_neg (by simpa using h1), if_neg (by simpa using h2), if_neg (by simp [h3]), if_neg (by simp [h4])]
    simp [h5, h6, h7]

theorem Live.Founded.taking {e : Env} {route : Nat} {r : RouteEntry} {n : Nat} {choices : List Choice} {l : Live}
    (h : l.Founded e.tables) (fleet : Nat) (hroute : Map.find route e.tables.routes = some r)
    (hfree : l.slot n = none) : (l.taking e route r fleet n choices).Founded e.tables := by
  have hslots : (l.taking e route r fleet n choices).slots = Map.put n (newSlot e l route r fleet) l.slots := by
    rw [Live.taking_rest]
  refine .of_entryOf ?_ ?_
  · rw [hslots]
    exact (Map.put_rising n _ l.slots h.slotsRise).1
  · intro g m hg
    rw [Live.slot, hslots]
    rcases Live.taking_entryOf e route r fleet n choices l g m hg with ⟨rfl, rfl⟩ | hg
    · exact ⟨_, Map.find_put_self _ _ _, by simp [Tables.entryOf, newSlot, hroute]⟩
    · obtain ⟨y, hy, he⟩ := h.entryOf hg
      refine ⟨y, ?_, he⟩
      rw [Map.find_put_ne ?_]
      · exact hy
      · rintro rfl
        rw [hy] at hfree
        cases hfree

theorem ElementRec.alike.entryOf {a b : ElementRec} (h : a.alike b) : b.entryOf = a.entryOf := by
  cases a <;> cases b <;> simp_all [ElementRec.alike, ElementRec.entryOf]
theorem ElementRec.alike.routeLock {a b : ElementRec} (h : a.alike b) : b.routeLock = a.routeLock := by
  cases a <;> cases b <;> simp_all [ElementRec.alike, ElementRec.routeLock]
theorem ElementRec.alike.commanded {a b : ElementRec} (h : a.alike b) : b.commanded = a.commanded := by
  cases a <;> cases b <;> simp_all [ElementRec.alike, ElementRec.commanded]
theorem ElementRec.alike.pendingOrder {a b : ElementRec} (h : a.alike b) : b.pendingOrder = a.pendingOrder := by
  cases a <;> cases b <;> simp_all [ElementRec.alike, ElementRec.pendingOrder]

theorem Live.placeOrder_slots (t : Tables) (n : Nat) (o : Order) (l : Live) : (l.placeOrder t n o).slots = l.slots := by
  rw [Live.placeOrder_rest]

/-- Single changes keep what is founded. -/
theorem LiveStep.founded {e : Env} {σ : Scope} {a b : Live} (s : LiveStep e σ a b) (h : a.Founded e.tables) :
    b.Founded e.tables := by
  cases s with
  | send x => exact h.same rfl (Live.samePart_of_elements rfl)
  | offer => exact h.same (by simp) (Live.samePart_of_elements (by simp))
  | reports => exact h.same rfl (Live.samePart_of_elements rfl)
  | choices => exact h.same rfl (Live.samePart_of_elements rfl)
  | waiting => exact h.same rfl (Live.samePart_of_elements rfl)
  | arm => exact h.same rfl (Live.samePart_of_elements rfl)
  | links => exact h.same rfl (Live.samePart_of_elements rfl)
  | flags => exact h.same rfl (Live.samePart_of_elements rfl)
  | orderSent => exact h.same rfl (Live.samePart_of_elements rfl)
  | entries => exact h.same rfl (Live.samePart_of_elements rfl)
  | counted => exact h.same rfl (Live.samePart_of_elements rfl)
  | sectionChanged => exact h.same rfl (Live.samePart_of_elements rfl)
  | agree => exact h.same rfl (Live.samePart_of_elements rfl)
  | slot n f hroute =>
    refine .of_entryOf (by simpa [Map.ids_update] using h.slotsRise) fun g m hg => ?_
    obtain ⟨y, hy, he⟩ := h.entryOf hg
    refine ⟨if m = n then f y else y, by simp [Live.slot, Map.find_update, show Map.find m a.slots = some y from hy], ?_⟩
    split
    · rw [Tables.entryOf, hroute]
      exact he
    · exact he
  | orderPoint p q r hp =>
    exact h.same (by rw [Live.takePointOrder, Live.placeOrder_slots]; rfl) (Live.takePointOrder_entryOf e q hp)
  | orderSignal g a r hg =>
    exact h.same (by rw [Live.claimsProved, Live.takeSignalOrder, Live.placeOrder_slots]; rfl)
      ((Live.takeSignalOrder_entryOf e a hg).trans (Live.samePart_of_elements rfl))
  | admitted =>
    refine h.same ?_ (Live.admitPending_bare _ _).entryOf
    unfold Live.admitPending
    split
    · split
      · split <;> rfl
      · rfl
    · rfl
  | empty n x => exact h.empty n
  | release n secs ps =>
    exact h.same rfl (Live.samePart_of_mapped (fun p r => ElementRec.unlocked n ps p r)
      (Live.unlockPoints_elements n ps (a.unlockSections n secs)) (fun p r => r.unlocked_entryOf n ps p))
  | taken route r fleet n choices _ hroute hcheck =>
    exact h.taking fleet hroute (Live.freeSlotNumber_spec (Live.checkCall_passes.1 hcheck).free).2
  | element n old new _ hold halike _ => exact h.same rfl (Live.samePart_setElement hold halike.entryOf)
  | shown n old new _ hold halike =>
    exact h.same rfl ((Live.samePart_setElement hold halike.entryOf).trans (Live.samePart_of_elements rfl))

/-! ### Runs of single changes -/

/-- A run of single changes leads from one moment's records to another's, where what the scope follows is founded. -/
def Evolves (e : Env) (σ : Scope) (a b : Live) : Prop :=
  (σ.founded → a.Founded e.tables) → Relation.ReflTransGen (LiveStep e σ) a b

theorem LiveStep.run_founded {e : Env} {σ : Scope} {a b : Live} (s : Relation.ReflTransGen (LiveStep e σ) a b)
    (h : a.Founded e.tables) : b.Founded e.tables := by
  induction s with
  | refl => exact h
  | tail _ s ih => exact s.founded ih

section Runs
variable {e : Env} {σ : Scope} {a b c : Live}

theorem Evolves.refl (a : Live) : Evolves e σ a a := fun _ => .refl

theorem Evolves.trans (h : Evolves e σ a b) (k : Evolves e σ b c) : Evolves e σ a c :=
  fun hf => (h hf).trans (k fun hs => LiveStep.run_founded (h hf) (hf hs))

/-- A run is led up to by another. -/
theorem Evolves.after (k : Evolves e σ b c) (h : Evolves e σ a b) : Evolves e σ a c := h.trans k

theorem LiveStep.evolves (s : LiveStep e σ a b) : Evolves e σ a b := fun _ => .single s

/-- A run may use what is founded. -/
theorem Evolves.of_founded (h : (σ.founded → a.Founded e.tables) → Evolves e σ a b) : Evolves e σ a b :=
  fun hf => h hf hf

/-- What each single change keeps, a run keeps. -/
theorem Evolves.keeps {P : Live → Prop} (hstep : ∀ x y, LiveStep e σ x y → P x → P y)
    (h : Evolves e σ a b) (hf : σ.founded → a.Founded e.tables) (ha : P a) : P b := by
  have hr := h hf
  clear h hf
  induction hr with
  | refl => exact ha
  | tail _ s ih => exact hstep _ _ s ih

/-- A fold of runs is a run. -/
theorem Evolves.foldl {α : Type} (op : Work → α → Work) (xs : List α) (w : Work)
    (h : ∀ x ∈ xs, ∀ v, Evolves e σ v.live (op v x).live) : Evolves e σ w.live (xs.foldl op w).live := by
  induction xs generalizing w with
  | nil => exact .refl _
  | cons x xs ih =>
    exact (h x (by simp) w).trans (ih (op w x) (fun y hy => h y (by simp [hy])))

/-- Things that come together, each a run, are a run in whatever order (log 3). -/
theorem Work.forEach_evolves {α : Type} (xs : List α) (f : α → Work → Work) (w : Work)
    (h : ∀ x v, Evolves e σ v.live (f x v).live) : Evolves e σ w.live (w.forEach xs f).live := by
  unfold Work.forEach
  dsimp only
  refine .trans ?_ (Evolves.foldl (fun v x => f x v) _ _ (fun x _ v => h x v))
  rw [(Work.arrange_rest xs w).2]
  exact (LiveStep.choices _).evolves

/-- What is done for a slot in use with its record and its route is a run. -/
theorem Work.withSlot_evolves (n : Nat) (f : Slot → RouteEntry → Work → Work) (w : Work)
    (h : ∀ x r, w.live.slot n = some x → Map.find x.route e.tables.routes = some r → Evolves e σ w.live (f x r w).live) :
    Evolves e σ w.live (w.withSlot e n f).live := by
  unfold Work.withSlot
  split
  · exact .refl _
  · next x hx =>
    split
    · exact .refl _
    · next r hr => exact h x r hx hr

end Runs

end Sys2Proof.Machine
end

section
/-! PROOFS. The operations of the Route Engine, the Flank Allocator and the hand-overs are runs of single changes (Chapters 4
to 8): what a slot, a claim or a line does with a change handed to it. -/

namespace Sys2Proof.Machine

section Operations
variable {e : Env} {σ : Scope}

/-! ### Reports, places and orders -/

theorem Work.report_evolves (cls : ReportClass) (code : ReportCode) (kind : SubjectKind) (number : Nat)
    (detail : Option Nat) (w : Work) : Evolves e σ w.live (w.report e cls code kind number detail).live :=
  (LiveStep.offer cls code kind number detail).evolves

/-- Proving an element's claims afresh, as one change of the claims and the free choices. -/
theorem Work.reprove_live (n : Nat) (w : Work) :
    (w.reprove n).live = { w.live.claimsProved n with choices := (w.reprove n).live.choices } := by
  conv_lhs => rw [Work.reprove_rest]
  rfl

theorem Work.orderPoint_evolves (p : Nat) (q : Position) (w : Work) :
    Evolves e σ w.live (w.orderPoint e p q).live := by
  unfold Work.orderPoint
  split
  · exact .refl _
  · next r hr =>
    split
    · exact .refl _
    · next h =>
      simp only [Bool.or_eq_true, not_or, Bool.not_eq_true] at h
      exact (LiveStep.orderPoint p q r hr h.1.2 h.2).evolves

/-- A signal order is a run when it is for DANGER, or a slot that clears has the signal as entry signal (R87). -/
theorem Work.orderSignal_evolves (g : Nat) (a : Aspect) (w : Work)
    (h : a = .danger ∨ ∃ n x, w.live.slot n = some x ∧ x.clears = true ∧ e.tables.entryOf x = some g) :
    Evolves e σ w.live (w.orderSignal e g a).live := by
  unfold Work.orderSignal
  split
  · exact .refl _
  · next r hr =>
    rw [Work.reprove_live]
    exact (LiveStep.orderSignal g a r hr h).evolves.trans (LiveStep.choices _).evolves

theorem Work.orderSignal_slots (g : Nat) (a : Aspect) (w : Work) :
    (w.orderSignal e g a).live.slots = w.live.slots := by
  rw [Work.orderSignal_rest]

theorem Live.signal_commanded {l : Live} {g : Nat} {r : SignalRec} (h : l.signal g = some r) :
    (Map.find g l.elements).map ElementRec.commanded = some (some r.commanded) := by
  rw [Live.signal_some.1 h]
  rfl

/-- After a DANGER order the signal stands commanded DANGER. -/
theorem Work.orderSignal_atDanger (g : Nat) (w : Work) : (w.orderSignal e g .danger).live.atDanger g := by
  unfold Work.orderSignal
  split
  · next h =>
    intro r hr
    rw [h] at hr
    cases hr
  · next r hr =>
    intro z hz
    have hc := Live.signal_commanded hz
    rw [show (Map.find g ((w.on (Live.takeSignalOrder e g .danger r)).reprove g).live.elements) =
        Map.find g (Live.takeSignalOrder e g .danger r w.live).elements by rw [Work.reprove_live]; rfl,
      Live.takeSignalOrder_commanded e .danger hr, if_pos rfl] at hc
    simpa using hc.symm

theorem Live.placeOrder_withSlots (t : Tables) (n : Nat) (o : Order) (m : Map Slot) (l : Live) :
    Live.placeOrder t n o { l with slots := m } = { l.placeOrder t n o with slots := m } := by
  have horder : Live.hasOrder { l with slots := m } n = l.hasOrder n := rfl
  have hfull : Live.queueFull { l with slots := m } = l.queueFull := rfl
  unfold Live.placeOrder
  rw [horder, hfull]
  by_cases h : l.hasOrder n = true
  · rw [if_pos h, if_pos h]
    rfl
  · rw [if_neg h, if_neg h]
    by_cases k : l.queueFull = true
    · rw [if_pos k, if_pos k]
    · rw [if_neg k, if_neg k]

theorem Work.reprove_withSlots (g : Nat) (m : Map Slot) (w : Work) :
    ({ w with live := { w.live with slots := m } } : Work).reprove g =
      { w.reprove g with live := { (w.reprove g).live with slots := m } } := by
  unfold Work.reprove Work.arrange
  dsimp only [Work.on, Live.proved, Live.shows]
  split <;> rfl

/-- A signal order and a change of a slot's record may be made in either order. -/
theorem Work.orderSignal_slotTo (g : Nat) (a : Aspect) (n : Nat) (f : Slot → Slot) (w : Work) :
    (w.slotTo n f).orderSignal e g a = (w.orderSignal e g a).slotTo n f := by
  unfold Work.orderSignal
  rw [show (w.slotTo n f).live.signal g = w.live.signal g from rfl]
  cases w.live.signal g with
  | none => rfl
  | some r =>
    dsimp only
    have h : (w.slotTo n f).on (Live.takeSignalOrder e g a r) =
        { w.on (Live.takeSignalOrder e g a r) with live := { Live.takeSignalOrder e g a r w.live with
          slots := Map.update n f w.live.slots } } :=
      congrArg (fun l => ({ w with live := l } : Work)) (Live.placeOrder_withSlots e.tables g (.aspect a)
        (Map.update n f w.live.slots) (w.live.setElement g (.signal { r with
          commanded := a, proving := some (e.clock + e.tables.provingTime g) })))
    rw [h]
    have hs : (Work.reprove g (w.on (Live.takeSignalOrder e g a r))).live.slots = w.live.slots := by
      rw [Work.reprove_live]
      simp only [Live.claimsProved, Work.on_live, Live.takeSignalOrder, Live.placeOrder_slots]
      rfl
    have hp := Work.reprove_withSlots g (Map.update n f w.live.slots) (w.on (Live.takeSignalOrder e g a r))
    refine hp.trans ?_
    unfold Work.slotTo
    rw [show ∀ v : Work, v.on (fun l => { l with slots := Map.update n f l.slots }) =
      { v with live := { v.live with slots := Map.update n f v.live.slots } } from fun _ => rfl, hs]

theorem Work.slotTo_evolves (n : Nat) (f : Slot → Slot) (w : Work) (hroute : ∀ x, (f x).route = x.route)
    (h : ∀ x, w.live.slot n = some x → (f x).clears = true ∨ w.live.MayRest e σ x) :
    Evolves e σ w.live (w.slotTo n f).live :=
  (LiveStep.slot n f hroute h).evolves

/-- A slot that is not in CLEARING or CLEAR may rest. -/
theorem Live.mayRest_of_not_clears {x : Slot} {l : Live} (h : x.clears = false) : l.MayRest e σ x :=
  fun _ hc => by simp [h] at hc

/-- A change of a slot's record that keeps its state keeps its clearing. -/
theorem Work.slotTo_keepsState_evolves (n : Nat) (f : Slot → Slot) (w : Work) (hroute : ∀ x, (f x).route = x.route)
    (hstate : ∀ x, (f x).state = x.state) : Evolves e σ w.live (w.slotTo n f).live := by
  refine Work.slotTo_evolves n f w hroute fun x _ => ?_
  cases hc : x.clears with
  | false => exact .inr (Live.mayRest_of_not_clears hc)
  | true => exact .inl (by rw [Slot.clears, hstate]; exact hc)

/-- The slot, if it is in use, is not in CLEARING or CLEAR. -/
def Live.notClearing (l : Live) (n : Nat) : Prop := ∀ x, l.slot n = some x → x.clears = false

theorem Work.slotTo_notClearing_evolves (n : Nat) (f : Slot → Slot) (w : Work) (hroute : ∀ x, (f x).route = x.route)
    (h : w.live.notClearing n) : Evolves e σ w.live (w.slotTo n f).live :=
  Work.slotTo_evolves n f w hroute (fun x hx => .inr (Live.mayRest_of_not_clears (h x hx)))

theorem Live.notClearing_of_slots {a b : Live} {n : Nat} (hs : b.slots = a.slots) (h : a.notClearing n) :
    b.notClearing n := fun x hx => h x (by rwa [Live.slot_congr hs] at hx)

theorem Work.slotTo_notClearing {n m : Nat} {f : Slot → Slot} {w : Work} (h : w.live.notClearing n)
    (hf : ∀ x, w.live.slot n = some x → (f x).clears = false) : (w.slotTo m f).live.notClearing n := by
  intro x hx
  rw [Work.slot_slotTo] at hx
  cases hy : w.live.slot n with
  | none => simp [hy] at hx
  | some y =>
    simp only [hy, Option.map_some, Option.some.injEq] at hx
    subst hx
    split
    · exact hf y hy
    · exact h y hy

theorem Live.notClearing_of_state {l : Live} {n : Nat} {x : Slot} (h : l.slot n = some x) (hx : x.clears = false) :
    l.notClearing n := fun y hy => by
  rw [h] at hy
  cases hy
  exact hx

/-! ### Claims -/

/-- What a taking's reports add to its one change (R102). -/
theorem Work.makeClaims_evolves (slot : Nat) (choices : List Choice) (w : Work) :
    Evolves e σ (Live.redirectClaims e (claimsFor slot choices)
      { w.live with claims := w.live.claims ++ (claimsFor slot choices).map w.live.proved })
      (w.makeClaims e slot choices).live := by
  unfold Work.makeClaims
  dsimp only
  refine Evolves.foldl _ _ (w.on fun l => Live.redirectClaims e (claimsFor slot choices)
    { l with claims := l.claims ++ (claimsFor slot choices).map l.proved }) fun c _ v => ?_
  split
  · exact .refl _
  · exact Work.report_evolves _ _ _ _ _ v

theorem Work.placePoint_evolves (p : Nat) (w : Work) : Evolves e σ w.live (w.placePoint e p).live := by
  unfold Work.placePoint
  split
  · split
    · exact Work.orderPoint_evolves _ _ w
    · exact .refl _
  · exact .refl _

theorem Work.placeSignal_evolves (g : Nat) (w : Work) : Evolves e σ w.live (w.placeSignal e g).live := by
  unfold Work.placeSignal
  split
  · split
    · exact Work.orderSignal_evolves g .danger w (.inl rfl)
    · exact .refl _
  · exact .refl _

theorem Work.placeClaims_evolves (slot : Nat) (w : Work) : Evolves e σ w.live (w.placeClaims e slot).live := by
  unfold Work.placeClaims
  exact Evolves.foldl _ _ w fun n _ v => (Work.placePoint_evolves n v).trans (Work.placeSignal_evolves n _)

/-! ### Freeing and refusing -/

theorem Work.freeSlot_evolves (n : Nat) (w : Work) (h : ∀ x, w.live.slot n = some x → w.live.MayRest e σ x) :
    Evolves e σ w.live (w.freeSlot e n).live := by
  unfold Work.freeSlot
  split
  · exact .refl _
  · next x hx =>
    exact (LiveStep.empty n x hx (h x hx)).evolves.trans
      (Work.report_evolves _ _ _ _ _ (w.on (Live.emptySlot e.tables n)))

theorem Work.freeSlot_notClearing_evolves (n : Nat) (w : Work) (h : w.live.notClearing n) :
    Evolves e σ w.live (w.freeSlot e n).live :=
  Work.freeSlot_evolves n w (fun x hx => Live.mayRest_of_not_clears (h x hx))

theorem Work.refuseSlot_evolves (reason n : Nat) (w : Work) (h : w.live.notClearing n) :
    Evolves e σ w.live (w.refuseSlot e reason n).live := by
  unfold Work.refuseSlot
  split
  · exact .refl _
  · exact (Work.report_evolves _ _ _ _ _ w).trans
      (Work.freeSlot_notClearing_evolves n _ (Live.notClearing_of_slots (by simp) h))

/-- A slot that is refused leaves the others as they were. -/
theorem Work.refuseSlot_slot (reason n m : Nat) (w : Work) {x : Slot}
    (h : (w.refuseSlot e reason n).live.slot m = some x) : w.live.slot m = some x := by
  unfold Work.refuseSlot Work.freeSlot at h
  split at h
  · exact h
  · split at h
    · rwa [Live.slot_congr (a := w.live) (by simp)] at h
    · simp only [Live.slot, Work.scanDue_live, Work.placeDue_live, Work.report_live, Work.on_live, Live.offer_slots,
        Live.emptySlot_slots] at h
      by_cases hm : m = n
      · subst hm
        simp at h
      · rwa [Map.find_drop_ne hm] at h

/-! ### Points and lines of a slot -/

theorem Work.orderRequired_evolves (p : Nat) (q : Position) (w : Work) :
    Evolves e σ w.live (w.orderRequired e p q).live := by
  unfold Work.orderRequired
  split
  · exact .refl _
  · split
    · exact Work.orderPoint_evolves p q w
    · exact .refl _

theorem Work.orderPoints_evolves (n : Nat) (w : Work) : Evolves e σ w.live (w.orderPoints e n).live := by
  unfold Work.orderPoints
  refine Work.withSlot_evolves n _ w fun x r _ _ => ?_
  split
  · exact Evolves.foldl _ _ w fun y _ v => Work.orderRequired_evolves y.1 y.2 v
  · exact .refl _

theorem Map.find_update_mem {α : Type} {k : Nat} {f : α → α} {m : Map α} {x : Nat × α}
    (h : x ∈ Map.update k f m) : ∃ y ∈ m, y.1 = x.1 ∧ (x.2 = y.2 ∨ x.1 = k ∧ x.2 = f y.2) := by
  simp only [Map.update, List.mem_map] at h
  obtain ⟨y, hy, rfl⟩ := h
  refine ⟨y, hy, ?_⟩
  split
  · next hk => exact ⟨rfl, .inr ⟨hk, rfl⟩⟩
  · exact ⟨rfl, .inl rfl⟩

/-- A change of a line's record that keeps our line-clear flag keeps every line's. -/
theorem Live.updateLine_sameFlags (link number : Nat) (f : LineRec → LineRec) (l : Live)
    (hf : ∀ y, (f y).lineClear = y.lineClear) : sameFlags l.links (l.updateLine link number f).links := by
  intro k hk y hy
  obtain ⟨j, hj, hid, hrec⟩ := Map.find_update_mem (m := l.links) (k := link)
    (f := fun k => { k with lines := Map.update number f k.lines }) hk
  refine ⟨j, hj, hid, ?_⟩
  rcases hrec with hrec | ⟨_, hrec⟩
  · rw [hrec] at hy
    exact ⟨y, hy, rfl, rfl⟩
  · rw [hrec] at hy
    obtain ⟨z, hz, hn, hz' | ⟨_, hz'⟩⟩ := Map.find_update_mem hy
    · exact ⟨z, hz, hn, by rw [hz']⟩
    · exact ⟨z, hz, hn, by rw [hz', hf]⟩

/-- A change of a line's record that keeps what the neighbour's telegrams write keeps it for every link. -/
theorem Live.updateLine_sameAgreed (link number : Nat) (f : LineRec → LineRec) (l : Live)
    (hf : ∀ y, (f y).agreed = y.agreed) : sameAgreed l.links (l.updateLine link number f).links := by
  intro n
  rw [show (l.updateLine link number f).links =
    Map.update link (fun k => { k with lines := Map.update number f k.lines }) l.links from rfl, Map.find_update]
  cases Map.find n l.links with
  | none => rfl
  | some k =>
    by_cases h : n = link
    · simp only [h, Option.map_some, if_true, LinkRec.agreed, Map.update, Map.each, List.map_map, Option.some.injEq,
        LinkRec.mk.injEq, true_and]
      refine List.map_congr_left fun y _ => ?_
      dsimp only [Function.comp]
      split <;> simp [hf]
    · simp [h]

theorem Work.sendAsk_evolves (link number : Nat) (w : Work) : Evolves e σ w.live (w.sendAsk e link number).live := by
  unfold Work.sendAsk
  split
  · exact .refl _
  · exact (LiveStep.links _ (Live.updateLine_sameFlags link number _ w.live (by intro _; rfl))
      (.inr (Live.updateLine_sameAgreed link number _ w.live (by intro _; rfl)))).evolves.trans
      (LiveStep.send (l := w.live.updateLine link number _) _).evolves

theorem Work.needLine_evolves (n link number : Nat) (waiting : Work → Work) (w : Work)
    (hw : Evolves e σ w.live (waiting w).live) (h : w.live.notClearing n) :
    Evolves e σ w.live (w.needLine e n link number waiting).live := by
  unfold Work.needLine
  split
  · dsimp only
    split
    · exact hw
    · exact hw.trans (Work.sendAsk_evolves link number _)
  · exact Work.refuseSlot_evolves 3 n w h

theorem Work.enterWaitLine_evolves (n link number : Nat) (w : Work) (h : w.live.notClearing n) :
    Evolves e σ w.live (w.enterWaitLine e n link number).live :=
  Work.needLine_evolves n link number _ w
    ((Work.slotTo_notClearing_evolves n _ w (by intro _; rfl) h).trans (Work.orderPoints_evolves n _)) h

/-! ### Clearing and replacement -/

/-- An order for the entry signal of a slot that clears. -/
theorem Work.orderEntry_evolves {n : Nat} {x : Slot} {r : RouteEntry} (a : Aspect) (w : Work)
    (hx : w.live.slot n = some x) (hroute : Map.find x.route e.tables.routes = some r)
    (h : a = .danger ∨ x.clears = true) : Evolves e σ w.live (w.orderEntry e n r a).live := by
  unfold Work.orderEntry
  refine (Work.slotTo_keepsState_evolves n (fun x => { x with aspect := some a }) w (fun _ => rfl) (fun _ => rfl)).trans ?_
  refine Work.orderSignal_evolves r.entrySignal a _ (h.imp id fun hc => ?_)
  refine ⟨n, { x with aspect := some a }, ?_, hc, ?_⟩
  · rw [Work.slot_slotTo, hx]
    simp
  · simp [Tables.entryOf, hroute]

theorem Work.clearTest_evolves (n : Nat) (w : Work) : Evolves e σ w.live (w.clearTest e n).live := by
  unfold Work.clearTest
  refine Work.withSlot_evolves n _ w fun x r hx hr => ?_
  split
  · refine (Work.slotTo_evolves n (fun x => { x with state := .clearing }) w (fun _ => rfl) (fun _ _ => .inl rfl)).trans ?_
    exact Work.orderEntry_evolves (x := { x with state := .clearing }) _ _ (by rw [Work.slot_slotTo, hx]; simp) hr
      (.inr rfl)
  · exact .refl _

theorem Work.enterLocked_evolves (n : Nat) (w : Work) (h : w.live.notClearing n) :
    Evolves e σ w.live (w.enterLocked e n).live :=
  (Work.slotTo_notClearing_evolves n _ w (by intro _; rfl) h).trans (Work.clearTest_evolves n _)

theorem Slot.clears_of_state {x : Slot} {s : SlotState} (h : x.state = s) (hs : (s == .clearing || s == .clear) = false) :
    x.clears = false := by
  rw [Slot.clears, h]
  exact hs

theorem Work.lockTest_evolves (n : Nat) (w : Work) : Evolves e σ w.live (w.lockTest e n).live := by
  unfold Work.lockTest
  refine Work.withSlot_evolves n _ w fun x r hx hr => ?_
  split
  · next h =>
    simp only [Bool.and_eq_true, beq_iff_eq] at h
    exact Work.enterLocked_evolves n w (Live.notClearing_of_state hx (Slot.clears_of_state h.1.1 rfl))
  · exact .refl _

theorem Work.leaveWaitLine_evolves (n : Nat) (w : Work) : Evolves e σ w.live (w.leaveWaitLine e n).live := by
  unfold Work.leaveWaitLine
  refine Work.withSlot_evolves n _ w fun x r hx hr => ?_
  split
  · next h =>
    have hc : x.clears = false := Slot.clears_of_state (by simpa using h) rfl
    have hn : w.live.notClearing n := Live.notClearing_of_state hx hc
    have hn' : (w.slotTo n (fun x => { x with lineWait := none })).live.notClearing n :=
      Work.slotTo_notClearing hn (fun y hy => hn y hy)
    refine (Work.slotTo_notClearing_evolves n (fun x => { x with lineWait := none }) w (by intro _; rfl) hn).trans ?_
    dsimp only
    split
    · exact Work.enterLocked_evolves n _ hn'
    · exact Work.slotTo_notClearing_evolves n _ _ (by intro _; rfl) hn'
  · exact .refl _

theorem Work.goOn_evolves (n : Nat) (w : Work) : Evolves e σ w.live (w.goOn e n).live := by
  unfold Work.goOn
  split
  · exact .refl _
  · refine (Work.slotTo_keepsState_evolves n (fun x => { x with held := none }) w (by intro _; rfl) (by intro _; rfl)).trans ?_
    split
    · exact .refl _
    · exact (Work.orderPoints_evolves n _).trans (Work.lockTest_evolves n _)
    · exact Work.clearTest_evolves n _

/-- A slot that clears leaves it with its entry signal ordered DANGER, whichever is written first. -/
theorem Work.leaveClearing_evolves {n : Nat} {x : Slot} {r : RouteEntry} (f : Slot → Slot) (w : Work)
    (hx : w.live.slot n = some x) (hroute : Map.find x.route e.tables.routes = some r)
    (hf : ∀ x, (f x).route = x.route) :
    Evolves e σ w.live ((w.slotTo n f).orderSignal e r.entrySignal .danger).live := by
  rw [Work.orderSignal_slotTo]
  refine (Work.orderSignal_evolves r.entrySignal .danger w (.inl rfl)).trans ?_
  refine Work.slotTo_evolves n f _ hf fun y hy => .inr fun _ _ g hg => .inr ?_
  rw [Live.slot_congr (Work.orderSignal_slots _ _ w), hx] at hy
  cases hy
  simp only [Tables.entryOf, hroute, Option.map_some, Option.some.injEq] at hg
  subst hg
  exact Work.orderSignal_atDanger r.entrySignal w

/-- Replacing a slot is a run; for cause 6 the gate has put its signal to DANGER before (R91). -/
theorem Work.replace_evolves (n cause number : Nat) (w : Work)
    (h : cause = 6 → ∀ x, w.live.slot n = some x → w.live.MayRest e σ x) :
    Evolves e σ w.live (w.replace e n cause number).live := by
  unfold Work.replace
  refine Work.withSlot_evolves n _ w fun x r hx hr => ?_
  split
  · refine Evolves.trans ?_ (Work.report_evolves _ _ _ _ _ _)
    split
    · next hc => exact Work.slotTo_evolves n _ w (by intro _; rfl) (fun y hy => .inr (h hc y hy))
    · exact Work.leaveClearing_evolves _ w hx hr (by intro _; rfl)
  · exact .refl _

theorem Work.replace_ne_evolves {n cause : Nat} (number : Nat) (w : Work) (h : cause ≠ 6) :
    Evolves e σ w.live (w.replace e n cause number).live :=
  Work.replace_evolves n cause number w (fun hc => absurd hc h)

/-! ### Releasing behind the train -/

theorem Work.freeIfDone_evolves (n : Nat) (w : Work) : Evolves e σ w.live (w.freeIfDone e n).live := by
  unfold Work.freeIfDone
  refine Work.withSlot_evolves n _ w fun x r hx hr => ?_
  split
  · next h =>
    simp only [Bool.and_eq_true, beq_iff_eq] at h
    exact Work.freeSlot_notClearing_evolves n w (Live.notClearing_of_state hx (Slot.clears_of_state h.1.1 rfl))
  · exact .refl _

theorem Work.releaseSections_evolves (n : Nat) (secs : List Nat) (w : Work) :
    Evolves e σ w.live (w.releaseSections e n secs).live :=
  (LiveStep.release n secs _).evolves

theorem Work.releaseOverlap_evolves (n : Nat) (secs : List Nat) (w : Work) :
    Evolves e σ w.live (w.releaseOverlap e n secs).live := by
  refine (Work.releaseSections_evolves n secs w).trans (Work.withSlot_evolves n _ _ fun x r _ _ => ?_)
  refine Evolves.trans ?_ (Work.freeIfDone_evolves n _)
  split
  · exact Work.slotTo_keepsState_evolves n _ _ (by intro _; rfl) (by intro _; rfl)
  · exact .refl _

theorem Work.overlapExpire_evolves (n : Nat) (w : Work) : Evolves e σ w.live (w.overlapExpire e n).live := by
  unfold Work.overlapExpire
  refine Work.withSlot_evolves n _ w fun x r _ _ => ?_
  split
  · exact (Work.slotTo_keepsState_evolves n _ w (by intro _; rfl) (by intro _; rfl)).trans
      (Work.releaseOverlap_evolves n _ _)
  · exact .refl _

theorem Work.startOverlap_evolves (n : Nat) (w : Work) : Evolves e σ w.live (w.startOverlap e n).live := by
  unfold Work.startOverlap
  refine Work.withSlot_evolves n _ w fun x r _ _ => ?_
  split
  · refine (Work.slotTo_keepsState_evolves n (fun x => { x with
      overlap := some .timing
      timer := some { expiry := e.clock + r.overlapTime * 10, cause := none } }) w (fun _ => rfl) (fun _ => rfl)).trans ?_
    dsimp only
    split
    · exact Work.overlapExpire_evolves n _
    · exact .refl _
  · exact .refl _

theorem Work.releaseTest_evolves (n : Nat) (w : Work) : Evolves e σ w.live (w.releaseTest e n).live := by
  unfold Work.releaseTest
  refine Work.withSlot_evolves n _ w fun x r _ _ => ?_
  split
  · split
    · exact .refl _
    · refine Evolves.trans ?_ (Work.freeIfDone_evolves n _)
      exact ((LiveStep.entries r n _).evolves.trans
        (Work.releaseSections_evolves n _ (w.on (Live.removeEntries r n _)))).trans
        (Work.slotTo_keepsState_evolves n _ _ (by intro _; rfl) (by intro _; rfl))
  · exact .refl _

/-- Where a fleeting slot goes for its next train (R127). -/
theorem Work.nextTrain_evolves (n : Nat) (r : RouteEntry) (line : Option (Nat × Nat)) (w : Work)
    (h : w.live.notClearing n) :
    Evolves e σ w.live (match line with
      | some (link, number) => w.enterWaitLine e n link number
      | none => if w.live.allDetected r then w.enterLocked e n
        else (w.slotTo n (fun x => { x with state := .setting })).orderPoints e n).live := by
  split
  · exact Work.enterWaitLine_evolves n _ _ w h
  · split
    · exact Work.enterLocked_evolves n w h
    · exact (Work.slotTo_notClearing_evolves n _ w (by intro _; rfl) h).trans (Work.orderPoints_evolves n _)

theorem Work.fleetTest_evolves (n : Nat) (w : Work) : Evolves e σ w.live (w.fleetTest e n).live := by
  unfold Work.fleetTest
  refine Work.withSlot_evolves n _ w fun x r hx hr => ?_
  split
  · next h =>
    simp only [Bool.and_eq_true, beq_iff_eq] at h
    have hn : w.live.notClearing n := Live.notClearing_of_state hx (Slot.clears_of_state h.1.1.1 rfl)
    refine (Work.slotTo_notClearing_evolves n (fun x => { x with
      marks := r.path.map (fun _ => false), pointer := 1, fleet := x.fleet - 1, origin := .fleet }) w
      (fun _ => rfl) hn).trans ?_
    refine Work.nextTrain_evolves n r (r.exitLine.filter (fun k => !w.live.lineIsOurs k.1 k.2))
      (w.slotTo n (fun x => { x with
        marks := r.path.map (fun _ => false), pointer := 1, fleet := x.fleet - 1, origin := .fleet })).scanDue ?_
    exact Work.slotTo_notClearing hn (fun y hy => hn y hy)
  · exact .refl _

theorem Work.enterTrain_evolves {n : Nat} {x : Slot} {r : RouteEntry} (sec : Nat) (w : Work)
    (hx : w.live.slot n = some x) (hroute : Map.find x.route e.tables.routes = some r) :
    Evolves e σ w.live (w.enterTrain e n r sec).live := by
  unfold Work.enterTrain Work.orderEntry
  refine Evolves.trans ?_ (Work.startOverlap_evolves n _)
  have h : (w.slotTo n (fun x => { x.mark r sec with state := .entered })).slotTo n (fun x => { x with aspect := some .danger })
      = w.slotTo n (fun x => { x.mark r sec with state := .entered, aspect := some .danger }) := by
    simp only [Work.slotTo, Work.on, Map.update, List.map_map]
    congr 2
    refine List.map_congr_left fun y _ => ?_
    dsimp only [Function.comp]
    split <;> simp_all
  rw [h]
  exact Work.leaveClearing_evolves _ w hx hroute (by intro _; rfl)

theorem Work.passedAfterCancel_evolves (n : Nat) (r : RouteEntry) (sec : Nat) (w : Work) (h : w.live.notClearing n) :
    Evolves e σ w.live (w.passedAfterCancel e n r sec).live := by
  unfold Work.passedAfterCancel
  split
  · exact .refl _
  · exact ((Work.slotTo_notClearing_evolves n _ w (by intro _; rfl) h).trans (Work.report_evolves _ _ _ _ _ _)).trans
      (Work.startOverlap_evolves n _)

/-- Timing a slot's release is a run when the slot may leave CLEARING and CLEAR (R122). -/
theorem Work.timedRelease_evolves (n : Nat) (cause : ReleaseCause) (seconds : Nat) (w : Work)
    (h : ∀ x, w.live.slot n = some x → w.live.MayRest e σ x) :
    Evolves e σ w.live (w.timedRelease e n cause seconds).live := by
  unfold Work.timedRelease
  split
  · exact .refl _
  · next x hx =>
    have hscan (b : Bool) (v : Work) : (v.scanIf b).live = v.live := by cases b <;> rfl
    refine (Work.slotTo_evolves n (fun x => { x with
      state := .timedRelease, fleet := 0, held := none
      timer := some { expiry := e.clock + seconds * 10, cause := some cause } }) w (by intro _; rfl)
      (fun y hy => .inr (h y hy))).trans ?_
    dsimp only
    split
    · have := Work.freeSlot_notClearing_evolves (e := e) (σ := σ) n ((w.slotTo n (fun x => { x with
          state := .timedRelease, fleet := 0, held := none
          timer := some { expiry := e.clock + seconds * 10, cause := some cause } })).scanIf
            (x.state == .clearing || x.state == .clear || x.state == .entered)) (by
          rw [hscan]
          refine Live.notClearing_of_state (x := { x with
            state := .timedRelease, fleet := 0, held := none
            timer := some { expiry := e.clock + seconds * 10, cause := some cause } }) ?_ rfl
          rw [Work.slot_slotTo, hx]
          simp)
      rwa [hscan] at this
    · rw [hscan]
      exact .refl _

/-! ### What a slot does with a change handed to it -/

theorem Work.sectionInEntered_evolves (sec n : Nat) (w : Work) :
    Evolves e σ w.live (w.sectionInEntered e sec n).live := by
  unfold Work.sectionInEntered
  refine Work.withSlot_evolves n _ w fun x r _ _ => ?_
  split
  · refine Evolves.trans ?_ ((Work.releaseTest_evolves n _).trans (Work.fleetTest_evolves n _))
    split
    · exact (Work.slotTo_keepsState_evolves n _ w (by intro _; rfl) (by intro _; rfl)).trans (Work.startOverlap_evolves n _)
    · exact .refl _
  · split
    · exact Work.releaseOverlap_evolves n _ w
    · exact .refl _

theorem Work.onSection_evolves (sec n : Nat) (w : Work) : Evolves e σ w.live (w.onSection e sec n).live := by
  unfold Work.onSection
  refine Work.withSlot_evolves n _ w fun x r hx hr => ?_
  dsimp only
  split
  · split
    · exact Work.clearTest_evolves n w
    · exact .refl _
  · split
    · exact Work.enterTrain_evolves sec w hx hr
    · split
      · exact Work.replace_ne_evolves _ w (by decide)
      · exact .refl _
  · split
    · exact Work.enterTrain_evolves sec w hx hr
    · split
      · exact Work.replace_ne_evolves _ w (by decide)
      · exact .refl _
  · exact Work.sectionInEntered_evolves sec n w
  · next h =>
    split
    · exact Work.passedAfterCancel_evolves n r sec w (Live.notClearing_of_state hx (Slot.clears_of_state h rfl))
    · exact .refl _
  all_goals exact .refl _

theorem Work.onPoint_evolves (p n : Nat) (w : Work) : Evolves e σ w.live (w.onPoint e p n).live := by
  have ordersThenLocks : Evolves e σ w.live ((w.orderPoints e n).lockTest e n).live :=
    (Work.orderPoints_evolves n w).trans (Work.lockTest_evolves n _)
  unfold Work.onPoint
  refine Work.withSlot_evolves n _ w fun x r hx hr => ?_
  dsimp only
  split
  · exact ordersThenLocks
  · exact ordersThenLocks
  · next h =>
    split
    · exact (Work.slotTo_notClearing_evolves n _ w (by intro _; rfl)
        (Live.notClearing_of_state hx (Slot.clears_of_state h rfl))).trans (Work.orderPoints_evolves n _)
    · exact .refl _
  · split
    · exact Work.replace_ne_evolves _ w (by decide)
    · exact .refl _
  · split
    · exact Work.replace_ne_evolves _ w (by decide)
    · exact .refl _
  all_goals exact .refl _

theorem Work.onClaim_evolves (n element : Nat) (proven : Bool) (w : Work) :
    Evolves e σ w.live (w.onClaim e n element proven).live := by
  unfold Work.onClaim
  split
  · exact Work.clearTest_evolves n w
  · exact Work.replace_ne_evolves _ w (by decide)

theorem Work.onProving_evolves (element n : Nat) (proven : Bool) (w : Work) :
    Evolves e σ w.live (w.onProving e element n proven).live := by
  unfold Work.onProving
  refine Work.withSlot_evolves n _ w fun x r _ _ => ?_
  split
  · split
    · exact Work.slotTo_evolves n _ w (by intro _; rfl) (by intro _ _; exact .inl rfl)
    · exact .refl _
  · exact Work.replace_ne_evolves _ w (by decide)

theorem Work.onAspect_evolves (g n : Nat) (w : Work) : Evolves e σ w.live (w.onAspect e g n).live := by
  unfold Work.onAspect
  refine Work.withSlot_evolves n _ w fun x r hx hr => ?_
  split
  · next hc =>
    split
    · exact Work.orderEntry_evolves _ w hx hr (.inr hc)
    · split
      · exact Work.replace_ne_evolves _ w (by decide)
      · exact .refl _
  · exact .refl _

theorem Work.onLineLost_evolves (link number n : Nat) (w : Work) :
    Evolves e σ w.live (w.onLineLost e link number n).live := by
  unfold Work.onLineLost
  refine Work.withSlot_evolves n _ w fun x r hx _ => ?_
  split
  · next h => exact Work.enterWaitLine_evolves n _ _ w (Live.notClearing_of_state hx (Slot.clears_of_state h rfl))
  · next h => exact Work.enterWaitLine_evolves n _ _ w (Live.notClearing_of_state hx (Slot.clears_of_state h rfl))
  · exact Work.replace_ne_evolves _ w (by decide)
  · exact Work.replace_ne_evolves _ w (by decide)
  all_goals exact .refl _

theorem Work.onLineFlag_evolves (link number n : Nat) (w : Work) :
    Evolves e σ w.live (w.onLineFlag e link number n).live := by
  unfold Work.onLineFlag
  refine Work.withSlot_evolves n _ w fun x r hx _ => ?_
  split
  · exact Work.clearTest_evolves n w
  · split
    · exact .refl _
    · exact Work.replace_ne_evolves _ w (by decide)
  · split
    · exact .refl _
    · exact Work.replace_ne_evolves _ w (by decide)
  all_goals exact .refl _

/-! ### Settling and scanning -/

theorem Live.mem_slotsWhere {test : Slot → RouteEntry → Bool} {l : Live} {n : Nat} :
    n ∈ l.slotsWhere e test ↔
      ∃ x, (n, x) ∈ l.slots ∧ ∃ r, Map.find x.route e.tables.routes = some r ∧ test x r = true := by
  simp only [Live.slotsWhere, List.mem_map, List.mem_filter, Prod.exists, exists_and_right, exists_eq_right]
  refine exists_congr fun x => and_congr_right fun _ => ?_
  cases Map.find x.route e.tables.routes <;> simp

/-- A failed ask refuses slots in WAIT_LINE alone (R84). -/
theorem Work.refuseSlots_evolves (reason : Nat) (ns : List Nat) (w : Work)
    (h : σ.founded → ∀ n ∈ ns, w.live.notClearing n) :
    Evolves e σ w.live (ns.foldl (fun w n => w.refuseSlot e reason n) w).live := by
  induction ns generalizing w with
  | nil => exact .refl _
  | cons n ns ih =>
    rw [List.foldl_cons]
    refine Evolves.trans ?_ (ih _ (fun hf m hm x hx => h hf m (by simp [hm]) x (Work.refuseSlot_slot _ _ _ _ hx)))
    by_cases hf : σ.founded
    · exact Work.refuseSlot_evolves reason n w (h hf n (by simp))
    · unfold Work.refuseSlot
      split
      · exact .refl _
      · exact (Work.report_evolves _ _ _ _ _ w).trans
          (Work.freeSlot_evolves n _ (fun _ _ hfounded => absurd hfounded hf))

/-- Taking a change that was handed over is a run. -/
theorem Work.take_evolves (c : Change) (w : Work) : Evolves e σ w.live (Work.take e c w).live := by
  cases c with
  | sectionState s => exact Work.forEach_evolves _ _ w (Work.onSection_evolves s)
  | pointChanged p => exact Work.forEach_evolves _ _ w (Work.onPoint_evolves p)
  | provingEnded g proven =>
    unfold Work.take
    dsimp only
    split
    · exact Work.onProving_evolves g _ proven w
    · exact .refl _
  | placeSignal g => exact Work.placeSignal_evolves g w
  | aspectChanged g => exact Work.forEach_evolves _ _ w (Work.onAspect_evolves g)
  | signalSupervised g => exact Work.forEach_evolves _ _ w Work.clearTest_evolves
  | claimChanged n element proven => exact Work.onClaim_evolves n element proven w
  | lineOurs link number => exact Work.forEach_evolves _ _ w Work.leaveWaitLine_evolves
  | lineLost link number => exact Work.forEach_evolves _ _ w (Work.onLineLost_evolves link number)
  | lineFlag link number => exact Work.forEach_evolves _ _ w (Work.onLineFlag_evolves link number)
  | askFailed link number reason =>
    refine Evolves.of_founded fun hfounded => Work.refuseSlots_evolves reason _ w fun hf n hn => ?_
    obtain ⟨x, hx, r, _, htest⟩ := Live.mem_slotsWhere.1 hn
    simp only [Bool.and_eq_true, beq_iff_eq] at htest
    exact Live.notClearing_of_state
      (Map.find_of_mem ((hfounded hf).slotsRise.imp Nat.ne_of_lt) hx) (Slot.clears_of_state htest.1 rfl)
  | linkLost link number =>
    exact Work.forEach_evolves _ _ w fun n v => Work.replace_ne_evolves _ v (by decide)

theorem Work.settle_evolves (k : Nat) (w : Work) : Evolves e σ w.live (w.settle e k).live := by
  induction k generalizing w with
  | zero => exact .refl _
  | succ k ih =>
    unfold Work.settle
    split
    · exact .refl _
    · next c rest _ =>
      exact (Work.take_evolves c { w with todo := [] }).trans
        (ih { Work.take e c { w with todo := [] } with todo := (Work.take e c { w with todo := [] }).todo ++ rest })

theorem Work.handedOn_evolves (w : Work) : Evolves e σ w.live (w.handedOn e).live := Work.settle_evolves _ w

theorem Work.placeAll_evolves (w : Work) : Evolves e σ w.live (w.placeAll e).live :=
  Evolves.foldl _ _ ({ w with places := [] } : Work) fun p _ v => Work.placePoint_evolves p v

theorem Work.settled_evolves (w : Work) : Evolves e σ w.live (w.settled e).live :=
  (Work.handedOn_evolves w).trans (Work.placeAll_evolves _)

/-- A slot's number keeps its record through point orders and the placing of claims. -/
theorem Work.placing_slots (n : Nat) (w : Work) :
    ((w.orderPoints e n).placeClaims e n).live.slots = w.live.slots := by
  have hpoint (p : Nat) (q : Position) (v : Work) : (v.orderPoint e p q).live.slots = v.live.slots := by
    rw [Work.orderPoint_rest]
  have horder : (w.orderPoints e n).live.slots = w.live.slots := by
    have go (ys : Map Position) (v : Work) :
        (ys.foldl (fun w y => w.orderRequired e y.1 y.2) v).live.slots = v.live.slots := by
      induction ys generalizing v with
      | nil => rfl
      | cons y ys ih =>
        rw [List.foldl_cons, ih]
        unfold Work.orderRequired
        split
        · rfl
        · split
          · exact hpoint _ _ v
          · rfl
    unfold Work.orderPoints Work.withSlot
    split
    · rfl
    · split
      · rfl
      · dsimp only
        split
        · exact go _ w
        · rfl
  have go (ns : List Nat) (v : Work) :
      (ns.foldl (fun w n => (w.placePoint e n).placeSignal e n) v).live.slots = v.live.slots := by
    induction ns generalizing v with
    | nil => rfl
    | cons m ns ih =>
      rw [List.foldl_cons, ih]
      have hp : (v.placePoint e m).live.slots = v.live.slots := by rw [Work.placePoint_rest]
      unfold Work.placeSignal
      split
      · split
        · rw [Work.orderSignal_slots, hp]
        · exact hp
      · exact hp
  unfold Work.placeClaims
  rw [go, horder]

theorem newSlot_clears (e : Env) (l : Live) (route : Nat) (r : RouteEntry) (fleet : Nat) :
    (newSlot e l route r fleet).clears = false := by
  unfold newSlot Slot.clears
  dsimp only
  split <;> rfl

theorem Work.begin_evolves (n : Nat) (w : Work) (h : w.live.notClearing n) :
    Evolves e σ w.live (w.begin e n).live := by
  unfold Work.begin
  split
  · exact Work.needLine_evolves n _ _ _ w (.refl _) h
  · exact Work.lockTest_evolves n w

/-- A taking's first changes are its one change of the records and its reports. -/
theorem Work.makeClaims_slots (n : Nat) (choices : List Choice) (w : Work) :
    (w.makeClaims e n choices).live.slots = w.live.slots := by
  have go (cs : List Choice) (v : Work) : (cs.foldl (fun w c => if c.level = 0 then w
      else w.report e .c .flankSubstitute .slot n (some (1000 * c.level + c.element))) v).live.slots = v.live.slots := by
    induction cs generalizing v with
    | nil => rfl
    | cons c cs ih =>
      rw [List.foldl_cons, ih]
      split
      · rfl
      · simp
  unfold Work.makeClaims
  rw [go]
  simp only [Work.on_live]
  rw [Live.redirectClaims_rest]

theorem Work.takeRoute_evolves {route : Nat} {r : RouteEntry} (fleet : Nat) {n : Nat} {choices : List Choice} (w : Work)
    (htakes : σ.takes) (hroute : Map.find route e.tables.routes = some r)
    (hcheck : w.live.checkCall e.tables r = .passes n choices) :
    Evolves e σ w.live (w.takeRoute e route r fleet n choices).live := by
  unfold Work.takeRoute
  dsimp only
  refine (LiveStep.taken route r fleet n choices htakes hroute hcheck).evolves.trans ?_
  refine (Work.makeClaims_evolves n choices
    (w.on (fun l => (l.setSlot n (newSlot e l route r fleet)).lockRoute e n r))).trans ?_
  refine ((Work.orderPoints_evolves n _).trans (Work.placeClaims_evolves n _)).trans (Work.begin_evolves n _ ?_)
  refine Live.notClearing_of_slots ((Work.placing_slots n _).trans (Work.makeClaims_slots n choices _)) ?_
  refine Live.notClearing_of_state (x := newSlot e w.live route r fleet) ?_ (newSlot_clears e w.live route r fleet)
  rw [Live.slot, Work.on_live, Live.lockRoute_rest]
  exact Map.find_put_self _ _ _

/-- The flank search does not read the waiting list. -/
theorem Live.searchFrom_waiting (t : Tables) (qs : List Request) (l : Live) (fs : List FlankEntry) (k : Nat)
    (chosen : List Choice) : Live.searchFrom t { l with waiting := qs } k chosen fs = l.searchFrom t k chosen fs := by
  have first (entry : Nat) (chosen : List Choice) (cs : List Candidate) (level : Nat) :
      Live.firstObtainable t chosen entry { l with waiting := qs } level cs =
        l.firstObtainable t chosen entry level cs := by
    induction cs generalizing level with
    | nil => rfl
    | cons c cs ih =>
      unfold Live.firstObtainable
      rw [ih]
      rfl
  induction fs generalizing k chosen with
  | nil => rfl
  | cons f fs ih =>
    unfold Live.searchFrom
    rw [first]
    simp only [ih]

/-- The checks of a call do not read the waiting list. -/
theorem Live.checkCall_waiting (t : Tables) (qs : List Request) (r : RouteEntry) (l : Live) :
    Live.checkCall t r { l with waiting := qs } = l.checkCall t r := by
  unfold Live.checkCall
  rw [show Live.flankSearch t r { l with waiting := qs } = l.flankSearch t r from Live.searchFrom_waiting t qs l _ _ _]
  rfl

theorem Work.examine_evolves (q : Request) (w : Work) (htakes : σ.takes) :
    Evolves e σ w.live (w.examine e q).live := by
  have hdrop : Evolves e σ w.live (w.on (Live.dropRequest q.route)).live :=
    (LiveStep.waiting _ (List.length_filter_le _ _)).evolves
  unfold Work.examine
  split
  · exact .refl _
  · next r hr =>
    split
    · next n choices hcheck =>
      have htaken := Work.takeRoute_evolves (σ := σ) q.fleet (w.on (Live.dropRequest q.route)) htakes hr
        ((Live.checkCall_waiting _ _ _ w.live).trans hcheck)
      exact ((hdrop.trans htaken).trans (Work.report_evolves _ _ _ _ _ _)).trans (Work.settled_evolves _)
    · split
      · exact hdrop.trans (Work.report_evolves _ _ _ _ _ _)
      · exact .refl _

theorem Work.scanOnce_evolves (w : Work) (htakes : σ.takes) : Evolves e σ w.live (w.scanOnce e).live :=
  Evolves.foldl _ _ ({ w with scan := false } : Work) fun q _ v => by
    split
    · exact .refl _
    · exact Work.examine_evolves q v htakes

/-- No single change adds a waiting request. -/
theorem LiveStep.waiting_length {e : Env} {σ : Scope} {a b : Live} (s : LiveStep e σ a b) :
    b.waiting.length ≤ a.waiting.length := by
  cases s with
  | offer => simp
  | waiting qs h => exact h
  | orderPoint p q r => rw [Live.takePointOrder, Live.placeOrder_rest]; rfl
  | orderSignal g c r => rw [Live.claimsProved, Live.takeSignalOrder, Live.placeOrder_rest]; rfl
  | admitted =>
    unfold Live.admitPending
    split
    · split
      · split <;> rfl
      · rfl
    · rfl
  | taken => rw [Live.taking_rest]; rfl
  | _ => rfl

theorem Evolves.waiting_empty {a b : Live} (h : Evolves e { σ with founded := False } a b) (hw : a.waiting = []) :
    b.waiting = [] :=
  h.keeps (P := fun l => l.waiting = []) (fun x y s hx => List.eq_nil_of_length_eq_zero
    (Nat.le_zero.1 (by simpa [hx] using s.waiting_length))) (fun hf => hf.elim) hw

/-- Scans take requests only where requests wait. -/
theorem Work.scans_evolves (k : Nat) (w : Work) (htakes : w.live.waiting ≠ [] → σ.takes) :
    Evolves e σ w.live (w.scans e k).live := by
  induction k generalizing w with
  | zero => exact .refl _
  | succ k ih =>
    unfold Work.scans
    split
    · next h =>
      simp only [Bool.and_eq_true, Bool.not_eq_true', List.isEmpty_eq_false_iff] at h
      exact (Work.scanOnce_evolves w (htakes h.1.2)).trans (ih _ (fun _ => htakes h.1.2))
    · exact .refl _

/-- The whole of an event is a run; routes are taken in it only where requests wait. -/
theorem Work.event_evolves (w : Work) (htakes : w.live.waiting ≠ [] → σ.takes) :
    Evolves e σ w.live (w.event e).live := by
  refine (Work.settled_evolves w).trans (Work.scans_evolves _ _ fun h => htakes fun hw => h ?_)
  exact Evolves.waiting_empty (σ := σ) (Work.settled_evolves w) hw

theorem Live.sendNotices_evolves (due : List Nat) (l : Live) : Evolves e σ l (l.sendNotices e.tables due) := by
  unfold Live.sendNotices
  split
  · induction due generalizing l with
    | nil => exact .refl _
    | cons n ns ih =>
      rw [List.foldl_cons]
      refine Evolves.trans ?_ (ih _)
      split
      · exact (LiveStep.send _).evolves
      · exact .refl _
  · exact .refl _

/-- The end of a step's work is a run. -/
theorem Work.finish_evolves (w : Work) (htakes : w.live.waiting ≠ [] → σ.takes) :
    Evolves e σ w.live (w.finish e) :=
  (Work.event_evolves w htakes).trans (Live.sendNotices_evolves _ _)

end Operations

end Sys2Proof.Machine
end

section
/-! PROOFS. Hand-overs count no axle, take no status and agree on no line (R28, R57): each single change that measures nothing
keeps what counting, statuses and a neighbour's telegrams wrote. -/

namespace Sys2Proof.Machine

/-! ### Sections whose locks are written -/

/-- A section's record once the slot's lock on it is removed. -/
def SectionRec.unlocked (n : Nat) (secs : List Nat) (sec : Nat) (r : SectionRec) : SectionRec :=
  if secs.contains sec && (r.lock.map (fun k => k.1)) == some n then { r with lock := none } else r

/-- A section's record once a route locks it for a slot (R78). -/
def SectionRec.lockedFor (n : Nat) (r : RouteEntry) (sec : Nat) (x : SectionRec) : SectionRec :=
  if r.path.contains sec then { x with lock := some (n, .path) }
  else if r.overlap.contains sec then { x with lock := some (n, .overlap) }
  else x

theorem Live.unlockSections_sections (n : Nat) (secs : List Nat) (l : Live) :
    (l.unlockSections n secs).sections = l.sections.map (fun x => (x.1, x.2.unlocked n secs x.1)) := by
  unfold Live.unlockSections SectionRec.unlocked
  refine List.map_congr_left fun x _ => ?_
  split <;> rfl

theorem Live.lockSections_sections (n : Nat) (r : RouteEntry) (l : Live) :
    (l.lockSections n r).sections = l.sections.map (fun x => (x.1, x.2.lockedFor n r x.1)) := by
  unfold Live.lockSections SectionRec.lockedFor
  refine List.map_congr_left fun x _ => ?_
  split
  · rfl
  · split <;> rfl

theorem Live.sectionAt_unlockSections (n : Nat) (secs : List Nat) (l : Live) (sec : Nat) :
    (l.unlockSections n secs).sectionAt sec = (l.sectionAt sec).map (SectionRec.unlocked n secs sec) := by
  rw [Live.sectionAt, Live.unlockSections_sections, Map.find_mapped (fun sec r => SectionRec.unlocked n secs sec r)]
  rfl

theorem Live.sectionAt_lockSections (n : Nat) (r : RouteEntry) (l : Live) (sec : Nat) :
    (l.lockSections n r).sectionAt sec = (l.sectionAt sec).map (SectionRec.lockedFor n r sec) := by
  rw [Live.sectionAt, Live.lockSections_sections, Map.find_mapped (fun sec x => SectionRec.lockedFor n r sec x)]
  rfl

theorem SectionRec.unlocked_counted (n : Nat) (secs : List Nat) (sec : Nat) (r : SectionRec) :
    (r.unlocked n secs sec).counted = r.counted := by
  unfold SectionRec.unlocked
  split <;> rfl

theorem SectionRec.lockedFor_counted (n : Nat) (r : RouteEntry) (sec : Nat) (x : SectionRec) :
    (x.lockedFor n r sec).counted = x.counted := by
  unfold SectionRec.lockedFor
  split
  · rfl
  · split <;> rfl

theorem Live.emptySlot_sections (t : Tables) (n : Nat) (l : Live) :
    (l.emptySlot t n).sections = (l.unlockSections n (Map.ids l.sections)).sections := rfl

/-- In two moments every section has the same record but for its lock holder. -/
def Live.SameCounts (a b : Live) : Prop :=
  ∀ n, (b.sectionAt n).map SectionRec.counted = (a.sectionAt n).map SectionRec.counted

theorem Live.sameCounts_of_sections {a b : Live} (h : b.sections = a.sections) : a.SameCounts b := fun n => by
  simp [Live.sectionAt, h]

theorem Live.unlockSections_sameCounts (n : Nat) (secs : List Nat) (l : Live) :
    l.SameCounts (l.unlockSections n secs) := fun sec => by
  rw [Live.sectionAt_unlockSections, Option.map_map]
  exact congrArg (fun f => Option.map f _) (funext (SectionRec.unlocked_counted n secs sec))

theorem Live.lockSections_sameCounts (n : Nat) (r : RouteEntry) (l : Live) : l.SameCounts (l.lockSections n r) :=
  fun sec => by
    rw [Live.sectionAt_lockSections, Option.map_map]
    exact congrArg (fun f => Option.map f _) (funext (SectionRec.lockedFor_counted n r sec))

/-- Forming the line-clear flags agrees on nothing. -/
theorem Live.formLineFlags_sameAgreed (t : Tables) (l : Live) : sameAgreed l.links (l.formLineFlags t).links := by
  intro n
  let g (k : Nat) (x : LinkRec) : LinkRec := { x with
    lines := x.lines.map (fun y => (y.1, { y.2 with lineClear := l.lineClearNow t k y.1 })) }
  rw [show (l.formLineFlags t).links = l.links.map (fun x => (x.1, g x.1 x.2)) from rfl, Map.find_mapped g, Option.map_map]
  refine congrArg (fun f => Option.map f _) (funext fun k => ?_)
  simp only [g, Function.comp, LinkRec.agreed, Map.each, List.map_map]
  rfl

theorem sameAgreed_of_eq {a b : Map LinkRec} (h : b = a) : sameAgreed a b := fun n => by rw [h]

/-! ### Single changes that measure nothing -/

/-- What telegrams measure stays between two moments: of the sections, the elements and the links. -/
structure Live.Unmeasured (a b : Live) : Prop where
  counts : a.SameCounts b
  reported : Live.SamePart ElementRec.reported a b
  agreed : sameAgreed a.links b.links

theorem Live.Unmeasured.of_eq {a b : Live} (hs : b.sections = a.sections) (he : b.elements = a.elements)
    (hl : b.links = a.links) : a.Unmeasured b :=
  ⟨Live.sameCounts_of_sections hs, Live.samePart_of_elements he, sameAgreed_of_eq hl⟩

theorem Live.Unmeasured.trans {a b c : Live} (h : a.Unmeasured b) (k : b.Unmeasured c) : a.Unmeasured c :=
  ⟨fun n => (k.counts n).trans (h.counts n), h.reported.trans k.reported, fun n => (k.agreed n).trans (h.agreed n)⟩

theorem Live.admitPending_rest (t : Tables) (l : Live) :
    l.admitPending t = { l with queue := (l.admitPending t).queue, elements := (l.admitPending t).elements } := by
  unfold Live.admitPending
  split
  · split
    · split <;> rfl
    · rfl
  · rfl

/-- A single change that measures nothing keeps what was measured. -/
theorem LiveStep.unmeasured {e : Env} {σ : Scope} {a b : Live} (s : LiveStep e σ a b) (hσ : ¬ σ.measures) :
    a.Unmeasured b := by
  cases s with
  | offer => exact .of_eq (by simp) (by simp) (by simp)
  | links ls _ h => exact ⟨Live.sameCounts_of_sections rfl, Live.samePart_of_elements rfl, h.resolve_left hσ⟩
  | flags =>
    exact ⟨Live.sameCounts_of_sections rfl, Live.samePart_of_elements rfl, Live.formLineFlags_sameAgreed _ _⟩
  | orderPoint p q r hp =>
    refine ⟨Live.sameCounts_of_sections ?_, Live.takePointOrder_reported e q hp, sameAgreed_of_eq ?_⟩ <;>
      (rw [Live.takePointOrder, Live.placeOrder_rest]; rfl)
  | orderSignal g c r hg =>
    refine ⟨Live.sameCounts_of_sections ?_,
      (Live.takeSignalOrder_reported e c hg).trans (Live.samePart_of_elements rfl), sameAgreed_of_eq ?_⟩ <;>
      (rw [Live.claimsProved, Live.takeSignalOrder, Live.placeOrder_rest]; rfl)
  | admitted =>
    refine ⟨Live.sameCounts_of_sections ?_, (Live.admitPending_bare _ _).reported, sameAgreed_of_eq ?_⟩ <;>
      rw [Live.admitPending_rest]
  | empty n x =>
    refine ⟨fun sec => ?_, fun m => ?_, Live.formLineFlags_sameAgreed _ _⟩
    · rw [show (a.emptySlot e.tables n).sectionAt sec = (a.unlockSections n (Map.ids a.sections)).sectionAt sec from rfl]
      exact Live.unlockSections_sameCounts n _ a sec
    · rw [Live.emptySlot_find, Option.map_map]
      refine congrArg (fun f => Option.map f _) (funext fun r => ?_)
      simp only [Function.comp, ElementRec.left_reported, ElementRec.unlocked_reported]
  | release n secs ps =>
    refine ⟨Live.unlockSections_sameCounts n secs a, ?_, Live.formLineFlags_sameAgreed _ _⟩
    exact Live.samePart_of_mapped (fun p r => ElementRec.unlocked n ps p r)
      (Live.unlockPoints_elements n ps (a.unlockSections n secs)) (fun p r => r.unlocked_reported n ps p)
  | taken route r fleet n choices =>
    have hrest := Live.taking_rest e route r fleet n choices a
    refine ⟨fun sec => ?_, Live.taking_reported e route r fleet n choices a, ?_⟩
    · rw [hrest]
      exact Live.lockSections_sameCounts n r a sec
    · rw [hrest]
      exact Live.formLineFlags_sameAgreed _ (a.lockSections n r)
  | counted _ _ _ h => exact absurd h hσ
  | sectionChanged _ _ _ h => exact absurd h hσ
  | agree _ h => exact absurd h hσ
  | element _ _ _ h => exact absurd h hσ
  | shown _ _ _ h => exact absurd h hσ
  | _ => exact .of_eq rfl rfl rfl

/-- A run of hand-overs keeps what was measured. -/
theorem Evolves.unmeasured {e : Env} {a b : Live}
    (h : Evolves e { founded := False, takes := True, measures := False, rests := fun _ => True } a b) :
    a.Unmeasured b :=
  h.keeps (P := fun l => a.Unmeasured l) (fun _ _ s hx => hx.trans (s.unmeasured id)) False.elim (.of_eq rfl rfl rfl)

/-- Settles O36: the end of a step's work is a run of hand-overs, and none of them measures. -/
theorem handOversKeepMeasurements : Obligations.HandOversKeepMeasurements := by
  intro w s n
  have h : w.live.Unmeasured (w.finish s.env) := Evolves.unmeasured (Work.finish_evolves w (fun _ => trivial))
  exact ⟨h.counts n, h.reported n, h.agreed n⟩

end Sys2Proof.Machine
end

section
/-! PROOFS. What telegrams, expiries and orders from outside do to the records is a run of single changes too: counting,
statuses, the boundary telegrams, the gate, cancellations and restart. -/

namespace Sys2Proof.Machine

/-! ### Counting keeps the law of a section (R19, R24) -/

theorem insertCause_ne_nil (c : Cause) (cs : List Cause) : insertCause c cs ≠ [] := by
  cases cs with
  | nil => simp [insertCause]
  | cons d ds =>
    unfold insertCause
    split
    · simp
    · split <;> simp

theorem SectionRec.lawful_balance {r : SectionRec} (h : r.lawful = true) : r.balance ≤ Config.maxBalance := by
  simp only [SectionRec.lawful, Bool.and_eq_true, decide_eq_true_eq] at h
  exact h.1

/-- A section that a cause disturbs is lawful when its balance is in range. -/
theorem SectionRec.addCause_lawful (c : Cause) (r : SectionRec) (h : r.balance ≤ Config.maxBalance) :
    (r.addCause c).1.lawful = true := by
  have := insertCause_ne_nil c r.causes
  simp [SectionRec.addCause, SectionRec.lawful, h, this]

theorem SectionRec.addCause_counted (c : Cause) (r : SectionRec) : r.Counted (r.addCause c).1 :=
  ⟨rfl, rfl, fun h => SectionRec.addCause_lawful c r (SectionRec.lawful_balance h)⟩

/-- What a balance without a clamp gives is lawful. -/
theorem SectionRec.settle_lawful (net : Int) (b : Nat) (r : SectionRec) (h : r.lawful = true)
    (hb : b ≤ Config.maxBalance) : (SectionRec.settle net { r with balance := b }).lawful = true := by
  obtain ⟨state, balance, causes, lock, possession, disagreement, neighbourState, axleSeen⟩ := r
  simp only [SectionRec.lawful, Bool.and_eq_true, decide_eq_true_eq] at h
  obtain ⟨-, hstate⟩ := h
  cases state with
  | clear | occupied =>
    simp only [Bool.and_eq_true] at hstate
    by_cases h0 : b = 0
    · subst h0
      simp [SectionRec.settle, SectionRec.lawful, hstate.2]
    · simp [SectionRec.settle, SectionRec.lawful, hb, h0, hstate.2, Nat.pos_of_ne_zero h0]
  | disturbed => simp [SectionRec.settle, SectionRec.lawful, hb, hstate]
  | sweep =>
    unfold SectionRec.settle
    dsimp only
    split
    · next hseen =>
      simp only [Bool.and_eq_true, beq_iff_eq] at hseen
      simp [SectionRec.lawful, hseen.2, hstate]
    · simp [SectionRec.lawful, hb, hstate]

theorem SectionRec.settle_holders (net : Int) (r : SectionRec) :
    (r.settle net).lock = r.lock ∧ (r.settle net).possession = r.possession := by
  unfold SectionRec.settle
  split
  · exact ⟨rfl, rfl⟩
  · exact ⟨rfl, rfl⟩
  · exact ⟨rfl, rfl⟩
  · split <;> exact ⟨rfl, rfl⟩

theorem SectionRec.applyNet_keepsLaw (net : Int) (r : SectionRec) : r.Counted (r.applyNet net).1 := by
  unfold SectionRec.applyNet
  dsimp only
  split
  · exact ⟨rfl, rfl, fun _ => SectionRec.addCause_lawful _ _ (Nat.zero_le _)⟩
  · split
    · exact ⟨rfl, rfl, fun _ => SectionRec.addCause_lawful _ _ (Nat.le_refl _)⟩
    · next h => exact ⟨(SectionRec.settle_holders net _).1, (SectionRec.settle_holders net _).2, fun hl =>
        SectionRec.settle_lawful net _ r hl (by omega)⟩

theorem SectionRec.compare_counted (theirs : SectionState) (r : SectionRec) : r.Counted (r.compare theirs).1 := by
  unfold SectionRec.compare
  dsimp only
  split
  · split
    · exact ⟨rfl, rfl, id⟩
    · exact ⟨rfl, rfl, fun h => SectionRec.addCause_lawful _ _ (SectionRec.lawful_balance h)⟩
  · exact ⟨rfl, rfl, id⟩

theorem SectionRec.reset_counted (possessed : Bool) (r : SectionRec) :
    r.Counted (r.reset (if possessed then .clear else .sweep)) := by
  cases possessed <;> exact ⟨rfl, rfl, fun _ => by simp [SectionRec.reset, SectionRec.lawful]⟩

theorem SectionRec.Counted.leaveClear {old new : SectionRec} (h : old.Counted new) (s : SectionState) :
    old.Counted (new.leaveClear s) := by
  unfold SectionRec.leaveClear
  split
  · exact ⟨h.lock, h.possession, h.lawful⟩
  · exact h

theorem Live.noticeReports_formLineFlags (t : Tables) (watermark : Nat) (l : Live) :
    (l.formLineFlags t).noticeReports watermark = (l.noticeReports watermark).formLineFlags t := by
  unfold Live.noticeReports
  rw [Live.formLineFlags_reports]
  split <;> rfl

/-- Reports are offered before the line-clear flags are formed, or after. -/
theorem Live.formLineFlags_offer (t : Tables) (e : Env) (cls : ReportClass) (code : ReportCode) (kind : SubjectKind)
    (number : Nat) (detail : Option Nat) (l : Live) :
    (l.offer e cls code kind number detail).formLineFlags t =
      (l.formLineFlags t).offer e cls code kind number detail := by
  unfold Live.offer
  dsimp only
  rw [Live.formLineFlags_reports]
  split
  · exact (Live.noticeReports_formLineFlags t _ _).symm
  · rfl

section Measured
variable {e : Env} {σ : Scope}

/-- Changing a section's record by counting is a run (R24, R27, R28). -/
theorem Work.section_evolves (hm : σ.measures) (n : Nat) (f : SectionRec → SectionRec × Option Cause) (w : Work)
    (hf : ∀ r : SectionRec, r.Counted (f r).1) : Evolves e σ w.live (w.section_ e n f).live := by
  unfold Work.section_
  split
  · exact .refl _
  · next old hold =>
    have hcounted := (hf old).leaveClear old.state
    dsimp only
    split
    · next hstate =>
      refine (LiveStep.counted n old _ hm hold hcounted hstate).evolves.trans ?_
      split
      · exact Work.report_evolves _ _ _ _ _ (w.on (Live.setSection n ((f old).1.leaveClear old.state)))
      · exact .refl _
    · refine (LiveStep.sectionChanged n old _ hm hold hcounted).evolves.trans ?_
      unfold Work.handSection
      simp only [Work.hand_live, Work.on_live]
      have hsend (b : Bool) (x : Sent) (l : Live) :
          (if b = true then l.send x else l).formLineFlags e.tables = if b = true then (l.formLineFlags e.tables).send x
            else l.formLineFlags e.tables := by cases b <;> rfl
      have sends (b : Bool) (x : Sent) (l : Live) : Evolves e σ l (if b = true then l.send x else l) := by
        split
        · exact (LiveStep.send x).evolves
        · exact .refl _
      rw [hsend]
      refine Evolves.trans ?_ (sends _ _ _)
      split
      · rw [Work.report_live, Live.formLineFlags_offer]
        exact (LiveStep.offer _ _ _ _ _).evolves
      · exact .refl _

theorem Work.evaluate_evolves (hm : σ.measures) (h : Nat) (references : Option (Octet × Octet)) (nA nB : Octet) (w : Work) :
    Evolves e σ w.live (w.evaluate e h references nA nB).live := by
  unfold Work.evaluate
  split
  · exact .refl _
  · dsimp only
    split
    · exact Work.forEach_evolves _ _ w fun s v => Work.section_evolves hm _ _ v (SectionRec.addCause_counted _)
    · exact Work.forEach_evolves _ _ w fun s v => Work.section_evolves hm _ _ v (SectionRec.applyNet_keepsLaw _)

theorem Work.loseHead_evolves (hm : σ.measures) (h : Nat) (w : Work) : Evolves e σ w.live (w.loseHead e h).live :=
  Work.forEach_evolves _ _ w fun _ v => Work.section_evolves hm _ _ v (SectionRec.addCause_counted _)

/-! ### The Element Mirror -/

theorem Work.scanIf_live (b : Bool) (w : Work) : (w.scanIf b).live = w.live := by cases b <;> rfl

/-- Proving the claims on an element takes a free choice of their order besides (log 4). -/
theorem Work.reproved_evolves (n : Nat) (w : Work) : Evolves e σ (w.live.claimsProved n) (w.reprove n).live := by
  rw [Work.reprove_live]
  exact (LiveStep.choices _).evolves

/-- A point's record is written, and the claims on it proved where it shows another position. -/
theorem Work.handPoint_evolves (hm : σ.measures) (p : Nat) (old new : PointRec) (w : Work)
    (hold : w.live.point p = some old) (hlike : (ElementRec.point old).alike (.point new)) :
    Evolves e σ w.live (w.handPoint e p old new).live := by
  have hfind := Live.point_some.1 hold
  unfold Work.handPoint
  rw [Work.scanIf_live]
  split
  · refine .after (Work.reproved_evolves p _) ?_
    simp only [apply_ite Work.live, Work.noticeDue_live, Work.placeDue_live, Work.hand_live, Work.on_live, ite_self]
    exact (LiveStep.shown p (.point old) (.point new) hm hfind hlike).evolves
  · next hsame =>
    simp only [apply_ite Work.live, Work.noticeDue_live, Work.placeDue_live, Work.hand_live, Work.on_live, ite_self]
    refine (LiveStep.element p (.point old) (.point new) hm hfind hlike fun q => ?_).evolves
    cases q <;> simp_all [ElementRec.shows]

/-- A signal's record is written, and the claims on it proved where its proven aspect is another. -/
theorem Work.handSignal_evolves (hm : σ.measures) (g : Nat) (old new : SignalRec) (ended : Option Bool) (w : Work)
    (hold : w.live.signal g = some old) (hlike : (ElementRec.signal old).alike (.signal new)) :
    Evolves e σ w.live (w.handSignal e g old new ended).live := by
  have hfind := Live.signal_some.1 hold
  have hwritten (v : Work) (hv : v.live = w.live.setElement g (.signal new)) : Evolves e σ w.live
      (Work.live (if (old.proven != new.proven) = true then (v.hand [.aspectChanged g]).reprove g else v)) := by
    split
    · refine .after (Work.reproved_evolves g _) ?_
      rw [Work.hand_live, hv]
      exact (LiveStep.shown g (.signal old) (.signal new) hm hfind hlike).evolves
    · next hsame =>
      rw [hv]
      refine (LiveStep.element g (.signal old) (.signal new) hm hfind hlike fun q => ?_).evolves
      have hc := hlike.2.2
      cases q <;> simp_all [ElementRec.shows]
  have hnotice (b : Bool) (v : Work) : (Work.live (if b = true then v.noticeDue g else v)) = v.live := by
    cases b <;> rfl
  have hlast (b : Bool) (v : Work) : (Work.live (if b = true then v.hand [.signalSupervised g] else v)) = v.live := by
    cases b <;> rfl
  unfold Work.handSignal
  dsimp only
  rw [Work.scanIf_live, hlast]
  cases ended with
  | none => exact hwritten _ (hnotice _ _)
  | some proven => exact hwritten _ (hnotice _ _)

theorem PointRec.underMovement_alike (target : Position) (reported : Option Position) (r : PointRec) :
    (ElementRec.point r).alike (.point (r.underMovement target reported)) := by
  unfold PointRec.underMovement
  split <;> exact ⟨rfl, rfl⟩

theorem PointRec.underPersistence_alike (limit : Nat) (reported : Option Position) (r : PointRec) :
    (ElementRec.point r).alike (.point (r.underPersistence limit reported)) := by
  unfold PointRec.underPersistence
  split
  · exact ⟨rfl, rfl⟩
  · split <;> exact ⟨rfl, rfl⟩

theorem PointRec.status_alike (e : Env) (p : Nat) (reported : Option Position) (r : PointRec) :
    (ElementRec.point r).alike (.point (r.status e p reported)) := by
  unfold PointRec.status
  dsimp only
  split
  · exact PointRec.underMovement_alike _ _ { r with
      supervised := true, freshness := some (e.clock + e.tables.supervision p), lastReported := some reported }
  · split
    · exact PointRec.underPersistence_alike _ _ { r with
        supervised := true, freshness := some (e.clock + e.tables.supervision p), lastReported := some reported }
    · exact ⟨rfl, rfl⟩

theorem SignalRec.status_alike (e : Env) (g : Nat) (shown : Option Aspect) (r : SignalRec) :
    (ElementRec.signal r).alike (.signal (r.status e g shown).1) := by
  unfold SignalRec.status
  dsimp only
  split <;> exact ⟨rfl, rfl, rfl⟩

/-- A head's record is written. -/
theorem Live.setHead_evolves (hm : σ.measures) {n : Nat} {old : HeadRec} (new : HeadRec) {l : Live}
    (hold : Map.find n l.elements = some (.head old)) : Evolves e σ l (l.setElement n (.head new)) :=
  (LiveStep.element n (.head old) (.head new) hm hold trivial (fun q => by cases q <;> rfl)).evolves

theorem Map.mem_put {α : Type} {k : Nat} {a : α} {m : Map α} {x : Nat × α} (h : x ∈ Map.put k a m) :
    x = (k, a) ∨ x ∈ m := by
  induction m with
  | nil => simpa [Map.put] using h
  | cons y m ih =>
    unfold Map.put at h
    split at h
    · simpa using h
    · split at h
      · rcases List.mem_cons.1 h with h | h
        · exact .inl h
        · exact .inr (List.mem_cons_of_mem _ h)
      · rcases List.mem_cons.1 h with h | h
        · exact .inr (by simp [h])
        · exact (ih h).imp id (List.mem_cons_of_mem _)

theorem Live.passCounters_evolves (hm : σ.measures) (h : Nat) (nA nB : Octet) (l : Live) :
    Evolves e σ l (l.passCounters e h nA nB) := by
  unfold Live.passCounters
  split
  · exact .refl _
  · split
    · exact .refl _
    · next link _ _ _ k hk =>
      split
      · exact .refl _
      · refine (LiveStep.links _ ?_ (.inl hm)).evolves.trans (LiveStep.send _).evolves
        intro x hx y hy
        rcases Map.mem_put hx with rfl | hx
        · exact ⟨(link, k), Map.mem_of_find hk, rfl, y, hy, rfl, rfl⟩
        · exact ⟨x, hx, rfl, y, hy, rfl, rfl⟩

theorem Work.headStatus_evolves (hm : σ.measures) (h : Nat) (old : HeadRec) (nA nB : Octet) (w : Work)
    (hold : Map.find h w.live.elements = some (.head old)) :
    Evolves e σ w.live (w.headStatus e h old nA nB).live := by
  unfold Work.headStatus
  dsimp only
  have hset := Live.setHead_evolves (e := e) (σ := σ) hm { old with
    supervised := true, freshness := some (e.clock + e.tables.supervision h), references := some (nA, nB) } hold
  refine .after (Live.passCounters_evolves hm h nA nB _) (.after (Work.evaluate_evolves hm h _ nA nB _) ?_)
  simpa only [apply_ite Work.live, Work.noticeDue_live, Work.on_live, ite_self] using hset

/-- An element's record with the mark of a status of another kind (R45). -/
def ElementRec.markedWrongKind : ElementRec → ElementRec
  | .point x => .point { x with wrongKind := true }
  | .signal x => .signal { x with wrongKind := true }
  | .head x => .head { x with wrongKind := true }

theorem ElementRec.markedWrongKind_alike (r : ElementRec) : r.alike r.markedWrongKind := by
  cases r with
  | point x => exact ⟨rfl, rfl⟩
  | signal x => exact ⟨rfl, rfl, rfl⟩
  | head x => trivial

theorem ElementRec.markedWrongKind_shows (r : ElementRec) (q : Required) : r.markedWrongKind.shows q = r.shows q := by
  cases r <;> cases q <;> rfl

theorem Work.wrongKind_evolves (hm : σ.measures) (n : Nat) (r : ElementRec) (w : Work)
    (hr : Map.find n w.live.elements = some r) : Evolves e σ w.live (w.wrongKind e n r).live := by
  have h : Evolves e σ w.live ((w.on (Live.setElement n r.markedWrongKind)).report e .c .wrongKind .element n none).live :=
    .after (Work.report_evolves _ _ _ _ _ _)
      (LiveStep.element n r _ hm hr r.markedWrongKind_alike r.markedWrongKind_shows).evolves
  cases r with
  | point x | signal x | head x =>
    unfold Work.wrongKind
    dsimp only
    split
    · exact .refl _
    · exact h

theorem Work.elementStatus_evolves (hm : σ.measures) (n : Nat) (content : StatusContent) (w : Work) :
    Evolves e σ w.live (w.elementStatus e n content).live := by
  unfold Work.elementStatus
  split
  · split
    · unfold Work.positionStatus
      split
      · exact .refl _
      · next r hr => exact Work.handPoint_evolves hm n r _ w (Live.point_some.2 hr) (PointRec.status_alike e n _ r)
      · next r hr _ => exact Work.wrongKind_evolves hm n _ w ‹_›
    · exact .refl _
  · split
    · next shown _ =>
      unfold Work.aspectStatus
      split
      · exact .refl _
      · next r hr =>
        dsimp only
        split
        · refine (Work.report_evolves _ _ _ _ _ w).trans
            (Work.handSignal_evolves hm n r _ _ _ (Live.signal_some.2 ?_) (SignalRec.status_alike e n shown r))
          simpa using hr
        · exact Work.handSignal_evolves hm n r _ _ w (Live.signal_some.2 hr) (SignalRec.status_alike e n shown r)
      · exact Work.wrongKind_evolves hm n _ w ‹_›
    · exact .refl _
  · unfold Work.countsStatus
    split
    · exact .refl _
    · next r hr => exact Work.headStatus_evolves hm n r _ _ w hr
    · exact Work.wrongKind_evolves hm n _ w ‹_›
  · exact .refl _

theorem Work.silence_evolves (hm : σ.measures) (n : Nat) (w : Work) : Evolves e σ w.live (w.silence e n).live := by
  unfold Work.silence
  split
  · exact .refl _
  · next r hr => exact Work.handPoint_evolves hm n r _ w (Live.point_some.2 hr) ⟨rfl, rfl⟩
  · next r hr => exact Work.handSignal_evolves hm n r _ none w (Live.signal_some.2 hr) ⟨rfl, rfl, rfl⟩
  · next r hr =>
    exact (Live.setHead_evolves hm r.silent hr).trans
      (Work.loseHead_evolves hm n (Work.noticeDue n (w.on (Live.setElement n (.head r.silent)))))

theorem Work.failMovement_evolves (hm : σ.measures) (n : Nat) (r : PointRec) (target : Position) (w : Work)
    (hr : w.live.point n = some r) : Evolves e σ w.live (w.failMovement e n r target).live :=
  (Work.report_evolves _ _ _ _ _ w).trans
    (Work.handPoint_evolves hm n r _ _ (Live.point_some.2 (by simpa using Live.point_some.1 hr)) ⟨rfl, rfl⟩)

theorem Work.failProving_evolves (hm : σ.measures) (n : Nat) (r : SignalRec) (w : Work)
    (hr : w.live.signal n = some r) : Evolves e σ w.live (w.failProving e n r).live :=
  (Work.report_evolves _ _ _ _ _ w).trans
    (Work.handSignal_evolves hm n r _ _ _ (Live.signal_some.2 (by simpa using Live.signal_some.1 hr)) ⟨rfl, rfl, rfl⟩)

/-! ### The Boundary Unit -/

theorem Work.lineTo_evolves (hm : σ.measures) (link line : Nat) (f : LineRec → LineRec) (w : Work)
    (hf : ∀ y, (f y).lineClear = y.lineClear) : Evolves e σ w.live (w.lineTo link line f).live :=
  (LiveStep.links _ (Live.updateLine_sameFlags link line f w.live hf) (.inl hm)).evolves

theorem Work.updateLink_evolves (hm : σ.measures) (n : Nat) (f : LinkRec → LinkRec) (w : Work)
    (hf : ∀ k, (f k).lines = k.lines) : Evolves e σ w.live (w.updateLink n f).live := by
  refine (LiveStep.links _ (fun k hk y hy => ?_) (.inl hm)).evolves
  obtain ⟨j, hj, hid, hrec⟩ := Map.find_update_mem hk
  refine ⟨j, hj, hid, y, ?_, rfl, rfl⟩
  rcases hrec with hrec | ⟨_, hrec⟩
  · rwa [hrec] at hy
  · rwa [hrec, hf] at hy

theorem Work.dropLine_evolves (hm : σ.measures) (link : Nat) (w : Work) (x : Nat × LineRec) :
    Evolves e σ w.live (Work.dropLine link w x).live := by
  unfold Work.dropLine
  dsimp only
  split
  · exact Work.lineTo_evolves hm link x.1 _ w (by intro _; rfl)
  · exact Work.lineTo_evolves hm link x.1 _ w (by intro _; rfl)

theorem Work.leaveUp_evolves (hm : σ.measures) (link : Nat) (k : LinkRec) (w : Work) :
    Evolves e σ w.live (w.leaveUp e link k).live :=
  (Evolves.foldl (Work.dropLine link) k.lines w (fun x _ v => Work.dropLine_evolves hm link v x)).trans
    (LiveStep.agree _ hm).evolves

theorem Work.linkDown_evolves (hm : σ.measures) (link : Nat) (k : LinkRec) (w : Work) :
    Evolves e σ w.live (w.linkDown e link k).live := by
  have hdown := (Work.updateLink_evolves (e := e) hm link (fun k => { k with state := .down, lastHeard := none }) w
    (fun _ => rfl)).trans
    (Work.report_evolves .b .linkDown .link link (some (if k.state = .up then 2 else 1)) (w.updateLink link _))
  unfold Work.linkDown
  dsimp only
  split
  · next hup =>
    rw [if_pos hup] at hdown
    exact hdown.trans (Work.leaveUp_evolves hm link k _)
  · next hup =>
    rw [if_neg hup] at hdown
    exact hdown

theorem LinkRec.hear_lines (moment : Nat) (k : LinkRec) : (k.hear moment).lines = k.lines := by
  unfold LinkRec.hear
  split <;> rfl

theorem Work.compareShared_evolves (hm : σ.measures) (link line : Nat) (reported : Option LineReport) (w : Work) :
    Evolves e σ w.live (w.compareShared e link line reported).live := by
  unfold Work.compareShared
  split
  · exact Work.section_evolves hm _ _ w (SectionRec.compare_counted _)
  · exact .refl _

theorem Work.agree_evolves (hm : σ.measures) (link line : Nat) (theirs : LineReport) (w : Work) :
    Evolves e σ w.live (w.agree e link line theirs).live := by
  unfold Work.agree
  split
  · exact .refl _
  · split
    · exact .refl _
    · split
      · exact .refl _
      · next detail _ =>
        have h := (Work.lineTo_evolves (e := e) hm link line (fun y => { y with owner := .unknown }) w (fun _ => rfl)).trans
          (Work.report_evolves .a .directionConflict .line (lineSubject link line) (some detail) (w.lineTo link line _))
        dsimp only
        split <;> exact h

theorem Work.applyLine_evolves (hm : σ.measures) (link : Nat) (lines : List PresenceLine) (broughtUp : Bool) (line : Nat)
    (w : Work) : Evolves e σ w.live (w.applyLine e link lines broughtUp line).live := by
  unfold Work.applyLine
  split
  · exact .refl _
  · next y _ =>
    dsimp only
    have hline := (Work.lineTo_evolves (e := e) hm link line
      (fun y => { y with last := some ((lineReport lines line).getD LineReport.absent) }) w (fun _ => rfl)).trans
        (Work.compareShared_evolves hm link line (lineReport lines line) (w.lineTo link line _))
    refine (hline.trans ?_).trans (Work.agree_evolves hm link line _ _)
    split
    · exact Work.handedOn_evolves (Work.hand _ _)
    · exact Work.handedOn_evolves _

theorem Work.applyPresence_evolves (hm : σ.measures) (link : Nat) (lines : List PresenceLine) (broughtUp : Bool)
    (k : LinkRec) (w : Work) : Evolves e σ w.live (w.applyPresence e link lines broughtUp k).live :=
  Work.forEach_evolves _ _ w fun line v => Work.applyLine_evolves hm link lines broughtUp line v

theorem Work.mismatched_evolves (hm : σ.measures) (link : Nat) (identity : Identity) (w : Work) :
    Evolves e σ w.live (w.mismatched e link identity).live := by
  unfold Work.mismatched
  split
  · exact .refl _
  · split
    · exact .refl _
    · exact (Work.updateLink_evolves (e := e) hm link (fun k => { k with mismatch := true }) w (fun _ => rfl)).trans
        (Work.report_evolves _ _ _ _ _ (w.updateLink link _))

theorem Work.takePresence_evolves (hm : σ.measures) (own identity : Identity) (version : Word16)
    (lines : List PresenceLine) (link : Nat) (k : LinkRec) (w : Work) :
    Evolves e σ w.live (Work.takePresence own identity version lines link k e w).live := by
  have hwritten := Work.updateLink_evolves (e := e) hm link
    (fun k => { k with identity := some identity, version := some version }) w (fun _ => rfl)
  unfold Work.takePresence
  dsimp only
  refine hwritten.trans ?_
  generalize w.updateLink link (fun k => { k with identity := some identity, version := some version }) = v
  split
  · split
    · exact Work.applyPresence_evolves hm link lines false k v
    · exact (((Work.updateLink_evolves (e := e) hm link (fun k => { k with state := .aligning, mismatch := false }) v
        (fun _ => rfl)).trans (Work.leaveUp_evolves hm link k (v.updateLink link _))).trans
          (Work.handedOn_evolves _)).trans (Work.mismatched_evolves hm link identity _)
  · split
    · exact Work.mismatched_evolves hm link identity v
    · split
      · exact .refl _
      · exact (Work.updateLink_evolves (e := e) hm link (fun k => { k with state := .up }) v (fun _ => rfl)).trans
          (Work.applyPresence_evolves hm link lines true k (v.updateLink link _))

theorem Work.unknownHead_evolves (hm : σ.measures) (link number : Nat) (w : Work) :
    Evolves e σ w.live (w.unknownHead e link number).live := by
  unfold Work.unknownHead
  split
  · exact .refl _
  · split
    · exact .refl _
    · exact (Work.updateLink_evolves (e := e) hm link (fun k => { k with unknownSeen := k.unknownSeen ++ [number] }) w
        (fun _ => rfl)).trans (Work.report_evolves _ _ _ _ _ (w.updateLink link _))

theorem Work.countsStatus_evolves (hm : σ.measures) (n : Nat) (nA nB : Octet) (w : Work) :
    Evolves e σ w.live (w.countsStatus e n nA nB).live := Work.elementStatus_evolves hm n (.counts nA nB) w

theorem Work.deliver_evolves (hm : σ.measures) (link : Nat) (w : Work) (x : CountsEntry)
    (htakes : w.live.waiting ≠ [] → σ.takes) : Evolves e σ w.live (Work.deliver e link w x).live := by
  unfold Work.deliver
  split
  · next h _ =>
    refine (Work.countsStatus_evolves hm h x.nA x.nB w).trans (Work.event_evolves _ fun hw => htakes fun h0 => hw ?_)
    exact Evolves.waiting_empty (σ := σ) (Work.countsStatus_evolves (e := e) (σ := { σ with founded := False }) hm h x.nA x.nB w) h0
  · exact Work.unknownHead_evolves hm link x.number w

/-- The entries of a COUNTS, one after another, are a run (R139). -/
theorem Work.deliverAll_evolves (hm : σ.measures) (link : Nat) (entries : List CountsEntry) (w : Work)
    (htakes : w.live.waiting ≠ [] → σ.takes) :
    Evolves e σ w.live (entries.foldl (Work.deliver e link) w).live := by
  induction entries generalizing w with
  | nil => exact .refl _
  | cons x xs ih =>
    rw [List.foldl_cons]
    refine (Work.deliver_evolves hm link w x htakes).trans (ih _ fun hw => htakes fun h0 => hw ?_)
    exact Evolves.waiting_empty (σ := σ)
      (Work.deliver_evolves (σ := { σ with founded := False }) hm link w x htakes) h0

theorem Work.takeAsk_evolves (hm : σ.measures) (link line : Nat) (number : Octet) (k : LinkRec) (w : Work) :
    Evolves e σ w.live (Work.takeAsk link line number k e w).live := by
  unfold Work.takeAsk
  split
  · split
    · split
      · unfold Work.yieldLine
        dsimp only
        split
        · exact .after (Work.lineTo_evolves hm link line (fun y => { y with owner := .neighbour, ask := none }) _
            (fun _ => rfl)) (LiveStep.send _).evolves
        · exact .after (Work.lineTo_evolves hm link line (fun y => { y with owner := .neighbour }) _ (fun _ => rfl))
            (LiveStep.send _).evolves
      · exact (LiveStep.send _).evolves
    · exact .refl _
  · exact .refl _

theorem Work.takeReply_evolves (hm : σ.measures) (link line : Nat) (number : Octet) (yielded : Bool) (k : LinkRec)
    (w : Work) : Evolves e σ w.live (Work.takeReply link line number yielded k e w).live := by
  unfold Work.takeReply
  split
  · split
    · exact .refl _
    · split
      · unfold Work.endAsk
        split
        · exact Work.lineTo_evolves hm link line _ w (by intro _; rfl)
        · exact Work.lineTo_evolves hm link line _ w (by intro _; rfl)
      · split
        · split
          · exact (Work.lineTo_evolves (e := e) hm link line (fun y => { y with owner := .us, late := none, ask := none }) w
              (fun _ => rfl)).trans (Work.report_evolves .c .lateYield .line (lineSubject link line) (some number.toNat)
                (w.lineTo link line _))
          · exact Work.lineTo_evolves hm link line _ w (by intro _; rfl)
        · exact .refl _
  · exact .refl _

theorem Work.askTimeout_evolves (hm : σ.measures) (link line : Nat) (number : Octet) (w : Work) :
    Evolves e σ w.live (w.askTimeout link line number).live :=
  Work.lineTo_evolves hm link line _ w (by intro _; rfl)

/-! ### Sections reset, the gate, cancellations -/

theorem Work.resetSection_evolves (hm : σ.measures) (n : Nat) (r : SectionRec) (w : Work) :
    Evolves e σ w.live (w.resetSection e n r).live :=
  (Work.report_evolves _ _ _ _ _ w).trans (Work.section_evolves hm n _ _ (SectionRec.reset_counted r.possession.isSome))

/-- The gate's DANGER order, and the replacement of the slot whose entry signal it is (R150, R151). -/
theorem Work.gateDanger_evolves (g : Nat) (r : SignalRec) (w : Work) (hr : w.live.signal g = some r) :
    Evolves e σ w.live (w.gateDanger e g r).live := by
  refine Evolves.of_founded fun hfounded => ?_
  unfold Work.gateDanger
  dsimp only
  have horder := Work.orderSignal_evolves (e := e) (σ := σ) g .danger w (.inl rfl)
  split
  · next n hn =>
    refine horder.trans (Work.replace_evolves n 6 g _ fun _ x hx hf _ g' hg' => .inr ?_)
    rw [Live.slot_congr (Work.orderSignal_slots _ _ w)] at hx
    obtain ⟨y, hy, he⟩ := (hfounded hf).entries g r n hr hn
    rw [hx] at hy
    cases hy
    rw [he] at hg'
    cases hg'
    exact Work.orderSignal_atDanger g w
  · exact horder

/-- A cancellation of a slot that may leave CLEARING and CLEAR (R120, R121). -/
theorem Work.cancelCleared_evolves (n : Nat) (r : RouteEntry) (w : Work)
    (h : ∀ x, w.live.slot n = some x → w.live.MayRest e σ x) :
    Evolves e σ w.live (w.cancelCleared e n r).live := by
  have hrest : ∀ x, (w.slotTo n (fun x => { x with fleet := 0 })).live.slot n = some x →
      (w.slotTo n (fun x => { x with fleet := 0 })).live.MayRest e σ x := by
    intro x hx hf hc g hg
    rw [Work.slot_slotTo] at hx
    obtain ⟨y, hy, rfl⟩ := Option.map_eq_some_iff.1 hx
    rw [if_pos rfl] at hc hg
    exact h y hy hf hc g hg
  unfold Work.cancelCleared
  dsimp only
  refine (Work.slotTo_keepsState_evolves n (fun x => { x with fleet := 0 }) w (fun _ => rfl) (fun _ => rfl)).trans ?_
  split
  · exact Work.freeSlot_evolves n _ hrest
  · exact Work.timedRelease_evolves n _ _ _ hrest

/-- What is listed of a slot is its record, where slots rise. -/
theorem Live.Founded.slot_of_mem {t : Tables} {l : Live} (h : l.Founded t) {n : Nat} {x : Slot} (hx : (n, x) ∈ l.slots) :
    l.slot n = some x := Map.find_of_mem (h.slotsRise.imp (fun hab => Nat.ne_of_lt hab)) hx

/-- A slot listed in another state than CLEARING and CLEAR may rest. -/
theorem Live.mayRest_of_mem {l : Live} {n : Nat} {x : Slot} (hf : σ.founded → l.Founded e.tables) (hx : (n, x) ∈ l.slots)
    (hc : x.clears = false) : ∀ y, l.slot n = some y → l.MayRest e σ y := by
  intro y hy hσ hcy
  rw [(hf hσ).slot_of_mem hx] at hy
  cases hy
  simp [hc] at hcy

/-- A DANGER order for the entry signal of a slot (R120). -/
theorem Work.orderEntryDanger_evolves (n : Nat) (r : RouteEntry) (w : Work) :
    Evolves e σ w.live (w.orderEntry e n r .danger).live :=
  (Work.slotTo_keepsState_evolves n (fun x => { x with aspect := some .danger }) w (fun _ => rfl) (fun _ => rfl)).trans
    (Work.orderSignal_evolves r.entrySignal .danger _ (.inl rfl))

/-- A cancellation in CLEARING or CLEAR orders DANGER first (R120). -/
theorem Work.orderCancelled_evolves {n : Nat} {x : Slot} {r : RouteEntry} (w : Work) (hx : (n, x) ∈ w.live.slots)
    (hroute : Map.find x.route e.tables.routes = some r) :
    Evolves e σ w.live ((w.orderEntry e n r .danger).cancelCleared e n r).live := by
  refine .of_founded fun hfounded => ?_
  refine (Work.orderEntryDanger_evolves n r w).trans (Work.cancelCleared_evolves n r _ ?_)
  intro y hy hf _ g hg
  unfold Work.orderEntry at hy ⊢
  rw [Live.slot_congr (Work.orderSignal_slots _ _ _), Work.slot_slotTo, (hfounded hf).slot_of_mem hx] at hy
  simp only [Option.map_some, if_true, Option.some.injEq] at hy
  subst hy
  simp only [Tables.entryOf, hroute, Option.map_some, Option.some.injEq] at hg
  subst hg
  exact .inr (Work.orderSignal_atDanger r.entrySignal _)

theorem Work.stopFleet_evolves (n : Nat) (w : Work) : Evolves e σ w.live (w.stopFleet e n).live := by
  unfold Work.stopFleet
  dsimp only
  exact ((Work.slotTo_keepsState_evolves n (fun x => { x with fleet := 0 }) w (fun _ => rfl) (fun _ => rfl)).trans
    (Work.releaseTest_evolves n _)).trans (Work.startOverlap_evolves n _)

theorem Work.emergency_evolves (n route : Nat) (w : Work) (h : w.live.notClearing n) :
    Evolves e σ w.live (w.emergency e n route).live := by
  unfold Work.emergency
  dsimp only
  refine (LiveStep.arm none (by simp)).evolves.trans (Evolves.trans ?_ (Work.report_evolves _ _ _ _ _ _))
  exact Work.timedRelease_evolves n _ _ (w.on (fun l => { l with arm := none }))
    (fun x hx => Live.mayRest_of_not_clears (h x hx))

theorem Work.endHold_evolves (route : Nat) (stage : Stage) (w : Work) :
    Evolves e σ w.live (w.endHold e route stage).live := by
  unfold Work.endHold
  split
  · split
    · exact Work.goOn_evolves _ w
    · exact .refl _
  · exact .refl _

theorem Work.endHolds_evolves (w : Work) : Evolves e σ w.live (w.endHolds e).live :=
  Work.forEach_evolves _ _ w Work.goOn_evolves

theorem Work.orderDanger_evolves (gs : List Nat) (w : Work) : Evolves e σ w.live (w.orderDanger e gs).live :=
  Evolves.foldl _ gs w fun g _ v => Work.orderSignal_evolves g .danger v (.inl rfl)

/-! ### Restart (R165) -/

theorem Work.dropRequests_evolves (w : Work) : Evolves e σ w.live (w.dropRequests e).live :=
  (LiveStep.waiting [] (Nat.zero_le _)).evolves.trans
    (Evolves.foldl (fun w (q : Request) => w.report e .c .requestDropped .route q.route (some q.tag)) w.live.waiting
      (w.on (fun l => { l with waiting := [] })) (fun _ _ v => Work.report_evolves _ _ _ _ _ v))

/-- Slots that leave CLEARING and CLEAR at restart leave their signals to be put to DANGER after it (R129, R165). -/
theorem Work.restartSlot_evolves (n : Nat) (w : Work)
    (hrest : ∀ x, w.live.slot n = some x → x.clears = true → ∀ g, e.tables.entryOf x = some g → σ.rests g) :
    Evolves e σ w.live (Work.restartSlot e w n).live := by
  have timed (c : ReleaseCause) (seconds : Nat) : Evolves e σ w.live
      ((w.slotTo n (fun x => { x with aspect := some .danger })).timedRelease e n c seconds).live := by
    refine (Work.slotTo_keepsState_evolves n (fun x => { x with aspect := some .danger }) w (fun _ => rfl)
      (fun _ => rfl)).trans (Work.timedRelease_evolves n c seconds _ fun x hx hf hc g hg => .inl ?_)
    rw [Work.slot_slotTo] at hx
    obtain ⟨y, hy, rfl⟩ := Option.map_eq_some_iff.1 hx
    rw [if_pos rfl] at hc hg
    exact hrest y hy hc g hg
  unfold Work.restartSlot
  split
  · exact .refl _
  · next x hx =>
    split
    · next h => exact Work.freeSlot_notClearing_evolves n w (Live.notClearing_of_state hx (Slot.clears_of_state h rfl))
    · next h => exact Work.freeSlot_notClearing_evolves n w (Live.notClearing_of_state hx (Slot.clears_of_state h rfl))
    · next h => exact Work.freeSlot_notClearing_evolves n w (Live.notClearing_of_state hx (Slot.clears_of_state h rfl))
    · exact timed _ _
    · exact timed _ _
    · exact timed _ _
    · unfold Work.restartEntered
      refine Work.withSlot_evolves n _ w fun x r _ _ => ?_
      refine Evolves.trans ?_ (Work.stopFleet_evolves n _)
      refine Work.slotTo_keepsState_evolves n _ w ?_ ?_ <;>
      · intro y
        unfold Slot.retimeOverlap
        split <;> rfl
    · exact Work.slotTo_keepsState_evolves n _ w (by intro _; rfl) (by intro _; rfl)

theorem Live.forgetAsks_sameFlags (l : Live) : sameFlags l.links l.forgetAsks.links := by
  intro k hk y hy
  obtain ⟨j, hj, rfl⟩ := List.mem_map.1 hk
  obtain ⟨z, hz, rfl⟩ := List.mem_map.1 hy
  exact ⟨j, hj, rfl, z, hz, rfl, rfl⟩

theorem Work.restartRoutes_evolves (hm : σ.measures) (w : Work) (hrest : ∀ g, σ.rests g) :
    Evolves e σ w.live (w.restartRoutes e).live := by
  unfold Work.restartRoutes
  dsimp only
  refine .after (Work.settled_evolves _) ?_
  have hslots := (Work.dropRequests_evolves (e := e) (σ := σ) w).trans
    (Evolves.foldl (Work.restartSlot e) (Map.ids (w.dropRequests e).live.slots) (w.dropRequests e) fun n _ v =>
      Work.restartSlot_evolves n v (fun _ _ _ g _ => hrest g))
  refine hslots.trans (.after LiveStep.flags.evolves ?_)
  refine .after (LiveStep.links _ (Live.forgetAsks_sameFlags _) (.inl hm)).evolves ?_
  exact (LiveStep.arm none (by simp)).evolves

theorem Work.restart_evolves (hm : σ.measures) (w : Work) (hrest : ∀ g, σ.rests g) :
    Evolves e σ w.live (w.restart e).live :=
  ((Work.restartRoutes_evolves hm w hrest).trans (Work.orderDanger_evolves _ _)).trans (Work.report_evolves _ _ _ _ _ _)

/-! ### The field port -/

theorem Live.orderSent_evolves (l : Live) : Evolves e σ l (l.orderSent e.tables) := by
  unfold Live.orderSent
  split
  · exact .refl _
  · next x rest h =>
    have htail : rest = l.queue.tail := by rw [h]; rfl
    subst htail
    exact (LiveStep.orderSent.evolves.trans (LiveStep.send _).evolves).trans LiveStep.admitted.evolves

end Measured

end Sys2Proof.Machine
end

section
/-! PROOFS. What one command can do to the part, said once: State.Move lists the changes of the part's records, each with what
is known where it is made, and a step is a run of them. Every law of the part is kept by each move. -/

namespace Sys2Proof.Machine

/-- A nonvolatile store that differs from another in its check word, its identity, and in possession records that a running
write has written (R158, R171, R174). -/
def Nonvolatile.follows (writes : List PossessionWrite) (old new : Nonvolatile) : Prop :=
  ∀ i, new.image = some i → ∃ j, old.image = some j ∧ i.tables = j.tables ∧
    (i.possessions = j.possessions ∨ ∃ x ∈ writes, i.possessions = x.records)

/-- One change of the part's records inside a step. -/
inductive State.Move (s : State) : State → Prop
  | aside (pending : List Instr) (clock : Nat) (seen : List Nat) (due : Option Nat) :
      State.Move s { s with pending := pending, clock := clock, addressesSeen := seen, presenceDue := due }
  | works (l : Live) : (∀ σ : Scope, σ.measures → (s.mode.inTraffic = true ∨ s.live.waiting ≠ [] → σ.takes) →
      Evolves s.env σ s.live l) → State.Move s { s with live := l }
  | restarts : State.Move s (s.doing Work.restart)
  | waits (q : Request) : s.mode.inTraffic = true → s.live.waiting.length < Config.waitingPlaces →
      State.Move s { s with live := { s.live with waiting := s.live.waiting ++ [q] } }
  | mode (m : Mode) : s.mode ≠ .start → s.mode ≠ .failed → s.store.commit = none → m ≠ .start → m ≠ .failed →
      (m = .suspended → s.live.slots = [] ∧ s.live.waiting = []) → State.Move s { s with mode := m }
  | opens : s.mode = .start ∨ s.mode = .failed → s.nv.image.all (fun i => i.tables == s.store.active) = true →
      State.Move s { s with mode := .suspended }
  | fails : s.mode = .start → State.Move s { s with mode := .failed }
  | holds (hs : List (Nat × Stage)) : (s.stageHolds.length ≤ Config.holdPlaces → hs.length ≤ Config.holdPlaces) →
      State.Move s { s with stageHolds := hs }
  | grants (possession : Nat) (sections : List Nat) : s.takeRefused possession sections = none →
      State.Move s { s with
        possessions := Map.put possession (ascending sections) s.possessions
        live := s.live.setPossession sections (some possession) }
  | gives (possession : Nat) (sections : List Nat) : Map.find possession s.possessions = some sections →
      State.Move s { s with
        possessions := Map.drop possession s.possessions, live := s.live.setPossession sections none }
  | writes (tag kind : Nat) : s.mode.operating = true → State.Move s (s.writePossessions tag kind)
  | written : State.Move s { s with possessionWrites := s.possessionWrites.tail }
  | stores (v : Nonvolatile) : Nonvolatile.follows s.possessionWrites s.nv v → State.Move s { s with nv := v }
  | stages (st : Store) : s.store.commit = none →
      (Map.rising s.store.active.elements = true → Map.rising s.store.staging.elements = true →
        Map.rising st.staging.elements = true) →
      (s.store.amendment.length ≤ Config.amendPlaces → st.amendment.length ≤ Config.amendPlaces) →
      st.active = s.store.active → st.commit = none → State.Move s { s with store := st }
  | commit (c : Option Commit) : (c.isSome = true → s.mode.loading = true ∨ s.store.commit.isSome = true) →
      (∀ x, c = some x → x.phase ≠ .validation →
        s.store.staging.firstInvalid = none ∨ ∃ y, s.store.commit = some y ∧ y.phase ≠ .validation) →
      State.Move s (s.setCommit c)
  | flags (frozen restoring : Bool) (identityWrite : Option (Nat × Identity)) :
      State.Move s { s with store := { s.store with
        frozen := frozen, restoring := restoring, identityWrite := identityWrite } }
  | restores : State.Move s { s with nv := { s.nv with image := some s.restoredImage } }
  | powers (power : Bool) (freeCount : Nat) : State.Move s { s.volatile power with freeCount := freeCount }
  | creates (i : Image) : s.mode = .start → s.nv.image = some i → State.Move s (s.createsRecords i)
  | activates (c : Commit) : s.store.commit = some c → c.phase = .storeWrite → State.Move s s.activates

theorem State.answers_state (s : State) (a : Answer) : (s.answers a).state = s := rfl

/-- A run of moves. -/
abbrev State.Moves : State → State → Prop := Relation.ReflTransGen State.Move

/-- A run of moves is led up to by another. -/
theorem State.Moves.after {s t u : State} (k : t.Moves u) (h : s.Moves t) : s.Moves u := h.trans k

theorem State.Move.run {s t : State} (h : s.Move t) : s.Moves t := .single h

/-! ### Works -/

/-- A step's work, ended, is a move. -/
theorem State.doing_moves (s : State) (f : Env → Work → Work)
    (h : ∀ σ : Scope, σ.measures → (s.mode.inTraffic = true ∨ s.live.waiting ≠ [] → σ.takes) →
      Evolves s.env σ s.work.live (f s.env s.work).live) : s.Moves (s.doing f) := by
  refine (State.Move.works _ fun σ hm ht => (h σ hm ht).trans (Work.finish_evolves _ fun hw => ?_)).run
  refine ht (.inr fun h0 => hw ?_)
  exact Evolves.waiting_empty (σ := σ) (h { σ with founded := False } hm ht) h0

theorem State.send_moves (x : Sent) (s : State) : s.Moves (s.send x) :=
  (State.Move.works _ fun _ _ _ => (LiveStep.send x).evolves).run

theorem State.reply_moves (tag kind : Nat) (a : Answer) (s : State) : s.Moves (s.reply tag kind a) := State.send_moves _ s

theorem State.report_moves (cls : ReportClass) (code : ReportCode) (kind : SubjectKind) (number : Nat)
    (detail : Option Nat) (s : State) : s.Moves (s.report cls code kind number detail) :=
  (State.Move.works _ fun _ _ _ => (LiveStep.offer cls code kind number detail).evolves).run

theorem State.modeChanged_moves (s : State) : s.Moves s.modeChanged := State.report_moves _ _ _ _ _ s

theorem State.scanning_moves (s : State) : s.Moves (s.doing (fun _ w => w.scanDue)) :=
  State.doing_moves s _ fun _ _ _ => .refl _

theorem Live.presents_evolves {e : Env} {σ : Scope} (t : Tables) (identity : Identity) (version : Word16)
    (links : Map LinkRec) (l : Live) : Evolves e σ l (links.foldl (Live.sendPresence t identity version) l) := by
  induction links generalizing l with
  | nil => exact .refl l
  | cons x xs ih =>
    rw [List.foldl_cons]
    exact ((LiveStep.send _).evolves.trans (LiveStep.send _).evolves).trans (ih _)

theorem State.presents_moves (links : Map LinkRec) (s : State) : s.Moves (s.presents links) :=
  (State.Move.works _ fun _ _ _ => Live.presents_evolves _ _ _ links s.live).run

theorem State.onReports_moves (f : ReportQueue → ReportQueue) (s : State)
    (hf : (f s.live.reports).reports.length ≤ s.live.reports.reports.length) : s.Moves (s.onReports f) :=
  (State.Move.works _ fun _ _ _ => (LiveStep.reports _ hf).evolves).run

theorem State.expire_moves {timer : Option Nat} {rule : State → State} {s : State} (h : s.Moves (rule s)) :
    s.Moves (s.expire timer rule) := by
  unfold State.expire
  split
  · exact h
  · exact .refl

/-! ### Taking a command -/

theorem control_moves {tag kind : Nat} {detail : Option Nat} {rule : State → Taken} {s t : State}
    (hrule : s.mode ≠ .start → s.Moves (rule s).state) (h : control tag kind detail rule s = .next t) : s.Moves t := by
  unfold control at h
  split at h
  · cases h
    exact .refl
  · split at h
    · cases h
      exact State.reply_moves _ _ _ s
    · next hstart =>
      cases h
      unfold Taken.outcome
      split
      · exact (hrule hstart).trans (State.reply_moves _ _ _ _)
      · exact hrule hstart

theorem event_moves {rule : State → State} {s t : State} (hrule : s.Moves (rule s))
    (h : event rule s = .next t) : s.Moves t := by
  unfold event at h
  split at h
  · cases h
    exact hrule
  · cases h
    exact .refl

/-! ### The route telegrams -/

theorem routeCall_moves (tag route fleet patience : Nat) (s : State) :
    s.Moves (routeCall tag route fleet patience s).state := by
  unfold routeCall
  split
  · exact .refl
  · next htraffic =>
    have ht : s.mode.inTraffic = true := by simpa using htraffic
    split
    · exact .refl
    · split
      · exact .refl
      · next r hr =>
        split
        · exact .refl
        · unfold State.calls
          split
          · next hcheck =>
            rw [State.answers_state]
            exact State.doing_moves s _ fun _ _ htakes => Work.takeRoute_evolves _ s.work (htakes (.inl ht)) hr hcheck
          · split
            · exact .refl
            · unfold State.awaits
              split
              · exact .refl
              · split
                · exact .refl
                · next hplace => exact (State.Move.waits _ ht (Nat.lt_of_not_le hplace)).run

theorem Live.slotOf_spec {route n : Nat} {x : Slot} {l : Live} (h : l.slotOf route = some (n, x)) :
    (n, x) ∈ l.slots ∧ x.route = route :=
  ⟨List.mem_of_find?_eq_some h, by simpa using List.find?_some h⟩

theorem State.cancelsSlot_moves {s : State} {r : RouteEntry} {n : Nat} {x : Slot} (hx : (n, x) ∈ s.live.slots)
    (hroute : Map.find x.route s.store.active.routes = some r) : s.Moves (s.cancelsSlot r n x).state := by
  have hfree (hc : x.clears = false) : s.Moves (s.doing (fun e w => w.freeSlot e n)) :=
    State.doing_moves s _ fun σ _ _ => .of_founded fun hf =>
      Work.freeSlot_evolves n s.work (Live.mayRest_of_mem hf hx hc)
  have hordered : s.Moves (s.doing (fun e w => (w.orderEntry e n r .danger).cancelCleared e n r)) :=
    State.doing_moves s _ fun σ _ _ => Work.orderCancelled_evolves s.work hx hroute
  have hreplaced (hc : x.clears = false) : s.Moves (s.doing (fun e w => w.cancelCleared e n r)) :=
    State.doing_moves s _ fun σ _ _ => .of_founded fun hf =>
      Work.cancelCleared_evolves n r s.work (Live.mayRest_of_mem hf hx hc)
  unfold State.cancelsSlot
  dsimp only
  cases h : x.state with
  | setting | waitLine | locked => exact hfree (Slot.clears_of_state h rfl)
  | clearing | clear => exact hordered
  | replaced => exact hreplaced (Slot.clears_of_state h rfl)
  | entered | timedRelease => exact .refl

theorem routeCancel_moves (route : Nat) (s : State) : s.Moves (routeCancel route s).state := by
  unfold routeCancel
  split
  · exact .refl
  · split
    · exact .refl
    · next r hr =>
      split
      · exact (State.Move.works _ fun _ _ _ => (LiveStep.waiting _ (List.length_filter_le _ _)).evolves).run
      · split
        · next n x hx =>
          obtain ⟨hmem, hroute⟩ := Live.slotOf_spec hx
          exact State.cancelsSlot_moves hmem (by rw [hroute]; exact hr)
        · exact .refl

theorem fleetStop_moves (route : Nat) (s : State) : s.Moves (fleetStop route s).state := by
  unfold fleetStop
  split
  · exact .refl
  · split
    · exact .refl
    · split
      · rw [State.answers_state]; exact State.doing_moves s _ fun _ _ _ => Work.stopFleet_evolves _ s.work
      · split
        · exact (State.Move.works _ fun _ _ _ => (LiveStep.waiting _ (List.length_map _).le).evolves).run
        · exact .refl

theorem releaseArm_moves (slot : Nat) (s : State) : s.Moves (releaseArm slot s).state := by
  unfold releaseArm
  split
  · exact .refl
  · split
    · exact .refl
    · next x hx =>
      split
      · refine (State.Move.works _ fun _ _ _ => (LiveStep.arm _ ?_).evolves).run
        rintro a ⟨⟩
        simpa [Live.inUse, Map.has, Live.slot] using Option.isSome_of_eq_some hx
      · exact .refl

theorem Slot.clears_of_armable {x : Slot} (h : x.armable = true) : x.clears = false := by
  simp only [Slot.armable, Bool.or_eq_true, beq_iff_eq] at h
  rcases h with h | h <;> simp [Slot.clears, h]

theorem releaseConfirm_moves (slot : Nat) (s : State) : s.Moves (releaseConfirm slot s).state := by
  unfold releaseConfirm
  split
  · exact .refl
  · split
    · next x hx =>
      split
      · next h =>
        simp only [Bool.and_eq_true] at h
        rw [State.answers_state]
        exact State.doing_moves s _ fun _ _ _ => Work.emergency_evolves slot x.route s.work
          (Live.notClearing_of_state hx (Slot.clears_of_armable h.2))
      · exact .refl
    · exact .refl

theorem stageHold_moves (route stage action : Nat) (s : State) : s.Moves (stageHold route stage action s).state := by
  unfold stageHold
  split
  · exact .refl
  · split
    · exact .refl
    · split
      · unfold State.setsHold
        split
        · exact .refl
        · split
          · exact .refl
          · refine (State.Move.holds _ fun _ => ?_).run
            simp only [List.length_append, List.length_singleton]
            omega
      · unfold State.removesHold
        split
        · rw [State.answers_state]
          refine .after (State.doing_moves _ _ fun _ _ _ => Work.endHold_evolves _ _ _) ?_
          exact (State.Move.holds _ fun h => (List.length_filter_le _ _).trans h).run
        · exact .refl
      · exact .refl

theorem stageStep_moves (route : Nat) (s : State) : s.Moves (stageStep route s).state := by
  unfold stageStep
  split
  · exact .refl
  · split
    · exact .refl
    · split
      · split
        · rw [State.answers_state]; exact State.doing_moves s _ fun _ _ _ => Work.goOn_evolves _ s.work
        · exact .refl
      · exact .refl

/-! ### The gate, resets and possessions -/

theorem State.gateSignal_moves {s : State} {g : Nat} {r : SignalRec} (passed : Answer) (hr : s.live.signal g = some r) :
    s.Moves (s.gateSignal g r passed).state := by
  unfold State.gateSignal
  split
  · rw [State.answers_state]; exact State.doing_moves s _ fun _ _ _ => Work.gateDanger_evolves g r s.work hr
  · exact .refl

theorem State.gatePoint_moves (s : State) (n : Nat) (p : Position) (r : PointRec) :
    s.Moves (s.gatePoint n p r).state := by
  unfold State.gatePoint
  dsimp only
  split
  · exact .refl
  · split
    · exact .refl
    · split
      · exact .refl
      · split
        · exact .refl
        · split
          · exact .refl
          · split
            · exact .refl
            · rw [State.answers_state]; exact State.doing_moves s _ fun _ _ _ => Work.orderPoint_evolves n p s.work

theorem State.gate_moves (s : State) (n : Nat) (o : Order) : s.Moves (s.gate n o).state := by
  unfold State.gate
  split
  · exact .refl
  · exact State.gatePoint_moves s _ _ _
  · next hr => exact State.gateSignal_moves _ (Live.signal_some.2 hr)
  · next hr =>
    unfold State.gateProceed
    split
    · exact .refl
    · exact State.gateSignal_moves _ (Live.signal_some.2 hr)
  · exact .refl

theorem elementOrder_moves (element order : Nat) (s : State) : s.Moves (elementOrder element order s).state := by
  unfold elementOrder
  split
  · exact .refl
  · split
    · exact .refl
    · split
      · exact State.gate_moves s _ _
      · exact .refl
    · exact State.gate_moves s _ _

theorem sectionReset_moves (number : Nat) (s : State) : s.Moves (sectionReset number s).state := by
  unfold sectionReset
  split
  · exact .refl
  · split
    · exact .refl
    · split
      · exact .refl
      · split
        · exact .refl
        · split
          · exact .refl
          · rw [State.answers_state]; exact State.doing_moves s _ fun _ hm _ => Work.resetSection_evolves hm number _ s.work

theorem possessionTake_moves (tag possession : Nat) (sections : List Nat) (s : State) :
    s.Moves (possessionTake tag possession sections s).state := by
  unfold possessionTake
  split
  · exact .refl
  · next hmode =>
    split
    · exact .refl
    · split
      · exact .refl
      · split
        · exact .refl
        · split
          · exact .refl
          · next h =>
            refine .after (State.Move.writes tag 10 (by simpa using hmode)).run ?_
            exact .after (State.report_moves _ _ _ _ _ _) (State.Move.grants possession sections h).run

theorem possessionGive_moves (tag possession : Nat) (s : State) :
    s.Moves (possessionGive tag possession s).state := by
  unfold possessionGive
  split
  · exact .refl
  · next hmode =>
    split
    · exact .refl
    · split
      · exact .refl
      · split
        · exact .refl
        · next sections h =>
          have hm : s.mode.operating = true := by simpa using hmode
          refine .after (State.Move.writes tag 11 (by exact hm)).run (.after (State.scanning_moves _) ?_)
          exact .after (State.report_moves _ _ _ _ _ _) (State.Move.gives possession sections h).run

theorem Nonvolatile.storePossessions_follows {x : PossessionWrite} {writes : List PossessionWrite} (v : Nonvolatile)
    (hx : x ∈ writes) : v.follows writes (v.storePossessions x.records) := by
  intro i hi
  obtain ⟨j, hj, rfl⟩ := Option.map_eq_some_iff.1 hi
  exact ⟨j, hj, rfl, .inr ⟨x, hx, rfl⟩⟩

theorem Nonvolatile.voided_follows (writes : List PossessionWrite) (v : Nonvolatile) : v.follows writes v.voided := by
  intro i hi
  obtain ⟨j, hj, rfl⟩ := Option.map_eq_some_iff.1 hi
  exact ⟨j, hj, rfl, .inl rfl⟩

theorem Nonvolatile.follows_of_image {writes : List PossessionWrite} {v w : Nonvolatile} (h : w.image = v.image) :
    v.follows writes w := fun i hi => ⟨i, h ▸ hi, rfl, .inl rfl⟩

theorem Nonvolatile.follows.trans {writes : List PossessionWrite} {u v w : Nonvolatile} (h : u.follows writes v)
    (k : v.follows writes w) : u.follows writes w := by
  intro i hi
  obtain ⟨j, hj, hij, hp⟩ := k i hi
  obtain ⟨m, hm, hjm, hq⟩ := h j hj
  refine ⟨m, hm, hij.trans hjm, ?_⟩
  rcases hp with hp | hp
  · rw [hp]
    exact hq
  · exact .inr hp

theorem possessionWritten_moves (s : State) : s.Moves (possessionWritten s) := by
  unfold possessionWritten
  split
  · exact .refl
  · next x rest h =>
    refine Relation.ReflTransGen.trans ?_ (State.reply_moves _ _ _ _)
    refine (State.Move.stores _ (Nonvolatile.storePossessions_follows (x := x) s.nv (by simp [h]))).run.trans ?_
    have := (State.Move.written (s := { s with nv := s.nv.storePossessions x.records })).run
    simpa [h] using this

/-! ### The mode, restart and power -/

theorem State.changesMode_moves {s : State} {m : Mode} (h : s.Move { s with mode := m }) :
    s.Moves (s.changesMode m) := by
  unfold State.changesMode
  dsimp only
  have hchanged := h.run.trans (State.modeChanged_moves { s with mode := m })
  split
  · exact hchanged.trans (State.doing_moves _ _ fun _ _ _ => Work.endHolds_evolves _)
  · exact hchanged

theorem Store.not_busy {x : Store} (h : x.busy = false) : x.commit = none ∧ x.restoring = false := by
  simpa [Store.busy] using h

theorem modeSet_moves (mode : Nat) (s : State) (hstart : s.mode ≠ .start) : s.Moves (modeSet mode s).state := by
  unfold modeSet
  split
  · exact .refl
  · next hfailed =>
    split
    · exact .refl
    · next hbusy =>
      split
      · exact .refl
      · next m hm =>
        have hm : m ≠ .start ∧ m ≠ .failed := by
          unfold Mode.ofSetCode at hm
          split at hm <;> simp_all
          all_goals (subst hm; simp)
        split
        · exact .refl
        · split
          · exact .refl
          · next hused =>
            refine State.changesMode_moves (.mode m hstart hfailed (Store.not_busy (by simpa using hbusy)).1 hm.1 hm.2 ?_)
            intro hs
            simpa [hs] using hused

theorem State.abandonCommit_moves (s : State) : s.Moves s.abandonCommit := by
  unfold State.abandonCommit
  split
  · exact .refl
  · refine Relation.ReflTransGen.trans ?_ (State.reply_moves _ _ _ _)
    exact (State.Move.commit none (by simp) (by simp)).run.trans (State.Move.flags _ _ _).run

theorem restart_moves (s : State) : s.Moves (restart s).state := (State.abandonCommit_moves s).tail .restarts

theorem State.nvAfterLoss_follows (s : State) : s.nv.follows s.possessionWrites s.nvAfterLoss := by
  have hvoid : s.nv.follows s.possessionWrites (if s.store.writing then s.nv.voided else s.nv) := by
    split
    · exact Nonvolatile.voided_follows _ _
    · exact Nonvolatile.follows_of_image rfl
  have hcut (v : Nonvolatile) : v.follows s.possessionWrites (s.cutPossessionWrite v) := by
    unfold State.cutPossessionWrite
    split
    · exact Nonvolatile.follows_of_image rfl
    · next x _ h =>
      split
      · exact Nonvolatile.storePossessions_follows v (by simp [h])
      · exact Nonvolatile.follows_of_image rfl
  have hid (v : Nonvolatile) : v.follows s.possessionWrites (s.cutIdentityWrite v) := by
    unfold State.cutIdentityWrite
    split
    · exact Nonvolatile.follows_of_image rfl
    · split <;> exact Nonvolatile.follows_of_image rfl
  exact (hvoid.trans (hcut _)).trans (hid _)

theorem State.losesPower_moves (s : State) : s.Moves s.losesPower :=
  (State.Move.stores _ s.nvAfterLoss_follows).run.trans (State.Move.powers false (s.freeCount + 1)).run

theorem State.powersOn_moves (s : State) : s.Moves s.powersOn := by
  unfold State.powersOn
  split
  · exact s.losesPower_moves.trans (State.Move.powers true (s.freeCount + 1)).run
  · exact (State.Move.powers true s.freeCount).run

theorem loadEnds_moves (s : State) : s.Moves (loadEnds s) := by
  unfold loadEnds
  split
  · next hstart =>
    split
    · next i hi =>
      have himage : s.nv.image = some i := by
        have := Option.filter_eq_some_iff.1 hi
        exact this.1
      unfold State.loads
      dsimp only
      refine .after (State.modeChanged_moves _) (.after (State.Move.opens (.inl (by exact hstart)) ?_).run ?_)
      · change s.nv.image.all (fun j => j.tables == i.tables) = true
        simp [himage]
      · refine .after (State.presents_moves _ _) (.after (State.doing_moves _ _ fun _ _ _ => ?_) ?_)
        · exact Work.orderDanger_evolves _ _
        · exact (State.Move.creates i hstart himage).run
    · exact (State.Move.fails hstart).run.trans (State.modeChanged_moves _)
  · exact .refl

/-! ### Loading the tables -/

theorem State.loadRefused_none {s : State} (h : s.loadRefused = none) :
    s.mode.loading = true ∧ s.store.commit = none ∧ s.store.frozen = false := by
  unfold State.loadRefused at h
  split at h
  · simp at h
  · next hmode =>
    split at h
    · simp at h
    · next hbusy =>
      split at h
      · simp at h
      · next hfrozen => exact ⟨by simpa using hmode, (Store.not_busy (by simpa using hbusy)).1, by simpa using hfrozen⟩

theorem Map.rising_iff {α : Type} {m : Map α} : Map.rising m = true ↔ (Map.ids m).Pairwise (· < ·) := by
  simp [Map.rising]

theorem Tables.copyTable_elements (table : Nat) (source t : Tables) :
    (Tables.copyTable table source t).elements = source.elements ∨
      (Tables.copyTable table source t).elements = t.elements := by
  unfold Tables.copyTable
  split <;> simp

theorem State.begins_moves {s : State} {table : Nat} {source : Tables} {x : Mark} (hcommit : s.store.commit = none)
    (hsource : Map.rising s.store.active.elements = true → Map.rising source.elements = true) :
    s.Moves { s with store := s.store.begins table source x } := by
  refine (State.Move.stages (s.store.begins table source x) hcommit (fun ha hs => ?_)
    (fun h => (List.length_filter_le (fun y : Nat × Nat => y.1 != table) _).trans h) rfl hcommit).run
  change Map.rising (Tables.copyTable table source s.store.staging).elements = true
  rcases Tables.copyTable_elements table source s.store.staging with h | h
  · rw [h]
    exact hsource ha
  · rw [h]
    exact hs

theorem tableFresh_moves (table : Nat) (s : State) : s.Moves (tableFresh table s).state := by
  unfold tableFresh
  split
  · exact .refl
  · next h =>
    split
    · exact State.begins_moves (State.loadRefused_none h).2.1 fun _ => rfl
    · exact .refl

theorem tableAmend_moves (table : Nat) (s : State) : s.Moves (tableAmend table s).state := by
  unfold tableAmend
  split
  · exact .refl
  · next h =>
    split
    · exact State.begins_moves (State.loadRefused_none h).2.1 id
    · exact .refl

theorem Map.put_pairwise {α : Type} {k : Nat} {a : α} {m : Map α} (h : (Map.ids m).Pairwise (· < ·)) :
    (Map.ids (Map.put k a m)).Pairwise (· < ·) := (Map.put_rising k a m h).1

theorem Map.rising_drop {α : Type} {k : Nat} {m : Map α} (h : Map.rising m = true) : Map.rising (Map.drop k m) = true :=
  Map.rising_iff.2 ((Map.rising_iff.1 h).sublist (Map.ids_drop_sublist k m))

theorem Tables.putEntry_rising {id : Nat} {x : Staged} {t : Tables} (h : Map.rising t.elements = true) :
    Map.rising (t.putEntry id x).elements = true := by
  cases x with
  | element x => exact Map.rising_iff.2 (Map.put_pairwise (Map.rising_iff.1 h))
  | trackSection x => exact h
  | route x => exact h
  | boundary x => exact h
  | options x => exact h

theorem Tables.dropEntry_rising {table id : Nat} {t : Tables} (h : Map.rising t.elements = true) :
    Map.rising (t.dropEntry table id).elements = true := by
  unfold Tables.dropEntry
  split
  · exact Map.rising_drop h
  · exact h
  · exact h
  · exact h
  · exact h
  · exact h

theorem Store.writes_amendment {table id : Nat} {entry : Option Staged} {st : Store} (hfull : st.amendFull table id = false)
    (h : st.amendment.length ≤ Config.amendPlaces) : (st.writes table id entry).amendment.length ≤ Config.amendPlaces := by
  unfold Store.writes
  dsimp only
  split
  · next hnew =>
    simp only [Store.amendFull, hnew, Bool.true_and, decide_eq_false_iff_not] at hfull
    rw [List.length_append, List.length_singleton]
    omega
  · exact h

theorem tableEntry_moves (table id : Nat) (content : List Octet) (s : State) :
    s.Moves (tableEntry table id content s).state := by
  unfold tableEntry
  split
  · exact .refl
  · next h =>
    have hcommit := (State.loadRefused_none h).2.1
    split
    · exact .refl
    · dsimp only
      split
      · exact .refl
      · split
        · exact .refl
        · next hfull =>
          refine (State.Move.stages _ hcommit (fun _ hs => ?_)
            (Store.writes_amendment (by simpa using hfull)) rfl hcommit).run
          unfold Store.writes
          dsimp only
          split
          · exact Tables.putEntry_rising hs
          · exact Tables.dropEntry_rising hs

theorem tableCommit_moves (tag : Nat) (word : Word16) (s : State) : s.Moves (tableCommit tag word s).state := by
  unfold tableCommit
  split
  · split <;> exact .refl
  · exact .refl
  · next h =>
    split
    · exact .refl
    · refine (State.Move.commit _ (fun _ => .inl (State.loadRefused_none h).1) ?_).run
      rintro x ⟨⟩ hphase
      exact absurd rfl hphase

theorem validationEnds_moves (s : State) : s.Moves (validationEnds s) := by
  unfold validationEnds
  split
  · next tag word hcommit =>
    split
    · refine .after (State.reply_moves _ _ _ _) (.after (State.report_moves _ _ _ _ _ _) ?_)
      exact (State.Move.commit none (by simp) (by simp)).run
    · next hvalid => exact (State.Move.commit _ (fun _ => .inr (by rw [hcommit]; rfl)) fun _ _ _ => .inl hvalid).run
  · exact .refl

theorem comparisonEnds_moves (s : State) : s.Moves (comparisonEnds s) := by
  unfold comparisonEnds
  split
  · next tag word hcommit =>
    dsimp only
    split
    · refine .after (State.Move.commit _ (fun _ => .inr (by exact Option.isSome_of_eq_some hcommit)) fun _ _ _ => ?_).run
        (State.Move.stores _ (Nonvolatile.voided_follows _ _)).run
      exact .inr ⟨_, hcommit, by simp⟩
    · exact .after (State.reply_moves _ _ _ _) (State.Move.commit none (by simp) (by simp)).run
  · exact .refl

theorem Live.compareWatermark_evolves {e : Env} {σ : Scope} (watermark : Nat) (l : Live) :
    Evolves e σ l (l.compareWatermark watermark) := by
  unfold Live.compareWatermark
  split
  · exact (LiveStep.reports { l.reports with armed := true } (Nat.le_refl _)).evolves
  · unfold Live.noticeReports
    split
    · exact (LiveStep.reports { l.reports with armed := false } (Nat.le_refl _)).evolves.trans
        (LiveStep.send (.reportNotice l.reports.reports.length)).evolves
    · exact .refl l

theorem State.newWatermark_moves (old : Nat) (s : State) : s.Moves (s.newWatermark old) := by
  unfold State.newWatermark
  dsimp only
  split
  · exact .refl
  · exact (State.Move.works _ fun _ _ _ => Live.compareWatermark_evolves _ _).run

/-- One POSSESSION_TRIMMED, where sections are lost (R160). -/
def State.trimmedOne (active : Tables) (s : State) (x : Nat × List Nat) : State :=
  let lost := x.2.length - (active.keptSections x.2).length
  if lost = 0 then s else s.report .c .possessionTrimmed .possession x.1 (some lost)

theorem State.reportTrimmed_eq (before : Map (List Nat)) (s : State) :
    s.reportTrimmed before = before.foldl (State.trimmedOne s.store.active) s := rfl

theorem State.trimmedOne_rest (active : Tables) (s : State) (x : Nat × List Nat) :
    s.trimmedOne active x = { s with live := (s.trimmedOne active x).live } := by
  unfold State.trimmedOne
  dsimp only
  split <;> rfl

theorem State.trimmedOne_moves (active : Tables) (s : State) (x : Nat × List Nat) : s.Moves (s.trimmedOne active x) := by
  unfold State.trimmedOne
  dsimp only
  split
  · exact .refl
  · exact State.report_moves _ _ _ _ _ s

/-- The reports of trimmed possessions touch the records alone. -/
theorem State.reportTrimmed_rest (before : Map (List Nat)) (s : State) :
    s.reportTrimmed before = { s with live := (s.reportTrimmed before).live } := by
  rw [State.reportTrimmed_eq]
  generalize s.store.active = active
  induction before generalizing s with
  | nil => rfl
  | cons x xs ih =>
    rw [List.foldl_cons, ih, State.trimmedOne_rest]

theorem State.reportTrimmed_moves (before : Map (List Nat)) (s : State) : s.Moves (s.reportTrimmed before) := by
  rw [State.reportTrimmed_eq]
  generalize s.store.active = active
  induction before generalizing s with
  | nil => exact .refl
  | cons x xs ih =>
    rw [List.foldl_cons]
    exact (State.trimmedOne_moves active s x).trans (ih _)

theorem State.newWatermark_rest (old : Nat) (s : State) :
    s.newWatermark old = { s with live := (s.newWatermark old).live } := by
  unfold State.newWatermark
  dsimp only
  split <;> rfl

theorem State.committed_moves (tag : Nat) (s : State)
    (himage : s.nv.image.all (fun i => i.tables == s.store.active) = true) : s.Moves (s.committed tag) := by
  unfold State.committed
  dsimp only
  refine .after (State.reply_moves _ _ _ _) (.after (State.report_moves _ _ _ _ _ _) ?_)
  split
  · next h => exact .after (State.modeChanged_moves _) (State.Move.opens (.inr h) himage).run
  · exact .refl

theorem State.commits_moves {s : State} {c : Commit} (tag : Nat) (hcommit : s.store.commit = some c)
    (hphase : c.phase = .storeWrite) : s.Moves (s.commits tag) := by
  unfold State.commits
  dsimp only
  refine .after (State.committed_moves tag _ ?_) (.after (State.presents_moves _ _) ?_)
  · rw [State.reportTrimmed_rest, State.newWatermark_rest]
    change (some s.newImage).all (fun i => i.tables == s.store.staging) = true
    simp [State.newImage]
  · refine .after (State.doing_moves _ _ fun _ _ _ => Work.orderDanger_evolves _ _) ?_
    refine .after (State.reportTrimmed_moves _ _) (.after (State.newWatermark_moves _ _) ?_)
    exact (State.Move.activates c hcommit hphase).run

theorem storeWriteEnds_moves (s : State) : s.Moves (storeWriteEnds s) := by
  unfold storeWriteEnds
  split
  · next tag word h => exact State.commits_moves tag h rfl
  · exact .refl

theorem restoringEnds_moves (s : State) : s.Moves (restoringEnds s) := by
  unfold restoringEnds
  split
  · exact .after (State.Move.restores).run (State.Move.flags s.store.frozen false s.store.identityWrite).run
  · exact .refl

theorem tableFreeze_moves (s : State) : s.Moves (tableFreeze s).state := by
  unfold tableFreeze
  split
  · exact .refl
  · exact (State.Move.flags true s.store.restoring s.store.identityWrite).run

theorem areaIdentity_moves (tag : Nat) (identity : Identity) (s : State) :
    s.Moves (areaIdentity tag identity s).state := by
  unfold areaIdentity
  split
  · exact .refl
  · split
    · exact .refl
    · split
      · exact .refl
      · split
        · exact .refl
        · exact (State.Move.flags s.store.frozen s.store.restoring (some (tag, identity))).run

theorem identityWritten_moves (s : State) : s.Moves (identityWritten s) := by
  unfold identityWritten
  split
  · next tag identity _ =>
    refine .after (State.reply_moves _ _ _ _) (.after (State.Move.stores { s.nv with identity := identity } ?_).run
      (State.Move.flags s.store.frozen s.store.restoring none).run)
    exact Nonvolatile.follows_of_image rfl
  · exact .refl

/-! ### Reports -/

theorem reportFetch_moves (count : Nat) (s : State) : s.Moves (reportFetch count s).state := by
  unfold reportFetch
  split
  · exact .refl
  · exact State.onReports_moves _ s (by simp [ReportQueue.fetch])

theorem statusClear_moves (flags : Nat) (s : State) : s.Moves (statusClear flags s).state := by
  unfold statusClear
  split
  · exact .refl
  · rw [State.answers_state]
    exact State.onReports_moves _ s (by rfl)

theorem alarmAck_moves (sequence : Word16) (s : State) : s.Moves (alarmAck sequence s).state := by
  unfold alarmAck
  split
  · exact .refl
  · split
    · exact .after (State.scanning_moves _)
        (State.onReports_moves (fun q => { q with hold := false }) s (Nat.le_refl _))
    · exact .refl

theorem query_moves (kind number id : Nat) (s : State) : s.Moves (query kind number id s).state := by
  unfold query
  split
  · exact .refl
  · split <;> exact .refl

/-! ### The boundary and field ports -/

theorem State.heard_moves {s : State} {link : Nat} {valid : Bool} {f : LinkRec → Env → Work → Work}
    (h : ∀ (k : LinkRec) (w : Work) (σ : Scope), σ.measures → (w.live.waiting ≠ [] → σ.takes) →
      Evolves s.env σ w.live (f k s.env w).live) : s.Moves (s.heard link valid f) := by
  unfold State.heard
  split
  · split
    · refine State.doing_moves s _ fun σ hm htakes => ?_
      refine .after (h _ _ σ hm fun hw => htakes (.inr hw)) ?_
      exact Work.updateLink_evolves hm link _ s.work (LinkRec.hear_lines _)
    · exact .refl
  · exact .refl

theorem presenceTaken_moves (port : Nat) (identity : Identity) (version : Word16) (lines : List PresenceLine)
    (s : State) : s.Moves (presenceTaken port identity version lines s) :=
  State.heard_moves fun k w _ hm _ => Work.takePresence_evolves hm _ identity version lines port k w

theorem countsTaken_moves (port : Nat) (entries : List CountsEntry) (s : State) :
    s.Moves (countsTaken port entries s) :=
  State.heard_moves fun _ w _ hm htakes => Work.deliverAll_evolves hm port entries w htakes

theorem askTaken_moves (port line : Nat) (number : Octet) (s : State) : s.Moves (askTaken port line number s) :=
  State.heard_moves fun k w _ hm _ => Work.takeAsk_evolves hm port line number k w

theorem replyTaken_moves (port line : Nat) (number : Octet) (verdict : Nat) (s : State) :
    s.Moves (replyTaken port line number verdict s) :=
  State.heard_moves fun k w _ hm _ => Work.takeReply_evolves hm port line number _ k w

theorem statusTaken_moves (address : Nat) (content : StatusContent) (s : State) :
    s.Moves (statusTaken address content s) := by
  unfold statusTaken
  split
  · exact .refl
  · split
    · exact State.doing_moves s _ fun _ hm _ => Work.elementStatus_evolves hm _ content s.work
    · unfold State.unknownAddress
      split
      · exact .refl
      · exact .after (State.report_moves _ _ _ _ _ _)
          (State.Move.aside s.pending s.clock (s.addressesSeen ++ [address]) s.presenceDue).run

theorem orderSent_moves (s : State) : s.Moves { s with live := s.live.orderSent s.store.active } :=
  (State.Move.works _ fun _ _ _ => Live.orderSent_evolves s.live).run

/-! ### Expiries -/

theorem presenceDue_moves (s : State) : s.Moves (presenceDue s) :=
  State.expire_moves (.after (State.presents_moves _ _)
    (State.Move.aside s.pending s.clock s.addressesSeen (some (s.clock + Config.presenceTime))).run)

theorem lastHeardExpired_moves (link : Nat) (s : State) : s.Moves (lastHeardExpired link s) := by
  unfold lastHeardExpired
  split
  · split
    · exact .refl
    · exact State.expire_moves (State.doing_moves s _ fun _ hm _ => Work.linkDown_evolves hm link _ s.work)
  · exact .refl

theorem askExpired_moves (link line : Nat) (s : State) : s.Moves (askExpired link line s) := by
  unfold askExpired
  split
  · exact State.expire_moves (State.doing_moves s _ fun _ hm _ => Work.askTimeout_evolves hm link line _ s.work)
  · exact .refl

theorem freshnessExpired_moves (n : Nat) (s : State) : s.Moves (freshnessExpired n s) :=
  State.expire_moves (State.doing_moves s _ fun _ hm _ => Work.silence_evolves hm n s.work)

theorem movementExpired_moves (n : Nat) (s : State) : s.Moves (movementExpired n s) := by
  unfold movementExpired
  split
  · exact .refl
  · next r hr =>
    split
    · exact .refl
    · exact State.expire_moves (State.doing_moves s _ fun _ hm _ => Work.failMovement_evolves hm n r _ s.work hr)

theorem provingExpired_moves (n : Nat) (s : State) : s.Moves (provingExpired n s) := by
  unfold provingExpired
  split
  · exact .refl
  · next r hr => exact State.expire_moves (State.doing_moves s _ fun _ hm _ => Work.failProving_evolves hm n r s.work hr)

theorem patienceExpired_moves (route : Nat) (s : State) : s.Moves (patienceExpired route s) := by
  unfold patienceExpired
  split
  · exact State.expire_moves (.after (State.report_moves _ _ _ _ _ _)
      (State.Move.works _ fun _ _ _ => (LiveStep.waiting _ (List.length_filter_le _ _)).evolves).run)
  · exact .refl

theorem overlapExpired_moves (n : Nat) (s : State) : s.Moves (overlapExpired n s) :=
  State.expire_moves (State.doing_moves s _ fun _ _ _ => Work.overlapExpire_evolves n s.work)

theorem timedReleaseExpired_moves (n : Nat) (s : State) : s.Moves (timedReleaseExpired n s) := by
  unfold timedReleaseExpired
  unfold State.expire
  split
  · next h =>
    refine State.doing_moves s _ fun _ _ _ => Work.freeSlot_notClearing_evolves n s.work fun x hx => ?_
    have hx : s.live.slot n = some x := hx
    rw [hx, Option.bind_some, Slot.releaseMoment] at h
    split at h
    · next hstate => simp [Slot.clears, hstate]
    · simp at h
  · exact .refl

theorem armExpired_moves (s : State) : s.Moves (armExpired s) :=
  State.expire_moves (State.Move.works _ fun _ _ _ => (LiveStep.arm none (by simp)).evolves).run

/-! ### The step -/

theorem State.tick_moves (s : State) : s.Moves s.tick := by
  unfold State.tick
  split
  · unfold State.enqueueDue
    dsimp only
    split
    · exact (State.Move.aside _ (s.clock + 1) s.addressesSeen s.presenceDue).run
    · exact .after (State.Move.works _ fun _ _ _ => (LiveStep.choices _).evolves).run
        (State.Move.aside _ (s.clock + 1) s.addressesSeen s.presenceDue).run
  · exact .refl

theorem exec_moves (i : Instr) (s t : State) (h : exec i s = .next t) : s.Moves t := by
  cases i with
  | routeCall tag route fleet patience => exact control_moves (fun _ => routeCall_moves tag route fleet patience s) h
  | routeCancel tag route => exact control_moves (fun _ => routeCancel_moves route s) h
  | fleetStop tag route => exact control_moves (fun _ => fleetStop_moves route s) h
  | releaseArm tag slot => exact control_moves (fun _ => releaseArm_moves slot s) h
  | releaseConfirm tag slot => exact control_moves (fun _ => releaseConfirm_moves slot s) h
  | stageHold tag route stage action => exact control_moves (fun _ => stageHold_moves route stage action s) h
  | stageStep tag route => exact control_moves (fun _ => stageStep_moves route s) h
  | elementOrder tag element order => exact control_moves (fun _ => elementOrder_moves element order s) h
  | sectionReset tag number => exact control_moves (fun _ => sectionReset_moves number s) h
  | possessionTake tag possession sections =>
    exact control_moves (fun _ => possessionTake_moves tag possession sections s) h
  | possessionGive tag possession => exact control_moves (fun _ => possessionGive_moves tag possession s) h
  | modeSet tag mode => exact control_moves (fun hstart => modeSet_moves mode s hstart) h
  | restart tag => exact control_moves (fun _ => restart_moves s) h
  | tableFreeze tag => exact control_moves (fun _ => tableFreeze_moves s) h
  | statusRead tag => exact control_moves (fun _ => .refl) h
  | statusClear tag flags => exact control_moves (fun _ => statusClear_moves flags s) h
  | tableFresh tag table => exact control_moves (fun _ => tableFresh_moves table s) h
  | tableAmend tag table => exact control_moves (fun _ => tableAmend_moves table s) h
  | tableEntry tag table id content => exact control_moves (fun _ => tableEntry_moves table id content s) h
  | tableCommit tag word => exact control_moves (fun _ => tableCommit_moves tag word s) h
  | areaIdentity tag identity => exact control_moves (fun _ => areaIdentity_moves tag identity s) h
  | reportFetch tag count => exact control_moves (fun _ => reportFetch_moves count s) h
  | alarmAck tag sequence => exact control_moves (fun _ => alarmAck_moves sequence s) h
  | query tag kind number id => exact control_moves (fun _ => query_moves kind number id s) h
  | controlBadForm tag kind => exact control_moves (rule := fun s => s.refuses (.plain .badForm)) (fun _ => .refl) h
  | checkFailedTelegram port =>
    cases h
    exact .refl
  | status address content => exact event_moves (statusTaken_moves address content s) h
  | fieldOrderSent =>
    exact event_moves (rule := fun s => { s with live := s.live.orderSent s.store.active }) (orderSent_moves s) h
  | presence port identity version lines => exact event_moves (presenceTaken_moves port identity version lines s) h
  | counts port entries => exact event_moves (countsTaken_moves port entries s) h
  | directionAsk port line number => exact event_moves (askTaken_moves port line number s) h
  | directionReply port line number verdict => exact event_moves (replyTaken_moves port line number verdict s) h
  | presenceInterval => exact event_moves (presenceDue_moves s) h
  | freshnessExpiry element => exact event_moves (freshnessExpired_moves element s) h
  | movementExpiry element => exact event_moves (movementExpired_moves element s) h
  | provingExpiry element => exact event_moves (provingExpired_moves element s) h
  | patienceExpiry route => exact event_moves (patienceExpired_moves route s) h
  | overlapExpiry slot => exact event_moves (overlapExpired_moves slot s) h
  | timedReleaseExpiry slot => exact event_moves (timedReleaseExpired_moves slot s) h
  | releaseArmExpiry => exact event_moves (armExpired_moves s) h
  | lastHeardExpiry link => exact event_moves (lastHeardExpired_moves link s) h
  | askExpiry link line => exact event_moves (askExpired_moves link line s) h
  | powerOn =>
    cases h
    exact s.powersOn_moves
  | loadEnd => exact event_moves (loadEnds_moves s) h
  | powerLoss => exact event_moves s.losesPower_moves h
  | validationDone => exact event_moves (validationEnds_moves s) h
  | comparisonDone => exact event_moves (comparisonEnds_moves s) h
  | storeWriteDone => exact event_moves (storeWriteEnds_moves s) h
  | restoringWriteDone => exact event_moves (restoringEnds_moves s) h
  | possessionWriteDone => exact event_moves (possessionWritten_moves s) h
  | identityWriteDone => exact event_moves (identityWritten_moves s) h

/-- A step is a run of moves. -/
theorem step_moves {s t : State} (h : step s = .next t) : s.Moves t := by
  cases hp : s.pending with
  | nil =>
    rw [step_nil s hp] at h
    cases h
    exact s.tick_moves
  | cons i rest =>
    rw [step_cons i rest s hp] at h
    exact (State.Move.aside rest s.clock s.addressesSeen s.presenceDue).run.trans (exec_moves i _ t h)

/-- What each move keeps, a step keeps. -/
theorem step_keeps {P : State → Prop} (hmove : ∀ s t : State, s.Move t → P s → P t) {s t : State}
    (h : step s = .next t) (hs : P s) : P t := by
  have hmoves := step_moves h
  clear h
  induction hmoves with
  | refl => exact hs
  | tail _ hm ih => exact hmove _ _ hm ih

end Sys2Proof.Machine
end

section
/-! PROOFS. The laws of one kind of record: sections (R19, R24), sizes (R55, R69, R94, R98, R166, R175), traffic (R75, R162), the
holders of locks and claims (R78, R79, R98) and our line-clear flags (R135). -/

namespace Sys2Proof.Machine

/-! ### Works of a state -/

/-- The widest scope of a step's work, in which the signals' rest is not followed; routes are taken where takes lets it. -/
def Scope.wide (takes : Prop) : Scope := { founded := False, takes := takes, measures := True, rests := fun _ => True }

/-- The records after a step's work that may do what the state lets it. -/
def State.Worked (s : State) (l : Live) : Prop :=
  ∀ takes : Prop, (s.mode.inTraffic = true ∨ s.live.waiting ≠ [] → takes) → Evolves s.env (Scope.wide takes) s.live l

theorem State.worked_of_works {s : State} {l : Live} (h : ∀ σ : Scope, σ.measures →
    (s.mode.inTraffic = true ∨ s.live.waiting ≠ [] → σ.takes) → Evolves s.env σ s.live l) : s.Worked l :=
  fun takes ht => h (Scope.wide takes) trivial ht

theorem State.restart_worked (s : State) : s.Worked (s.doing Work.restart).live := by
  intro takes ht
  have h : Evolves s.env (Scope.wide takes) s.work.live (s.work.restart s.env).live :=
    Work.restart_evolves trivial s.work (fun _ => trivial)
  refine h.trans (Work.finish_evolves _ fun hw => ht (.inr fun h0 => hw ?_))
  exact Evolves.waiting_empty (σ := Scope.wide takes) h h0

/-- What each single change keeps, a step's work keeps. -/
theorem State.Worked.keeps {s : State} {l : Live} {P : Live → Prop} (h : s.Worked l)
    (hstep : ∀ x y, LiveStep s.env (Scope.wide True) x y → P x → P y) (hs : P s.live) : P l :=
  (h True (fun _ => trivial)).keeps hstep (fun hf => hf.elim) hs

/-! ### Sections (R19, R24) -/

/-- Every section record keeps the law of its state. -/
def Live.sectionsKeep (l : Live) : Prop := ∀ x ∈ l.sections, x.2.lawful = true

theorem State.sectionsLawful_iff (s : State) : s.sectionsLawful = true ↔ s.live.sectionsKeep := by
  simp [State.sectionsLawful, Live.sectionsKeep]

theorem Live.sectionsKeep_of_mapped {a b : Live} {f : Nat → SectionRec → SectionRec}
    (hb : b.sections = a.sections.map (fun x => (x.1, f x.1 x.2))) (hf : ∀ n r, r.lawful = true → (f n r).lawful = true)
    (h : a.sectionsKeep) : b.sectionsKeep := by
  intro x hx
  rw [hb] at hx
  obtain ⟨y, hy, rfl⟩ := List.mem_map.1 hx
  exact hf _ _ (h y hy)

theorem SectionRec.unlocked_lawful (n : Nat) (secs : List Nat) (sec : Nat) (r : SectionRec) :
    (r.unlocked n secs sec).lawful = r.lawful := by
  unfold SectionRec.unlocked
  split <;> rfl

theorem SectionRec.lockedFor_lawful (n : Nat) (r : RouteEntry) (sec : Nat) (x : SectionRec) :
    (x.lockedFor n r sec).lawful = x.lawful := by
  unfold SectionRec.lockedFor
  split
  · rfl
  · split <;> rfl

theorem Live.setSection_sectionsKeep {l : Live} {n : Nat} {old new : SectionRec} (hold : l.sectionAt n = some old)
    (hc : old.Counted new) (h : l.sectionsKeep) : (l.setSection n new).sectionsKeep := by
  intro x hx
  rcases Map.mem_put hx with rfl | hx
  · exact hc.lawful (h _ (Map.mem_of_find hold))
  · exact h x hx

theorem LiveStep.sectionsKeep {e : Env} {σ : Scope} {a b : Live} (s : LiveStep e σ a b) (h : a.sectionsKeep) :
    b.sectionsKeep := by
  cases s with
  | offer =>
    rw [Live.offer_rest]
    exact h
  | orderPoint p q r =>
    rw [Live.takePointOrder, Live.placeOrder_rest]
    exact h
  | orderSignal g c r =>
    rw [Live.takeSignalOrder, Live.placeOrder_rest]
    exact h
  | admitted =>
    rw [Live.admitPending_rest]
    exact h
  | empty n x =>
    exact Live.sectionsKeep_of_mapped ((Live.emptySlot_sections _ _ _).trans (Live.unlockSections_sections _ _ _))
      (fun sec r hr => (SectionRec.unlocked_lawful _ _ sec r).trans hr) h
  | release n secs ps =>
    exact Live.sectionsKeep_of_mapped (Live.unlockSections_sections n secs a)
      (fun sec r hr => (SectionRec.unlocked_lawful n secs sec r).trans hr) h
  | taken route r fleet n choices =>
    rw [Live.taking_rest]
    exact Live.sectionsKeep_of_mapped (Live.lockSections_sections n r a)
      (fun sec x hx => (SectionRec.lockedFor_lawful n r sec x).trans hx) h
  | counted n old new _ hold hc _ => exact Live.setSection_sectionsKeep hold hc h
  | sectionChanged n old new _ hold hc => exact Live.setSection_sectionsKeep hold hc h
  | agree secs =>
    intro x hx
    obtain ⟨y, hy, rfl⟩ := List.mem_map.1 hx
    split
    · exact h y hy
    · exact h y hy
  | _ => exact h

theorem SectionRec.renewed_lawful (possession : Option Nat) : (SectionRec.renewed possession).lawful = true := by
  simp [SectionRec.renewed, SectionRec.lawful]

/-- A section's record after a commit (R41). -/
def alignedSection (old new : Tables) (possessions : Map (List Nat)) (records : Map SectionRec) (n : Nat) : SectionRec :=
  let possession := possessionHolding possessions n
  let kept := match Map.find n records with
    | some r => if keptSection old new n then r else SectionRec.renewed possession
    | none => SectionRec.renewed possession
  let kept := { kept with possession := possession, lock := none }
  if new.isShared n then { kept with disagreement := 0, neighbourState := none } else kept

theorem alignSections_eq (old new : Tables) (possessions : Map (List Nat)) (records : Map SectionRec) :
    alignSections old new possessions records =
      new.sections.map (fun x => (x.1, alignedSection old new possessions records x.1)) := rfl

/-- After a commit a section holds no lock, carries the possession that names it, and keeps its law (R41). -/
theorem alignedSection_spec (old new : Tables) (possessions : Map (List Nat)) (records : Map SectionRec) (n : Nat) :
    (alignedSection old new possessions records n).lock = none ∧
    (alignedSection old new possessions records n).possession = possessionHolding possessions n ∧
    ((∀ x ∈ records, x.2.lawful = true) → (alignedSection old new possessions records n).lawful = true) := by
  have hkept (r : SectionRec) (p : Option Nat) (hr : (∀ x ∈ records, x.2.lawful = true) → r.lawful = true) :
      let y := { r with possession := p, lock := none }
      let z := if new.isShared n then { y with disagreement := 0, neighbourState := none } else y
      z.lock = none ∧ z.possession = p ∧ ((∀ x ∈ records, x.2.lawful = true) → z.lawful = true) := by
    dsimp only
    split <;> exact ⟨rfl, rfl, hr⟩
  unfold alignedSection
  cases hr : Map.find n records with
  | none => exact hkept _ _ fun _ => SectionRec.renewed_lawful _
  | some r =>
    by_cases hk : keptSection old new n = true
    · dsimp only
      rw [if_pos hk]
      exact hkept r _ fun h => h _ (Map.mem_of_find hr)
    · dsimp only
      rw [if_neg hk]
      exact hkept _ _ fun _ => SectionRec.renewed_lawful _

/-- The records brought into line with new tables, before pending orders take the places freed (R41, R61, R145). -/
def Live.aligned (old new : Tables) (possessions : Map (List Nat)) (l : Live) : Live :=
  { l with
    sections := alignSections old new possessions l.sections
    elements := alignElements old new l.elements
    queue := alignQueue old new l.queue
    links := alignLinks old new l.links }

theorem Live.admitAll_evolves {e : Env} {σ : Scope} (k : Nat) (l : Live) : Evolves e σ l (l.admitAll e.tables k) := by
  induction k generalizing l with
  | zero => exact .refl l
  | succ k ih => exact LiveStep.admitted.evolves.trans (ih _)

theorem Live.align_evolves {e : Env} {σ : Scope} (old : Tables) (possessions : Map (List Nat)) (l : Live) :
    Evolves e σ (l.aligned old e.tables possessions) (l.align old e.tables possessions) :=
  (Live.admitAll_evolves _ _).trans LiveStep.flags.evolves

/-- What single changes keep, an activation keeps that brings the records into line so. -/
theorem State.activates_keeps {P : Live → Prop} {s : State} {takes : Prop}
    (hstep : ∀ x y, LiveStep s.activates.env (Scope.wide takes) x y → P x → P y)
    (h : P (s.live.aligned s.store.active s.newImage.tables s.newImage.possessions)) : P s.activates.live :=
  (Live.align_evolves (e := s.activates.env) (σ := Scope.wide takes) s.store.active s.newImage.possessions s.live).keeps
    hstep (fun hf => hf.elim) h

theorem Live.aligned_sectionsKeep (old new : Tables) (possessions : Map (List Nat)) {l : Live} (h : l.sectionsKeep) :
    (l.aligned old new possessions).sectionsKeep := by
  intro x hx
  obtain ⟨y, _, rfl⟩ := List.mem_map.1 hx
  exact (alignedSection_spec old new possessions l.sections y.1).2.2 h

theorem Live.setPossession_sections (sections : List Nat) (possession : Option Nat) (l : Live) :
    (l.setPossession sections possession).sections = l.sections.map (fun x =>
      (x.1, if sections.contains x.1 then { x.2 with possession := possession } else x.2)) := by
  unfold Live.setPossession
  refine List.map_congr_left fun x _ => ?_
  split <;> rfl

theorem Live.setPossession_sectionsKeep (sections : List Nat) (possession : Option Nat) {l : Live} (h : l.sectionsKeep) :
    (l.setPossession sections possession).sectionsKeep :=
  Live.sectionsKeep_of_mapped (f := fun n r => if sections.contains n then { r with possession := possession } else r)
    (Live.setPossession_sections sections possession l) (fun _ r hr => by split <;> exact hr) h

theorem State.Move.sectionsKeep {s t : State} (m : s.Move t) (h : s.live.sectionsKeep) : t.live.sectionsKeep := by
  cases m with
  | works l hl => exact (State.worked_of_works hl).keeps (fun _ _ k => k.sectionsKeep) h
  | restarts => exact s.restart_worked.keeps (fun _ _ k => k.sectionsKeep) h
  | grants possession sections => exact Live.setPossession_sectionsKeep sections _ h
  | gives possession sections => exact Live.setPossession_sectionsKeep sections _ h
  | powers => exact fun x hx => absurd hx List.not_mem_nil
  | creates i =>
    intro x hx
    obtain ⟨y, hy, rfl⟩ := List.mem_map.1 hx
    exact SectionRec.renewed_lawful _
  | activates c => exact State.activates_keeps (takes := True) (fun _ _ k => k.sectionsKeep) (Live.aligned_sectionsKeep _ _ _ h)
  | _ => exact h

/-- Settles O51, by the single changes that a step is made of. -/
theorem everyStepKeepsSectionsLawful : Obligations.EveryStepKeepsSectionsLawful := by
  intro s t hs h
  rw [State.sectionsLawful_iff] at hs ⊢
  exact step_keeps (P := fun s => s.live.sectionsKeep) (fun _ _ m => m.sectionsKeep) h hs

/-! ### Sizes (R55, R69, R94, R98, R166, R175) -/

/-- The Report Queue, the field order queue, the waiting list and the claim pool are within their sizes. -/
structure Live.Within (l : Live) : Prop where
  reports : l.reports.reports.length ≤ Config.reportPlaces
  queue : l.queue.length ≤ Config.orderPlaces
  waiting : l.waiting.length ≤ Config.waitingPlaces
  claims : l.claims.length ≤ Config.claimPool

theorem State.withinSizes_iff (s : State) : s.withinSizes = true ↔
    s.live.Within ∧ s.stageHolds.length ≤ Config.holdPlaces ∧ s.store.amendment.length ≤ Config.amendPlaces := by
  simp only [State.withinSizes, Bool.and_eq_true, decide_eq_true_eq]
  exact ⟨fun ⟨⟨⟨⟨⟨h1, h2⟩, h3⟩, h4⟩, h5⟩, h6⟩ => ⟨⟨h1, h2, h3, h4⟩, h5, h6⟩,
    fun ⟨⟨h1, h2, h3, h4⟩, h5, h6⟩ => ⟨⟨⟨⟨⟨h1, h2⟩, h3⟩, h4⟩, h5⟩, h6⟩⟩

theorem Live.noticeReports_length (watermark : Nat) (l : Live) :
    (l.noticeReports watermark).reports.reports = l.reports.reports := by
  unfold Live.noticeReports
  split <;> rfl

theorem Live.offer_length (e : Env) (cls : ReportClass) (code : ReportCode) (kind : SubjectKind) (number : Nat)
    (detail : Option Nat) {l : Live} (h : l.reports.reports.length ≤ Config.reportPlaces) :
    (l.offer e cls code kind number detail).reports.reports.length ≤ Config.reportPlaces := by
  have hkept : (ReportQueue.offer e.tables.stopOnAlarm (l.reports.next e.clock cls code kind number detail)
      l.reports).reports.length ≤ Config.reportPlaces := (ReportQueue.keep_spec _ _).2.2.2.2 h
  unfold Live.offer
  dsimp only
  split
  · rw [Live.noticeReports_length]
    exact hkept
  · exact hkept

/-- The elements of the queue's orders, place by place. -/
def Live.queueElements (l : Live) : List Nat := l.queue.map (fun x => x.element)

theorem Live.changeOrder_queueElements (n : Nat) (o : Order) (l : Live) :
    (l.changeOrder n o).queueElements = l.queueElements := by
  simp only [Live.queueElements, Live.changeOrder, List.map_map]
  refine List.map_congr_left fun x _ => ?_
  simp only [Function.comp]
  split <;> rfl

/-- Turning a waiting order round keeps each place of the queue for its element (R55, R56). -/
theorem Live.redirect_queueElements (e : Env) (p : Nat) (q : Position) (l : Live) :
    (l.redirect e p q).queueElements = l.queueElements := by
  unfold Live.redirect
  split
  · dsimp only
    split
    · exact Live.changeOrder_queueElements p _ l
    · exact Live.changeOrder_queueElements p _ l
  · rfl

theorem Live.foldl_queueElements {β : Type} (op : Live → β → Live) (h : ∀ l x, (op l x).queueElements = l.queueElements)
    (xs : List β) (l : Live) : (xs.foldl op l).queueElements = l.queueElements := by
  induction xs generalizing l with
  | nil => rfl
  | cons x xs ih => rw [List.foldl_cons, ih, h]

theorem Live.lockPoint_queueElements (e : Env) (n p : Nat) (q : Position) (l : Live) :
    (l.lockPoint e n p q).queueElements = l.queueElements := by
  unfold Live.lockPoint
  split
  · rfl
  · rw [Live.redirect_queueElements]
    rfl

theorem Live.redirectClaims_queueElements (e : Env) (cs : List Claim) (l : Live) :
    (l.redirectClaims e cs).queueElements = l.queueElements :=
  Live.foldl_queueElements _ (fun l c => by
    split
    · exact Live.redirect_queueElements e _ _ l
    · rfl) cs l

theorem Live.setEntryOf_queue (n g : Nat) (l : Live) : (l.setEntryOf n g).queue = l.queue := by
  unfold Live.setEntryOf
  split <;> rfl

theorem Live.lockRoute_queueElements (e : Env) (n : Nat) (r : RouteEntry) (l : Live) :
    (l.lockRoute e n r).queueElements = l.queueElements := by
  have hlock : (r.requirements.foldl (fun l y => l.lockPoint e n y.1 y.2) (l.lockSections n r)).queueElements =
      l.queueElements := Live.foldl_queueElements _
      (fun l (y : Nat × Position) => Live.lockPoint_queueElements e n y.1 y.2 l) _ _
  rw [← hlock]
  exact congrArg (List.map _) (Live.setEntryOf_queue n r.entrySignal _)

/-- A taking keeps each place of the queue for its element. -/
theorem Live.taking_queueElements (e : Env) (route : Nat) (r : RouteEntry) (fleet n : Nat) (choices : List Choice)
    (l : Live) : (l.taking e route r fleet n choices).queueElements = l.queueElements :=
  (Live.redirectClaims_queueElements e _ _).trans (Live.lockRoute_queueElements e n r _)

/-- The claims once a route is taken: those before, and those of the slot, proved (R101, R102). -/
theorem Live.taking_claims (e : Env) (route : Nat) (r : RouteEntry) (fleet n : Nat) (choices : List Choice) (l : Live) :
    (l.taking e route r fleet n choices).claims = l.claims ++ (claimsFor n choices).map
      ((l.setSlot n (newSlot e l route r fleet)).lockRoute e n r).proved := by
  unfold Live.taking
  dsimp only
  rw [Live.redirectClaims_rest]
  have hkept : ((l.setSlot n (newSlot e l route r fleet)).lockRoute e n r).claims = l.claims := by
    rw [Live.lockRoute_rest]
    rfl
  exact congrArg (· ++ _) hkept

/-- Claims of two slots for one search result are as many. -/
theorem claimsFor_slot (a b : Nat) (choices : List Choice) :
    (claimsFor b choices).map (fun c => { c with slot := a }) = claimsFor a choices := by
  unfold claimsFor
  suffices h : ∀ cs ds : List Claim, ds.map (fun c => { c with slot := a }) = cs →
      (choices.foldl (addChoice b) ds).map (fun c => { c with slot := a }) = choices.foldl (addChoice a) cs from h [] [] rfl
  induction choices with
  | nil => exact fun cs ds h => h
  | cons c rest ih =>
    intro cs ds h
    refine ih _ _ ?_
    subst h
    have hany : (ds.map (fun c : Claim => { c with slot := a })).any (fun x => x.element == c.element && x.required == c.required) =
        ds.any (fun x => x.element == c.element && x.required == c.required) := by
      rw [List.any_map]
      rfl
    unfold addChoice
    rw [hany]
    split
    · simp only [List.map_map]
      refine List.map_congr_left fun x _ => ?_
      simp only [Function.comp]
      split <;> rfl
    · simp

theorem claimsFor_length (a b : Nat) (choices : List Choice) : (claimsFor a choices).length = (claimsFor b choices).length := by
  rw [← claimsFor_slot a b, List.length_map]

theorem LiveStep.within {e : Env} {σ : Scope} {a b : Live} (s : LiveStep e σ a b) (h : a.Within) : b.Within := by
  obtain ⟨hr, hq, hw, hc⟩ := h
  cases s with
  | offer cls code kind number detail =>
    exact ⟨Live.offer_length e cls code kind number detail hr, by simpa using hq, by simpa using hw, by simpa using hc⟩
  | reports q hle => exact ⟨Nat.le_trans hle hr, hq, hw, hc⟩
  | waiting qs hle => exact ⟨hr, hq, Nat.le_trans hle hw, hc⟩
  | orderPoint p q r =>
    rw [Live.takePointOrder]
    have hlen := Live.placeOrder_length e.tables p (.position q) (a.setElement p (.point { r with
      movement := some (q, e.clock + e.tables.moveLimit p), persistence := 0 })) hq
    rw [Live.placeOrder_rest]
    exact ⟨hr, hlen, hw, hc⟩
  | orderSignal g c r =>
    have hlen := Live.placeOrder_length e.tables g (.aspect c) (a.setElement g (.signal { r with
      commanded := c, proving := some (e.clock + e.tables.provingTime g) })) hq
    rw [Live.takeSignalOrder, Live.placeOrder_rest]
    exact ⟨hr, hlen, hw, by simpa [Live.claimsProved] using hc⟩
  | orderSent =>
    refine ⟨hr, ?_, hw, hc⟩
    rw [List.length_tail]
    omega
  | admitted =>
    have hlen := Live.admitPending_length e.tables a hq
    rw [Live.admitPending_rest]
    exact ⟨hr, hlen, hw, hc⟩
  | empty n x => exact ⟨hr, hq, hw, Nat.le_trans (List.length_filter_le _ _) hc⟩
  | entries r n is =>
    refine ⟨hr, hq, hw, ?_⟩
    refine Nat.le_trans (List.length_filter_le _ _) ?_
    rwa [List.length_map]
  | taken route r fleet n choices _ _ hcheck =>
    have hpool := (Live.checkCall_passes.1 hcheck).pool
    have hqueue := congrArg List.length (Live.taking_queueElements e route r fleet n choices a)
    have hclaims := congrArg List.length (Live.taking_claims e route r fleet n choices a)
    simp only [Live.queueElements, List.length_map] at hqueue
    rw [List.length_append, List.length_map, claimsFor_length n 0] at hclaims
    rw [Live.taking_rest]
    exact ⟨hr, hqueue ▸ hq, hw, hclaims ▸ hpool⟩
  | shown => exact ⟨hr, hq, hw, by simpa [Live.claimsProved] using hc⟩
  | _ => exact ⟨hr, hq, hw, hc⟩

theorem State.Move.withinSizes {s t : State} (m : s.Move t) (h : s.withinSizes = true) : t.withinSizes = true := by
  rw [State.withinSizes_iff] at h ⊢
  obtain ⟨hl, hh, ha⟩ := h
  cases m with
  | works l hw => exact ⟨(State.worked_of_works hw).keeps (fun _ _ k => k.within) hl, hh, ha⟩
  | restarts => exact ⟨s.restart_worked.keeps (fun _ _ k => k.within) hl, hh, ha⟩
  | waits q _ hplace =>
    refine ⟨⟨hl.reports, hl.queue, ?_, hl.claims⟩, hh, ha⟩
    rw [List.length_append, List.length_singleton]
    exact hplace
  | holds hs hle => exact ⟨hl, hle hh, ha⟩
  | grants => exact ⟨⟨hl.reports, hl.queue, hl.waiting, hl.claims⟩, hh, ha⟩
  | gives => exact ⟨⟨hl.reports, hl.queue, hl.waiting, hl.claims⟩, hh, ha⟩
  | stages st _ _ hle => exact ⟨hl, hh, hle ha⟩
  | powers => exact ⟨⟨Nat.zero_le _, Nat.zero_le _, Nat.zero_le _, Nat.zero_le _⟩, Nat.zero_le _, Nat.zero_le _⟩
  | creates i => exact ⟨⟨hl.reports, hl.queue, hl.waiting, hl.claims⟩, hh, Nat.zero_le _⟩
  | activates c =>
    refine ⟨State.activates_keeps (takes := True) (fun _ _ k => k.within) ?_, ?_, Nat.zero_le _⟩
    · exact ⟨hl.reports, Nat.le_trans (List.length_filter_le _ _) hl.queue, hl.waiting, hl.claims⟩
    · exact Nat.le_trans (List.length_filter_le _ _) hh
  | _ => exact ⟨hl, hh, ha⟩

/-- Settles O52, by the single changes that a step is made of. -/
theorem everyStepKeepsSizes : Obligations.EveryStepKeepsSizes := by
  intro s t hs h
  exact step_keeps (P := fun s => s.withinSizes = true) (fun _ _ m => m.withinSizes) h hs

/-! ### Traffic (R75, R162) -/

/-- No slot is in use and no request waits. -/
def Live.atRest (l : Live) : Prop := l.slots = [] ∧ l.waiting = []

theorem State.trafficLawful_iff (s : State) :
    s.trafficLawful = true ↔ (s.mode.inTraffic = false → s.live.atRest) := by
  cases h : s.mode.inTraffic <;> simp [State.trafficLawful, Live.atRest, h]

/-- Where no route is taken, the records stay at rest. -/
theorem LiveStep.atRest {e : Env} {σ : Scope} {a b : Live} (s : LiveStep e σ a b) (hσ : ¬ σ.takes) (h : a.atRest) :
    b.atRest := by
  have hwaiting : b.waiting = [] := List.eq_nil_of_length_eq_zero (Nat.le_zero.1 (by simpa [h.2] using s.waiting_length))
  refine ⟨?_, hwaiting⟩
  obtain ⟨hs, -⟩ := h
  clear hwaiting
  cases s with
  | offer => simpa using hs
  | slot n f => simp [hs, Map.update]
  | orderPoint p q r =>
    rw [Live.takePointOrder, Live.placeOrder_rest]
    exact hs
  | orderSignal g c r =>
    rw [Live.takeSignalOrder, Live.placeOrder_rest]
    exact hs
  | admitted =>
    rw [Live.admitPending_rest]
    exact hs
  | empty n x =>
    rw [Live.emptySlot_slots, hs]
    rfl
  | taken _ _ _ _ _ htakes => exact absurd htakes hσ
  | _ => exact hs

theorem State.Worked.atRest {s : State} {l : Live} (h : s.Worked l) (hmode : s.mode.inTraffic = false)
    (hs : s.live.atRest) : l.atRest := by
  have hrun := h False (by simp [hmode, hs.2])
  exact hrun.keeps (fun _ _ k => k.atRest id) (fun hf => hf.elim) hs

theorem State.Move.trafficLawful {s t : State} (m : s.Move t) (h : s.trafficLawful = true) : t.trafficLawful = true := by
  rw [State.trafficLawful_iff] at h ⊢
  cases m with
  | works l hw => exact fun hm => (State.worked_of_works hw).atRest hm (h hm)
  | restarts => exact fun hm => s.restart_worked.atRest hm (h hm)
  | waits q hm => exact fun hn => absurd hm (by simpa using hn)
  | mode m _ _ _ hstart hfailed hrest =>
    intro hm
    refine hrest ?_
    cases m <;> simp_all [Mode.inTraffic]
  | opens hfrom => exact fun _ => h (by rcases hfrom with hf | hf <;> simp [hf, Mode.inTraffic])
  | fails hfrom => exact fun _ => h (by simp [hfrom, Mode.inTraffic])
  | grants => exact fun hm => ⟨(h hm).1, (h hm).2⟩
  | gives => exact fun hm => ⟨(h hm).1, (h hm).2⟩
  | powers => exact fun _ => ⟨rfl, rfl⟩
  | creates i => exact fun hm => ⟨(h hm).1, (h hm).2⟩
  | activates c =>
    intro hm
    have hrest : (s.live.aligned s.store.active s.newImage.tables s.newImage.possessions).atRest := h hm
    exact State.activates_keeps (takes := False) (fun _ _ k => k.atRest id) hrest
  | _ => exact h

/-- Settles O53, by the single changes that a step is made of. -/
theorem everyStepKeepsTrafficLawful : Obligations.EveryStepKeepsTrafficLawful := by
  intro s t hs h
  exact step_keeps (P := fun s => s.trafficLawful = true) (fun _ _ m => m.trafficLawful) h hs

end Sys2Proof.Machine
end

section
/-! PROOFS. Every lock, route lock, entry-of-slot, claim and arm names a slot in use (R78, R79, R98, R119, R126). -/

namespace Sys2Proof.Machine

/-! ### Slots that elements name -/

/-- The slots that an element's record names: that of a route lock, or an entry-of-slot (R42, R43). -/
def ElementRec.holders (r : ElementRec) : List Nat := (r.routeLock.map (fun k => k.1)).toList ++ r.entryOf.toList

theorem ElementRec.holders_congr {a b : ElementRec} (hl : b.routeLock = a.routeLock) (he : b.entryOf = a.entryOf) :
    b.holders = a.holders := by rw [ElementRec.holders, hl, he, ElementRec.holders]

theorem ElementRec.alike.holders {a b : ElementRec} (h : a.alike b) : b.holders = a.holders :=
  ElementRec.holders_congr h.routeLock h.entryOf

theorem ElementRec.holders_withPending (o : Option Order) (r : ElementRec) : (r.withPending o).holders = r.holders := by
  cases r <;> rfl

/-- Some element's record names the slot. -/
def Live.names (l : Live) (n : Nat) : Prop := ∃ x ∈ l.elements, n ∈ x.2.holders

theorem Live.names_of_elements {a b : Live} (h : b.elements = a.elements) {n : Nat} (hn : b.names n) : a.names n := by
  unfold Live.names at hn ⊢
  rwa [h] at hn

theorem Live.names_of_find {l : Live} {k n : Nat} {r : ElementRec} (h : Map.find k l.elements = some r)
    (hn : n ∈ r.holders) : l.names n := ⟨_, Map.mem_of_find h, hn⟩

theorem Live.names_setElement {l : Live} {k n : Nat} {r : ElementRec} (h : (l.setElement k r).names n) :
    n ∈ r.holders ∨ l.names n := by
  obtain ⟨x, hx, hn⟩ := h
  rcases Map.mem_put hx with rfl | hx
  · exact .inl hn
  · exact .inr ⟨x, hx, hn⟩

/-- Writing a record that names what the one before it did. -/
theorem Live.names_setElement_same {l : Live} {k n : Nat} {old new : ElementRec} (hold : Map.find k l.elements = some old)
    (h : (l.setElement k new).names n) (hsame : new.holders = old.holders) : l.names n := by
  rcases Live.names_setElement h with h | h
  · exact Live.names_of_find hold (hsame ▸ h)
  · exact h

theorem Live.names_of_mapped {a b : Live} (f : Nat → ElementRec → ElementRec)
    (hb : b.elements = a.elements.map (fun x => (x.1, f x.1 x.2))) {n : Nat}
    (hf : ∀ k r, n ∈ (f k r).holders → n ∈ r.holders) (h : b.names n) : a.names n := by
  obtain ⟨x, hx, hn⟩ := h
  rw [hb] at hx
  obtain ⟨y, hy, rfl⟩ := List.mem_map.1 hx
  exact ⟨y, hy, hf _ _ hn⟩

theorem Live.names_of_update {a b : Live} {k : Nat} (f : ElementRec → ElementRec)
    (hb : b.elements = Map.update k f a.elements) {n : Nat} (hf : ∀ r, (f r).holders = r.holders) (h : b.names n) :
    a.names n := by
  obtain ⟨x, hx, hn⟩ := h
  rw [hb] at hx
  obtain ⟨y, hy, hxy⟩ := List.mem_map.1 hx
  refine ⟨y, hy, ?_⟩
  split at hxy
  · rw [← hxy, hf] at hn
    exact hn
  · rwa [hxy]

theorem Live.names_changeOrder {n k : Nat} {o : Order} {l : Live} (h : (l.changeOrder k o).names n) : l.names n :=
  Live.names_of_update (fun r => if r.pendingOrder.isSome then r.withPending (some o) else r) rfl
    (fun r => by split <;> simp [ElementRec.holders_withPending]) h

theorem Live.names_placeOrder {t : Tables} {n k : Nat} {o : Order} {l : Live} (h : (l.placeOrder t k o).names n) :
    l.names n := by
  unfold Live.placeOrder at h
  split at h
  · exact Live.names_changeOrder h
  · split at h
    · exact Live.names_of_update _ rfl (ElementRec.holders_withPending (some o)) h
    · exact h

theorem Live.names_admitPending {t : Tables} {n : Nat} {l : Live} (h : (l.admitPending t).names n) : l.names n := by
  unfold Live.admitPending at h
  split at h
  · split at h
    · split at h
      · exact Live.names_of_update _ rfl (ElementRec.holders_withPending none) h
      · exact h
    · exact h
  · exact h

theorem Live.names_redirect {e : Env} {n p : Nat} {q : Position} {l : Live} (h : (l.redirect e p q).names n) :
    l.names n := by
  unfold Live.redirect at h
  split at h
  · dsimp only at h
    split at h
    · next r hr => exact Live.names_changeOrder (Live.names_setElement_same (Live.point_some.1 hr) h rfl)
    · exact Live.names_changeOrder h
  · exact h

theorem Live.names_lockPoint {e : Env} {n m p : Nat} {q : Position} {l : Live} (h : (l.lockPoint e n p q).names m) :
    m = n ∨ l.names m := by
  unfold Live.lockPoint at h
  split at h
  · exact .inr h
  · rcases Live.names_setElement (Live.names_redirect h) with h | h
    · exact .inl (by simpa [ElementRec.holders, ElementRec.routeLock, ElementRec.entryOf] using h)
    · exact .inr h

theorem Live.names_foldl {β : Type} {m : Nat} {P : Prop} (op : Live → β → Live)
    (hop : ∀ l x, (op l x).names m → P ∨ l.names m) (xs : List β) {l : Live} (h : (xs.foldl op l).names m) :
    P ∨ l.names m := by
  induction xs generalizing l with
  | nil => exact .inr h
  | cons x xs ih =>
    rcases ih h with h | h
    · exact .inl h
    · exact hop l x h

theorem Live.names_setEntryOf {n m g : Nat} {l : Live} (h : (l.setEntryOf n g).names m) : m = n ∨ l.names m := by
  unfold Live.setEntryOf at h
  split at h
  · exact .inr h
  · rcases Live.names_setElement h with h | h
    · exact .inl (by simpa [ElementRec.holders, ElementRec.routeLock, ElementRec.entryOf] using h)
    · exact .inr h

/-- After a taking the elements name the slot taken, or a slot that they named before (R79). -/
theorem Live.names_taking {e : Env} {route fleet n m : Nat} {r : RouteEntry} {choices : List Choice} {l : Live}
    (h : (l.taking e route r fleet n choices).names m) : m = n ∨ l.names m := by
  have hclaims : m = n ∨ ((l.setSlot n (newSlot e l route r fleet)).lockRoute e n r).names m :=
    (Live.names_foldl (P := m = n) _ (fun l c h => by
      split at h
      · exact .inr (Live.names_redirect h)
      · exact .inr h) _ h).imp id fun h => Live.names_of_elements rfl h
  rcases hclaims with h | h
  · exact .inl h
  · rcases Live.names_setEntryOf h with h | h
    · exact .inl h
    · exact (Live.names_foldl (P := m = n) _ (fun l y h => Live.names_lockPoint h) _ h).imp id
        fun h => Live.names_of_elements rfl h

theorem ElementRec.holders_unlocked {n m p : Nat} {ps : List Nat} {r : ElementRec} (h : m ∈ (r.unlocked n ps p).holders) :
    m ∈ r.holders := by
  cases r with
  | point r =>
    unfold ElementRec.unlocked at h
    dsimp only at h
    split at h
    · simp [ElementRec.holders, ElementRec.routeLock, ElementRec.entryOf] at h
    · exact h
  | signal r => exact h
  | head r => exact h

theorem ElementRec.holders_left {n m : Nat} {r : ElementRec} (h : m ∈ (r.left n).holders) : m ∈ r.holders := by
  cases r with
  | signal r =>
    unfold ElementRec.left at h
    dsimp only at h
    split at h
    · simp [ElementRec.holders, ElementRec.routeLock, ElementRec.entryOf] at h
    · exact h
  | point r => exact h
  | head r => exact h

theorem Live.mem_lockedPoints {n p : Nat} {r : PointRec} {l : Live} (h : (p, ElementRec.point r) ∈ l.elements)
    (hlock : r.routeLock.map (fun k => k.1) = some n) : p ∈ l.lockedPoints n :=
  List.mem_map.2 ⟨_, List.mem_filter.2 ⟨h, by simpa using hlock⟩, rfl⟩

/-- A record once its slot is emptied names the slot no more. -/
theorem ElementRec.not_mem_holders_emptied {n p : Nat} {r : ElementRec} {l : Live} (h : (p, r) ∈ l.elements) :
    n ∉ ((r.unlocked n (l.lockedPoints n) p).left n).holders := by
  cases r with
  | point r =>
    by_cases hlock : r.routeLock.map (fun k => k.1) = some n
    · have hp : (l.lockedPoints n).contains p = true := by simpa using Live.mem_lockedPoints h hlock
      simp only [ElementRec.unlocked, hp, hlock, Bool.true_and, beq_self_eq_true, if_true]
      simp [ElementRec.left, ElementRec.holders, ElementRec.routeLock, ElementRec.entryOf]
    · have hkeep : (ElementRec.point r).unlocked n (l.lockedPoints n) p = .point r := by
        simp [ElementRec.unlocked, hlock]
      rw [hkeep]
      simpa [ElementRec.left, ElementRec.holders, ElementRec.routeLock, ElementRec.entryOf] using hlock
  | signal r =>
    by_cases he : r.entryOf = some n
    · simp [ElementRec.unlocked, ElementRec.left, he, ElementRec.holders, ElementRec.routeLock, ElementRec.entryOf]
    · simpa [ElementRec.unlocked, ElementRec.left, he, ElementRec.holders, ElementRec.routeLock, ElementRec.entryOf] using he
  | head r => simp [ElementRec.unlocked, ElementRec.left, ElementRec.holders, ElementRec.routeLock, ElementRec.entryOf]

theorem Live.emptySlot_elements (t : Tables) (n : Nat) (l : Live) : (l.emptySlot t n).elements =
    l.elements.map (fun x => (x.1, (x.2.unlocked n (l.lockedPoints n) x.1).left n)) := by
  have h : (l.emptySlot t n).elements =
      (((l.unlockSections n (Map.ids l.sections)).unlockPoints n (l.lockedPoints n)).removeEntryOf n).elements := rfl
  rw [h, Live.removeEntryOf_elements, Live.unlockPoints_elements, List.map_map]
  rfl

/-- A slot that is emptied is named by no element, and no other slot is named anew (R119). -/
theorem Live.names_emptySlot {t : Tables} {n m : Nat} {l : Live} (h : (l.emptySlot t n).names m) : m ≠ n ∧ l.names m := by
  obtain ⟨x, hx, hm⟩ := h
  rw [Live.emptySlot_elements] at hx
  obtain ⟨y, hy, rfl⟩ := List.mem_map.1 hx
  refine ⟨?_, y, hy, ElementRec.holders_unlocked (ElementRec.holders_left hm)⟩
  rintro rfl
  exact ElementRec.not_mem_holders_emptied hy hm

/-! ### The law -/

/-- Every section lock, route lock, entry-of-slot, claim and arm names a slot in use. -/
structure Live.Held (l : Live) : Prop where
  sections : ∀ x ∈ l.sections, ∀ k, x.2.lock = some k → l.inUse k.1 = true
  elements : ∀ n, l.names n → l.inUse n = true
  claims : ∀ c ∈ l.claims, l.inUse c.slot = true
  arm : ∀ a, l.arm = some a → l.inUse a.slot = true

theorem ElementRec.mem_holders_point {r : PointRec} {n : Nat} :
    n ∈ (ElementRec.point r).holders ↔ ∃ k, r.routeLock = some k ∧ k.1 = n := by
  simp [ElementRec.holders, ElementRec.routeLock, ElementRec.entryOf]

theorem ElementRec.mem_holders_signal {r : SignalRec} {n : Nat} :
    n ∈ (ElementRec.signal r).holders ↔ r.entryOf = some n := by
  simp [ElementRec.holders, ElementRec.routeLock, ElementRec.entryOf]

theorem Live.holdersInUse_iff (l : Live) : l.holdersInUse = true ↔ l.Held := by
  simp only [Live.holdersInUse, Bool.and_eq_true, List.all_eq_true, Option.all_eq_true]
  constructor
  · rintro ⟨⟨⟨hs, he⟩, hc⟩, ha⟩
    refine ⟨hs, fun n hn => ?_, hc, ha⟩
    obtain ⟨⟨k, r⟩, hx, hn⟩ := hn
    have hr := he _ hx
    cases r with
    | point r =>
      obtain ⟨j, hj, rfl⟩ := ElementRec.mem_holders_point.1 hn
      simpa [hj] using hr
    | signal r => simpa [ElementRec.mem_holders_signal.1 hn] using hr
    | head r => simp [ElementRec.holders, ElementRec.routeLock, ElementRec.entryOf] at hn
  · rintro ⟨hs, he, hc, ha⟩
    refine ⟨⟨⟨hs, ?_⟩, hc⟩, ha⟩
    rintro ⟨k, r⟩ hx
    cases r with
    | point r =>
      exact (Option.all_eq_true _ _).2 fun j hj => he j.1 ⟨_, hx, ElementRec.mem_holders_point.2 ⟨j, hj, rfl⟩⟩
    | signal r => exact (Option.all_eq_true _ _).2 fun j hj => he j ⟨_, hx, ElementRec.mem_holders_signal.2 hj⟩
    | head r => rfl

theorem Map.has_update {α : Type} (j k : Nat) (f : α → α) (m : Map α) :
    Map.has j (Map.update k f m) = Map.has j m := by
  rw [Map.has, Map.find_update, Option.isSome_map, Map.has]

/-- Where the same slots are in use and nothing new is held. -/
theorem Live.Held.same {a b : Live} (h : a.Held) (hs : ∀ n, a.inUse n = true → b.inUse n = true)
    (hsec : ∀ x ∈ b.sections, ∀ k, x.2.lock = some k → ∃ y ∈ a.sections, y.2.lock = some k)
    (hel : ∀ n, b.names n → a.names n) (hc : ∀ c ∈ b.claims, ∃ d ∈ a.claims, d.slot = c.slot)
    (ha : ∀ x, b.arm = some x → a.arm = some x) : b.Held where
  sections x hx k hk := by
    obtain ⟨y, hy, hyk⟩ := hsec x hx k hk
    exact hs _ (h.sections y hy k hyk)
  elements n hn := hs n (h.elements n (hel n hn))
  claims c hcm := by
    obtain ⟨d, hd, hslot⟩ := hc c hcm
    exact hslot ▸ hs _ (h.claims d hd)
  arm x hx := hs _ (h.arm x (ha x hx))

/-- Where slots, sections, claims and the arm stand, only what elements name is asked. -/
theorem Live.Held.of_names {a b : Live} (h : a.Held) (hrest : b.slots = a.slots ∧ b.sections = a.sections ∧
    b.claims = a.claims ∧ b.arm = a.arm) (hel : ∀ n, b.names n → a.names n) : b.Held := by
  obtain ⟨hslots, hsections, hclaims, harm⟩ := hrest
  refine h.same (fun n hn => ?_) (fun x hx k hk => ⟨x, hsections ▸ hx, hk⟩) hel
    (fun c hc => ⟨c, hclaims ▸ hc, rfl⟩) (fun x hx => harm ▸ hx)
  rw [Live.inUse, hslots]
  exact hn

theorem Live.setSection_held {l : Live} {n : Nat} {old new : SectionRec} (hold : l.sectionAt n = some old)
    (hc : old.Counted new) (h : l.Held) : (l.setSection n new).Held := by
  refine h.same (fun _ => id) (fun x hx k hk => ?_) (fun _ => id) (fun c hc => ⟨c, hc, rfl⟩) (fun _ => id)
  rcases Map.mem_put hx with rfl | hx
  · exact ⟨_, Map.mem_of_find hold, hc.lock ▸ hk⟩
  · exact ⟨x, hx, hk⟩

theorem Live.claimsProved_held {n : Nat} {l : Live} (h : l.Held) : (l.claimsProved n).Held := by
  refine h.same (fun _ => id) (fun x hx k hk => ⟨x, hx, hk⟩) (fun _ => id) (fun c hc => ?_) (fun _ => id)
  obtain ⟨d, hd, rfl⟩ := List.mem_map.1 hc
  exact ⟨d, hd, by split <;> rfl⟩

theorem SectionRec.unlocked_lock {n sec : Nat} {secs : List Nat} {r : SectionRec} {k : Nat × Role}
    (h : (r.unlocked n secs sec).lock = some k) : r.lock = some k := by
  unfold SectionRec.unlocked at h
  split at h
  · simp at h
  · exact h

theorem claimsFor_slots (n : Nat) (choices : List Choice) : ∀ c ∈ claimsFor n choices, c.slot = n := by
  intro c hc
  rw [← claimsFor_slot n n] at hc
  obtain ⟨d, _, rfl⟩ := List.mem_map.1 hc
  rfl

theorem Live.Held.emptySlot {t : Tables} {n : Nat} {l : Live} (h : l.Held) : (l.emptySlot t n).Held := by
  have hkeep {m : Nat} (hm : m ≠ n) (hin : l.inUse m = true) : (l.emptySlot t n).inUse m = true := by
    rw [Live.inUse, Live.emptySlot_slots, Map.has, Map.find_drop_ne hm]
    exact hin
  constructor
  · intro x hx k hk
    rw [Live.emptySlot_sections, Live.unlockSections_sections] at hx
    obtain ⟨y, hy, rfl⟩ := List.mem_map.1 hx
    have hlock := SectionRec.unlocked_lock hk
    refine hkeep ?_ (h.sections y hy k hlock)
    rintro rfl
    have hid : (Map.ids l.sections).contains y.1 = true := List.contains_iff_mem.2 (List.mem_map_of_mem hy)
    rw [SectionRec.unlocked, hid, hlock, Option.map_some, beq_self_eq_true, Bool.true_and, if_pos rfl] at hk
    cases hk
  · intro m hm
    obtain ⟨hne, hm⟩ := Live.names_emptySlot hm
    exact hkeep hne (h.elements m hm)
  · intro c hc
    obtain ⟨hc, hne⟩ := List.mem_filter.1 hc
    exact hkeep (by simpa using hne) (h.claims c hc)
  · intro a ha
    have ha : (if l.arm.any (fun a => a.slot == n) then none else l.arm) = some a := ha
    split at ha
    · simp at ha
    · next hne =>
      refine hkeep ?_ (h.arm a ha)
      simpa [ha] using hne

theorem Live.Held.taking {e : Env} {route fleet n : Nat} {r : RouteEntry} {choices : List Choice} {l : Live}
    (h : l.Held) : (l.taking e route r fleet n choices).Held := by
  have hslots : (l.taking e route r fleet n choices).slots = Map.put n (newSlot e l route r fleet) l.slots := by
    rw [Live.taking_rest]
  have hin {m : Nat} (hm : m = n ∨ l.inUse m = true) : (l.taking e route r fleet n choices).inUse m = true := by
    rw [Live.inUse, hslots, Map.has]
    by_cases hmn : m = n
    · subst hmn
      rw [Map.find_put_self]
      rfl
    · rw [Map.find_put_ne hmn]
      exact hm.resolve_left hmn
  constructor
  · intro x hx k hk
    have hx : x ∈ (l.lockSections n r).sections := by
      rw [Live.taking_rest] at hx
      exact hx
    rw [Live.lockSections_sections] at hx
    obtain ⟨y, hy, rfl⟩ := List.mem_map.1 hx
    refine hin ?_
    unfold SectionRec.lockedFor at hk
    split at hk
    · cases hk
      exact .inl rfl
    · split at hk
      · cases hk
        exact .inl rfl
      · exact .inr (h.sections y hy k hk)
  · exact fun m hm => hin ((Live.names_taking hm).imp id (h.elements m))
  · intro c hc
    rw [Live.taking_claims] at hc
    refine hin ?_
    rcases List.mem_append.1 hc with hc | hc
    · exact .inr (h.claims c hc)
    · obtain ⟨d, hd, rfl⟩ := List.mem_map.1 hc
      exact .inl (claimsFor_slots n choices d hd)
  · intro a ha
    rw [Live.taking_rest] at ha
    exact hin (.inr (h.arm a ha))

theorem LiveStep.held {e : Env} {σ : Scope} {a b : Live} (s : LiveStep e σ a b) (h : a.Held) : b.Held := by
  cases s with
  | offer => exact h.of_names ⟨by simp, by simp, by simp, by simp⟩ (fun n hn => Live.names_of_elements (by simp) hn)
  | arm x hx =>
    refine ⟨h.sections, h.elements, h.claims, fun y hy => ?_⟩
    exact hx y hy
  | slot n f =>
    refine h.same (fun m hm => ?_) (fun x hx k hk => ⟨x, hx, hk⟩) (fun _ => id) (fun c hc => ⟨c, hc, rfl⟩) (fun _ => id)
    rw [Live.inUse, Map.has_update]
    exact hm
  | orderPoint p q r hp =>
    rw [Live.takePointOrder]
    refine h.of_names ?_ fun n hn => ?_
    · rw [Live.placeOrder_rest]
      exact ⟨rfl, rfl, rfl, rfl⟩
    · exact Live.names_setElement_same (Live.point_some.1 hp) (Live.names_placeOrder hn) rfl
  | orderSignal g c r hg =>
    refine Live.claimsProved_held ?_
    rw [Live.takeSignalOrder]
    refine h.of_names ?_ fun n hn => ?_
    · rw [Live.placeOrder_rest]
      exact ⟨rfl, rfl, rfl, rfl⟩
    · exact Live.names_setElement_same (Live.signal_some.1 hg) (Live.names_placeOrder hn) rfl
  | admitted =>
    refine h.of_names ?_ fun n hn => Live.names_admitPending hn
    rw [Live.admitPending_rest]
    exact ⟨rfl, rfl, rfl, rfl⟩
  | empty n x => exact h.emptySlot
  | release n secs ps =>
    refine h.same (fun _ => id) (fun x hx k hk => ?_) (fun m hm => ?_) (fun c hc => ⟨c, hc, rfl⟩) (fun _ => id)
    · have hx : x ∈ (a.unlockSections n secs).sections := hx
      rw [Live.unlockSections_sections] at hx
      obtain ⟨y, hy, rfl⟩ := List.mem_map.1 hx
      exact ⟨y, hy, SectionRec.unlocked_lock hk⟩
    · exact Live.names_of_mapped (a := a) (fun p r => r.unlocked n ps p)
        (Live.unlockPoints_elements n ps (a.unlockSections n secs)) (fun _ _ => ElementRec.holders_unlocked) hm
  | entries r n is =>
    refine h.same (fun _ => id) (fun x hx k hk => ⟨x, hx, hk⟩) (fun _ => id) (fun c hc => ?_) (fun _ => id)
    obtain ⟨d, hd, rfl⟩ := List.mem_map.1 (List.mem_of_mem_filter hc)
    exact ⟨d, hd, by split <;> rfl⟩
  | taken => exact h.taking
  | counted n old new _ hold hc _ => exact Live.setSection_held hold hc h
  | sectionChanged n old new _ hold hc =>
    have hset := Live.setSection_held hold hc h
    exact ⟨hset.sections, hset.elements, hset.claims, hset.arm⟩
  | agree secs =>
    refine h.same (fun _ => id) (fun x hx k hk => ?_) (fun _ => id) (fun c hc => ⟨c, hc, rfl⟩) (fun _ => id)
    obtain ⟨y, hy, rfl⟩ := List.mem_map.1 hx
    refine ⟨y, hy, ?_⟩
    split at hk <;> exact hk
  | element n old new _ hold hlike =>
    exact h.of_names ⟨rfl, rfl, rfl, rfl⟩ fun m hm => Live.names_setElement_same hold hm hlike.holders
  | shown n old new _ hold hlike =>
    exact Live.claimsProved_held
      (h.of_names ⟨rfl, rfl, rfl, rfl⟩ fun m hm => Live.names_setElement_same hold hm hlike.holders)
  | _ => exact ⟨h.sections, h.elements, h.claims, h.arm⟩

theorem ElementEntry.renewed_holders {x : ElementEntry} {r : ElementRec} (h : x.renewed = some r) : r.holders = [] := by
  unfold ElementEntry.renewed at h
  split at h <;> cases h <;> rfl

/-- A record of an element after a commit is one kept, or a new one (R61). -/
theorem mem_alignElements {old new : Tables} {records : Map ElementRec} {x : Nat × ElementRec}
    (h : x ∈ alignElements old new records) : ∃ y ∈ new.elements, x.1 = y.1 ∧
      ((Map.find y.1 records = some x.2 ∧ unchangedElement old new y.1 = true) ∨ y.2.renewed = some x.2) := by
  obtain ⟨y, hy, hx⟩ := List.mem_filterMap.1 h
  refine ⟨y, hy, ?_⟩
  have hrenewed (h : y.2.renewed.map (fun r => (y.1, r)) = some x) : x.1 = y.1 ∧ y.2.renewed = some x.2 := by
    obtain ⟨r, hr, rfl⟩ := Option.map_eq_some_iff.1 h
    exact ⟨rfl, hr⟩
  dsimp only at hx
  split at hx
  · next hkept =>
    rcases Option.or_eq_some_iff.1 hx with hx | ⟨_, hx⟩
    · obtain ⟨r, hr, rfl⟩ := Option.map_eq_some_iff.1 hx
      exact ⟨rfl, .inl ⟨hr, hkept⟩⟩
    · exact ⟨(hrenewed hx).1, .inr (hrenewed hx).2⟩
  · exact ⟨(hrenewed hx).1, .inr (hrenewed hx).2⟩

theorem Live.Held.aligned {old new : Tables} {possessions : Map (List Nat)} {l : Live} (h : l.Held) :
    (l.aligned old new possessions).Held := by
  refine ⟨fun x hx k hk => ?_, fun n hn => ?_, h.claims, h.arm⟩
  · have hx : x ∈ alignSections old new possessions l.sections := hx
    rw [alignSections_eq] at hx
    obtain ⟨y, _, rfl⟩ := List.mem_map.1 hx
    rw [(alignedSection_spec old new possessions l.sections y.1).1] at hk
    simp at hk
  · obtain ⟨x, hx, hn⟩ := hn
    obtain ⟨y, _, _, hkept | hnew⟩ := mem_alignElements hx
    · exact h.elements n (Live.names_of_find hkept.1 hn)
    · rw [ElementEntry.renewed_holders hnew] at hn
      simp at hn

theorem Live.Held.setPossession {sections : List Nat} {possession : Option Nat} {l : Live} (h : l.Held) :
    (l.setPossession sections possession).Held := by
  refine h.same (fun _ => id) (fun x hx k hk => ?_) (fun _ => id) (fun c hc => ⟨c, hc, rfl⟩) (fun _ => id)
  rw [Live.setPossession_sections] at hx
  obtain ⟨y, hy, rfl⟩ := List.mem_map.1 hx
  refine ⟨y, hy, ?_⟩
  dsimp only at hk
  split at hk <;> exact hk

theorem State.Move.held {s t : State} (m : s.Move t) (h : s.live.Held) : t.live.Held := by
  cases m with
  | works l hl => exact (State.worked_of_works hl).keeps (fun _ _ k => k.held) h
  | restarts => exact s.restart_worked.keeps (fun _ _ k => k.held) h
  | waits => exact ⟨h.sections, h.elements, h.claims, h.arm⟩
  | grants possession sections => exact h.setPossession
  | gives possession sections => exact h.setPossession
  | powers =>
    exact ⟨fun x hx => absurd hx List.not_mem_nil, fun n ⟨x, hx, _⟩ => absurd hx List.not_mem_nil,
      fun c hc => absurd hc List.not_mem_nil, fun a ha => by cases ha⟩
  | creates i =>
    refine ⟨fun x hx k hk => ?_, fun n hn => ?_, h.claims, h.arm⟩
    · obtain ⟨y, hy, rfl⟩ := List.mem_map.1 hx
      cases hk
    · obtain ⟨x, hx, hn⟩ := hn
      obtain ⟨y, hy, hx⟩ := List.mem_filterMap.1 hx
      obtain ⟨r, hr, rfl⟩ := Option.map_eq_some_iff.1 hx
      rw [ElementEntry.renewed_holders hr] at hn
      simp at hn
  | activates c => exact State.activates_keeps (takes := True) (fun _ _ k => k.held) h.aligned
  | _ => exact h

/-- Settles O54, by the single changes that a step is made of. -/
theorem everyStepKeepsHoldersInUse : Obligations.EveryStepKeepsHoldersInUse := by
  intro s t hs h
  rw [Live.holdersInUse_iff] at hs ⊢
  exact step_keeps (P := fun s => s.live.Held) (fun _ _ m => m.held) h hs

end Sys2Proof.Machine
end

section
/-! PROOFS. Our line-clear flags say whether the line sections are clear and unlocked (R135), and a claim is proven exactly while
its element shows its required state (R106). -/

namespace Sys2Proof.Machine

/-! ### Line-clear flags (R135) -/

/-- Every line's line-clear flag says whether its sections are clear and unlocked. -/
def Live.flagsRight (t : Tables) (l : Live) : Prop :=
  ∀ k ∈ l.links, ∀ y ∈ k.2.lines, y.2.lineClear = l.lineClearNow t k.1 y.1

theorem Live.clear_and_unheld (l : Live) (n : Nat) : (l.isClear n && (l.holder n).isNone) =
    (l.sectionAt n).any (fun r => r.state == .clear && r.lock.isNone) := by
  unfold Live.isClear Live.holder
  cases l.sectionAt n <;> rfl

theorem Live.lineClearNow_eq (t : Tables) (link number : Nat) (l : Live) : l.lineClearNow t link number =
    (t.lineEntry link number).any (fun x => x.sections.all (fun n =>
      (l.sectionAt n).any (fun r => r.state == .clear && r.lock.isNone))) := by
  unfold Live.lineClearNow
  cases t.lineEntry link number with
  | none => rfl
  | some x => exact congrArg x.sections.all (funext l.clear_and_unheld)

theorem State.lineFlagsLawful_iff (s : State) : s.lineFlagsLawful = true ↔ s.live.flagsRight s.store.active := by
  simp only [State.lineFlagsLawful, Live.flagsRight, List.all_eq_true, beq_iff_eq, Live.lineClearNow_eq]

/-- The flags are right once they are formed. -/
theorem Live.formLineFlags_right (t : Tables) (l : Live) : (l.formLineFlags t).flagsRight t := by
  intro k hk y hy
  obtain ⟨j, _, rfl⟩ := List.mem_map.1 hk
  obtain ⟨z, _, rfl⟩ := List.mem_map.1 hy
  rfl

/-- Two moments agree in what the line-clear flags are formed from. -/
def Live.sameLineSections (a b : Live) : Prop :=
  ∀ n, (b.sectionAt n).map (fun r => (r.state, r.lock)) = (a.sectionAt n).map (fun r => (r.state, r.lock))

theorem Live.lineClearNow_same {a b : Live} (h : a.sameLineSections b) (t : Tables) (link number : Nat) :
    b.lineClearNow t link number = a.lineClearNow t link number := by
  have hany (n : Nat) : (b.sectionAt n).any (fun r => r.state == .clear && r.lock.isNone) =
      (a.sectionAt n).any (fun r => r.state == .clear && r.lock.isNone) := by
    have hn := congrArg (Option.any (fun k : SectionState × Option (Nat × Role) => k.1 == .clear && k.2.isNone)) (h n)
    simpa [Option.any_map, Function.comp_def] using hn
  simp only [Live.lineClearNow_eq, hany]

/-- Flags that stand are right while the line sections stand. -/
theorem Live.flagsRight.same {t : Tables} {a b : Live} (h : a.flagsRight t) (hl : sameFlags a.links b.links)
    (hs : a.sameLineSections b) : b.flagsRight t := by
  intro k hk y hy
  obtain ⟨j, hj, hid, z, hz, hnum, hflag⟩ := hl k hk y hy
  rw [Live.lineClearNow_same hs, ← hflag, h j hj z hz, hid, hnum]

theorem sameFlags.refl (m : Map LinkRec) : sameFlags m m := fun k hk y hy => ⟨k, hk, rfl, y, hy, rfl, rfl⟩

theorem Live.flagsRight.of_eq {t : Tables} {a b : Live} (h : a.flagsRight t) (hl : b.links = a.links)
    (hs : b.sections = a.sections) : b.flagsRight t :=
  h.same (hl ▸ sameFlags.refl _) (fun n => by rw [Live.sectionAt, hs, Live.sectionAt])

theorem Live.sameLineSections_of_mapped {a b : Live} (f : Nat → SectionRec → SectionRec)
    (hb : b.sections = a.sections.map (fun x => (x.1, f x.1 x.2)))
    (hf : ∀ n r, (f n r).state = r.state ∧ (f n r).lock = r.lock) : a.sameLineSections b := by
  intro n
  rw [Live.sectionAt, hb, Map.find_mapped f, Live.sectionAt]
  cases Map.find n a.sections with
  | none => rfl
  | some r => simp [(hf n r).1, (hf n r).2]

theorem Live.agreeShared_sections (secs : List Nat) (l : Live) : (l.agreeShared secs).sections =
    l.sections.map (fun x => (x.1, if secs.contains x.1 then { x.2 with disagreement := 0 } else x.2)) := by
  unfold Live.agreeShared
  refine List.map_congr_left fun x _ => ?_
  split <;> rfl

theorem LiveStep.flagsRight {e : Env} {σ : Scope} {a b : Live} (s : LiveStep e σ a b) (h : a.flagsRight e.tables) :
    b.flagsRight e.tables := by
  cases s with
  | offer => exact h.of_eq (by simp) (by simp)
  | links ls hl => exact h.same hl (fun _ => rfl)
  | flags => exact Live.formLineFlags_right _ _
  | orderPoint p q r =>
    rw [Live.takePointOrder, Live.placeOrder_rest]
    exact h.of_eq rfl rfl
  | orderSignal g c r =>
    rw [Live.takeSignalOrder, Live.placeOrder_rest]
    exact h.of_eq rfl rfl
  | admitted =>
    rw [Live.admitPending_rest]
    exact h.of_eq rfl rfl
  | empty n x => exact Live.formLineFlags_right _ _
  | release n secs ps => exact Live.formLineFlags_right _ _
  | taken route r fleet n choices =>
    rw [Live.taking_rest]
    exact (Live.formLineFlags_right e.tables (a.lockSections n r)).of_eq rfl rfl
  | counted n old new _ hold hc hstate =>
    refine h.same (sameFlags.refl _) fun m => ?_
    by_cases hm : m = n
    · subst hm
      rw [Live.sectionAt_setSection, if_pos rfl, hold]
      simp [hc.lock, hstate]
    · rw [Live.sectionAt_setSection, if_neg hm]
  | sectionChanged n old new => exact Live.formLineFlags_right _ _
  | agree secs =>
    refine h.same (sameFlags.refl _) (Live.sameLineSections_of_mapped
      (fun n r => if secs.contains n then { r with disagreement := 0 } else r)
      (Live.agreeShared_sections secs a) fun n r => ?_)
    split <;> exact ⟨rfl, rfl⟩
  | _ => exact h.of_eq rfl rfl

theorem Live.setPossession_sameLineSections (sections : List Nat) (possession : Option Nat) (l : Live) :
    l.sameLineSections (l.setPossession sections possession) :=
  Live.sameLineSections_of_mapped (fun n r => if sections.contains n then { r with possession := possession } else r)
    (Live.setPossession_sections sections possession l) (fun n r => by split <;> exact ⟨rfl, rfl⟩)

theorem State.Move.flagsRight {s t : State} (m : s.Move t) (h : s.live.flagsRight s.store.active) :
    t.live.flagsRight t.store.active := by
  cases m with
  | works l hl => exact (State.worked_of_works hl).keeps (P := Live.flagsRight s.store.active) (fun _ _ k => k.flagsRight) h
  | restarts => exact s.restart_worked.keeps (P := Live.flagsRight s.store.active) (fun _ _ k => k.flagsRight) h
  | grants possession sections => exact h.same (sameFlags.refl _) (Live.setPossession_sameLineSections _ _ _)
  | gives possession sections => exact h.same (sameFlags.refl _) (Live.setPossession_sameLineSections _ _ _)
  | stages st _ _ _ hactive => exact hactive ▸ h
  | powers => exact fun k hk => absurd hk List.not_mem_nil
  | creates i => exact Live.formLineFlags_right _ _
  | activates c => exact Live.formLineFlags_right _ _
  | _ => exact h

/-- Settles O55, by the single changes that a step is made of. -/
theorem everyStepKeepsLineFlags : Obligations.EveryStepKeepsLineFlags := by
  intro s t hs h
  rw [State.lineFlagsLawful_iff] at hs ⊢
  exact step_keeps (P := fun s => s.live.flagsRight s.store.active) (fun _ _ m => m.flagsRight) h hs

/-! ### Claims (R106) -/

/-- Every claim is proven exactly while its element shows its required state. -/
def Live.claimsRight (l : Live) : Prop := ∀ c ∈ l.claims, c.proven = l.shows c.element c.required

/-- A point shows a position when it is evaluated there (R106). -/
theorem Live.shows_position (l : Live) (n : Nat) (p : Position) :
    l.shows n (.position p) = (l.point n).any (fun r => r.evaluated == some p) := by
  unfold Live.shows Live.point
  cases Map.find n l.elements with
  | none => rfl
  | some r => cases r <;> rfl

/-- A signal shows DANGER when it is proven and commanded there (R106). -/
theorem Live.shows_danger (l : Live) (n : Nat) :
    l.shows n .danger = (l.signal n).any (fun r => r.proven == some .danger && r.commanded == .danger) := by
  unfold Live.shows Live.signal
  cases Map.find n l.elements with
  | none => rfl
  | some r => cases r <;> rfl

theorem Live.claimLawful_iff (l : Live) (c : Claim) : l.claimLawful c = true ↔ c.proven = l.shows c.element c.required := by
  obtain ⟨element, required, slot, serves, proven⟩ := c
  rw [Live.claimLawful, beq_iff_eq]
  cases required with
  | position p => rw [Live.shows_position]
  | danger => rw [Live.shows_danger]

/-- Where claims stand and every element shows what it showed. -/
theorem Live.claimsRight.same {a b : Live} (h : a.claimsRight) (hc : ∀ c ∈ b.claims, ∃ d ∈ a.claims,
    c.element = d.element ∧ c.required = d.required ∧ c.proven = d.proven) (hs : ∀ n q, b.shows n q = a.shows n q) :
    b.claimsRight := by
  intro c hcm
  obtain ⟨d, hd, hel, hreq, hpr⟩ := hc c hcm
  rw [hs, hpr, hel, hreq]
  exact h d hd

theorem Live.claimsRight.of_eq {a b : Live} (h : a.claimsRight) (hc : b.claims = a.claims)
    (hs : ∀ n q, b.shows n q = a.shows n q) : b.claimsRight :=
  h.same (fun c hcm => ⟨c, hc ▸ hcm, rfl, rfl, rfl⟩) hs

theorem Live.shows_of_elements {a b : Live} (h : b.elements = a.elements) (n : Nat) (q : Required) :
    b.shows n q = a.shows n q := by rw [Live.shows_eq, h, Live.shows_eq]

/-- The claims on an element are right once they are proved, where no other element shows something else. -/
theorem Live.claimsProved_right {n : Nat} {a b : Live} (h : a.claimsRight) (hc : b.claims = a.claims)
    (hs : ∀ m q, m ≠ n → b.shows m q = a.shows m q) : (b.claimsProved n).claimsRight := by
  intro c hcm
  obtain ⟨d, hd, rfl⟩ := List.mem_map.1 hcm
  rw [Live.shows_of_elements (a := b) (b := b.claimsProved n) rfl]
  split
  · rfl
  · next hne =>
    rw [hs _ _ hne]
    exact h d (hc ▸ hd)

theorem Live.shows_setElement_ne {l : Live} {n m : Nat} {r : ElementRec} {q : Required} (h : m ≠ n) :
    (l.setElement n r).shows m q = l.shows m q := by
  rw [Live.shows_eq, Live.setElement_ne h, Live.shows_eq]

/-- What a taking shows of each element is what was shown before. -/
theorem Live.taking_shows (e : Env) (route : Nat) (r : RouteEntry) (fleet n : Nat) (choices : List Choice) (l : Live)
    (m : Nat) (q : Required) : (l.taking e route r fleet n choices).shows m q = l.shows m q :=
  Live.shows_same (Live.taking_reported e route r fleet n choices l) (Live.taking_commanded e route r fleet n choices l) m q

theorem Live.taking_claimsRight {e : Env} {route : Nat} {r : RouteEntry} {fleet n : Nat} {choices : List Choice} {l : Live}
    (h : l.claimsRight) : (l.taking e route r fleet n choices).claimsRight := by
  have hlocked (m : Nat) (q : Required) : ((l.setSlot n (newSlot e l route r fleet)).lockRoute e n r).shows m q =
      l.shows m q := Live.taking_shows e route r fleet n [] l m q
  intro c hc
  rw [Live.taking_shows]
  rw [Live.taking_claims] at hc
  rcases List.mem_append.1 hc with hc | hc
  · exact h c hc
  · obtain ⟨d, _, rfl⟩ := List.mem_map.1 hc
    exact hlocked _ _

theorem LiveStep.claimsRight {e : Env} {σ : Scope} {a b : Live} (s : LiveStep e σ a b) (h : a.claimsRight) :
    b.claimsRight := by
  cases s with
  | offer => exact h.of_eq (by simp) (Live.shows_of_elements (by simp))
  | orderPoint p q r hp =>
    refine h.of_eq ?_ (Live.shows_same (Live.takePointOrder_reported e q hp) (Live.takePointOrder_commanded e q hp))
    rw [Live.takePointOrder, Live.placeOrder_rest]
    rfl
  | orderSignal g c r hg =>
    refine Live.claimsProved_right h ?_ fun m q hm => ?_
    · rw [Live.takeSignalOrder, Live.placeOrder_rest]
      rfl
    · refine Live.shows_at (Live.takeSignalOrder_reported e c hg m) ?_ q
      rw [Live.takeSignalOrder_commanded e c hg m, if_neg hm]
  | admitted =>
    refine h.of_eq ?_ (Live.shows_same (Live.admitPending_bare _ _).reported (Live.admitPending_bare _ _).commanded)
    rw [Live.admitPending_rest]
  | empty n x =>
    refine h.same (fun c hc => ⟨c, List.mem_of_mem_filter hc, rfl, rfl, rfl⟩) (Live.shows_same ?_ ?_)
    · exact fun m => by
        rw [Live.emptySlot_find, Option.map_map]
        simp [Function.comp_def, ElementRec.left_reported, ElementRec.unlocked_reported]
    · exact fun m => by
        rw [Live.emptySlot_find, Option.map_map]
        simp [Function.comp_def, ElementRec.left_commanded, ElementRec.unlocked_commanded]
  | release n secs ps =>
    refine h.of_eq rfl (Live.shows_same ?_ ?_)
    · exact Live.samePart_of_mapped (fun p r => r.unlocked n ps p)
        (Live.unlockPoints_elements n ps (a.unlockSections n secs)) (fun p r => ElementRec.unlocked_reported n ps p r)
    · exact Live.samePart_of_mapped (fun p r => r.unlocked n ps p)
        (Live.unlockPoints_elements n ps (a.unlockSections n secs)) (fun p r => ElementRec.unlocked_commanded n ps p r)
  | entries r n is =>
    refine h.same (fun c hc => ?_) (fun _ _ => rfl)
    obtain ⟨d, hd, rfl⟩ := List.mem_map.1 (List.mem_of_mem_filter hc)
    exact ⟨d, hd, by split <;> exact ⟨rfl, rfl, rfl⟩⟩
  | taken => exact Live.taking_claimsRight h
  | element n old new _ hold _ hshows =>
    refine h.of_eq rfl fun m q => ?_
    by_cases hm : m = n
    · subst hm
      rw [Live.shows_eq, Live.shows_eq, hold]
      simp [hshows]
    · exact Live.shows_setElement_ne hm
  | shown n old new _ hold =>
    exact Live.claimsProved_right h rfl fun m q hm => Live.shows_setElement_ne hm
  | _ => exact h.of_eq rfl (fun _ _ => rfl)

theorem State.commitLawful_iff (s : State) : s.commitLawful = true ↔
    (s.store.commit ≠ none → s.mode = .suspended ∨ s.mode = .failed) := by
  cases h : s.store.commit <;> simp [State.commitLawful, h]

theorem Mode.loading_iff {m : Mode} : m.loading = true ↔ m = .suspended ∨ m = .failed := by
  cases m <;> simp [Mode.loading]

theorem State.Move.commitLawful {s t : State} (m : s.Move t) (h : s.commitLawful = true) : t.commitLawful = true := by
  rw [State.commitLawful_iff] at h ⊢
  cases m with
  | mode m _ _ hnone => exact fun hc => absurd hnone hc
  | opens => exact fun _ => .inl rfl
  | fails => exact fun _ => .inr rfl
  | stages st _ _ _ _ hnone => exact fun hc => absurd hnone hc
  | commit c hload =>
    intro hc
    rcases hload (Option.isSome_iff_ne_none.2 hc) with hl | hl
    · exact Mode.loading_iff.1 hl
    · exact h (Option.isSome_iff_ne_none.1 hl)
  | powers => exact fun hc => absurd rfl hc
  | activates c => exact fun hc => absurd rfl hc
  | _ => exact h

/-- The laws of the slots, the mode and the commit (R75, R78, R162, R171). -/
structure State.Seated (s : State) : Prop where
  held : s.live.Held
  traffic : s.trafficLawful = true
  commit : s.commitLawful = true

theorem State.Move.seated {s t : State} (m : s.Move t) (h : s.Seated) : t.Seated :=
  ⟨m.held h.held, m.trafficLawful h.traffic, m.commitLawful h.commit⟩

/-- At rest no claim stands. -/
theorem Live.Held.no_claims {l : Live} (h : l.Held) (hr : l.atRest) : l.claims = [] := by
  refine List.eq_nil_iff_forall_not_mem.2 fun c hc => ?_
  have := h.claims c hc
  rw [Live.inUse, hr.1] at this
  cases this

theorem State.Seated.atRest_start {s : State} (h : s.Seated) (hm : s.mode = .start) : s.live.atRest :=
  s.trafficLawful_iff.1 h.traffic (by rw [hm]; rfl)

theorem State.Seated.atRest_commit {s : State} (h : s.Seated) (hc : s.store.commit ≠ none) : s.live.atRest := by
  refine s.trafficLawful_iff.1 h.traffic ?_
  rcases s.commitLawful_iff.1 h.commit hc with hm | hm <;> rw [hm] <;> rfl

theorem State.Move.claimsRight {s t : State} (m : s.Move t) (hs : s.Seated) (h : s.live.claimsRight) :
    t.live.claimsRight := by
  cases m with
  | works l hl => exact (State.worked_of_works hl).keeps (fun _ _ k => k.claimsRight) h
  | restarts => exact s.restart_worked.keeps (fun _ _ k => k.claimsRight) h
  | powers => exact fun c hc => absurd hc List.not_mem_nil
  | creates i hstart =>
    intro c hc
    have hnone := hs.held.no_claims (hs.atRest_start hstart)
    exact absurd (hnone ▸ hc) List.not_mem_nil
  | activates c hc =>
    refine State.activates_keeps (takes := True) (fun _ _ k => k.claimsRight) fun d hd => ?_
    have hnone := hs.held.no_claims (hs.atRest_commit (by simp [hc]))
    exact absurd (hnone ▸ hd) List.not_mem_nil
  | _ => exact h

theorem State.claimsLawful_iff (s : State) : s.claimsLawful = true ↔ s.Seated ∧ s.live.claimsRight := by
  simp only [State.claimsLawful, Bool.and_eq_true, List.all_eq_true, Live.claimLawful_iff, Live.holdersInUse_iff]
  exact ⟨fun ⟨⟨⟨h1, h2⟩, h3⟩, h4⟩ => ⟨⟨h2, h3, h4⟩, h1⟩, fun ⟨⟨h2, h3, h4⟩, h1⟩ => ⟨⟨⟨h1, h2⟩, h3⟩, h4⟩⟩

/-- Settles O56, by the single changes that a step is made of. -/
theorem everyStepKeepsClaimsProven : Obligations.EveryStepKeepsClaimsProven := by
  intro s t hs h
  rw [State.claimsLawful_iff] at hs ⊢
  exact step_keeps (P := fun s => s.Seated ∧ s.live.claimsRight)
    (fun _ _ m hp => ⟨m.seated hp.1, m.claimsRight hp.1 hp.2⟩) h hs

end Sys2Proof.Machine
end

section
/-! PROOFS. The readings of the tables that the laws rest on: the constraints 322 and 335 of a valid image, a route's
requirements, the search result and the claims made from it. -/

namespace Sys2Proof.Machine

/-! ### Valid images -/

/-- No constraint fails exactly when every one holds. -/
theorem firstFailed_none {cs : List (Nat × Bool)} : firstFailed cs = none ↔ ∀ c ∈ cs, c.2 = true := by
  induction cs with
  | nil => simp [firstFailed]
  | cons c cs ih =>
    obtain ⟨n, holds⟩ := c
    cases holds <;> simp [firstFailed, ih]

theorem firstInvalid_none {α : Type} {kind : SubjectKind} {constraints : Nat → α → List (Nat × Bool)} {m : Map α} :
    firstInvalid kind constraints m = none ↔ ∀ x ∈ m, firstFailed (constraints x.1 x.2) = none := by
  induction m with
  | nil => simp [firstInvalid]
  | cons x m ih =>
    obtain ⟨id, a⟩ := x
    unfold firstInvalid
    cases h : firstFailed (constraints id a) with
    | none => simp [ih, h]
    | some n => simp [h]

/-- Every constraint of every route of a valid image holds. -/
theorem Tables.valid_route {t : Tables} (h : t.firstInvalid = none) {x : Nat × RouteEntry} (hx : x ∈ t.routes) :
    ∀ c ∈ t.routeConstraints x.1 x.2, c.2 = true := by
  simp only [Tables.firstInvalid, Option.or_eq_none_iff] at h
  exact firstFailed_none.1 (firstInvalid_none.1 h.2.2.1 x hx)

theorem Tables.valid_protection {t : Tables} (h : t.firstInvalid = none) {x : Nat × RouteEntry} (hx : x ∈ t.routes) :
    ∀ c ∈ t.protectionConstraints x.2, c.2 = true :=
  fun c hc => Tables.valid_route h hx c (by simp [Tables.routeConstraints, hc])

/-! ### Numbers in rising order -/

theorem Map.ids_put_mem {α : Type} {k : Nat} {a : α} {m : Map α} {n : Nat} :
    n ∈ Map.ids (Map.put k a m) ↔ n = k ∨ n ∈ Map.ids m := by
  induction m with
  | nil => simp [Map.put, Map.ids]
  | cons x m ih =>
    unfold Map.put
    split
    · simp [Map.ids]
    · split
      · next h => simp [Map.ids, h]
      · simp only [Map.ids, List.map_cons, List.mem_cons] at ih ⊢
        rw [ih]
        exact or_left_comm

theorem mem_ascending {ns : List Nat} {n : Nat} : n ∈ ascending ns ↔ n ∈ ns := by
  unfold ascending
  suffices h : ∀ m : Map Unit, n ∈ Map.ids (ns.foldl (fun m n => Map.put n () m) m) ↔ n ∈ Map.ids m ∨ n ∈ ns by
    rw [h]
    simp [Map.ids]
  induction ns with
  | nil => simp
  | cons k ns ih =>
    intro m
    rw [List.foldl_cons, ih, Map.ids_put_mem, List.mem_cons]
    tauto

/-! ### A route's requirements -/

/-- Each requirement of a route is one of its listed points (R10). -/
theorem RouteEntry.mem_requirements {r : RouteEntry} {y : Nat × Position} (h : y ∈ r.requirements) :
    ∃ x ∈ r.points, x.element = y.1 := by
  unfold RouteEntry.requirements at h
  suffices hgo : ∀ (xs : List PointItem) (m : Map Position), y ∈ xs.foldl (fun m x => match Position.ofCode x.position with
      | some p => Map.put x.element p m
      | none => m) m → y ∈ m ∨ ∃ x ∈ xs, x.element = y.1 by
    rcases hgo _ _ h with h | h
    · exact absurd h List.not_mem_nil
    · exact h
  intro xs
  induction xs with
  | nil => exact fun m h => .inl h
  | cons x xs ih =>
    intro m h
    rcases ih _ h with h | ⟨z, hz, he⟩
    · dsimp only at h
      split at h
      · rcases Map.mem_put h with rfl | h
        · exact .inr ⟨x, List.mem_cons_self, rfl⟩
        · exact .inl h
      · exact .inl h
    · exact .inr ⟨z, List.mem_cons_of_mem _ hz, he⟩

/-- Constraint 322 of a valid image, as the law has it. -/
theorem Tables.pointsInRoutes_of_valid {t : Tables} (h : t.firstInvalid = none) : t.pointsInRoutes = true := by
  simp only [Tables.pointsInRoutes, List.all_eq_true]
  intro x hx y hy
  have h322 := Tables.valid_protection h hx (322, _) (.tail _ (.head _))
  obtain ⟨z, hz, he⟩ := RouteEntry.mem_requirements hy
  simp only [List.all_eq_true, List.mem_map, forall_exists_index, and_imp, forall_apply_eq_imp_iff₂] at h322
  exact he ▸ h322 z hz

/-- Constraint 335 of a valid image, as the law has it. -/
theorem Tables.flankApart_of_valid {t : Tables} (h : t.firstInvalid = none) : t.flankApart = true := by
  simp only [Tables.flankApart, List.all_eq_true, Bool.not_eq_true']
  intro x hx f hf c hc
  have h335 := Tables.valid_protection h hx (335, _)
    (.tail _ (.tail _ (.tail _ (.tail _ (.tail _ (.tail _ (.tail _ (.head _))))))))
  simp only [List.all_eq_true, List.mem_flatMap, forall_exists_index, and_imp, Bool.and_eq_true, Bool.not_eq_true'] at h335
  have hnot := (h335 c f hf hc).2
  cases hreq : Map.find c.element x.2.requirements with
  | none => simp [Map.has, hreq]
  | some q =>
    obtain ⟨z, hz, he⟩ := RouteEntry.mem_requirements (Map.mem_of_find hreq)
    simp only [List.contains_eq_mem, List.mem_map, decide_eq_false_iff_not] at hnot
    exact absurd ⟨z, hz, he⟩ hnot

/-! ### The search result and its claims -/

/-- A choice of a flank search: an obtainable candidate of one of the entries, in its required state (R99, R100). -/
def Live.chosenFrom (t : Tables) (fs : List FlankEntry) (l : Live) (c : Choice) : Prop :=
  ∃ f ∈ fs, ∃ k ∈ f.candidates, k.element = c.element ∧ t.requiredState k = some c.required ∧
    ∃ chosen, l.obtainable t chosen c.element c.required = true

theorem Live.firstObtainable_spec {t : Tables} {chosen : List Choice} {entry level : Nat} {l : Live} {cs : List Candidate}
    {c : Choice} (h : l.firstObtainable t chosen entry level cs = some c) :
    ∃ k ∈ cs, k.element = c.element ∧ t.requiredState k = some c.required ∧
      l.obtainable t chosen c.element c.required = true := by
  induction cs generalizing level with
  | nil => simp [Live.firstObtainable] at h
  | cons k cs ih =>
    have hrest (h : l.firstObtainable t chosen entry (level + 1) cs = some c) :
        ∃ j ∈ k :: cs, j.element = c.element ∧ t.requiredState j = some c.required ∧
          l.obtainable t chosen c.element c.required = true := by
      obtain ⟨j, hj, hspec⟩ := ih h
      exact ⟨j, List.mem_cons_of_mem _ hj, hspec⟩
    unfold Live.firstObtainable at h
    split at h
    · next required hreq =>
      split at h
      · next hobt =>
        cases h
        exact ⟨k, List.mem_cons_self, rfl, hreq, hobt⟩
      · exact hrest h
    · exact hrest h

/-- Two choices of one search do not require different positions of one point (R100, R101). -/
def Choice.agrees (a b : Choice) : Prop :=
  a.element = b.element → ∀ p, b.required = .position p → a.required = .position p

theorem Live.obtainable_agrees {t : Tables} {chosen : List Choice} {l : Live} {c : Choice}
    (h : l.obtainable t chosen c.element c.required = true) : ∀ a ∈ chosen, a.agrees c := by
  intro a ha he p hp
  unfold Live.obtainable at h
  split at h
  · next r q hfind hreq =>
    rw [hp] at hreq
    cases hreq
    simp only [Bool.and_eq_true, Bool.not_eq_true', List.any_eq_false] at h
    simpa [he] using h.2 a ha
  · next hreq =>
    rw [hp] at hreq
    cases hreq
  · simp at h

theorem Live.searchFrom_spec {t : Tables} {l : Live} {k : Nat} {chosen : List Choice} {fs : List FlankEntry}
    {cs : List Choice} (h : l.searchFrom t k chosen fs = some cs) (hc : chosen.Pairwise Choice.agrees) :
    cs.Pairwise Choice.agrees ∧ ∀ c ∈ cs, c ∈ chosen ∨ l.chosenFrom t fs c := by
  induction fs generalizing k chosen with
  | nil =>
    cases h
    exact ⟨hc, fun c hc => .inl hc⟩
  | cons f fs ih =>
    unfold Live.searchFrom at h
    split at h
    · next c hfirst =>
      obtain ⟨j, hj, hel, hreq, hobt⟩ := Live.firstObtainable_spec hfirst
      have hpair : (chosen ++ [c]).Pairwise Choice.agrees :=
        List.pairwise_append.2 ⟨hc, List.pairwise_singleton _ _, fun a ha b hb => by
          rw [List.mem_singleton.1 hb]
          exact Live.obtainable_agrees hobt a ha⟩
      obtain ⟨hagree, hfrom⟩ := ih h hpair
      refine ⟨hagree, fun d hd => ?_⟩
      rcases hfrom d hd with hd | ⟨g, hg, hspec⟩
      · rcases List.mem_append.1 hd with hd | hd
        · exact .inl hd
        · rw [List.mem_singleton.1 hd]
          exact .inr ⟨f, List.mem_cons_self, j, hj, hel, hreq, chosen, hobt⟩
      · exact .inr ⟨g, List.mem_cons_of_mem _ hg, hspec⟩
    · simp at h

theorem Live.flankSearch_spec {t : Tables} {l : Live} {r : RouteEntry} {cs : List Choice}
    (h : l.flankSearch t r = some cs) : cs.Pairwise Choice.agrees ∧ ∀ c ∈ cs, l.chosenFrom t r.flank c := by
  obtain ⟨hagree, hfrom⟩ := Live.searchFrom_spec h List.Pairwise.nil
  exact ⟨hagree, fun c hc => (hfrom c hc).resolve_left List.not_mem_nil⟩

/-- Each claim made is for the element and state of a choice (R101). -/
theorem mem_claimsFor {slot : Nat} {choices : List Choice} {c : Claim} (h : c ∈ claimsFor slot choices) :
    ∃ d ∈ choices, d.element = c.element ∧ d.required = c.required := by
  unfold claimsFor at h
  suffices hgo : ∀ (xs : List Choice) (cs : List Claim), c ∈ xs.foldl (addChoice slot) cs →
      (∃ a ∈ cs, a.element = c.element ∧ a.required = c.required) ∨
        ∃ d ∈ xs, d.element = c.element ∧ d.required = c.required by
    rcases hgo _ _ h with ⟨a, ha, _⟩ | h
    · exact absurd ha List.not_mem_nil
    · exact h
  intro xs
  induction xs with
  | nil => exact fun cs h => .inl ⟨c, h, rfl, rfl⟩
  | cons x xs ih =>
    intro cs h
    rcases ih _ h with ⟨a, ha, hel, hreq⟩ | ⟨d, hd, hspec⟩
    · unfold addChoice at ha
      split at ha
      · obtain ⟨b, hb, rfl⟩ := List.mem_map.1 ha
        refine .inl ⟨b, hb, ?_⟩
        split at hel <;> split at hreq <;> exact ⟨hel, hreq⟩
      · rcases List.mem_append.1 ha with ha | ha
        · exact .inl ⟨a, ha, hel, hreq⟩
        · rw [List.mem_singleton.1 ha] at hel hreq
          exact .inr ⟨x, List.mem_cons_self, hel, hreq⟩
    · exact .inr ⟨d, List.mem_cons_of_mem _ hd, hspec⟩

/-- A choice of a flank search on an element whose section is possessed does not come (R99). -/
theorem Live.chosenFrom_unpossessed {t : Tables} {fs : List FlankEntry} {l : Live} {c : Choice} (h : l.chosenFrom t fs c)
    {sec : Nat} (hsec : t.pointSection c.element = some sec) : l.possessionOf sec = none := by
  obtain ⟨f, _, k, _, hel, hreq, chosen, hobt⟩ := h
  unfold Live.obtainable at hobt
  split at hobt
  · simp only [Bool.and_eq_true, Option.isNone_iff_eq_none] at hobt
    obtain ⟨⟨⟨⟨-, hfree⟩, -⟩, -⟩, -⟩ := hobt
    rwa [hsec] at hfree
  · next hdanger =>
    rw [hdanger] at hreq
    unfold Tables.requiredState at hreq
    split at hreq
    · cases hcode : Position.ofCode k.state <;> simp [hcode] at hreq
    · next hnone =>
      rw [hel] at hnone
      rw [Tables.pointSection] at hsec
      cases hf : t.pointFields c.element <;> simp_all
  · simp at hobt

end Sys2Proof.Machine
end

section
/-! PROOFS. Granted possessions share no section, and no lock, route lock or claim stands in them (R78, R158). -/

namespace Sys2Proof.Machine

/-! ### The records of granted possessions -/

/-- A section stands free in a possession: it carries the number, and no lock holder (R78, R158). -/
def Live.freeIn (l : Live) (k n : Nat) : Prop := ∃ r, l.sectionAt n = some r ∧ r.possession = some k ∧ r.lock = none

/-- Some possession of the list holds a section in which the point lies. -/
def Tables.inPossession (t : Tables) (ps : Map (List Nat)) (p : Nat) : Prop :=
  ∃ x ∈ ps, ∃ n ∈ x.2, p ∈ t.pointsOf n

/-- The route lock on an element, as its record has it. -/
def Live.lockOn (l : Live) (p : Nat) : Option (Nat × Position) := (Map.find p l.elements).bind ElementRec.routeLock

/-- No lock, route lock or claim stands in the possessions (R78, R158). -/
structure Live.Apart (t : Tables) (ps : Map (List Nat)) (l : Live) : Prop where
  sections : ∀ x ∈ ps, ∀ n ∈ x.2, l.freeIn x.1 n
  locks : ∀ p, t.inPossession ps p → l.lockOn p = none
  claims : ∀ p, t.inPossession ps p → ∀ c ∈ l.claims, c.element ≠ p

theorem Live.SamePart.lockOn {a b : Live} (h : Live.SamePart ElementRec.routeLock a b) (p : Nat) : b.lockOn p = a.lockOn p := by
  have hp := h p
  unfold Live.lockOn
  cases ha : Map.find p a.elements <;> cases hb : Map.find p b.elements <;> simp_all

theorem Tables.mem_pointsOf {t : Tables} {n p : Nat} (h : p ∈ t.pointsOf n) : t.pointSection p = some n := by
  obtain ⟨x, hx, rfl⟩ := List.mem_map.1 h
  simpa using (List.mem_filter.1 hx).2

/-- Each section of a possession that a section list meets is possessed. -/
theorem Live.Apart.possessed {t : Tables} {ps : Map (List Nat)} {l : Live} (h : l.Apart t ps) {x : Nat × List Nat}
    (hx : x ∈ ps) {n : Nat} (hn : n ∈ x.2) : l.possessionOf n = some x.1 := by
  obtain ⟨r, hr, hp, _⟩ := h.sections x hx n hn
  rw [Live.possessionOf, hr]
  exact hp

/-- Where sections are free as before, and locks and claims come from those before. -/
theorem Live.Apart.same {t : Tables} {ps : Map (List Nat)} {a b : Live} (h : a.Apart t ps)
    (hs : ∀ k n, a.freeIn k n → b.freeIn k n) (hl : ∀ p, a.lockOn p = none → b.lockOn p = none)
    (hc : ∀ c ∈ b.claims, ∃ d ∈ a.claims, d.element = c.element) : b.Apart t ps where
  sections x hx n hn := hs _ _ (h.sections x hx n hn)
  locks p hp := hl p (h.locks p hp)
  claims p hp c hcm := by
    obtain ⟨d, hd, he⟩ := hc c hcm
    exact he ▸ h.claims p hp d hd

theorem Live.Apart.of_locks {t : Tables} {ps : Map (List Nat)} {a b : Live} (h : a.Apart t ps)
    (hs : b.sections = a.sections) (hc : b.claims = a.claims) (hl : Live.SamePart ElementRec.routeLock a b) :
    b.Apart t ps := by
  refine h.same (fun k n hf => ?_) (fun p hp => (hl.lockOn p).trans hp) (fun c hcm => ⟨c, hc ▸ hcm, rfl⟩)
  rwa [Live.freeIn, Live.sectionAt, hs]

theorem Live.setSection_freeIn {l : Live} {n : Nat} {old new : SectionRec} (hold : l.sectionAt n = some old)
    (hc : old.Counted new) {k m : Nat} (h : l.freeIn k m) : (l.setSection n new).freeIn k m := by
  obtain ⟨r, hr, hp, hlock⟩ := h
  by_cases hm : m = n
  · subst hm
    rw [hold] at hr
    cases hr
    exact ⟨new, by rw [Live.sectionAt_setSection, if_pos rfl], hc.possession.trans hp, hc.lock.trans hlock⟩
  · exact ⟨r, by rwa [Live.sectionAt_setSection, if_neg hm], hp, hlock⟩

theorem Live.setSection_apart {t : Tables} {ps : Map (List Nat)} {l : Live} {n : Nat} {old new : SectionRec}
    (hold : l.sectionAt n = some old) (hc : old.Counted new) (h : l.Apart t ps) : (l.setSection n new).Apart t ps :=
  h.same (fun _ _ hf => Live.setSection_freeIn hold hc hf) (fun _ => id) (fun c hcm => ⟨c, hcm, rfl⟩)

theorem Live.claimsProved_apart {t : Tables} {ps : Map (List Nat)} {n : Nat} {l : Live} (h : l.Apart t ps) :
    (l.claimsProved n).Apart t ps := by
  refine h.same (fun _ _ => id) (fun _ => id) fun c hc => ?_
  obtain ⟨d, hd, rfl⟩ := List.mem_map.1 hc
  exact ⟨d, hd, by split <;> rfl⟩

/-- A section map that keeps possessions and takes locks away keeps free sections free. -/
theorem Live.freeIn_of_mapped {a b : Live} (f : Nat → SectionRec → SectionRec)
    (hb : b.sections = a.sections.map (fun x => (x.1, f x.1 x.2)))
    (hf : ∀ n r, r.lock = none → (f n r).possession = r.possession ∧ (f n r).lock = none) {k n : Nat} (h : a.freeIn k n) :
    b.freeIn k n := by
  obtain ⟨r, hr, hp, hlock⟩ := h
  refine ⟨f n r, ?_, (hf n r hlock).1.trans hp, (hf n r hlock).2⟩
  rw [Live.sectionAt, hb, Map.find_mapped f, ← Live.sectionAt, hr]
  rfl

theorem SectionRec.unlocked_free {n sec : Nat} {secs : List Nat} {r : SectionRec} (h : r.lock = none) :
    (r.unlocked n secs sec).possession = r.possession ∧ (r.unlocked n secs sec).lock = none := by
  unfold SectionRec.unlocked
  split
  · exact ⟨rfl, rfl⟩
  · exact ⟨rfl, h⟩

theorem ElementRec.unlocked_routeLock {n p : Nat} {ps : List Nat} {r : ElementRec} (h : r.routeLock = none) :
    (r.unlocked n ps p).routeLock = none := by
  cases r with
  | point r =>
    unfold ElementRec.unlocked
    dsimp only
    split
    · rfl
    · exact h
  | signal r => rfl
  | head r => rfl

theorem Live.lockOn_unlockPoints {n p : Nat} {ps : List Nat} {l : Live} (h : l.lockOn p = none) :
    (l.unlockPoints n ps).lockOn p = none := by
  unfold Live.lockOn at h ⊢
  rw [Live.find_unlockPoints]
  cases hf : Map.find p l.elements with
  | none => rfl
  | some r =>
    rw [hf] at h
    exact ElementRec.unlocked_routeLock h

theorem Live.lockOn_emptySlot {t : Tables} {n p : Nat} {l : Live} (h : l.lockOn p = none) :
    (l.emptySlot t n).lockOn p = none := by
  unfold Live.lockOn at h ⊢
  rw [Live.emptySlot_find]
  cases hf : Map.find p l.elements with
  | none => rfl
  | some r =>
    rw [hf] at h
    exact (ElementRec.left_routeLock n _).trans (ElementRec.unlocked_routeLock h)

/-! ### A taking -/

theorem Live.lockOn_lockPoint_ne {e : Env} {n p m : Nat} {q : Position} {l : Live} (h : m ≠ p) :
    (l.lockPoint e n p q).lockOn m = l.lockOn m := by
  unfold Live.lockPoint
  split
  · rfl
  · refine (Live.SamePart.lockOn (Live.redirect_part ElementRec.routeLock_bare (fun _ _ => rfl) e p q _) m).trans ?_
    rw [Live.lockOn, Live.setElement_ne h, Live.lockOn]

theorem Live.lockOn_lockPoints {e : Env} {n m : Nat} (ys : Map Position) {l : Live} (h : ∀ y ∈ ys, y.1 ≠ m) :
    (ys.foldl (fun l y => l.lockPoint e n y.1 y.2) l).lockOn m = l.lockOn m := by
  induction ys generalizing l with
  | nil => rfl
  | cons y ys ih =>
    rw [List.foldl_cons, ih fun z hz => h z (List.mem_cons_of_mem _ hz)]
    exact Live.lockOn_lockPoint_ne (h y List.mem_cons_self).symm

/-- The route locks once a route is locked: those of its points, and the others as before. -/
theorem Live.lockRoute_lockOn {e : Env} {n m : Nat} {r : RouteEntry} {l : Live} (h : ∀ y ∈ r.requirements, y.1 ≠ m) :
    (l.lockRoute e n r).lockOn m = l.lockOn m := by
  have hentry := Live.SamePart.lockOn (Live.setEntryOf_part (f := ElementRec.routeLock) (fun _ _ => rfl) n r.entrySignal
    (r.requirements.foldl (fun l y => l.lockPoint e n y.1 y.2) (l.lockSections n r))) m
  exact hentry.trans ((Live.lockOn_lockPoints r.requirements h).trans rfl)

theorem Live.taking_lockOn {e : Env} {route fleet n m : Nat} {r : RouteEntry} {choices : List Choice} {l : Live}
    (h : ∀ y ∈ r.requirements, y.1 ≠ m) : (l.taking e route r fleet n choices).lockOn m = l.lockOn m := by
  refine (Live.SamePart.lockOn (Live.redirectClaims_part ElementRec.routeLock_bare (fun _ _ => rfl) e _ _) m).trans ?_
  exact (Live.lockRoute_lockOn h).trans rfl

/-- A call that passes takes no section, no point and no element of a possession (R64, R99). -/
theorem Live.Apart.taking {e : Env} {route fleet n : Nat} {r : RouteEntry} {choices : List Choice} {l : Live}
    {ps : Map (List Nat)} (h : l.Apart e.tables ps) (hroutes : e.tables.pointsInRoutes = true)
    (hroute : Map.find route e.tables.routes = some r) (hp : l.CallPasses e.tables r n choices) :
    (l.taking e route r fleet n choices).Apart e.tables ps := by
  have hunlocked {p : Nat} (hin : e.tables.inPossession ps p) : ∀ y ∈ r.requirements, y.1 ≠ p := by
    obtain ⟨x, hx, sec, hsec, hpoint⟩ := hin
    intro y hy heq
    simp only [Tables.pointsInRoutes, List.all_eq_true] at hroutes
    have hlies := hroutes _ (Map.mem_of_find hroute) y hy
    rw [heq, Tables.mem_pointsOf hpoint, Option.any_some] at hlies
    have hfree := hp.possessed sec (by simpa using hlies)
    rw [h.possessed hx hsec] at hfree
    cases hfree
  constructor
  · intro x hx sec hsec
    obtain ⟨y, hy, hpos, hlock⟩ := h.sections x hx sec hsec
    have hout : sec ∉ r.lockedSections := by
      intro hin
      have hfree := hp.possessed sec hin
      rw [h.possessed hx hsec] at hfree
      cases hfree
    have hsections : (l.taking e route r fleet n choices).sectionAt sec = (l.lockSections n r).sectionAt sec := by
      rw [Live.taking_rest]
      rfl
    refine ⟨y, ?_, hpos, hlock⟩
    rw [hsections, Live.sectionAt_lockSections, hy]
    simp only [RouteEntry.lockedSections, List.mem_append, not_or] at hout
    simp [SectionRec.lockedFor, hout.1, hout.2]
  · intro p hin
    rw [Live.taking_lockOn (hunlocked hin)]
    exact h.locks p hin
  · intro p hin c hc
    rw [Live.taking_claims] at hc
    rcases List.mem_append.1 hc with hc | hc
    · exact h.claims p hin c hc
    · obtain ⟨d, hd, rfl⟩ := List.mem_map.1 hc
      obtain ⟨k, hk, hel, _⟩ := mem_claimsFor hd
      obtain ⟨x, hx, sec, hsec, hpoint⟩ := hin
      rintro rfl
      have hfree := Live.chosenFrom_unpossessed ((Live.flankSearch_spec hp.flank).2 k hk) (sec := sec)
        (hel ▸ Tables.mem_pointsOf hpoint)
      rw [h.possessed hx hsec] at hfree
      cases hfree

theorem LiveStep.apart {e : Env} {σ : Scope} {a b : Live} {ps : Map (List Nat)} (s : LiveStep e σ a b)
    (hroutes : e.tables.pointsInRoutes = true) (h : a.Apart e.tables ps) : b.Apart e.tables ps := by
  cases s with
  | offer => exact h.of_locks (by simp) (by simp) (Live.samePart_of_elements (by simp))
  | orderPoint p q r hp =>
    refine h.of_locks ?_ ?_ (Live.takePointOrder_routeLock e q hp) <;>
    · rw [Live.takePointOrder, Live.placeOrder_rest]
      rfl
  | orderSignal g c r hg =>
    refine Live.claimsProved_apart (h.of_locks ?_ ?_ (Live.takeSignalOrder_routeLock e c hg)) <;>
    · rw [Live.takeSignalOrder, Live.placeOrder_rest]
      rfl
  | admitted =>
    refine h.of_locks ?_ ?_ (Live.admitPending_bare e.tables a).routeLock <;> rw [Live.admitPending_rest]
  | empty n x =>
    refine h.same (fun k m hf => ?_) (fun p hp => Live.lockOn_emptySlot hp)
      (fun c hc => ⟨c, List.mem_of_mem_filter hc, rfl⟩)
    exact Live.freeIn_of_mapped (fun sec r => r.unlocked n (Map.ids a.sections) sec)
      ((Live.emptySlot_sections _ _ _).trans (Live.unlockSections_sections _ _ _))
      (fun _ _ hl => SectionRec.unlocked_free hl) hf
  | release n secs points =>
    refine h.same (fun k m hf => ?_) (fun p hp => ?_) (fun c hc => ⟨c, hc, rfl⟩)
    · exact Live.freeIn_of_mapped (fun sec r => r.unlocked n secs sec) (Live.unlockSections_sections n secs a)
        (fun _ _ hl => SectionRec.unlocked_free hl) hf
    · exact Live.lockOn_unlockPoints (l := a.unlockSections n secs) hp
  | entries r n is =>
    refine h.same (fun _ _ => id) (fun _ => id) fun c hc => ?_
    obtain ⟨d, hd, rfl⟩ := List.mem_map.1 (List.mem_of_mem_filter hc)
    exact ⟨d, hd, by split <;> rfl⟩
  | taken route r fleet n choices _ hroute hcheck =>
    exact h.taking hroutes hroute (Live.checkCall_passes.1 hcheck)
  | counted n old new _ hold hc _ => exact Live.setSection_apart hold hc h
  | sectionChanged n old new _ hold hc =>
    have hset := Live.setSection_apart hold hc h
    exact ⟨hset.sections, hset.locks, hset.claims⟩
  | agree secs =>
    refine h.same (fun k n hf => ?_) (fun _ => id) (fun c hc => ⟨c, hc, rfl⟩)
    exact Live.freeIn_of_mapped (fun n r => if secs.contains n then { r with disagreement := 0 } else r)
      (Live.agreeShared_sections secs a) (fun n r hl => by split <;> exact ⟨rfl, hl⟩) hf
  | element n old new _ hold hlike =>
    exact h.of_locks rfl rfl (Live.samePart_setElement hold hlike.routeLock)
  | shown n old new _ hold hlike =>
    exact Live.claimsProved_apart (h.of_locks rfl rfl (Live.samePart_setElement hold hlike.routeLock))
  | _ => exact ⟨h.sections, h.locks, h.claims⟩

/-! ### The sections that have records -/

theorem Map.has_iff {α : Type} {k : Nat} {m : Map α} : Map.has k m = true ↔ ∃ x ∈ m, x.1 = k := by
  constructor
  · intro h
    obtain ⟨a, ha⟩ := Option.isSome_iff_exists.1 h
    exact ⟨_, Map.mem_of_find ha, rfl⟩
  · rintro ⟨x, hx, rfl⟩
    induction m with
    | nil => exact absurd hx List.not_mem_nil
    | cons y m ih =>
      obtain ⟨n, b⟩ := y
      rw [Map.has, Map.find_cons]
      split
      · rfl
      · next hne =>
        rcases List.mem_cons.1 hx with rfl | hx
        · exact absurd rfl hne
        · exact ih hx

/-- The section ids of two moments are the same. -/
def Live.sameSections (a b : Live) : Prop := ∀ n, Map.has n b.sections = Map.has n a.sections

theorem Live.sameSections_of_mapped {a b : Live} (f : Nat → SectionRec → SectionRec)
    (hb : b.sections = a.sections.map (fun x => (x.1, f x.1 x.2))) : a.sameSections b := fun n => by
  rw [Map.has, hb, Map.find_mapped f, Option.isSome_map, Map.has]

theorem Live.setSection_sameSections {l : Live} {n : Nat} {old new : SectionRec} (hold : l.sectionAt n = some old) :
    l.sameSections (l.setSection n new) := fun m => by
  change ((l.setSection n new).sectionAt m).isSome = (l.sectionAt m).isSome
  rw [Live.sectionAt_setSection]
  split
  · next h => rw [h, hold]; rfl
  · rfl

theorem LiveStep.sameSections {e : Env} {σ : Scope} {a b : Live} (s : LiveStep e σ a b) : a.sameSections b := by
  cases s with
  | offer => exact fun n => by rw [Live.offer_sections]
  | orderPoint p q r =>
    rw [Live.takePointOrder, Live.placeOrder_rest]
    exact fun n => rfl
  | orderSignal g c r =>
    rw [Live.takeSignalOrder, Live.placeOrder_rest]
    exact fun n => rfl
  | admitted =>
    rw [Live.admitPending_rest]
    exact fun n => rfl
  | empty n x =>
    exact Live.sameSections_of_mapped (fun sec r => r.unlocked n (Map.ids a.sections) sec)
      ((Live.emptySlot_sections _ _ _).trans (Live.unlockSections_sections _ _ _))
  | release n secs ps =>
    exact Live.sameSections_of_mapped (a := a) (fun sec r => r.unlocked n secs sec) (Live.unlockSections_sections n secs a)
  | taken route r fleet n choices =>
    rw [Live.taking_rest]
    exact Live.sameSections_of_mapped (a := a) (fun sec x => x.lockedFor n r sec) (Live.lockSections_sections n r a)
  | counted n old new _ hold => exact Live.setSection_sameSections hold
  | sectionChanged n old new _ hold => exact Live.setSection_sameSections (new := new) hold
  | agree secs =>
    exact Live.sameSections_of_mapped (fun n r => if secs.contains n then { r with disagreement := 0 } else r)
      (Live.agreeShared_sections secs a)
  | _ => exact fun n => rfl

/-! ### The law -/

/-- Possession records that share no section (R158). -/
theorem disjointSets_iff {ps : Map (List Nat)} : disjointSets ps = true ↔
    ∀ x ∈ ps, ∀ y ∈ ps, x.1 ≠ y.1 → ∀ n ∈ x.2, n ∉ y.2 := by
  simp only [disjointSets, List.all_eq_true, Bool.or_eq_true, beq_iff_eq, Bool.not_eq_true', List.contains_eq_mem,
    decide_eq_false_iff_not]
  exact forall₂_congr fun x _ => forall₂_congr fun y _ => or_iff_not_imp_left

theorem Tables.fits_iff {t : Tables} {ps : Map (List Nat)} : t.fits ps = true ↔
    disjointSets ps = true ∧ ∀ x ∈ ps, ∀ n ∈ x.2, Map.has n t.sections = true := by
  simp [Tables.fits]

/-- What keeps the law of R158, of the tables, the store and the possessions. -/
structure State.Founded (s : State) : Prop where
  active : s.store.active.pointsInRoutes = true
  staged : ∀ c, s.store.commit = some c → c.phase ≠ .validation → s.store.staging.pointsInRoutes = true
  records : ∀ n, Map.has n s.live.sections = Map.has n s.store.active.sections
  image : ∀ i, s.nv.image = some i → i.tables.pointsInRoutes = true ∧ i.tables.fits i.possessions = true
  writes : ∀ x ∈ s.possessionWrites, s.store.active.fits x.records = true
  idle : s.mode = .start ∨ s.mode = .failed → s.possessionWrites = []
  stored : s.mode ≠ .start → s.mode ≠ .failed → ∀ i, s.nv.image = some i → i.tables = s.store.active

theorem State.possessionsFounded_iff (s : State) : s.possessionsFounded = true ↔ s.Founded := by
  have hrecords : (s.live.sections.all (fun x => Map.has x.1 s.store.active.sections) = true ∧
      s.store.active.sections.all (fun x => Map.has x.1 s.live.sections) = true) ↔
      ∀ n, Map.has n s.live.sections = Map.has n s.store.active.sections := by
    simp only [List.all_eq_true]
    constructor
    · rintro ⟨hto, hfrom⟩ n
      refine Bool.eq_iff_iff.2 ⟨fun h => ?_, fun h => ?_⟩
      · obtain ⟨x, hx, rfl⟩ := Map.has_iff.1 h
        exact hto x hx
      · obtain ⟨x, hx, rfl⟩ := Map.has_iff.1 h
        exact hfrom x hx
    · exact fun h => ⟨fun x hx => h x.1 ▸ Map.has_iff.2 ⟨x, hx, rfl⟩, fun x hx => h x.1 ▸ Map.has_iff.2 ⟨x, hx, rfl⟩⟩
  have hmode : (if s.mode == .start || s.mode == .failed then s.possessionWrites.isEmpty
      else s.nv.image.all (fun i => i.tables == s.store.active)) = true ↔
      (s.mode = .start ∨ s.mode = .failed → s.possessionWrites = []) ∧
        (s.mode ≠ .start → s.mode ≠ .failed → ∀ i, s.nv.image = some i → i.tables = s.store.active) := by
    cases s.mode <;> simp [Option.all_eq_true]
  have hstaged : s.store.commit.all (fun c => c.phase == .validation || s.store.staging.pointsInRoutes) = true ↔
      ∀ c, s.store.commit = some c → c.phase ≠ .validation → s.store.staging.pointsInRoutes = true := by
    simp only [Option.all_eq_true, Bool.or_eq_true, beq_iff_eq]
    exact forall₂_congr fun c _ => or_iff_not_imp_left
  simp only [State.possessionsFounded, Bool.and_eq_true]
  rw [hmode, hstaged, Option.all_eq_true]
  constructor
  · rintro ⟨⟨⟨⟨⟨⟨h1, h2⟩, h3⟩, h4⟩, h5⟩, h6⟩, h7, h8⟩
    exact ⟨h1, h2, hrecords.1 ⟨h3, h4⟩, fun i hi => by simpa using h5 i hi, List.all_eq_true.1 h6, h7, h8⟩
  · rintro ⟨h1, h2, h3, h5, h6, h7, h8⟩
    obtain ⟨h3, h4⟩ := hrecords.2 h3
    exact ⟨⟨⟨⟨⟨⟨h1, h2⟩, h3⟩, h4⟩, fun i hi => by simpa using h5 i hi⟩, List.all_eq_true.2 h6⟩, h7, h8⟩

theorem Live.lockOn_eq (l : Live) (p : Nat) : l.lockOn p = (l.point p).bind (fun r => r.routeLock) := by
  unfold Live.lockOn Live.point
  cases Map.find p l.elements with
  | none => rfl
  | some r => cases r <;> rfl

theorem State.possessionsApart_iff (s : State) : s.possessionsApart = true ↔
    disjointSets s.possessions = true ∧ s.live.Apart s.store.active s.possessions := by
  have hlock (p : Nat) : (s.live.point p).all (fun r => r.routeLock.isNone) = true ↔ s.live.lockOn p = none := by
    rw [Live.lockOn_eq]
    cases s.live.point p <;> simp
  simp only [State.possessionsApart, Bool.and_eq_true, List.all_eq_true, hlock, bne_iff_ne, Option.any_eq_true, beq_iff_eq,
    Option.isNone_iff_eq_none]
  refine and_congr_right fun _ => ⟨fun h => ⟨?_, ?_, ?_⟩, fun h x hx n hn => ⟨?_, fun p hp => ⟨?_, ?_⟩⟩⟩
  · exact fun x hx n hn => (h x hx n hn).1
  · exact fun p ⟨x, hx, n, hn, hp⟩ => ((h x hx n hn).2 p hp).1
  · exact fun p ⟨x, hx, n, hn, hp⟩ => ((h x hx n hn).2 p hp).2
  · exact h.sections x hx n hn
  · exact h.locks p ⟨x, hx, n, hn, hp⟩
  · exact h.claims p ⟨x, hx, n, hn, hp⟩

/-- The law of R158 with what keeps it. -/
structure State.Possessed (s : State) : Prop where
  disjoint : disjointSets s.possessions = true
  apart : s.live.Apart s.store.active s.possessions
  founded : s.Founded

theorem State.possessionsLawful_iff (s : State) : s.possessionsLawful = true ↔ s.Seated ∧ s.Possessed := by
  simp only [State.possessionsLawful, Bool.and_eq_true, State.possessionsApart_iff, State.possessionsFounded_iff,
    Live.holdersInUse_iff]
  exact ⟨fun ⟨⟨⟨⟨⟨h1, h2⟩, h3⟩, h4⟩, h5⟩, h6⟩ => ⟨⟨h4, h5, h6⟩, h1, h2, h3⟩,
    fun ⟨⟨h4, h5, h6⟩, h1, h2, h3⟩ => ⟨⟨⟨⟨⟨h1, h2⟩, h3⟩, h4⟩, h5⟩, h6⟩⟩

/-! ### Moves -/

/-- The possession that holds a section of a disjoint list is the one that lists it. -/
theorem possessionHolding_of_mem {ps : Map (List Nat)} (hd : disjointSets ps = true) {x : Nat × List Nat} (hx : x ∈ ps)
    {n : Nat} (hn : n ∈ x.2) : possessionHolding ps n = some x.1 := by
  unfold possessionHolding
  cases hf : ps.find? (fun x => x.2.contains n) with
  | none =>
    have := List.find?_eq_none.1 hf x hx
    simp [hn] at this
  | some y =>
    have hy : n ∈ y.2 := by simpa using List.find?_some hf
    have hmem := List.mem_of_find?_eq_some hf
    rw [Option.map_some, Option.some.injEq]
    by_contra hne
    exact disjointSets_iff.1 hd y hmem x hx hne n hy hn

theorem Live.setPossession_sectionAt (sections : List Nat) (possession : Option Nat) (l : Live) (n : Nat) :
    (l.setPossession sections possession).sectionAt n = (l.sectionAt n).map (fun r =>
      if sections.contains n then { r with possession := possession } else r) := by
  rw [Live.sectionAt, Live.setPossession_sections, Map.find_mapped (fun n (r : SectionRec) =>
    if sections.contains n then { r with possession := possession } else r)]
  rfl

theorem Live.setPossession_freeIn_ne {sections : List Nat} {possession : Option Nat} {l : Live} {k n : Nat}
    (hn : n ∉ sections) (h : l.freeIn k n) : (l.setPossession sections possession).freeIn k n := by
  obtain ⟨r, hr, hspec⟩ := h
  refine ⟨r, ?_, hspec⟩
  rw [Live.setPossession_sectionAt, hr, Option.map_some, if_neg (by simpa using hn)]

/-- What a take that passes its checks has passed: each section is present, unpossessed and unlocked, and no point of it is
held (R157). -/
theorem State.takeRefused_none {s : State} {possession : Nat} {sections : List Nat}
    (h : s.takeRefused possession sections = none) :
    (∀ n ∈ sections, Map.has n s.store.active.sections = true) ∧ Map.has possession s.possessions = false ∧
    (∀ n ∈ sections, s.live.possessionOf n = none) ∧ (∀ n ∈ sections, s.live.holder n = none) ∧
    ∀ n ∈ sections, s.live.heldPointIn s.store.active n = none := by
  unfold State.takeRefused at h
  split at h
  · simp at h
  · next hpresent =>
    split at h
    · simp at h
    · next hfree =>
      split at h
      · simp at h
      · next hposs =>
        split at h
        · simp at h
        · next hholder =>
          simp only [Option.map_eq_none_iff, List.findSome?_eq_none_iff] at h hposs
          simp only [List.find?_eq_none, Bool.not_eq_true', Bool.not_eq_true, Option.isSome_eq_false_iff,
            Option.isNone_iff_eq_none, Bool.not_eq_false] at hpresent hholder
          exact ⟨hpresent, by simpa using hfree, hposs, hholder, h⟩

theorem Live.heldPointIn_none {t : Tables} {sec : Nat} {l : Live} (h : l.heldPointIn t sec = none) :
    ∀ p ∈ t.pointsOf sec, l.lockOn p = none ∧ ∀ c ∈ l.claims, c.element ≠ p := by
  intro p hp
  have hfree := List.find?_eq_none.1 h p hp
  simp only [Bool.or_eq_true, not_or, Bool.not_eq_true, Live.claimed, List.any_eq_false, beq_iff_eq] at hfree
  refine ⟨?_, fun c hc => hfree.2 c hc⟩
  rw [Live.lockOn_eq]
  cases hr : l.point p with
  | none => rfl
  | some r => simpa [hr] using hfree.1

theorem State.Possessed.grant {s : State} {possession : Nat} {sections : List Nat} (h : s.Possessed)
    (hpass : s.takeRefused possession sections = none) : State.Possessed { s with
      possessions := Map.put possession (ascending sections) s.possessions
      live := s.live.setPossession sections (some possession) } := by
  obtain ⟨hd, hapart, hfounded⟩ := h
  obtain ⟨hpresent, _, hposs, hholder, hpoints⟩ := State.takeRefused_none hpass
  have hother {x : Nat × List Nat} (hx : x ∈ s.possessions) {n : Nat} (hn : n ∈ x.2) : n ∉ sections := by
    intro hin
    have hnone := hposs n hin
    rw [hapart.possessed hx hn] at hnone
    cases hnone
  refine ⟨disjointSets_iff.2 ?_, ⟨?_, ?_, ?_⟩, ?_⟩
  · intro x hx y hy hne n hnx hny
    rcases Map.mem_put hx with rfl | hx <;> rcases Map.mem_put hy with rfl | hy
    · exact hne rfl
    · exact hother hy hny (mem_ascending.1 hnx)
    · exact hother hx hnx (mem_ascending.1 hny)
    · exact disjointSets_iff.1 hd x hx y hy hne n hnx hny
  · intro x hx n hn
    rcases Map.mem_put hx with rfl | hx
    · have hin := mem_ascending.1 hn
      have hrec : Map.has n s.live.sections = true := (hfounded.records n).trans (hpresent n hin)
      obtain ⟨r, hr⟩ := Option.isSome_iff_exists.1 hrec
      refine ⟨{ r with possession := some possession }, ?_, rfl, ?_⟩
      · rw [Live.setPossession_sectionAt, Live.sectionAt, hr, Option.map_some, if_pos (by simpa using hin)]
      · have hfree := hholder n hin
        rw [Live.holder, Live.sectionAt, hr] at hfree
        exact hfree
    · exact Live.setPossession_freeIn_ne (hother hx hn) (hapart.sections x hx n hn)
  · rintro p ⟨x, hx, n, hn, hp⟩
    rcases Map.mem_put hx with rfl | hx
    · exact (Live.heldPointIn_none (hpoints n (mem_ascending.1 hn)) p hp).1
    · exact hapart.locks p ⟨x, hx, n, hn, hp⟩
  · rintro p ⟨x, hx, n, hn, hp⟩
    rcases Map.mem_put hx with rfl | hx
    · exact (Live.heldPointIn_none (hpoints n (mem_ascending.1 hn)) p hp).2
    · exact hapart.claims p ⟨x, hx, n, hn, hp⟩
  · refine { hfounded with records := fun n => ?_ }
    rw [← hfounded.records n]
    exact Live.sameSections_of_mapped (fun n r => if sections.contains n then { r with possession := some possession } else r)
      (Live.setPossession_sections sections (some possession) s.live) n

theorem State.Possessed.give {s : State} {possession : Nat} {sections : List Nat} (h : s.Possessed)
    (hfind : Map.find possession s.possessions = some sections) : State.Possessed { s with
      possessions := Map.drop possession s.possessions, live := s.live.setPossession sections none } := by
  obtain ⟨hd, hapart, hfounded⟩ := h
  have hmem {x : Nat × List Nat} (hx : x ∈ Map.drop possession s.possessions) : x ∈ s.possessions ∧ x.1 ≠ possession := by
    simpa [Map.drop] using hx
  refine ⟨disjointSets_iff.2 ?_, ⟨?_, ?_, ?_⟩, ?_⟩
  · exact fun x hx y hy => disjointSets_iff.1 hd x (hmem hx).1 y (hmem hy).1
  · intro x hx n hn
    obtain ⟨hx, hne⟩ := hmem hx
    exact Live.setPossession_freeIn_ne (disjointSets_iff.1 hd x hx _ (Map.mem_of_find hfind) hne n hn)
      (hapart.sections x hx n hn)
  · exact fun p ⟨x, hx, n, hn, hp⟩ => hapart.locks p ⟨x, (hmem hx).1, n, hn, hp⟩
  · exact fun p ⟨x, hx, n, hn, hp⟩ => hapart.claims p ⟨x, (hmem hx).1, n, hn, hp⟩
  · refine { hfounded with records := fun n => ?_ }
    rw [← hfounded.records n]
    exact Live.sameSections_of_mapped (fun n r => if sections.contains n then { r with possession := none } else r)
      (Live.setPossession_sections sections none s.live) n

/-- Granted possessions fit the active tables (R156). -/
theorem State.Possessed.fits {s : State} (h : s.Possessed) : s.store.active.fits s.possessions = true := by
  refine Tables.fits_iff.2 ⟨h.disjoint, fun x hx n hn => ?_⟩
  obtain ⟨r, hr, _⟩ := h.apart.sections x hx n hn
  rw [← h.founded.records n]
  exact Option.isSome_of_eq_some hr

theorem Mode.not_idle_of_operating {m : Mode} (h : m.operating = true) : ¬ (m = .start ∨ m = .failed) := by
  cases m <;> simp_all [Mode.operating]

theorem State.Founded.stores {s : State} {v : Nonvolatile} (h : s.Founded) (hv : s.nv.follows s.possessionWrites v) :
    State.Founded { s with nv := v } := by
  refine { h with image := fun i hi => ?_, stored := fun hstart hfailed i hi => ?_ }
  · obtain ⟨j, hj, htables, hposs⟩ := hv i hi
    obtain ⟨hroutes, hfits⟩ := h.image j hj
    refine ⟨htables ▸ hroutes, ?_⟩
    rcases hposs with hposs | ⟨x, hx, hposs⟩
    · rw [htables, hposs]
      exact hfits
    · have hbusy : ¬ (s.mode = .start ∨ s.mode = .failed) := fun hm => by
        rw [h.idle hm] at hx
        exact absurd hx List.not_mem_nil
      rw [htables, hposs, h.stored (fun hm => hbusy (.inl hm)) (fun hm => hbusy (.inr hm)) j hj]
      exact h.writes x hx
  · obtain ⟨j, hj, htables, _⟩ := hv i hi
    exact htables.trans (h.stored hstart hfailed j hj)

/-- Possessions keep no more than their sections in new tables, and none without a section (R160). -/
theorem Tables.mem_trim {t : Tables} {ps : Map (List Nat)} {x : Nat × List Nat} (h : x ∈ t.trim ps) :
    ∃ y ∈ ps, y.1 = x.1 ∧ ∀ n ∈ x.2, n ∈ y.2 ∧ Map.has n t.sections = true := by
  obtain ⟨hx, _⟩ := List.mem_filter.1 h
  obtain ⟨y, hy, rfl⟩ := List.mem_map.1 hx
  exact ⟨y, hy, rfl, fun n hn => List.mem_filter.1 hn⟩

theorem Tables.trim_fits {t : Tables} {ps : Map (List Nat)} (hd : disjointSets ps = true) : t.fits (t.trim ps) = true := by
  refine Tables.fits_iff.2 ⟨disjointSets_iff.2 fun x hx y hy hne n hnx hny => ?_, fun x hx n hn => ?_⟩
  · obtain ⟨x', hx', hxe, hxs⟩ := Tables.mem_trim hx
    obtain ⟨y', hy', hye, hys⟩ := Tables.mem_trim hy
    exact disjointSets_iff.1 hd x' hx' y' hy' (by rw [hxe, hye]; exact hne) n (hxs n hnx).1 (hys n hny).1
  · obtain ⟨_, _, _, hxs⟩ := Tables.mem_trim hx
    exact (hxs n hn).2

/-- At rest no element holds a route lock. -/
theorem Live.Held.no_locks {l : Live} (h : l.Held) (hr : l.atRest) {n : Nat} {r : ElementRec}
    (hf : Map.find n l.elements = some r) : r.routeLock = none := by
  cases hl : r.routeLock with
  | none => rfl
  | some k =>
    have hin := h.elements k.1 (Live.names_of_find hf (by simp [ElementRec.holders, hl]))
    rw [Live.inUse, hr.1] at hin
    cases hin

theorem ElementEntry.renewed_routeLock {x : ElementEntry} {r : ElementRec} (h : x.renewed = some r) : r.routeLock = none := by
  unfold ElementEntry.renewed at h
  split at h <;> cases h <;> rfl

/-- After a load no element holds a route lock. -/
theorem Tables.elementRecords_lockOn {t : Tables} {l : Live} (hl : l.elements = t.elementRecords) (p : Nat) :
    l.lockOn p = none := by
  unfold Live.lockOn
  cases hf : Map.find p l.elements with
  | none => rfl
  | some r =>
    have hmem := Map.mem_of_find hf
    rw [hl] at hmem
    obtain ⟨y, _, hy⟩ := List.mem_filterMap.1 hmem
    obtain ⟨_, hr, heq⟩ := Option.map_eq_some_iff.1 hy
    cases heq
    exact ElementEntry.renewed_routeLock hr

theorem Tables.sectionRecords_find (t : Tables) (ps : Map (List Nat)) (n : Nat) :
    Map.find n (t.sectionRecords ps) = (Map.find n t.sections).map (fun _ => SectionRec.renewed (possessionHolding ps n)) :=
  Map.find_mapped (fun n _ => SectionRec.renewed (possessionHolding ps n)) n t.sections

/-- The records of a load, or of a commit, that hold no lock and carry the possession numbers stand apart. -/
theorem Live.apart_of_fresh {t : Tables} {ps : Map (List Nat)} {l : Live} (hfits : t.fits ps = true)
    (hsections : ∀ n, Map.has n t.sections = true → ∃ r, l.sectionAt n = some r ∧ r.possession = possessionHolding ps n ∧
      r.lock = none) (hlocks : ∀ p, l.lockOn p = none) (hclaims : l.claims = []) : l.Apart t ps := by
  obtain ⟨hd, hpresent⟩ := Tables.fits_iff.1 hfits
  refine ⟨fun x hx n hn => ?_, fun p _ => hlocks p, fun p _ c hc => ?_⟩
  · obtain ⟨r, hr, hposs, hlock⟩ := hsections n (hpresent x hx n hn)
    exact ⟨r, hr, hposs.trans (possessionHolding_of_mem hd hx hn), hlock⟩
  · rw [hclaims] at hc
    exact absurd hc List.not_mem_nil

theorem State.Possessed.creates {s : State} {i : Image} (h : s.Possessed) (hs : s.Seated) (hstart : s.mode = .start)
    (himage : s.nv.image = some i) : (s.createsRecords i).Possessed := by
  obtain ⟨hroutes, hfits⟩ := h.founded.image i himage
  have hrest := hs.atRest_start hstart
  have hidle := h.founded.idle (.inl hstart)
  have hcommit : s.store.commit = none := by
    by_contra hc
    have := s.commitLawful_iff.1 hs.commit hc
    simp [hstart] at this
  refine ⟨(Tables.fits_iff.1 hfits).1, Live.apart_of_fresh hfits (fun n hn => ?_) (Tables.elementRecords_lockOn rfl)
    (hs.held.no_claims hrest), hroutes, ?_, fun n => ?_, h.founded.image, ?_, fun _ => hidle, ?_⟩
  · refine ⟨SectionRec.renewed (possessionHolding i.possessions n), ?_, rfl, rfl⟩
    obtain ⟨a, ha⟩ := Option.isSome_iff_exists.1 hn
    exact (Tables.sectionRecords_find i.tables i.possessions n).trans
      (by rw [show Map.find n i.tables.sections = some a from ha, Option.map_some])
  · intro c hc
    rw [show (s.createsRecords i).store.commit = s.store.commit from rfl, hcommit] at hc
    cases hc
  · exact (congrArg Option.isSome (Tables.sectionRecords_find i.tables i.possessions n)).trans Option.isSome_map
  · rw [show (s.createsRecords i).possessionWrites = s.possessionWrites from rfl, hidle]
    exact fun x hx => absurd hx List.not_mem_nil
  · exact fun hm => absurd hstart hm

theorem alignSections_find (old new : Tables) (ps : Map (List Nat)) (records : Map SectionRec) (n : Nat) :
    Map.find n (alignSections old new ps records) =
      (Map.find n new.sections).map (fun _ => alignedSection old new ps records n) := by
  rw [alignSections_eq]
  exact Map.find_mapped (fun n _ => alignedSection old new ps records n) n new.sections

theorem Live.aligned_lockOn {old new : Tables} {ps : Map (List Nat)} {l : Live} (h : l.Held) (hr : l.atRest) (p : Nat) :
    (l.aligned old new ps).lockOn p = none := by
  unfold Live.lockOn
  cases hf : Map.find p (l.aligned old new ps).elements with
  | none => rfl
  | some r =>
    obtain ⟨y, _, _, hkept | hnew⟩ := mem_alignElements (Map.mem_of_find hf)
    · exact h.no_locks hr hkept.1
    · exact ElementEntry.renewed_routeLock hnew

theorem State.Possessed.activates {s : State} {c : Commit} (h : s.Possessed) (hs : s.Seated)
    (hcommit : s.store.commit = some c) (hphase : c.phase = .storeWrite) : s.activates.Possessed := by
  have hrest := hs.atRest_commit (by simp [hcommit])
  have hroutes : s.store.staging.pointsInRoutes = true := h.founded.staged c hcommit (by simp [hphase])
  have hfits : s.store.staging.fits s.newImage.possessions = true := Tables.trim_fits h.disjoint
  have hfind (n : Nat) := alignSections_find s.store.active s.store.staging s.newImage.possessions s.live.sections n
  have hfresh : (s.live.aligned s.store.active s.store.staging s.newImage.possessions).Apart s.store.staging
      s.newImage.possessions := by
    refine Live.apart_of_fresh hfits (fun n hn => ?_) (Live.aligned_lockOn hs.held hrest) (hs.held.no_claims hrest)
    obtain ⟨hlock, hposs, _⟩ := alignedSection_spec s.store.active s.store.staging s.newImage.possessions s.live.sections n
    obtain ⟨a, ha⟩ := Option.isSome_iff_exists.1 hn
    exact ⟨_, (hfind n).trans (by rw [ha, Option.map_some]), hposs, hlock⟩
  refine ⟨(Tables.fits_iff.1 hfits).1, ?_, hroutes, ?_, fun n => ?_, ?_, ?_, ?_, ?_⟩
  · exact State.activates_keeps (takes := True) (fun _ _ k => k.apart hroutes) hfresh
  · intro d hd
    cases hd
  · have hsame : (s.live.aligned s.store.active s.newImage.tables s.newImage.possessions).sameSections s.activates.live :=
      State.activates_keeps (takes := True) (P := fun l => (s.live.aligned s.store.active s.newImage.tables
        s.newImage.possessions).sameSections l) (fun _ _ k hl n => (k.sameSections n).trans (hl n)) fun _ => rfl
    exact (hsame n).trans ((congrArg Option.isSome (hfind n)).trans Option.isSome_map)
  · rintro i ⟨⟩
    exact ⟨hroutes, hfits⟩
  · intro x hx
    obtain ⟨y, hy, rfl⟩ := List.mem_map.1 hx
    exact Tables.trim_fits (Tables.fits_iff.1 (h.founded.writes y hy)).1
  · intro hm
    change s.possessionWrites.map _ = []
    rw [h.founded.idle hm]
    rfl
  · rintro _ _ i ⟨⟩
    rfl

theorem State.Worked.possessed {s : State} {l : Live} (hw : s.Worked l) (h : s.Possessed) :
    State.Possessed { s with live := l } := by
  refine ⟨h.disjoint, ?_, { h.founded with records := fun n => ?_ }⟩
  · exact hw.keeps (P := Live.Apart s.store.active s.possessions) (fun _ _ k => k.apart h.founded.active) h.apart
  · have hsame : s.live.sameSections l :=
      hw.keeps (P := s.live.sameSections) (fun _ _ k hl n => (k.sameSections n).trans (hl n)) fun _ => rfl
    exact (hsame n).trans (h.founded.records n)

theorem State.Move.possessed {s t : State} (m : s.Move t) (hs : s.Seated) (h : s.Possessed) : t.Possessed := by
  obtain ⟨hd, hapart, hf⟩ := h
  cases m with
  | works l hl => exact (State.worked_of_works hl).possessed ⟨hd, hapart, hf⟩
  | restarts => exact s.restart_worked.possessed ⟨hd, hapart, hf⟩
  | waits q => exact ⟨hd, ⟨hapart.sections, hapart.locks, hapart.claims⟩, { hf with }⟩
  | mode m hstart hfailed _ hstart' hfailed' =>
    refine ⟨hd, hapart, { hf with idle := ?_, stored := fun _ _ => hf.stored hstart hfailed }⟩
    rintro (hm | hm)
    · exact absurd hm hstart'
    · exact absurd hm hfailed'
  | opens _ himage =>
    refine ⟨hd, hapart, { hf with idle := ?_, stored := fun _ _ i hi => ?_ }⟩
    · rintro (hm | hm) <;> cases hm
    · simpa using (Option.all_eq_true _ _).1 himage i hi
  | fails hstart =>
    exact ⟨hd, hapart, { hf with idle := fun _ => hf.idle (.inl hstart), stored := fun _ hm => absurd rfl hm }⟩
  | grants possession sections hpass => exact State.Possessed.grant ⟨hd, hapart, hf⟩ hpass
  | gives possession sections hfind => exact State.Possessed.give ⟨hd, hapart, hf⟩ hfind
  | writes tag kind hop =>
    have hfits := State.Possessed.fits ⟨hd, hapart, hf⟩
    refine ⟨hd, hapart, { hf with writes := fun x hx => ?_, idle := fun hm => absurd hm (Mode.not_idle_of_operating hop) }⟩
    rcases List.mem_append.1 hx with hx | hx
    · exact hf.writes x hx
    · rw [List.mem_singleton.1 hx]
      exact hfits
  | written =>
    refine ⟨hd, hapart, { hf with writes := fun x hx => hf.writes x (List.mem_of_mem_tail hx), idle := fun hm => ?_ }⟩
    change s.possessionWrites.tail = []
    rw [hf.idle hm]
    rfl
  | stores v hv => exact ⟨hd, hapart, hf.stores hv⟩
  | stages st _ _ _ hactive hnone =>
    refine ⟨hd, hactive ▸ hapart, ?_⟩
    refine ⟨hactive ▸ hf.active, fun c hc => ?_, hactive ▸ hf.records, hf.image, hactive ▸ hf.writes, hf.idle,
      hactive ▸ hf.stored⟩
    rw [show st.commit = none from hnone] at hc
    cases hc
  | commit c _ hphase =>
    refine ⟨hd, hapart, { hf with staged := fun d hd' hne => ?_ }⟩
    rcases hphase d hd' hne with hvalid | ⟨y, hy, hyne⟩
    · exact Tables.pointsInRoutes_of_valid hvalid
    · exact hf.staged y hy hyne
  | restores =>
    refine ⟨hd, hapart, { hf with image := ?_, stored := ?_ }⟩
    · rintro i ⟨⟩
      exact ⟨hf.active, State.Possessed.fits ⟨hd, hapart, hf⟩⟩
    · rintro _ _ i ⟨⟩
      rfl
  | powers =>
    refine ⟨rfl, ⟨?_, ?_, ?_⟩, rfl, ?_, fun _ => rfl, hf.image, ?_, fun _ => rfl, fun hm => absurd rfl hm⟩
    · exact fun x hx => absurd hx List.not_mem_nil
    · exact fun p ⟨x, hx, _⟩ => absurd hx List.not_mem_nil
    · exact fun p ⟨x, hx, _⟩ => absurd hx List.not_mem_nil
    · rintro c ⟨⟩
    · exact fun x hx => absurd hx List.not_mem_nil
  | creates i hstart himage => exact State.Possessed.creates ⟨hd, hapart, hf⟩ hs hstart himage
  | activates c hcommit hphase => exact State.Possessed.activates ⟨hd, hapart, hf⟩ hs hcommit hphase
  | _ => exact ⟨hd, hapart, { hf with }⟩

/-- Settles O58, by the single changes that a step is made of. -/
theorem everyStepKeepsPossessionsApart : Obligations.EveryStepKeepsPossessionsApart := by
  intro s t hs h
  rw [State.possessionsLawful_iff] at hs ⊢
  exact step_keeps (P := fun s => s.Seated ∧ s.Possessed) (fun _ _ m hp => ⟨m.seated hp.1, m.possessed hp.1 hp.2⟩) h hs

end Sys2Proof.Machine
end

section
/-! PROOFS. The orders that wait for an element, in the queue or as pending, and what each operation on orders leaves of them
(R55, R56). -/

namespace Sys2Proof.Machine

/-! ### The orders that wait for an element -/

/-- At most one order waits for any one element (R55). -/
structure Live.Placed (l : Live) : Prop where
  nodup : l.queueElements.Nodup
  apart : ∀ x ∈ l.queue, l.pendingOrder x.element = none

theorem Live.mem_waitingOrders {l : Live} {n : Nat} {o : Order} : o ∈ l.waitingOrders n ↔ l.waits n o := by
  simp [Live.waitingOrders, Live.waits, and_assoc]

theorem Live.ordersOnce_iff (l : Live) : l.ordersOnce = true ↔ l.Placed := by
  simp only [Live.ordersOnce, Bool.and_eq_true, decide_eq_true_eq, List.all_eq_true, Option.isNone_iff_eq_none]
  exact ⟨fun ⟨h1, h2⟩ => ⟨h1, h2⟩, fun ⟨h1, h2⟩ => ⟨h1, h2⟩⟩

theorem Live.hasOrder_iff {l : Live} {n : Nat} : l.hasOrder n = true ↔ ∃ o, l.waits n o := by
  simp only [Live.hasOrder, Live.queued, Live.waits, Bool.or_eq_true, List.any_eq_true, beq_iff_eq,
    Option.isSome_iff_exists, exists_or]
  exact or_congr_left ⟨fun ⟨x, hx, hn⟩ => ⟨_, x, hx, hn, rfl⟩, fun ⟨_, x, hx, hn, _⟩ => ⟨x, hx, hn⟩⟩

theorem Live.orderAgainst_iff {l : Live} {n : Nat} {p : Position} :
    l.orderAgainst n p = true ↔ ∃ o, l.waits n o ∧ o ≠ .position p := by
  simp only [Live.orderAgainst, Live.waits, Bool.or_eq_true, List.any_eq_true, Bool.and_eq_true, beq_iff_eq, bne_iff_ne,
    Option.any_eq_true]
  constructor
  · rintro (⟨x, hx, hn, ho⟩ | ⟨o, hp, ho⟩)
    · exact ⟨_, .inl ⟨x, hx, hn, rfl⟩, ho⟩
    · exact ⟨o, .inr hp, ho⟩
  · rintro ⟨o, ⟨x, hx, hn, rfl⟩ | hp, ho⟩
    · exact .inl ⟨x, hx, hn, ho⟩
    · exact .inr ⟨o, hp, ho⟩

/-! ### Where queue and pending orders stand -/

theorem Live.SamePart.pending {a b : Live} (h : Live.SamePart ElementRec.pendingOrder a b) (n : Nat) :
    b.pendingOrder n = a.pendingOrder n := by
  have hn := h n
  unfold Live.pendingOrder
  cases ha : Map.find n a.elements <;> cases hb : Map.find n b.elements <;> simp_all

theorem Live.waits_same {a b : Live} (hq : b.queue = a.queue) (hp : Live.SamePart ElementRec.pendingOrder a b) (n : Nat)
    (o : Order) : b.waits n o ↔ a.waits n o := by
  rw [Live.waits, hq, hp.pending, Live.waits]

theorem Live.Placed.same {a b : Live} (h : a.Placed) (hq : b.queue = a.queue)
    (hp : Live.SamePart ElementRec.pendingOrder a b) : b.Placed :=
  ⟨by rw [Live.queueElements, hq]; exact h.nodup, fun x hx => (hp.pending _).trans (h.apart x (hq ▸ hx))⟩

theorem ElementRec.unlocked_pendingOrder (n : Nat) (ps : List Nat) (p : Nat) (r : ElementRec) :
    (r.unlocked n ps p).pendingOrder = r.pendingOrder := by
  cases r <;> simp only [ElementRec.unlocked]
  split <;> rfl
theorem ElementRec.left_pendingOrder (n : Nat) (r : ElementRec) : (r.left n).pendingOrder = r.pendingOrder := by
  cases r <;> simp only [ElementRec.left]
  split <;> rfl

theorem Live.emptySlot_pending (t : Tables) (n : Nat) (l : Live) :
    Live.SamePart ElementRec.pendingOrder l (l.emptySlot t n) := fun m => by
  rw [Live.emptySlot_find, Option.map_map]
  refine congrArg (fun f => Option.map f _) (funext fun r => ?_)
  simp only [Function.comp, ElementRec.left_pendingOrder, ElementRec.unlocked_pendingOrder]

/-- An element's record but for its pending order, and whether it is one that may hold an order. -/
theorem Live.pendingOrder_update (l : Live) (n m : Nat) (f : ElementRec → ElementRec) (q : List FieldOrder) :
    Live.pendingOrder { l with queue := q, elements := Map.update n f l.elements } m =
      if m = n then (Map.find m l.elements).bind (fun r => (f r).pendingOrder) else l.pendingOrder m := by
  unfold Live.pendingOrder
  rw [Map.find_update]
  cases Map.find m l.elements with
  | none => simp
  | some r => by_cases h : m = n <;> simp [h]

/-! ### An order changed in its place -/

/-- The pending orders after a change: the element's own, where it has one, is the new order. -/
theorem Live.changeOrder_pending (n m : Nat) (o : Order) (l : Live) :
    (l.changeOrder n o).pendingOrder m = if m = n then (l.pendingOrder m).map (fun _ => o) else l.pendingOrder m := by
  unfold Live.changeOrder
  rw [Live.pendingOrder_update]
  refine ite_congr rfl (fun _ => ?_) fun _ => rfl
  unfold Live.pendingOrder
  cases Map.find m l.elements with
  | none => rfl
  | some r =>
    cases r with
    | point r => cases h : r.pendingOrder <;> simp [ElementRec.pendingOrder, ElementRec.withPending, h]
    | signal r => cases h : r.pendingOrder <;> simp [ElementRec.pendingOrder, ElementRec.withPending, h]
    | head r => rfl

theorem Live.changeOrder_queue (n : Nat) (o : Order) (l : Live) : (l.changeOrder n o).queue =
    l.queue.map (fun x => if x.element = n then { x with order := o } else x) := rfl

theorem Live.Placed.changeOrder {l : Live} (h : l.Placed) (n : Nat) (o : Order) : (l.changeOrder n o).Placed := by
  refine ⟨by rw [Live.changeOrder_queueElements]; exact h.nodup, fun x hx => ?_⟩
  obtain ⟨y, hy, hyx⟩ : ∃ y ∈ l.queue, y.element = x.element := by
    have hmem : x.element ∈ (l.changeOrder n o).queueElements := List.mem_map_of_mem hx
    rw [Live.changeOrder_queueElements] at hmem
    exact List.mem_map.1 hmem
  rw [Live.changeOrder_pending, ← hyx, h.apart y hy]
  split <;> rfl

/-- A change turns the waiting order of its element and no other (R55). -/
theorem Live.changeOrder_waits {n m : Nat} {o c : Order} {l : Live} (h : (l.changeOrder n o).waits m c) :
    (m = n ∧ c = o) ∨ (m ≠ n ∧ l.waits m c) := by
  rcases h with ⟨x, hx, hm, hc⟩ | hp
  · rw [Live.changeOrder_queue] at hx
    obtain ⟨y, hy, rfl⟩ := List.mem_map.1 hx
    split at hm
    · next hn =>
      rw [if_pos hn] at hc
      exact .inl ⟨hm.symm.trans hn, hc.symm⟩
    · next hn =>
      rw [if_neg hn] at hc
      exact .inr ⟨fun hmn => hn (hm.trans hmn), .inl ⟨y, hy, hm, hc⟩⟩
  · rw [Live.changeOrder_pending] at hp
    split at hp
    · next hn =>
      obtain ⟨_, _, ho⟩ := Option.map_eq_some_iff.1 hp
      exact .inl ⟨hn, ho.symm⟩
    · next hn => exact .inr ⟨hn, .inr hp⟩

/-! ### Placing, sending and admitting (R55) -/

/-- An element that may hold an order holds it as pending, and the others what they held. -/
theorem Live.pendingOrder_hold (n m : Nat) (o : Option Order) (l : Live) (q : List FieldOrder) {c : Order}
    (h : Live.pendingOrder { l with queue := q, elements := Map.update n (ElementRec.withPending o) l.elements } m = some c) :
    (m = n ∧ o = some c) ∨ (m ≠ n ∧ l.pendingOrder m = some c) := by
  rw [Live.pendingOrder_update] at h
  split at h
  · next hn =>
    obtain ⟨r, _, hr⟩ := Option.bind_eq_some_iff.1 h
    cases r with
    | point r => exact .inl ⟨hn, hr⟩
    | signal r => exact .inl ⟨hn, hr⟩
    | head r => cases hr
  · next hn => exact .inr ⟨hn, h⟩

/-- Placing an order lets it alone wait for its element, and leaves what waits for another (R55). -/
theorem Live.placeOrder_waits {t : Tables} {n m : Nat} {o c : Order} {l : Live} (h : (l.placeOrder t n o).waits m c) :
    (m = n ∧ c = o) ∨ (m ≠ n ∧ l.waits m c) := by
  unfold Live.placeOrder at h
  split at h
  · exact Live.changeOrder_waits h
  · next hnone =>
    have hno : ¬ l.waits n c := fun hw => hnone (Live.hasOrder_iff.2 ⟨c, hw⟩)
    have hold (hw : l.waits m c) : m ≠ n ∧ l.waits m c := ⟨by rintro rfl; exact hno hw, hw⟩
    split at h
    · rcases h with hq | hp
      · exact .inr (hold (.inl hq))
      · rcases Live.pendingOrder_hold n m _ l _ hp with ⟨hn, ho⟩ | ⟨_, hw⟩
        · exact .inl ⟨hn, (Option.some.inj ho).symm⟩
        · exact .inr (hold (.inr hw))
    · rcases h with ⟨x, hx, hm, hc⟩ | hp
      · rcases List.mem_append.1 hx with hx | hx
        · exact .inr (hold (.inl ⟨x, hx, hm, hc⟩))
        · rw [List.mem_singleton.1 hx] at hm hc
          exact .inl ⟨hm.symm, hc.symm⟩
      · exact .inr (hold (.inr hp))

/-- An order joins the end of the queue where none waits for its element. -/
theorem Live.Placed.append {l : Live} (h : l.Placed) {x : FieldOrder} (hx : ∀ o, ¬ l.waits x.element o) :
    Live.Placed { l with queue := l.queue ++ [x] } := by
  refine ⟨?_, fun y hy => ?_⟩
  · rw [Live.queueElements, List.map_append]
    refine List.nodup_append.2 ⟨h.nodup, List.nodup_singleton _, fun n hn k hk heq => ?_⟩
    obtain ⟨y, hy, hyx⟩ := List.mem_map.1 hn
    exact hx y.order (.inl ⟨y, hy, hyx.trans (heq.trans (List.mem_singleton.1 hk)), rfl⟩)
  · rcases List.mem_append.1 hy with hy | hy
    · exact h.apart y hy
    · rw [List.mem_singleton.1 hy]
      exact Option.eq_none_iff_forall_not_mem.2 fun o ho => hx o (.inr ho)

/-- An element takes an order as pending where none is queued for it. -/
theorem Live.Placed.hold {l : Live} (h : l.Placed) {n : Nat} (o : Option Order) (hn : ∀ x ∈ l.queue, x.element ≠ n) :
    Live.Placed { l with elements := Map.update n (ElementRec.withPending o) l.elements } := by
  refine ⟨h.nodup, fun x hx => Option.eq_none_iff_forall_ne_some.2 fun c hc => ?_⟩
  rcases Live.pendingOrder_hold n _ o l l.queue hc with ⟨hxn, _⟩ | ⟨_, hp⟩
  · exact hn x hx hxn
  · rw [h.apart x hx] at hp
    cases hp

theorem Live.Placed.placeOrder {l : Live} (h : l.Placed) (t : Tables) (n : Nat) (o : Order) : (l.placeOrder t n o).Placed := by
  unfold Live.placeOrder
  split
  · exact h.changeOrder n o
  · next hnone =>
    have hno (c : Order) : ¬ l.waits n c := fun hw => hnone (Live.hasOrder_iff.2 ⟨c, hw⟩)
    split
    · exact h.hold (some o) fun x hx hn => hno x.order (.inl ⟨x, hx, hn, rfl⟩)
    · exact h.append hno

theorem Live.Placed.sent {l : Live} (h : l.Placed) : Live.Placed { l with queue := l.queue.tail } := by
  refine ⟨?_, fun x hx => h.apart x (List.mem_of_mem_tail hx)⟩
  rw [Live.queueElements, List.map_tail]
  exact h.nodup.tail

/-- What the oldest pending order's admission does: nothing, or it moves an element's pending order to the end of the queue. -/
theorem Live.admitPending_cases (t : Tables) (l : Live) : l.admitPending t = l ∨ ∃ n r o, (n, r) ∈ l.elements ∧
    r.pendingOrder = some o ∧ l.admitPending t = { l with
      queue := l.queue ++ [{ element := n, address := t.fieldAddress n, order := o }]
      elements := Map.update n (ElementRec.withPending none) l.elements } := by
  unfold Live.admitPending
  split
  · split
    · next n r hfind =>
      split
      · next o ho => exact .inr ⟨n, r, o, List.mem_of_find?_eq_some hfind, ho, rfl⟩
      · exact .inl rfl
    · exact .inl rfl
  · exact .inl rfl

theorem Live.pendingOrder_of_mem {l : Live} (hrise : (Map.ids l.elements).Pairwise (· < ·)) {n : Nat} {r : ElementRec}
    {o : Order} (hmem : (n, r) ∈ l.elements) (ho : r.pendingOrder = some o) : l.pendingOrder n = some o := by
  rw [Live.pendingOrder, Map.find_of_mem (hrise.imp Nat.ne_of_lt) hmem]
  exact ho

theorem Live.admitPending_waits {t : Tables} {l : Live} (hrise : (Map.ids l.elements).Pairwise (· < ·)) {m : Nat} {c : Order}
    (h : (l.admitPending t).waits m c) : l.waits m c := by
  rcases l.admitPending_cases t with heq | ⟨n, r, o, hmem, ho, heq⟩
  · rwa [heq] at h
  · rw [heq] at h
    rcases h with ⟨x, hx, hm, hc⟩ | hp
    · rcases List.mem_append.1 hx with hx | hx
      · exact .inl ⟨x, hx, hm, hc⟩
      · rw [List.mem_singleton.1 hx] at hm hc
        subst hm hc
        exact .inr (Live.pendingOrder_of_mem hrise hmem ho)
    · rcases Live.pendingOrder_hold n m none l _ hp with ⟨_, hnone⟩ | ⟨_, hw⟩
      · cases hnone
      · exact .inr hw

theorem Live.Placed.admitPending {t : Tables} {l : Live} (h : l.Placed) (hrise : (Map.ids l.elements).Pairwise (· < ·)) :
    (l.admitPending t).Placed := by
  rcases l.admitPending_cases t with heq | ⟨n, r, o, hmem, ho, heq⟩
  · rwa [heq]
  · rw [heq]
    have hpending := Live.pendingOrder_of_mem hrise hmem ho
    have hqueued : ∀ x ∈ l.queue, x.element ≠ n := by
      rintro x hx rfl
      rw [h.apart x hx] at hpending
      cases hpending
    refine (h.hold none hqueued).append fun c hw => ?_
    rcases hw with ⟨x, hx, hn, _⟩ | hp
    · exact hqueued x hx hn
    · rcases Live.pendingOrder_hold n n none l l.queue hp with ⟨_, hnone⟩ | ⟨hne, _⟩
      · cases hnone
      · exact hne rfl

/-! ### A point's order turned round (R56) -/

theorem Live.redirect_cases (e : Env) (p : Nat) (q : Position) (l : Live) : (l.orderAgainst p q = false ∧ l.redirect e p q = l) ∨
    ((l.redirect e p q).queue = (l.changeOrder p (.position q)).queue ∧
      Live.SamePart ElementRec.pendingOrder (l.changeOrder p (.position q)) (l.redirect e p q)) := by
  unfold Live.redirect
  split
  · dsimp only
    split
    · next r hr => exact .inr ⟨rfl, Live.samePart_setElement (Live.point_some.1 hr) rfl⟩
    · exact .inr ⟨rfl, .refl _ _⟩
  · next h => exact .inl ⟨by simpa using h, rfl⟩

theorem Live.Placed.redirect {l : Live} (h : l.Placed) (e : Env) (p : Nat) (q : Position) : (l.redirect e p q).Placed := by
  rcases l.redirect_cases e p q with ⟨_, heq⟩ | ⟨hq, hp⟩
  · rwa [heq]
  · exact (h.changeOrder p (.position q)).same hq hp

/-- Once a point's order is turned to a position, no order for another waits for it, and the others wait as before (R56). -/
theorem Live.redirect_waits {e : Env} {p m : Nat} {q : Position} {c : Order} {l : Live} (h : (l.redirect e p q).waits m c) :
    (m = p ∧ c = .position q) ∨ (m ≠ p ∧ l.waits m c) := by
  rcases l.redirect_cases e p q with ⟨hnone, heq⟩ | ⟨hq, hp⟩
  · rw [heq] at h
    by_cases hm : m = p
    · refine .inl ⟨hm, ?_⟩
      by_contra hc
      have := Live.orderAgainst_iff.2 ⟨c, hm ▸ h, hc⟩
      rw [hnone] at this
      cases this
    · exact .inr ⟨hm, h⟩
  · exact Live.changeOrder_waits ((Live.waits_same hq hp m c).1 h)

theorem Live.Placed.lockPoint {l : Live} (h : l.Placed) (e : Env) (n p : Nat) (q : Position) :
    (l.lockPoint e n p q).Placed := by
  unfold Live.lockPoint
  split
  · exact h
  · next r hr => exact (h.same (b := l.setElement p (.point { r with routeLock := some (n, q) })) rfl
      (Live.samePart_setElement (Live.point_some.1 hr) rfl)).redirect e p q

theorem Live.lockPoint_waits {e : Env} {n p m : Nat} {q : Position} {c : Order} {l : Live} (hp : (l.point p).isSome)
    (h : (l.lockPoint e n p q).waits m c) : (m = p ∧ c = .position q) ∨ (m ≠ p ∧ l.waits m c) := by
  unfold Live.lockPoint at h
  split at h
  · next hnone =>
    rw [hnone] at hp
    cases hp
  · next r hr =>
    refine (Live.redirect_waits h).imp_right (And.imp_right fun hw => ?_)
    exact (Live.waits_same (a := l) (b := l.setElement p (.point { r with routeLock := some (n, q) })) rfl
      (Live.samePart_setElement (Live.point_some.1 hr) rfl) _ _).1 hw

/-- Turning the orders of claimed points leaves those of others (R56, R102). -/
theorem Live.redirectClaims_waits {e : Env} (cs : List Claim) {m : Nat} {o : Order} {l : Live}
    (h : (l.redirectClaims e cs).waits m o) :
    (∃ c ∈ cs, ∃ p, c.element = m ∧ c.required = .position p ∧ o = .position p) ∨
      ((∀ c ∈ cs, c.element = m → c.required = .danger) ∧ l.waits m o) := by
  unfold Live.redirectClaims at h
  induction cs generalizing l with
  | nil => exact .inr ⟨fun c hc => absurd hc List.not_mem_nil, h⟩
  | cons c cs ih =>
    rcases ih h with ⟨d, hd, hspec⟩ | ⟨hrest, hw⟩
    · exact .inl ⟨d, List.mem_cons_of_mem _ hd, hspec⟩
    · cases hreq : c.required with
      | position p =>
        simp only [hreq] at hw
        rcases Live.redirect_waits hw with ⟨hm, ho⟩ | ⟨hm, hw⟩
        · exact .inl ⟨c, List.mem_cons_self, p, hm.symm, hreq, ho⟩
        · refine .inr ⟨fun d hd he => ?_, hw⟩
          rcases List.mem_cons.1 hd with rfl | hd
          · exact absurd he.symm hm
          · exact hrest d hd he
      | danger =>
        simp only [hreq] at hw
        refine .inr ⟨fun d hd he => ?_, hw⟩
        rcases List.mem_cons.1 hd with rfl | hd
        · exact hreq
        · exact hrest d hd he

theorem Live.Placed.redirectClaims {l : Live} (h : l.Placed) (e : Env) (cs : List Claim) : (l.redirectClaims e cs).Placed := by
  unfold Live.redirectClaims
  induction cs generalizing l with
  | nil => exact h
  | cons c cs ih =>
    refine ih ?_
    dsimp only
    split
    · exact h.redirect e _ _
    · exact h

end Sys2Proof.Machine
end

section
/-! PROOFS. The laws of the orders through each single change: one order for an element (R55), one position for a locked and claimed
point and its waiting order (R56, R79), and DANGER at every signal but those that clear (R87). -/

namespace Sys2Proof.Machine

/-! ### Rising ids of elements -/

/-- The ids of the elements rise (R1). -/
def Live.rises (l : Live) : Prop := (Map.ids l.elements).Pairwise (· < ·)

theorem Map.ids_mapped {α β : Type} (f : Nat → α → β) (m : Map α) : Map.ids (m.map (fun x => (x.1, f x.1 x.2))) = Map.ids m := by
  simp only [Map.ids, List.map_map]
  rfl

theorem Live.rises_of_ids {a b : Live} (h : a.rises) (hids : Map.ids b.elements = Map.ids a.elements) : b.rises := by
  rw [Live.rises, hids]
  exact h

theorem Live.setElement_rises {l : Live} (h : l.rises) (n : Nat) (r : ElementRec) : (l.setElement n r).rises :=
  (Map.put_rising n r l.elements h).1

theorem Live.changeOrder_rises {l : Live} (h : l.rises) (n : Nat) (o : Order) : (l.changeOrder n o).rises :=
  Live.rises_of_ids h (Map.ids_update n
    (fun r : ElementRec => if r.pendingOrder.isSome then r.withPending (some o) else r) l.elements)

theorem Live.placeOrder_rises {l : Live} (h : l.rises) (t : Tables) (n : Nat) (o : Order) : (l.placeOrder t n o).rises := by
  unfold Live.placeOrder
  split
  · exact Live.changeOrder_rises h n o
  · split
    · exact Live.rises_of_ids h (Map.ids_update n _ l.elements)
    · exact h

theorem Live.redirect_rises {l : Live} (h : l.rises) (e : Env) (p : Nat) (q : Position) : (l.redirect e p q).rises := by
  unfold Live.redirect
  split
  · dsimp only
    split
    · exact Live.setElement_rises (Live.changeOrder_rises h p _) p _
    · exact Live.changeOrder_rises h p _
  · exact h

theorem Live.lockPoint_rises {l : Live} (h : l.rises) (e : Env) (n p : Nat) (q : Position) : (l.lockPoint e n p q).rises := by
  unfold Live.lockPoint
  split
  · exact h
  · exact Live.redirect_rises (Live.setElement_rises h p _) e p q

theorem Live.foldl_rises {β : Type} (op : Live → β → Live) (hop : ∀ l x, l.rises → (op l x).rises) (xs : List β) {l : Live}
    (h : l.rises) : (xs.foldl op l).rises := by
  induction xs generalizing l with
  | nil => exact h
  | cons x xs ih => exact ih (hop l x h)

theorem Live.redirectClaims_rises {l : Live} (h : l.rises) (e : Env) (cs : List Claim) : (l.redirectClaims e cs).rises :=
  Live.foldl_rises _ (fun l c hl => by
    split
    · exact Live.redirect_rises hl e _ _
    · exact hl) cs h

theorem Live.lockRoute_rises {l : Live} (h : l.rises) (e : Env) (n : Nat) (r : RouteEntry) : (l.lockRoute e n r).rises := by
  have hpoints : (r.requirements.foldl (fun l y => l.lockPoint e n y.1 y.2) (l.lockSections n r)).rises :=
    Live.foldl_rises _ (fun l (y : Nat × Position) hl => Live.lockPoint_rises hl e n y.1 y.2) r.requirements h
  have hentry : ∀ m : Live, m.rises → (m.setEntryOf n r.entrySignal).rises := by
    intro m hm
    unfold Live.setEntryOf
    split
    · exact hm
    · exact Live.setElement_rises hm _ _
  exact hentry _ hpoints

theorem Live.taking_rises {l : Live} (h : l.rises) (e : Env) (route : Nat) (r : RouteEntry) (fleet n : Nat)
    (choices : List Choice) : (l.taking e route r fleet n choices).rises :=
  Live.redirectClaims_rises (l := { (l.setSlot n (newSlot e l route r fleet)).lockRoute e n r with
    claims := ((l.setSlot n (newSlot e l route r fleet)).lockRoute e n r).claims ++
      (claimsFor n choices).map ((l.setSlot n (newSlot e l route r fleet)).lockRoute e n r).proved })
    (Live.lockRoute_rises (l := l.setSlot n (newSlot e l route r fleet)) h e n r) e _

theorem Live.emptySlot_ids (t : Tables) (n : Nat) (l : Live) : Map.ids (l.emptySlot t n).elements = Map.ids l.elements := by
  have hleft := congrArg Map.ids
    (Live.removeEntryOf_elements n ((l.unlockSections n (Map.ids l.sections)).unlockPoints n (l.lockedPoints n)))
  have hunlocked := congrArg Map.ids
    (Live.unlockPoints_elements n (l.lockedPoints n) (l.unlockSections n (Map.ids l.sections)))
  exact (hleft.trans (Map.ids_mapped (fun _ r => ElementRec.left n r) _)).trans
    (hunlocked.trans (Map.ids_mapped (fun p r => ElementRec.unlocked n (l.lockedPoints n) p r) _))

theorem LiveStep.rises {e : Env} {σ : Scope} {a b : Live} (s : LiveStep e σ a b) (h : a.rises) : b.rises := by
  cases s with
  | offer => exact Live.rises_of_ids h (by simp)
  | orderPoint p q r => exact Live.placeOrder_rises (Live.setElement_rises h p _) _ _ _
  | orderSignal g c r =>
    exact Live.placeOrder_rises (l := a.setElement g _) (Live.setElement_rises h g _) e.tables g (.aspect c)
  | admitted =>
    rcases a.admitPending_cases e.tables with heq | ⟨n, r, o, _, _, heq⟩
    · rwa [heq]
    · rw [heq]
      exact Live.rises_of_ids h (Map.ids_update n _ a.elements)
  | empty n x => exact Live.rises_of_ids h (Live.emptySlot_ids e.tables n a)
  | release n secs ps =>
    refine Live.rises_of_ids h ?_
    exact (congrArg Map.ids (Live.unlockPoints_elements n ps (a.unlockSections n secs))).trans
      (Map.ids_mapped (fun p r => ElementRec.unlocked n ps p r) a.elements)
  | taken route r fleet n choices => exact Live.taking_rises h e route r fleet n choices
  | element n old new => exact Live.setElement_rises h n new
  | shown n old new => exact Live.setElement_rises h n new
  | _ => exact h

/-! ### One order for an element (R55) -/

theorem Live.taking_placed {l : Live} (h : l.Placed) (e : Env) (route : Nat) (r : RouteEntry) (fleet n : Nat)
    (choices : List Choice) : (l.taking e route r fleet n choices).Placed := by
  have hpoints : ∀ (ys : Map Position) (m : Live), m.Placed → (ys.foldl (fun l y => l.lockPoint e n y.1 y.2) m).Placed := by
    intro ys
    induction ys with
    | nil => exact fun m hm => hm
    | cons y ys ih => exact fun m hm => ih _ (hm.lockPoint e n y.1 y.2)
  have hstart : ((l.setSlot n (newSlot e l route r fleet)).lockSections n r).Placed := ⟨h.nodup, h.apart⟩
  have hentry : ∀ m : Live, m.Placed → (m.setEntryOf n r.entrySignal).Placed := fun m hm =>
    hm.same (Live.setEntryOf_queue n r.entrySignal m) (Live.setEntryOf_part (fun _ _ => rfl) n r.entrySignal m)
  have hlocked := hentry _ (hpoints r.requirements _ hstart)
  refine Live.Placed.redirectClaims ?_ e _
  exact ⟨hlocked.nodup, hlocked.apart⟩

theorem LiveStep.placed {e : Env} {σ : Scope} {a b : Live} (s : LiveStep e σ a b) (hr : a.rises) (h : a.Placed) :
    b.Placed := by
  cases s with
  | offer => exact h.same (by simp) (Live.samePart_of_elements (by simp))
  | orderPoint p q r hp =>
    exact (h.same (b := a.setElement p (.point { r with
      movement := some (q, e.clock + e.tables.moveLimit p), persistence := 0 })) rfl
      (Live.samePart_setElement (Live.point_some.1 hp) rfl)).placeOrder e.tables p (.position q)
  | orderSignal g c r hg =>
    have hplaced := (h.same (b := a.setElement g (.signal { r with
      commanded := c, proving := some (e.clock + e.tables.provingTime g) })) rfl
      (Live.samePart_setElement (Live.signal_some.1 hg) rfl)).placeOrder e.tables g (.aspect c)
    exact ⟨hplaced.nodup, hplaced.apart⟩
  | orderSent => exact h.sent
  | admitted => exact h.admitPending hr
  | empty n x => exact h.same rfl (Live.emptySlot_pending _ _ _)
  | release n secs ps =>
    exact h.same rfl (Live.samePart_of_mapped (fun p r => ElementRec.unlocked n ps p r)
      (Live.unlockPoints_elements n ps (a.unlockSections n secs)) (fun p r => r.unlocked_pendingOrder n ps p))
  | taken route r fleet n choices => exact Live.taking_placed h e route r fleet n choices
  | element n old new _ hold hlike => exact h.same rfl (Live.samePart_setElement hold hlike.pendingOrder)
  | shown n old new _ hold hlike => exact h.same rfl (Live.samePart_setElement hold hlike.pendingOrder)
  | _ => exact ⟨h.nodup, h.apart⟩

/-! ### One position for a point (R56, R79) -/

/-- The position that the point's route lock or a claim on it requires (R79). -/
def Live.wants (l : Live) (n : Nat) (p : Position) : Prop :=
  (∃ k, l.lockOn n = some (k, p)) ∨ ∃ c ∈ l.claims, c.element = n ∧ c.required = .position p

/-- One position is required of the point, and an order that waits to move it is for that position (R56, R79). -/
def Live.agreesAt (l : Live) (n : Nat) : Prop :=
  ∀ p, l.wants n p → (∀ q, l.wants n q → q = p) ∧ ∀ q, l.waits n (.position q) → q = p

theorem Live.mem_wanted {l : Live} {n : Nat} {p : Position} : p ∈ l.wanted n ↔ l.wants n p := by
  simp only [Live.wanted, Live.wants, Live.lockOn_eq, List.mem_append, Option.mem_toList, Option.map_eq_some_iff,
    List.mem_filterMap, List.mem_filter, beq_iff_eq]
  refine or_congr ⟨fun ⟨k, hk, hp⟩ => ⟨k.1, by rw [hk, ← hp]⟩, fun ⟨k, hk⟩ => ⟨_, hk, rfl⟩⟩ ?_
  refine exists_congr fun c => ?_
  cases hreq : c.required <;> simp [and_assoc]

theorem Live.pointsAgree_iff (l : Live) : l.pointsAgree = true ↔ ∀ n, l.agreesAt n := by
  have hknown {n : Nat} {p : Position} (hw : l.wants n p) : n ∈ Map.ids l.elements ++ l.claims.map (fun c => c.element) := by
    rcases hw with ⟨k, hk⟩ | ⟨c, hc, rfl, _⟩
    · refine List.mem_append_left _ ?_
      obtain ⟨r, hr, _⟩ := Option.bind_eq_some_iff.1 hk
      exact List.mem_map_of_mem (f := fun x => x.1) (Map.mem_of_find hr)
    · exact List.mem_append_right _ (List.mem_map_of_mem hc)
  simp only [Live.pointsAgree, List.all_eq_true, Bool.and_eq_true]
  constructor
  · intro h n p hp
    obtain ⟨hone, hmove⟩ := h n (hknown hp) p (Live.mem_wanted.2 hp)
    exact ⟨fun q hq => by simpa using hone q (Live.mem_wanted.2 hq),
      fun q hq => by simpa using hmove _ (Live.mem_waitingOrders.2 hq)⟩
  · intro h n _ p hp
    obtain ⟨hone, hmove⟩ := h n p (Live.mem_wanted.1 hp)
    refine ⟨fun q hq => by simpa using hone q (Live.mem_wanted.1 hq), fun o ho => ?_⟩
    cases o with
    | position q => simpa using hmove q (Live.mem_waitingOrders.1 ho)
    | aspect a => rfl

/-- Where nothing more is required and no more waits, a point agrees as before. -/
theorem Live.agreesAt.same {a b : Live} {n : Nat} (h : a.agreesAt n) (hw : ∀ p, b.wants n p → a.wants n p)
    (hq : ∀ q, b.waits n (.position q) → a.waits n (.position q)) : b.agreesAt n := fun p hp =>
  ⟨fun q hqw => (h p (hw p hp)).1 q (hw q hqw), fun q hqw => (h p (hw p hp)).2 q (hq q hqw)⟩

/-- Where all that is required and all that waits is one position, the point agrees. -/
theorem Live.agreesAt_of_position {l : Live} {n : Nat} {q : Position} (hw : ∀ p, l.wants n p → p = q)
    (hq : ∀ p, l.waits n (.position p) → p = q) : l.agreesAt n := fun p hp =>
  ⟨fun k hk => (hw k hk).trans (hw p hp).symm, fun k hk => (hq k hk).trans (hw p hp).symm⟩

theorem Live.wants_of {a b : Live} {n : Nat} {p : Position} (h : b.wants n p)
    (hl : ∀ k, b.lockOn n = some k → a.lockOn n = some k)
    (hc : ∀ c ∈ b.claims, ∃ d ∈ a.claims, d.element = c.element ∧ d.required = c.required) : a.wants n p := by
  rcases h with ⟨k, hk⟩ | ⟨c, hcm, hn, hp⟩
  · exact .inl ⟨k, hl _ hk⟩
  · obtain ⟨d, hd, he, hr⟩ := hc c hcm
    exact .inr ⟨d, hd, he.trans hn, hr.trans hp⟩

theorem Live.wants_same {a b : Live} {n : Nat} {p : Position} (h : b.wants n p)
    (hl : Live.SamePart ElementRec.routeLock a b) (hc : b.claims = a.claims) : a.wants n p :=
  Live.wants_of h (fun _ hk => (hl.lockOn n).symm.trans hk) (fun c hcm => ⟨c, hc ▸ hcm, rfl, rfl⟩)

/-- What waits with the same queue and the same pending orders waited before. -/
theorem Live.waits_before {a b : Live} {n : Nat} {o : Order} (h : b.waits n o) (hq : b.queue = a.queue)
    (hp : Live.SamePart ElementRec.pendingOrder a b) : a.waits n o := (Live.waits_same hq hp n o).1 h

theorem Live.claimsProved_claims {n : Nat} {l : Live} : ∀ c ∈ (l.claimsProved n).claims, ∃ d ∈ l.claims,
    d.element = c.element ∧ d.required = c.required := by
  intro c hc
  obtain ⟨d, hd, rfl⟩ := List.mem_map.1 hc
  exact ⟨d, hd, by split <;> rfl, by split <;> rfl⟩

theorem Live.lockOn_unlocked {n p : Nat} {ps : List Nat} {l : Live} {k : Nat × Position}
    (h : (l.unlockPoints n ps).lockOn p = some k) : l.lockOn p = some k := by
  unfold Live.lockOn at h ⊢
  rw [Live.find_unlockPoints] at h
  cases hf : Map.find p l.elements with
  | none => simp [hf] at h
  | some r =>
    rw [hf] at h
    cases r with
    | point r =>
      simp only [Option.map_some, Option.bind_some, ElementRec.unlocked] at h
      split at h
      · cases h
      · exact h
    | signal r => cases h
    | head r => cases h

theorem Live.lockOn_emptied {t : Tables} {n p : Nat} {l : Live} {k : Nat × Position}
    (h : (l.emptySlot t n).lockOn p = some k) : l.lockOn p = some k := by
  refine Live.lockOn_unlocked (n := n) (ps := l.lockedPoints n) ?_
  rw [← h, Live.lockOn, Live.lockOn, Live.find_unlockPoints, Live.emptySlot_find]
  cases Map.find p l.elements with
  | none => rfl
  | some r => exact (ElementRec.left_routeLock n _).symm

/-! ### One position through a taking -/

theorem Live.lockOn_lockPoint_self {e : Env} {n p : Nat} {q : Position} {l : Live} {k : Nat × Position}
    (h : (l.lockPoint e n p q).lockOn p = some k) : k = (n, q) := by
  unfold Live.lockPoint at h
  split at h
  · next hnone =>
    rw [Live.lockOn_eq, hnone] at h
    cases h
  · next r hr =>
    rw [Live.SamePart.lockOn (Live.redirect_part ElementRec.routeLock_bare (fun _ _ => rfl) e p q _) p, Live.lockOn,
      Live.setElement_elements, Map.find_put_self] at h
    exact (Option.some.inj h).symm

/-- A lock after the locking of points is one of theirs, or it stood on another point. -/
theorem Live.lockOn_locked {e : Env} {n m : Nat} {k : Nat × Position} (ys : Map Position) {l : Live}
    (h : (ys.foldl (fun l y => l.lockPoint e n y.1 y.2) l).lockOn m = some k) :
    (m, k.2) ∈ ys ∨ ((∀ y ∈ ys, y.1 ≠ m) ∧ l.lockOn m = some k) := by
  induction ys generalizing l with
  | nil => exact .inr ⟨fun y hy => absurd hy List.not_mem_nil, h⟩
  | cons y ys ih =>
    rcases ih h with hmem | ⟨hrest, hk⟩
    · exact .inl (List.mem_cons_of_mem _ hmem)
    · by_cases hy : m = y.1
      · subst hy
        have hself := Live.lockOn_lockPoint_self hk
        exact .inl (by rw [hself]; exact List.mem_cons_self)
      · rw [Live.lockOn_lockPoint_ne hy] at hk
        exact .inr ⟨fun z hz => (List.mem_cons.1 hz).elim (fun he => he ▸ Ne.symm hy) (hrest z), hk⟩

/-- Whether an element is a point. -/
def ElementRec.isPoint : ElementRec → Bool
  | .point _ => true
  | _ => false

theorem Live.isPoint_iff {l : Live} {n : Nat} :
    (l.point n).isSome = true ↔ (Map.find n l.elements).map ElementRec.isPoint = some true := by
  unfold Live.point
  cases Map.find n l.elements with
  | none => simp
  | some r => cases r <;> simp [ElementRec.isPoint]

theorem Live.lockPoint_isSome {e : Env} {n p m : Nat} {q : Position} {l : Live} (h : (l.point m).isSome) :
    ((l.lockPoint e n p q).point m).isSome := by
  rw [Live.isPoint_iff] at h ⊢
  rw [Live.lockPoint_part (f := ElementRec.isPoint) (fun r => by cases r <;> rfl) (fun _ _ _ => rfl) e n p q l m]
  exact h

/-- What waits after the locking of points is for their positions, or waited for another element (R56). -/
theorem Live.locked_waits {e : Env} {n m : Nat} {o : Order} (ys : Map Position) {l : Live}
    (hp : ∀ y ∈ ys, (l.point y.1).isSome) (h : (ys.foldl (fun l y => l.lockPoint e n y.1 y.2) l).waits m o) :
    (∃ y ∈ ys, y.1 = m ∧ o = .position y.2) ∨ ((∀ y ∈ ys, y.1 ≠ m) ∧ l.waits m o) := by
  induction ys generalizing l with
  | nil => exact .inr ⟨fun y hy => absurd hy List.not_mem_nil, h⟩
  | cons y ys ih =>
    rcases ih (fun z hz => Live.lockPoint_isSome (hp z (List.mem_cons_of_mem _ hz))) h with ⟨z, hz, hspec⟩ | ⟨hrest, hw⟩
    · exact .inl ⟨z, List.mem_cons_of_mem _ hz, hspec⟩
    · rcases Live.lockPoint_waits (hp y List.mem_cons_self) hw with ⟨hm, ho⟩ | ⟨hm, hw⟩
      · exact .inl ⟨y, List.mem_cons_self, hm.symm, ho⟩
      · exact .inr ⟨fun z hz => (List.mem_cons.1 hz).elim (fun he => he ▸ Ne.symm hm) (hrest z), hw⟩

/-- The ids of a route's requirements rise, so a point is required in one position (R10). -/
theorem RouteEntry.requirements_rise (r : RouteEntry) : (Map.ids r.requirements).Pairwise (· < ·) := by
  suffices h : ∀ (xs : List PointItem) (m : Map Position), (Map.ids m).Pairwise (· < ·) →
      (Map.ids (xs.foldl (fun m x => match Position.ofCode x.position with
        | some p => Map.put x.element p m
        | none => m) m)).Pairwise (· < ·) from h r.points [] List.Pairwise.nil
  intro xs
  induction xs with
  | nil => exact fun m hm => hm
  | cons x xs ih =>
    intro m hm
    refine ih _ ?_
    dsimp only
    split
    · exact (Map.put_rising _ _ m hm).1
    · exact hm

theorem RouteEntry.requirement_unique {r : RouteEntry} {n : Nat} {p q : Position} (hp : (n, p) ∈ r.requirements)
    (hq : (n, q) ∈ r.requirements) : p = q := by
  have hnodup := r.requirements_rise.imp Nat.ne_of_lt
  exact Option.some.inj ((Map.find_of_mem hnodup hp).symm.trans (Map.find_of_mem hnodup hq))

/-- A point chosen in a position is locked in no other and claimed in no other (R99). -/
theorem Live.chosenFrom_position {t : Tables} {fs : List FlankEntry} {l : Live} {c : Choice} (h : l.chosenFrom t fs c)
    {p : Position} (hp : c.required = .position p) : ∀ q, l.wants c.element q → q = p := by
  obtain ⟨_, _, _, _, _, _, chosen, hobt⟩ := h
  unfold Live.obtainable at hobt
  split at hobt
  · next r p' hfind hreq =>
    rw [hp] at hreq
    cases hreq
    simp only [Bool.and_eq_true, Bool.not_eq_true', PointRec.lockedAgainst_eq_false, Live.claimedAgainst_eq_false] at hobt
    obtain ⟨⟨⟨-, hlock⟩, hclaim⟩, -⟩ := hobt
    rintro q (⟨k, hk⟩ | ⟨d, hd, he, hr⟩)
    · rw [Live.lockOn, hfind] at hk
      exact hlock k q hk
    · have hd := hclaim d hd he
      rw [hr] at hd
      cases hd
      rfl
  · next hreq =>
    rw [hp] at hreq
    cases hreq
  · cases hobt

/-- No choice of a flank search is one of the route's required points (constraint 335). -/
theorem Live.chosenFrom_apart {t : Tables} {route : Nat} {r : RouteEntry} {l : Live} {c : Choice} (ht : t.flankApart = true)
    (hroute : Map.find route t.routes = some r) (h : l.chosenFrom t r.flank c) {y : Nat × Position}
    (hy : y ∈ r.requirements) : y.1 ≠ c.element := by
  obtain ⟨f, hf, k, hk, hel, _⟩ := h
  simp only [Tables.flankApart, List.all_eq_true, Bool.not_eq_true'] at ht
  have hnot := ht _ (Map.mem_of_find hroute) f hf k hk
  rintro hyc
  have hhas : Map.has k.element r.requirements = true := Map.has_iff.2 ⟨y, hy, hyc.trans hel.symm⟩
  rw [hnot] at hhas
  cases hhas

/-- Two choices of one point in positions require the same (R100). -/
theorem Choice.position_unique {choices : List Choice} (h : choices.Pairwise Choice.agrees) {a b : Choice}
    (ha : a ∈ choices) (hb : b ∈ choices) (he : a.element = b.element) {p q : Position} (hp : a.required = .position p)
    (hq : b.required = .position q) : p = q := by
  have hsame {c d : Choice} {u v : Position} (hu : c.required = .position u) (hv : d.required = .position v)
      (h : c.required = .position v) : u = v := by
    rw [hu] at h
    cases h
    rfl
  induction h with
  | nil => exact absurd ha List.not_mem_nil
  | cons hx _ ih =>
    rcases List.mem_cons.1 ha with rfl | ha'
    · rcases List.mem_cons.1 hb with rfl | hb'
      · exact hsame hp hq hq
      · exact hsame hp hq (hx b hb' he q hq)
    · rcases List.mem_cons.1 hb with rfl | hb'
      · exact (hsame hq hp (hx a ha' he.symm p hp)).symm
      · exact ih ha' hb'

section Taking
variable {e : Env} {route fleet n m : Nat} {r : RouteEntry} {choices : List Choice} {l : Live}

/-- What is required once a route is taken: by its locks, by its claims, or as before of a point it does not lock. -/
theorem Live.taking_wants {p : Position} (h : (l.taking e route r fleet n choices).wants m p) :
    (m, p) ∈ r.requirements ∨ (∃ d ∈ choices, d.element = m ∧ d.required = .position p) ∨
      (((∀ y ∈ r.requirements, y.1 ≠ m) ∨ ∃ c ∈ l.claims, c.element = m ∧ c.required = .position p) ∧ l.wants m p) := by
  rcases h with ⟨k, hk⟩ | ⟨c, hc, hm, hp⟩
  · have hclaims := Live.SamePart.lockOn (Live.redirectClaims_part ElementRec.routeLock_bare (fun _ _ => rfl) e
      (claimsFor n choices) { (l.setSlot n (newSlot e l route r fleet)).lockRoute e n r with
        claims := ((l.setSlot n (newSlot e l route r fleet)).lockRoute e n r).claims ++
          (claimsFor n choices).map ((l.setSlot n (newSlot e l route r fleet)).lockRoute e n r).proved }) m
    have hentry := Live.SamePart.lockOn (Live.setEntryOf_part (f := ElementRec.routeLock) (fun _ _ => rfl) n r.entrySignal
      (r.requirements.foldl (fun l y => l.lockPoint e n y.1 y.2)
        ((l.setSlot n (newSlot e l route r fleet)).lockSections n r))) m
    rcases Live.lockOn_locked r.requirements (hentry.symm.trans (hclaims.symm.trans hk)) with hmem | ⟨hrest, hk⟩
    · exact .inl hmem
    · exact .inr (.inr ⟨.inl hrest, .inl ⟨k, hk⟩⟩)
  · rw [Live.taking_claims] at hc
    rcases List.mem_append.1 hc with hc | hc
    · exact .inr (.inr ⟨.inr ⟨c, hc, hm, hp⟩, .inr ⟨c, hc, hm, hp⟩⟩)
    · obtain ⟨d, hd, rfl⟩ := List.mem_map.1 hc
      obtain ⟨k, hk, hel, hreq⟩ := mem_claimsFor hd
      exact .inr (.inl ⟨k, hk, hel.trans hm, hreq.trans hp⟩)

/-- What waits once a route is taken is for the positions of its claims and locks, or waited before. -/
theorem Live.taking_waits {o : Order} (hp : ∀ y ∈ r.requirements, (l.point y.1).isSome)
    (h : (l.taking e route r fleet n choices).waits m o) :
    (∃ d ∈ choices, ∃ p, d.element = m ∧ d.required = .position p ∧ o = .position p) ∨
      ((∀ c ∈ claimsFor n choices, c.element = m → c.required = .danger) ∧
        ((∃ y ∈ r.requirements, y.1 = m ∧ o = .position y.2) ∨ ((∀ y ∈ r.requirements, y.1 ≠ m) ∧ l.waits m o))) := by
  rcases Live.redirectClaims_waits _ h with ⟨c, hc, p, hel, hreq, ho⟩ | ⟨hnone, hw⟩
  · obtain ⟨d, hd, hde, hdr⟩ := mem_claimsFor hc
    exact .inl ⟨d, hd, p, hde.trans hel, hdr.trans hreq, ho⟩
  · refine .inr ⟨hnone, ?_⟩
    refine Live.locked_waits (e := e) (n := n) (l := (l.setSlot n (newSlot e l route r fleet)).lockSections n r) r.requirements hp ?_
    exact (Live.waits_same (Live.setEntryOf_queue n r.entrySignal _)
      (Live.setEntryOf_part (fun _ _ => rfl) n r.entrySignal _) m o).1 hw

/-- A choice has its claim (R101). -/
theorem claimsFor_of_mem {slot : Nat} {d : Choice} (hd : d ∈ choices) :
    ∃ c ∈ claimsFor slot choices, c.element = d.element ∧ c.required = d.required := by
  have hkeep (x : Choice) {cs : List Claim} (h : ∃ c ∈ cs, c.element = d.element ∧ c.required = d.required) :
      ∃ c ∈ addChoice slot cs x, c.element = d.element ∧ c.required = d.required := by
    obtain ⟨c, hc, hspec⟩ := h
    unfold addChoice
    split
    · exact ⟨_, List.mem_map_of_mem hc, by split <;> exact hspec⟩
    · exact ⟨c, List.mem_append_left _ hc, hspec⟩
  have hadd (cs : List Claim) : ∃ c ∈ addChoice slot cs d, c.element = d.element ∧ c.required = d.required := by
    by_cases h : (cs.any (fun x => x.element == d.element && x.required == d.required)) = true
    · obtain ⟨c, hc, hspec⟩ := List.any_eq_true.1 h
      exact hkeep d ⟨c, hc, by simpa using hspec⟩
    · unfold addChoice
      rw [if_neg h]
      exact ⟨_, List.mem_append_right _ List.mem_cons_self, rfl, rfl⟩
  unfold claimsFor
  suffices hgo : ∀ (xs : List Choice) (cs : List Claim),
      (d ∈ xs ∨ ∃ c ∈ cs, c.element = d.element ∧ c.required = d.required) →
      ∃ c ∈ xs.foldl (addChoice slot) cs, c.element = d.element ∧ c.required = d.required from hgo choices [] (.inl hd)
  intro xs
  induction xs with
  | nil => exact fun cs h => h.resolve_left List.not_mem_nil
  | cons x xs ih =>
    intro cs h
    refine ih _ ?_
    rcases h with hmem | hcs
    · rcases List.mem_cons.1 hmem with rfl | hmem
      · exact .inr (hadd cs)
      · exact .inl hmem
    · exact .inr (hkeep x hcs)

/-- A call that passes leaves one position for every point (R64, R66, R99, R100). -/
theorem Live.taking_agrees (ht : e.tables.flankApart = true) (hroute : Map.find route e.tables.routes = some r)
    (hp : l.CallPasses e.tables r n choices) (h : l.agreesAt m) : (l.taking e route r fleet n choices).agreesAt m := by
  obtain ⟨hpairs, hfrom⟩ := Live.flankSearch_spec hp.flank
  have hpoints : ∀ y ∈ r.requirements, (l.point y.1).isSome := by
    intro y hy
    have := hp.available y hy
    unfold Live.available at this
    cases hpt : l.point y.1 with
    | none => simp [hpt] at this
    | some _ => rfl
  by_cases hreq : ∃ y ∈ r.requirements, y.1 = m
  · obtain ⟨y, hy, rfl⟩ := hreq
    have hclaims : ∀ c ∈ l.claims, c.element = y.1 → c.required = .position y.2 := by
      have hclear := hp.clear
      simp only [Live.obstructed, Bool.or_eq_false_iff, List.any_eq_false, Bool.not_eq_true] at hclear
      exact (Live.claimedAgainst_eq_false _ _ _).1 (hclear.1.2 y hy).2
    have hnone : ∀ d ∈ choices, d.element ≠ y.1 := fun d hd he =>
      Live.chosenFrom_apart ht hroute (hfrom d hd) hy he.symm
    refine Live.agreesAt_of_position (q := y.2) (fun p hw => ?_) fun p hw => ?_
    · rcases Live.taking_wants hw with hmem | ⟨d, hd, he, _⟩ | ⟨hne | ⟨c, hc, he, hr⟩, _⟩
      · exact RouteEntry.requirement_unique hmem hy
      · exact absurd he (hnone d hd)
      · exact absurd rfl (hne y hy)
      · have := hclaims c hc he
        rw [hr] at this
        cases this
        rfl
    · rcases Live.taking_waits hpoints hw with ⟨d, hd, _, he, _⟩ | ⟨_, ⟨z, hz, he, ho⟩ | ⟨hne, _⟩⟩
      · exact absurd he (hnone d hd)
      · cases ho
        exact RouteEntry.requirement_unique (he ▸ hz) hy
      · exact absurd rfl (hne y hy)
  · have hother : ∀ y ∈ r.requirements, y.1 ≠ m := fun y hy he => hreq ⟨y, hy, he⟩
    by_cases hclaim : ∃ d ∈ choices, ∃ p, d.element = m ∧ d.required = .position p
    · obtain ⟨d, hd, q, rfl, hdq⟩ := hclaim
      have hwas := Live.chosenFrom_position (hfrom d hd) hdq
      refine Live.agreesAt_of_position (q := q) (fun p hw => ?_) fun p hw => ?_
      · rcases Live.taking_wants hw with hmem | ⟨k, hk, he, hkp⟩ | ⟨_, hw⟩
        · exact absurd rfl (hother _ hmem)
        · exact Choice.position_unique hpairs hk hd he hkp hdq
        · exact hwas p hw
      · rcases Live.taking_waits hpoints hw with ⟨k, hk, p', he, hkp, ho⟩ | ⟨hdanger, _⟩
        · cases ho
          exact Choice.position_unique hpairs hk hd he hkp hdq
        · obtain ⟨c, hc, he, hr⟩ := claimsFor_of_mem (slot := n) hd
          have := hdanger c hc he
          rw [hr, hdq] at this
          cases this
    · refine h.same (fun p hw => ?_) fun p hw => ?_
      · rcases Live.taking_wants hw with hmem | ⟨d, hd, he, hr⟩ | ⟨_, hw⟩
        · exact absurd rfl (hother _ hmem)
        · exact absurd ⟨d, hd, p, he, hr⟩ hclaim
        · exact hw
      · rcases Live.taking_waits hpoints hw with ⟨d, hd, p', he, hr, _⟩ | ⟨_, ⟨y, hy, he, _⟩ | ⟨_, hw⟩⟩
        · exact absurd ⟨d, hd, p', he, hr⟩ hclaim
        · exact absurd he (hother y hy)
        · exact hw

end Taking

/-- A point that an order takes agrees in its position (R49). -/
theorem Live.takePointOrder_agrees {e : Env} {p m : Nat} {q : Position} {r : PointRec} {l : Live} (hp : l.point p = some r)
    (hlock : r.lockedAgainst q = false) (hclaim : l.claimedAgainst p q = false) (h : l.agreesAt m) :
    (l.takePointOrder e p q r).agreesAt m := by
  have hset : Live.SamePart ElementRec.pendingOrder l (l.setElement p (.point { r with
      movement := some (q, e.clock + e.tables.moveLimit p), persistence := 0 })) :=
    Live.samePart_setElement (Live.point_some.1 hp) rfl
  have hwants {k : Position} (hw : (l.takePointOrder e p q r).wants m k) : l.wants m k := by
    refine Live.wants_same hw (Live.takePointOrder_routeLock e q hp) ?_
    rw [Live.takePointOrder, Live.placeOrder_rest]
    rfl
  by_cases hm : m = p
  · subst hm
    refine Live.agreesAt_of_position (q := q) (fun k hk => ?_) fun k hk => ?_
    · rcases hwants hk with ⟨j, hj⟩ | ⟨c, hc, he, hreq⟩
      · rw [Live.lockOn_eq, hp] at hj
        exact (PointRec.lockedAgainst_eq_false r q).1 hlock j k hj
      · have := (Live.claimedAgainst_eq_false l m q).1 hclaim c hc he
        rw [hreq] at this
        cases this
        rfl
    · rcases Live.placeOrder_waits hk with ⟨_, ho⟩ | ⟨hne, _⟩
      · cases ho
        rfl
      · exact absurd rfl hne
  · refine h.same (fun k => hwants) fun k hk => ?_
    rcases Live.placeOrder_waits hk with ⟨he, _⟩ | ⟨_, hw⟩
    · exact absurd he hm
    · exact Live.waits_before hw rfl hset

theorem Live.takeSignalOrder_agrees {e : Env} {g m : Nat} {c : Aspect} {r : SignalRec} {l : Live} (hg : l.signal g = some r)
    (h : l.agreesAt m) : ((l.takeSignalOrder e g c r).claimsProved g).agreesAt m := by
  have hset : Live.SamePart ElementRec.pendingOrder l (l.setElement g (.signal { r with
      commanded := c, proving := some (e.clock + e.tables.provingTime g) })) :=
    Live.samePart_setElement (Live.signal_some.1 hg) rfl
  refine h.same (fun k hk => ?_) fun k hk => ?_
  · have hordered : (l.takeSignalOrder e g c r).wants m k := Live.wants_of hk (fun _ => id) Live.claimsProved_claims
    refine Live.wants_same hordered (Live.takeSignalOrder_routeLock e c hg) ?_
    rw [Live.takeSignalOrder, Live.placeOrder_rest]
    rfl
  · have hordered : (l.takeSignalOrder e g c r).waits m (.position k) := hk
    rcases Live.placeOrder_waits hordered with ⟨_, ho⟩ | ⟨_, hw⟩
    · cases ho
    · exact Live.waits_before hw rfl hset

theorem LiveStep.agreesAt {e : Env} {σ : Scope} {a b : Live} {m : Nat} (s : LiveStep e σ a b)
    (ht : e.tables.flankApart = true) (hr : a.rises) (h : a.agreesAt m) : b.agreesAt m := by
  cases s with
  | offer =>
    exact h.same (fun p hp => Live.wants_same hp (Live.samePart_of_elements (by simp)) (by simp))
      (fun q hq => Live.waits_before hq (by simp) (Live.samePart_of_elements (by simp)))
  | orderPoint p q r hp hlock hclaim => exact Live.takePointOrder_agrees hp hlock hclaim h
  | orderSignal g c r hg => exact Live.takeSignalOrder_agrees hg h
  | orderSent =>
    refine h.same (fun _ => id) fun q hq => ?_
    exact hq.imp_left fun ⟨x, hx, hspec⟩ => ⟨x, List.mem_of_mem_tail hx, hspec⟩
  | admitted =>
    refine h.same (fun p hp => Live.wants_same hp (Live.admitPending_bare e.tables a).routeLock ?_)
      (fun q => Live.admitPending_waits hr)
    rw [Live.admitPending_rest]
  | empty n x =>
    exact h.same (fun p hp => Live.wants_of hp (fun k => Live.lockOn_emptied)
        (fun c hc => ⟨c, List.mem_of_mem_filter hc, rfl, rfl⟩))
      (fun q hq => Live.waits_before hq rfl (Live.emptySlot_pending _ _ _))
  | release n secs ps =>
    exact h.same (fun p hp => Live.wants_of hp (fun k => Live.lockOn_unlocked (l := a.unlockSections n secs))
        (fun c hc => ⟨c, hc, rfl, rfl⟩))
      (fun q hq => Live.waits_before hq rfl (Live.samePart_of_mapped (fun p r => ElementRec.unlocked n ps p r)
        (Live.unlockPoints_elements n ps (a.unlockSections n secs)) (fun p r => r.unlocked_pendingOrder n ps p)))
  | entries r n is =>
    refine h.same (fun p hp => Live.wants_of hp (fun _ => id) fun c hc => ?_) (fun _ => id)
    obtain ⟨d, hd, rfl⟩ := List.mem_map.1 (List.mem_of_mem_filter hc)
    exact ⟨d, hd, by split <;> rfl, by split <;> rfl⟩
  | taken route r fleet n choices _ hroute hcheck =>
    exact Live.taking_agrees ht hroute (Live.checkCall_passes.1 hcheck) h
  | element n old new _ hold hlike =>
    exact h.same (fun p hp => Live.wants_same hp (Live.samePart_setElement hold hlike.routeLock) rfl)
      (fun q hq => Live.waits_before hq rfl (Live.samePart_setElement hold hlike.pendingOrder))
  | shown n old new _ hold hlike =>
    refine h.same (fun p hp => ?_)
      (fun q hq => Live.waits_before hq rfl (Live.samePart_setElement hold hlike.pendingOrder))
    have hset : (a.setElement n new).wants m p := Live.wants_of hp (fun _ => id) Live.claimsProved_claims
    exact Live.wants_same hset (Live.samePart_setElement hold hlike.routeLock) rfl
  | _ => exact h

/-! ### DANGER at every signal but those that clear (R87) -/

/-- The commanded aspect of an element, where it is a signal. -/
def Live.commandedAt (l : Live) (g : Nat) : Option Aspect := (Map.find g l.elements).bind ElementRec.commanded

/-- A slot in CLEARING or CLEAR has the signal as entry signal (R87). -/
def Live.clearedBy (t : Tables) (l : Live) (g : Nat) : Prop :=
  ∃ n x, l.slot n = some x ∧ x.clears = true ∧ t.entryOf x = some g

/-- Every signal is commanded DANGER but those that rest gives and the entry signals of slots that clear (R87). -/
def Live.resting (t : Tables) (rest : Nat → Prop) (l : Live) : Prop :=
  ∀ g c, l.commandedAt g = some c → c = .danger ∨ rest g ∨ l.clearedBy t g

theorem Live.SamePart.commandedAt {a b : Live} (h : Live.SamePart ElementRec.commanded a b) (g : Nat) :
    b.commandedAt g = a.commandedAt g := by
  have hg := h g
  unfold Live.commandedAt
  cases ha : Map.find g a.elements <;> cases hb : Map.find g b.elements <;> simp_all

theorem Live.commandedAt_signal {l : Live} {g : Nat} {r : SignalRec} (h : l.signal g = some r) :
    l.commandedAt g = some r.commanded := by
  rw [Live.commandedAt, Live.signal_some.1 h]
  rfl

theorem Live.signal_of_commandedAt {l : Live} {g : Nat} {c : Aspect} (h : l.commandedAt g = some c) :
    ∃ r, l.signal g = some r ∧ r.commanded = c := by
  obtain ⟨r, hr, hc⟩ := Option.bind_eq_some_iff.1 h
  cases r with
  | signal r => exact ⟨r, Live.signal_some.2 hr, Option.some.inj hc⟩
  | point r => cases hc
  | head r => cases hc

theorem Live.commandedAt_of_find {a b : Live} {g n : Nat} {c : Option Aspect}
    (h : (Map.find n b.elements).map ElementRec.commanded =
      if n = g then some c else (Map.find n a.elements).map ElementRec.commanded) :
    b.commandedAt n = if n = g then c else a.commandedAt n := by
  unfold Live.commandedAt
  split at h <;> cases hb : Map.find n b.elements <;> simp_all
  cases ha : Map.find n a.elements <;> simp_all

/-- The commanded aspects after a signal order. -/
theorem Live.orderedSignal_commandedAt {e : Env} {g : Nat} (c : Aspect) {r : SignalRec} {l : Live}
    (hg : l.signal g = some r) (n : Nat) :
    ((l.takeSignalOrder e g c r).claimsProved g).commandedAt n = if n = g then some c else l.commandedAt n :=
  Live.commandedAt_of_find (Live.takeSignalOrder_commanded e c hg n)

/-- A single change but a signal order keeps the commanded aspects. -/
theorem LiveStep.commandedAt {e : Env} {σ : Scope} {a b : Live} (s : LiveStep e σ a b) :
    (∀ n, b.commandedAt n = a.commandedAt n) ∨ ∃ g c r, a.signal g = some r ∧
      (c = .danger ∨ a.clearedBy e.tables g) ∧ b = (a.takeSignalOrder e g c r).claimsProved g := by
  cases s with
  | orderSignal g c r hg hc => exact .inr ⟨g, c, r, hg, hc, rfl⟩
  | offer => exact .inl (Live.samePart_of_elements (by simp)).commandedAt
  | orderPoint p q r hp => exact .inl (Live.takePointOrder_commanded e q hp).commandedAt
  | admitted => exact .inl (Live.admitPending_bare _ _).commanded.commandedAt
  | empty n x =>
    refine .inl (Live.SamePart.commandedAt fun m => ?_)
    rw [Live.emptySlot_find, Option.map_map]
    refine congrArg (fun f => Option.map f _) (funext fun r => ?_)
    simp only [Function.comp, ElementRec.left_commanded, ElementRec.unlocked_commanded]
  | release n secs ps =>
    exact .inl (Live.samePart_of_mapped (fun p r => ElementRec.unlocked n ps p r)
      (Live.unlockPoints_elements n ps (a.unlockSections n secs)) (fun p r => r.unlocked_commanded n ps p)).commandedAt
  | taken route r fleet n choices => exact .inl (Live.taking_commanded e route r fleet n choices a).commandedAt
  | element n old new _ hold hlike => exact .inl (Live.samePart_setElement hold hlike.commanded).commandedAt
  | shown n old new _ hold hlike => exact .inl (Live.samePart_setElement hold hlike.commanded).commandedAt
  | _ => exact .inl fun _ => rfl

/-- A single change takes the signal from slots that clear over it only when it may rest (R87). -/
theorem LiveStep.clearedBy {e : Env} {σ : Scope} {a b : Live} (s : LiveStep e σ a b) (hσ : σ.founded) {g : Nat}
    (h : a.clearedBy e.tables g) : σ.rests g ∨ a.atDanger g ∨ b.clearedBy e.tables g := by
  obtain ⟨m, x, hx, hc, hg⟩ := h
  have hsame (hs : b.slots = a.slots) : σ.rests g ∨ a.atDanger g ∨ b.clearedBy e.tables g :=
    .inr (.inr ⟨m, x, by rw [Live.slot_congr hs]; exact hx, hc, hg⟩)
  cases s with
  | slot n f hroute hmay =>
    by_cases hm : m = n
    · subst hm
      rcases hmay x hx with hclears | hrest
      · refine .inr (.inr ⟨m, f x, ?_, hclears, ?_⟩)
        · simp [Live.slot, show Map.find m a.slots = some x from hx]
        · rw [Tables.entryOf, hroute]
          exact hg
      · exact (hrest hσ hc g hg).imp_right .inl
    · refine .inr (.inr ⟨m, x, ?_, hc, hg⟩)
      simpa [Live.slot, Map.find_update_ne hm] using hx
  | empty n y hy hmay =>
    by_cases hm : m = n
    · subst hm
      rw [hx] at hy
      cases hy
      exact (hmay hσ hc g hg).imp_right .inl
    · exact .inr (.inr ⟨m, x, (Map.find_drop_ne hm _).trans hx, hc, hg⟩)
  | taken route r fleet n choices _ _ hcheck =>
    refine .inr (.inr ⟨m, x, ?_, hc, hg⟩)
    have hfree := (Live.freeSlotNumber_spec (Live.checkCall_passes.1 hcheck).free).2
    rw [Live.taking_rest]
    exact (Map.find_put_ne (by rintro rfl; rw [hx] at hfree; cases hfree) _ _).trans hx
  | offer => exact hsame (by simp)
  | orderPoint p q r => exact hsame (by rw [Live.takePointOrder, Live.placeOrder_slots]; rfl)
  | orderSignal g c r => exact hsame (by rw [Live.claimsProved, Live.takeSignalOrder, Live.placeOrder_slots]; rfl)
  | admitted => exact hsame (by rw [Live.admitPending_rest])
  | _ => exact hsame rfl

theorem LiveStep.resting {e : Env} {σ : Scope} {a b : Live} (s : LiveStep e σ a b) (hσ : σ.founded)
    (h : a.resting e.tables σ.rests) : b.resting e.tables σ.rests := by
  have hkeep {g : Nat} {c : Aspect} (hc : a.commandedAt g = some c) :
      c = .danger ∨ σ.rests g ∨ b.clearedBy e.tables g := by
    rcases h g c hc with hd | hr | hcleared
    · exact .inl hd
    · exact .inr (.inl hr)
    · rcases s.clearedBy hσ hcleared with hr | hd | hb
      · exact .inr (.inl hr)
      · obtain ⟨r, hr, rfl⟩ := Live.signal_of_commandedAt hc
        exact .inl (hd r hr)
      · exact .inr (.inr hb)
  rcases s.commandedAt with hsame | ⟨g', c', r, hg', hfor, rfl⟩
  · exact fun g c hc => hkeep ((hsame g).symm.trans hc)
  · intro g c hc
    rw [Live.orderedSignal_commandedAt c' hg'] at hc
    split at hc
    · next hg =>
      cases hc
      refine hfor.imp_right fun ⟨n, x, hx, hspec⟩ => .inr ⟨n, x, ?_, hg ▸ hspec⟩
      rw [← hx]
      exact Live.slot_congr (by rw [Live.claimsProved, Live.takeSignalOrder, Live.placeOrder_slots]; rfl) n
    · exact hkeep hc

/-! ### The laws together -/

/-- The laws of the orders, where rest gives the signals that are still to be put to DANGER. -/
structure Live.Orderly (t : Tables) (rest : Nat → Prop) (l : Live) : Prop where
  rises : l.rises
  founded : l.Founded t
  placed : l.Placed
  agrees : ∀ n, l.agreesAt n
  resting : l.resting t rest
  present : ∀ g c, l.commandedAt g = some c → t.isSignal g = true

theorem LiveStep.orderly {e : Env} {σ : Scope} {a b : Live} (s : LiveStep e σ a b) (hσ : σ.founded)
    (ht : e.tables.flankApart = true) (h : a.Orderly e.tables σ.rests) : b.Orderly e.tables σ.rests := by
  refine ⟨s.rises h.rises, s.founded h.founded, s.placed h.rises h.placed, fun n => s.agreesAt ht h.rises (h.agrees n),
    s.resting hσ h.resting, fun g c hc => ?_⟩
  rcases s.commandedAt with hsame | ⟨g', c', r, hg', _, rfl⟩
  · exact h.present g c ((hsame g).symm.trans hc)
  · rw [Live.orderedSignal_commandedAt c' hg'] at hc
    split at hc
    · next hg => exact hg ▸ h.present g' _ (Live.commandedAt_signal hg')
    · exact h.present g c hc

/-- The scope in which the signals' rest is followed, but for those that are put to DANGER later. -/
def Scope.following (rests : Nat → Prop) : Scope := { founded := True, takes := True, measures := True, rests := rests }

/-- What a run that follows the signals' rest keeps. -/
theorem Evolves.orderly {e : Env} {rests : Nat → Prop} {a b : Live} (h : Evolves e (Scope.following rests) a b)
    (ht : e.tables.flankApart = true) (ha : a.Orderly e.tables rests) : b.Orderly e.tables rests :=
  h.keeps (P := fun l => l.Orderly e.tables rests) (fun _ _ s => s.orderly trivial ht) (fun _ => ha.founded) ha

end Sys2Proof.Machine
end

section
/-! PROOFS. Every step keeps the laws of the orders (R55, R56, R79, R87): through a restart, where slots leave CLEARING and CLEAR
before their signals are put to DANGER (R129, R165), through a load and through a commit. -/

namespace Sys2Proof.Machine

/-! ### What a slot's own operations leave of other slots -/

/-- Between two moments of a work no slot but n changes. -/
def Work.spares (n : Nat) (w v : Work) : Prop := ∀ m, m ≠ n → v.live.slot m = w.live.slot m

section Spares
variable {e : Env} {n : Nat}

theorem Work.spares.refl (w : Work) : w.spares n w := fun _ _ => rfl

theorem Work.spares.trans {w v u : Work} (h : w.spares n v) (k : v.spares n u) : w.spares n u :=
  fun m hm => (k m hm).trans (h m hm)

theorem Work.spares_of_slots {w v : Work} (h : v.live.slots = w.live.slots) : w.spares n v :=
  fun m _ => Live.slot_congr h m

theorem Work.slotTo_spares (f : Slot → Slot) (w : Work) : w.spares n (w.slotTo n f) := fun m hm => by
  rw [Work.slot_slotTo]
  cases w.live.slot m <;> simp [hm]

theorem Work.withSlot_spares (f : Slot → RouteEntry → Work → Work) (w : Work) (h : ∀ x r, w.spares n (f x r w)) :
    w.spares n (w.withSlot e n f) := by
  unfold Work.withSlot
  split
  · exact .refl w
  · split
    · exact .refl w
    · exact h _ _

theorem Work.freeSlot_spares (w : Work) : w.spares n (w.freeSlot e n) := by
  unfold Work.freeSlot
  split
  · exact .refl w
  · intro m hm
    simp only [Work.scanDue_live, Work.placeDue_live, Work.report_live, Work.on_live, Live.slot, Live.offer_slots,
      Live.emptySlot_slots]
    exact Map.find_drop_ne hm _

theorem Work.freeIfDone_spares (w : Work) : w.spares n (w.freeIfDone e n) :=
  Work.withSlot_spares _ w fun _ _ => by
    split
    · exact Work.freeSlot_spares w
    · exact .refl w

theorem Work.releaseSections_spares (secs : List Nat) (w : Work) : w.spares n (w.releaseSections e n secs) :=
  Work.spares_of_slots rfl

theorem Work.releaseOverlap_spares (secs : List Nat) (w : Work) : w.spares n (w.releaseOverlap e n secs) := by
  refine (Work.releaseSections_spares (e := e) secs w).trans (Work.withSlot_spares _ _ fun _ _ => ?_)
  refine .trans ?_ (Work.freeIfDone_spares _)
  split
  · exact Work.slotTo_spares _ _
  · exact .refl _

theorem Work.overlapExpire_spares (w : Work) : w.spares n (w.overlapExpire e n) :=
  Work.withSlot_spares _ w fun _ _ => by
    split
    · exact (Work.slotTo_spares _ w).trans (Work.releaseOverlap_spares _ _)
    · exact .refl w

theorem Work.startOverlap_spares (w : Work) : w.spares n (w.startOverlap e n) :=
  Work.withSlot_spares _ w fun _ _ => by
    split
    · dsimp only
      split
      · exact (Work.slotTo_spares _ w).trans (Work.overlapExpire_spares _)
      · exact Work.slotTo_spares _ w
    · exact .refl w

theorem Work.releaseTest_spares (w : Work) : w.spares n (w.releaseTest e n) :=
  Work.withSlot_spares _ w fun _ _ => by
    split
    · split
      · exact .refl w
      · refine .trans ?_ (Work.freeIfDone_spares _)
        exact fun m hm => (Work.slotTo_spares _ _ m hm).trans rfl
    · exact .refl w

theorem Work.stopFleet_spares (w : Work) : w.spares n (w.stopFleet e n) :=
  ((Work.slotTo_spares _ w).trans (Work.releaseTest_spares _)).trans (Work.startOverlap_spares _)

theorem Work.timedRelease_spares (cause : ReleaseCause) (seconds : Nat) (w : Work) :
    w.spares n (w.timedRelease e n cause seconds) := by
  unfold Work.timedRelease
  split
  · exact .refl w
  · dsimp only
    have hset : ∀ (f : Slot → Slot) (b : Bool), w.spares n ((w.slotTo n f).scanIf b) := fun f b => by
      cases b
      · exact Work.slotTo_spares f w
      · exact Work.slotTo_spares f w
    split
    · exact (hset _ _).trans (Work.freeSlot_spares _)
    · exact hset _ _

/-- A slot's treatment at restart leaves every other slot (R129). -/
theorem Work.restartSlot_spares (w : Work) : w.spares n (w.restartSlot e n) := by
  unfold Work.restartSlot
  split
  · exact .refl w
  · split
    · exact Work.freeSlot_spares w
    · exact Work.freeSlot_spares w
    · exact Work.freeSlot_spares w
    · exact (Work.slotTo_spares _ w).trans (Work.timedRelease_spares _ _ _)
    · exact (Work.slotTo_spares _ w).trans (Work.timedRelease_spares _ _ _)
    · exact (Work.slotTo_spares _ w).trans (Work.timedRelease_spares _ _ _)
    · exact Work.withSlot_spares _ w fun _ _ => (Work.slotTo_spares _ w).trans (Work.stopFleet_spares _)
    · exact Work.slotTo_spares _ w

end Spares

/-! ### Restart (R129, R165) -/

theorem Live.clearingEntry_of_slot {t : Tables} {g n : Nat} {x : Slot} {l : Live} (hx : l.slot n = some x)
    (hc : x.clears = true) (hg : t.entryOf x = some g) : l.clearingEntry t g = true := by
  refine List.any_eq_true.2 ⟨_, Map.mem_of_find hx, ?_⟩
  simp only [Slot.clears, Bool.or_eq_true, beq_iff_eq] at hc
  rcases hc with hc | hc <;> simp [hc, hg]

theorem Work.dropRequests_slots (e : Env) (w : Work) : (w.dropRequests e).live.slots = w.live.slots := by
  have go (qs : List Request) (v : Work) : (qs.foldl (fun w q =>
      w.report e .c .requestDropped .route q.route (some q.tag)) v).live.slots = v.live.slots := by
    induction qs generalizing v with
    | nil => rfl
    | cons q qs ih => rw [List.foldl_cons, ih, Work.report_live, Live.offer_slots]
  exact go _ _

/-- The slots taken in turn at restart leave CLEARING and CLEAR with their signals named (R129, R165). -/
theorem Work.restartSlots_evolves {e : Env} {σ : Scope} {before : Live}
    (hrests : ∀ g, before.clearingEntry e.tables g = true → σ.rests g)
    (ns : List Nat) (hns : ns.Nodup) (w : Work) (hw : ∀ n ∈ ns, w.live.slot n = before.slot n) :
    Evolves e σ w.live (ns.foldl (Work.restartSlot e) w).live := by
  induction ns generalizing w with
  | nil => exact .refl _
  | cons n ns ih =>
    obtain ⟨hn, hns⟩ := List.nodup_cons.1 hns
    have hfirst : Evolves e σ w.live (Work.restartSlot e w n).live :=
      Work.restartSlot_evolves n w fun x hx hc g hg => hrests g
        (Live.clearingEntry_of_slot ((hw n List.mem_cons_self).symm.trans hx) hc hg)
    refine hfirst.trans (ih hns _ fun m hm => ?_)
    rw [Work.restartSlot_spares w m (by rintro rfl; exact hn hm)]
    exact hw m (List.mem_cons_of_mem _ hm)

theorem Work.restartRoutes_following {e : Env} {σ : Scope} (hm : σ.measures) (w : Work) (hslots : (Map.ids w.live.slots).Nodup)
    (hrests : ∀ g, w.live.clearingEntry e.tables g = true → σ.rests g) : Evolves e σ w.live (w.restartRoutes e).live := by
  unfold Work.restartRoutes
  dsimp only
  refine .after (Work.settled_evolves _) ?_
  have hdrop := Work.dropRequests_slots e w
  refine (Work.dropRequests_evolves (e := e) (σ := σ) w).trans (.trans (Work.restartSlots_evolves hrests
    (Map.ids (w.dropRequests e).live.slots) (by rw [hdrop]; exact hslots) (w.dropRequests e)
    (fun n _ => Live.slot_congr hdrop n)) ?_)
  refine .after LiveStep.flags.evolves ?_
  refine .after (LiveStep.links _ (Live.forgetAsks_sameFlags _) (.inl hm)).evolves ?_
  exact (LiveStep.arm none (by simp)).evolves

/-- The commanded aspects after a signal order (R52). -/
theorem Work.orderSignal_commandedAt (e : Env) (g : Nat) (a : Aspect) (w : Work) (n : Nat) :
    (w.orderSignal e g a).live.commandedAt n =
      if n = g then (w.live.commandedAt n).map (fun _ => a) else w.live.commandedAt n := by
  unfold Work.orderSignal
  split
  · next hnone =>
    split
    · next hn =>
      cases hc : w.live.commandedAt n with
      | none => rfl
      | some c =>
        obtain ⟨r, hr, _⟩ := Live.signal_of_commandedAt hc
        rw [hn, hnone] at hr
        cases hr
    · rfl
  · next r hr =>
    rw [Work.reprove_live]
    refine (Live.orderedSignal_commandedAt a hr n).trans ?_
    split
    · next hn => rw [hn, Live.commandedAt_signal hr, Option.map_some]
    · rfl

/-- The signals of a list stand commanded DANGER once they are ordered so, and the others as before. -/
theorem Work.orderDanger_commandedAt (e : Env) (gs : List Nat) (w : Work) (n : Nat) :
    (w.orderDanger e gs).live.commandedAt n =
      if n ∈ gs then (w.live.commandedAt n).map (fun _ => .danger) else w.live.commandedAt n := by
  unfold Work.orderDanger
  induction gs generalizing w with
  | nil => rfl
  | cons g gs ih =>
    rw [List.foldl_cons, ih, Work.orderSignal_commandedAt]
    by_cases hn : n = g <;> by_cases hm : n ∈ gs <;> simp [hn, hm, Function.comp_def]

theorem Tables.mem_signals {t : Tables} {g : Nat} (h : t.isSignal g = true) : g ∈ t.signals := by
  refine List.mem_map.2 ?_
  unfold Tables.isSignal at h
  cases hf : Map.find g t.elements with
  | none => simp [hf] at h
  | some x =>
    refine ⟨(g, x), List.mem_filter.2 ⟨Map.mem_of_find hf, ?_⟩, rfl⟩
    rw [hf] at h
    simp only [Tables.isSignal, hf]
    exact h

/-- A restart puts to DANGER each signal whose slot left CLEARING or CLEAR in it (R129, R165). -/
theorem Work.restart_orderly {e : Env} {w : Work} (ht : e.tables.flankApart = true)
    (h : w.live.Orderly e.tables (fun _ => False)) : (w.restart e).live.Orderly e.tables (fun _ => False) := by
  let rests (g : Nat) : Prop := w.live.clearingEntry e.tables g = true
  have hstart : w.live.Orderly e.tables rests :=
    { h with resting := fun g c hc => (h.resting g c hc).imp_right fun hr => .inr (hr.resolve_left id) }
  have hslots : (Map.ids w.live.slots).Nodup := h.founded.slotsRise.imp Nat.ne_of_lt
  have hroutes : (w.restartRoutes e).live.Orderly e.tables rests :=
    (Work.restartRoutes_following (σ := Scope.following rests) trivial w hslots fun _ => id).orderly ht hstart
  let signals := Live.restartSignals e.tables w.live (w.restartRoutes e).live
  have hordered : ((w.restartRoutes e).orderDanger e signals).live.Orderly e.tables rests :=
    (Work.orderDanger_evolves (σ := Scope.following rests) signals _).orderly ht hroutes
  have hdone : ((w.restartRoutes e).orderDanger e signals).live.Orderly e.tables (fun _ => False) := by
    refine { hordered with resting := fun g c hc => ?_ }
    rcases hordered.resting g c hc with hd | hr | hcleared
    · exact .inl hd
    · have hmem : g ∈ signals := by
        refine List.mem_filter.2 ⟨Tables.mem_signals (hordered.present g c hc), ?_⟩
        rw [show w.live.clearingEntry e.tables g = true from hr, Bool.or_true]
      rw [Work.orderDanger_commandedAt, if_pos hmem] at hc
      obtain ⟨_, _, rfl⟩ := Option.map_eq_some_iff.1 hc
      exact .inl rfl
    · exact .inr (.inr hcleared)
  exact (Work.report_evolves (σ := Scope.following fun _ => False) _ _ _ _ _ _).orderly ht hdone

/-! ### The laws of the orders -/

/-- The laws of the orders, of all that a step writes. -/
structure State.Ordered (s : State) : Prop where
  orderly : s.live.Orderly s.store.active (fun _ => False)
  active : s.store.active.flankApart = true
  activeRises : Map.rising s.store.active.elements = true
  stagedRises : Map.rising s.store.staging.elements = true
  staged : ∀ c, s.store.commit = some c → c.phase ≠ .validation → s.store.staging.flankApart = true
  image : ∀ i, s.nv.image = some i → i.tables.flankApart = true ∧ Map.rising i.tables.elements = true

theorem Live.restAtDanger_iff {t : Tables} {l : Live} (hs : (Map.ids l.slots).Pairwise (· < ·)) :
    l.restAtDanger t = true ↔ l.resting t (fun _ => False) := by
  have hcleared (g : Nat) : l.slots.any (fun x => (x.2.state == .clearing || x.2.state == .clear) &&
      t.entryOf x.2 == some g) = true ↔ l.clearedBy t g := by
    simp only [List.any_eq_true, Bool.and_eq_true, beq_iff_eq]
    constructor
    · rintro ⟨x, hx, hc, hg⟩
      exact ⟨x.1, x.2, Map.find_of_mem (hs.imp Nat.ne_of_lt) hx, hc, hg⟩
    · rintro ⟨n, x, hx, hc, hg⟩
      exact ⟨(n, x), Map.mem_of_find hx, hc, hg⟩
  simp only [Live.restAtDanger, List.all_eq_true, Option.all_eq_true, Bool.or_eq_true (_ == _), hcleared, beq_iff_eq]
  constructor
  · intro h g c hc
    obtain ⟨r, hr, rfl⟩ := Live.signal_of_commandedAt hc
    have hin : g ∈ Map.ids l.elements := List.mem_map_of_mem (f := fun x => x.1) (Map.mem_of_find (Live.signal_some.1 hr))
    exact (h g hin r hr).imp_right .inr
  · intro h g _ r hr
    exact (h g r.commanded (Live.commandedAt_signal hr)).imp_right fun hr => hr.resolve_left id

/-- What the law of the founding says of the element records. -/
theorem Live.signalsFounded_iff {t : Tables} {l : Live} (hr : l.rises) (hs : (Map.ids l.slots).Pairwise (· < ·)) :
    l.elements.all (fun x => match x.2 with
      | .signal r => t.isSignal x.1 && r.entryOf.all (fun n => (l.slot n).any (fun y => t.entryOf y == some x.1))
      | _ => true) = true ↔ l.Founded t ∧ ∀ g c, l.commandedAt g = some c → t.isSignal g = true := by
  rw [List.all_eq_true]
  constructor
  · intro h
    have hsignal {g : Nat} {r : SignalRec} (hg : l.signal g = some r) := h _ (Map.mem_of_find (Live.signal_some.1 hg))
    simp only [Bool.and_eq_true, Option.all_eq_true, Option.any_eq_true, beq_iff_eq] at hsignal
    refine ⟨⟨hs, fun g r n hg hn => (hsignal hg).2 n hn⟩, fun g c hc => ?_⟩
    obtain ⟨r, hg, _⟩ := Live.signal_of_commandedAt hc
    exact (hsignal hg).1
  · rintro ⟨hfounded, hpresent⟩ ⟨g, x⟩ hx
    cases x with
    | signal r =>
      have hg : l.signal g = some r := Live.signal_some.2 (Map.find_of_mem (hr.imp Nat.ne_of_lt) hx)
      simp only [Bool.and_eq_true, Option.all_eq_true, Option.any_eq_true, beq_iff_eq]
      exact ⟨hpresent g _ (Live.commandedAt_signal hg), fun n hn => hfounded.entries g r n hg hn⟩
    | point r => rfl
    | head r => rfl

theorem State.ordersLawful_iff (s : State) :
    s.ordersLawful = true ↔ s.Ordered ∧ s.trafficLawful = true ∧ s.commitLawful = true := by
  have hstaged : s.store.commit.all (fun c => c.phase == .validation || s.store.staging.flankApart) = true ↔
      ∀ c, s.store.commit = some c → c.phase ≠ .validation → s.store.staging.flankApart = true := by
    simp only [Option.all_eq_true, Bool.or_eq_true, beq_iff_eq]
    exact forall₂_congr fun c _ => or_iff_not_imp_left
  have himage : s.nv.image.all (fun i => i.tables.flankApart && Map.rising i.tables.elements) = true ↔
      ∀ i, s.nv.image = some i → i.tables.flankApart = true ∧ Map.rising i.tables.elements = true := by
    simp only [Option.all_eq_true, Bool.and_eq_true]
  simp only [State.ordersLawful, State.ordersFounded, Bool.and_eq_true, Live.ordersOnce_iff, Live.pointsAgree_iff, hstaged]
  rw [himage]
  constructor
  · rintro ⟨⟨⟨⟨⟨hplaced, hagree⟩, hrest⟩, ⟨⟨⟨⟨⟨⟨hactive, har⟩, hsr⟩, hst⟩, him⟩, hrise⟩, hslots⟩, hfound⟩, htraffic⟩, hcommit⟩
    rw [Map.rising_iff] at hrise hslots
    obtain ⟨hfounded, hpresent⟩ := (Live.signalsFounded_iff hrise hslots).1 hfound
    exact ⟨⟨⟨hrise, hfounded, hplaced, hagree, (Live.restAtDanger_iff hslots).1 hrest, hpresent⟩, hactive, har, hsr, hst, him⟩,
      htraffic, hcommit⟩
  · rintro ⟨⟨⟨hrise, hfounded, hplaced, hagree, hrest, hpresent⟩, hactive, har, hsr, hst, him⟩, htraffic, hcommit⟩
    exact ⟨⟨⟨⟨⟨hplaced, hagree⟩, (Live.restAtDanger_iff hfounded.slotsRise).2 hrest⟩,
      ⟨⟨⟨⟨⟨⟨hactive, har⟩, hsr⟩, hst⟩, him⟩, Map.rising_iff.2 hrise⟩, Map.rising_iff.2 hfounded.slotsRise⟩,
      (Live.signalsFounded_iff hrise hfounded.slotsRise).2 ⟨hfounded, hpresent⟩⟩, htraffic⟩, hcommit⟩

/-! ### Moves -/

/-- New element records, with no slot in use: the records of a load, and those that a commit keeps or renews. -/
structure Live.Renews (t : Tables) (a b : Live) : Prop where
  records : ∀ x ∈ b.elements, (∃ y, Map.find x.1 t.elements = some y ∧ y.renewed = some x.2) ∨
    (Map.find x.1 a.elements = some x.2 ∧ ∀ c, a.commandedAt x.1 = some c → t.isSignal x.1 = true)
  rises : b.rises
  queue : b.queue.Sublist a.queue
  rest : b.slots = [] ∧ b.claims = a.claims

theorem ElementEntry.renewed_pendingOrder {x : ElementEntry} {r : ElementRec} (h : x.renewed = some r) : r.pendingOrder = none := by
  unfold ElementEntry.renewed at h
  split at h <;> cases h <;> rfl

theorem ElementEntry.renewed_entryOf {x : ElementEntry} {r : ElementRec} (h : x.renewed = some r) : r.entryOf = none := by
  unfold ElementEntry.renewed at h
  split at h <;> cases h <;> rfl

/-- A record of a signal is renewed commanded DANGER, from a signal's entry. -/
theorem ElementEntry.renewed_commanded {x : ElementEntry} {r : ElementRec} {c : Aspect} (h : x.renewed = some r)
    (hc : r.commanded = some c) : c = .danger ∧ ∃ p, x.body = .signal p := by
  unfold ElementEntry.renewed at h
  split at h
  · cases h
    cases hc
  · next p hp =>
    cases h
    cases hc
    exact ⟨rfl, p, hp⟩
  · cases h
    cases hc
  · cases h

theorem Tables.isSignal_of_body {t : Tables} {n p : Nat} {x : ElementEntry} (hx : Map.find n t.elements = some x)
    (hp : x.body = .signal p) : t.isSignal n = true := by
  obtain ⟨loc, sup, body⟩ := x
  cases hp
  simp [Tables.isSignal, hx]

/-- Records kept or renewed with no slot in use keep the laws of the orders (R61). -/
theorem Live.Orderly.renews {old t : Tables} {a b : Live} (h : a.Orderly old (fun _ => False)) (k : a.Renews t b)
    (hrest : a.slots = []) : b.Orderly t (fun _ => False) := by
  have hnone : ∀ n x, a.slot n ≠ some x := fun n x hx => by
    rw [Live.slot, hrest] at hx
    cases hx
  have hrecord {n : Nat} {r : ElementRec} (hf : Map.find n b.elements = some r) := k.records _ (Map.mem_of_find hf)
  have hlock {n : Nat} {j : Nat × Position} (hj : b.lockOn n = some j) : a.lockOn n = some j := by
    obtain ⟨r, hr, hlock⟩ := Option.bind_eq_some_iff.1 hj
    rcases hrecord hr with ⟨y, _, hy⟩ | ⟨hkept, _⟩
    · rw [ElementEntry.renewed_routeLock hy] at hlock
      cases hlock
    · exact Option.bind_eq_some_iff.2 ⟨r, hkept, hlock⟩
  have hpending {n : Nat} {o : Order} (ho : b.pendingOrder n = some o) : a.pendingOrder n = some o := by
    obtain ⟨r, hr, hpend⟩ := Option.bind_eq_some_iff.1 ho
    rcases hrecord hr with ⟨y, _, hy⟩ | ⟨hkept, _⟩
    · rw [ElementEntry.renewed_pendingOrder hy] at hpend
      cases hpend
    · exact Option.bind_eq_some_iff.2 ⟨r, hkept, hpend⟩
  have hcommanded {g : Nat} {c : Aspect} (hc : b.commandedAt g = some c) : c = .danger ∧ t.isSignal g = true := by
    obtain ⟨r, hr, hcom⟩ := Option.bind_eq_some_iff.1 hc
    rcases hrecord hr with ⟨y, hy, hren⟩ | ⟨hkept, hsignal⟩
    · obtain ⟨hd, p, hp⟩ := ElementEntry.renewed_commanded hren hcom
      exact ⟨hd, Tables.isSignal_of_body hy hp⟩
    · have hold : a.commandedAt g = some c := Option.bind_eq_some_iff.2 ⟨r, hkept, hcom⟩
      refine ⟨?_, hsignal c hold⟩
      rcases h.resting g c hold with hd | hf | ⟨n, x, hx, _⟩
      · exact hd
      · exact hf.elim
      · exact absurd hx (hnone n x)
  refine ⟨k.rises, .of_entryOf ?_ ?_, ⟨?_, ?_⟩, fun n => ?_, fun g c hc => .inl (hcommanded hc).1, fun g c hc => (hcommanded hc).2⟩
  · rw [k.rest.1]
    exact List.Pairwise.nil
  · intro g n hg
    obtain ⟨r, hr, hentry⟩ := Option.bind_eq_some_iff.1 hg
    rcases hrecord hr with ⟨y, _, hy⟩ | ⟨hkept, _⟩
    · rw [ElementEntry.renewed_entryOf hy] at hentry
      cases hentry
    · obtain ⟨y, hy, _⟩ := h.founded.entryOf (Option.bind_eq_some_iff.2 ⟨r, hkept, hentry⟩)
      exact absurd hy (hnone n y)
  · exact h.placed.nodup.sublist (k.queue.map _)
  · intro x hx
    refine Option.eq_none_iff_forall_ne_some.2 fun o ho => ?_
    have := hpending ho
    rw [h.placed.apart x (k.queue.subset hx)] at this
    cases this
  · refine (h.agrees n).same (fun p hp => Live.wants_of hp (fun _ => hlock) fun c hc => ⟨c, k.rest.2 ▸ hc, rfl, rfl⟩) fun q hq => ?_
    exact hq.imp (fun ⟨x, hx, hspec⟩ => ⟨x, k.queue.subset hx, hspec⟩) hpending

theorem Map.ids_filterMap {α β : Type} (f : Nat × α → Option (Nat × β)) (hf : ∀ x y, f x = some y → y.1 = x.1) (m : Map α) :
    (Map.ids (m.filterMap f)).Sublist (Map.ids m) := by
  induction m with
  | nil => exact .slnil
  | cons x m ih =>
    rw [List.filterMap_cons]
    cases hx : f x with
    | none => exact ih.cons _
    | some y =>
      have hy := hf x y hx
      simp only [Map.ids, List.map_cons, hy] at ih ⊢
      exact ih.cons_cons _

theorem State.Ordered.creates {s : State} {i : Image} (h : s.Ordered) (hrest : s.live.atRest) (hnone : s.store.commit = none)
    (himage : s.nv.image = some i) : (s.createsRecords i).Ordered := by
  obtain ⟨hapart, hrises⟩ := h.image i himage
  have hnodup := (Map.rising_iff.1 hrises).imp Nat.ne_of_lt
  have hrenews : s.live.Renews i.tables (s.createsRecords i).live := by
    refine ⟨fun x hx => .inl ?_, ?_, List.Sublist.refl _, hrest.1, rfl⟩
    · obtain ⟨y, hy, hx⟩ := List.mem_filterMap.1 hx
      obtain ⟨r, hr, rfl⟩ := Option.map_eq_some_iff.1 hx
      exact ⟨y.2, Map.find_of_mem hnodup hy, hr⟩
    · refine (Map.rising_iff.1 hrises).sublist (Map.ids_filterMap _ (fun x y hy => ?_) i.tables.elements)
      obtain ⟨r, _, rfl⟩ := Option.map_eq_some_iff.1 hy
      rfl
  refine ⟨h.orderly.renews hrenews hrest.1, hapart, hrises, hrises, fun c hc => ?_, h.image⟩
  rw [show (s.createsRecords i).store.commit = s.store.commit from rfl, hnone] at hc
  cases hc

theorem unchangedElement_signal {old new : Tables} {n : Nat} (h : unchangedElement old new n = true) (hs : old.isSignal n = true) :
    new.isSignal n = true := by
  simp only [unchangedElement, Bool.and_eq_true, beq_iff_eq] at h
  rw [Tables.isSignal, ← h.2]
  exact hs

theorem State.Ordered.activates {s : State} {c : Commit} (h : s.Ordered) (hrest : s.live.atRest)
    (hcommit : s.store.commit = some c) (hphase : c.phase = .storeWrite) : s.activates.Ordered := by
  have hapart : s.store.staging.flankApart = true := h.staged c hcommit (by simp [hphase])
  have hnodup := (Map.rising_iff.1 h.stagedRises).imp Nat.ne_of_lt
  have hrenews : s.live.Renews s.store.staging (s.live.aligned s.store.active s.store.staging s.newImage.possessions) := by
    refine ⟨fun x hx => ?_, ?_, List.filter_sublist, hrest.1, rfl⟩
    · obtain ⟨y, hy, hid, ⟨hkept, hunchanged⟩ | hnew⟩ := mem_alignElements hx
      · refine .inr ⟨hid ▸ hkept, fun c hc => unchangedElement_signal (hid ▸ hunchanged) (h.orderly.present _ c hc)⟩
      · exact .inl ⟨y.2, hid ▸ Map.find_of_mem hnodup hy, hnew⟩
    · refine (Map.rising_iff.1 h.stagedRises).sublist (Map.ids_filterMap _ (fun x y hy => ?_) s.store.staging.elements)
      have hnew {r : ElementRec} (hr : x.2.renewed.map (fun r => (x.1, r)) = some y) : y.1 = x.1 := by
        obtain ⟨_, _, rfl⟩ := Option.map_eq_some_iff.1 hr
        rfl
      dsimp only at hy
      split at hy
      · rcases Option.or_eq_some_iff.1 hy with hy | ⟨_, hy⟩
        · obtain ⟨_, _, rfl⟩ := Option.map_eq_some_iff.1 hy
          rfl
        · obtain ⟨_, _, rfl⟩ := Option.map_eq_some_iff.1 hy
          rfl
      · obtain ⟨_, _, rfl⟩ := Option.map_eq_some_iff.1 hy
        rfl
  have hlive : s.activates.live.Orderly s.store.staging (fun _ => False) :=
    (Live.align_evolves (e := s.activates.env) (σ := Scope.following fun _ => False) s.store.active s.newImage.possessions
      s.live).orderly hapart (h.orderly.renews hrenews hrest.1)
  refine ⟨hlive, hapart, h.stagedRises, h.stagedRises, fun d hd => ?_, ?_⟩
  · cases hd
  · rintro i ⟨⟩
    exact ⟨hapart, h.stagedRises⟩

theorem State.Ordered.restart {s : State} (h : s.Ordered) : (s.doing Work.restart).Ordered := by
  refine { h with orderly := ?_ }
  have hrestart : (s.work.restart s.env).live.Orderly s.store.active (fun _ => False) :=
    Work.restart_orderly (e := s.env) h.active h.orderly
  exact (Work.finish_evolves (σ := Scope.following fun _ => False) (e := s.env) (s.work.restart s.env)
    (fun _ => trivial)).orderly h.active hrestart

theorem State.Move.ordered {s t : State} (m : s.Move t) (ht : s.trafficLawful = true) (hc : s.commitLawful = true)
    (h : s.Ordered) : t.Ordered := by
  cases m with
  | works l hl =>
    exact { h with orderly := (hl (Scope.following fun _ => False) trivial (fun _ => trivial)).orderly h.active h.orderly }
  | restarts => exact h.restart
  | waits q =>
    obtain ⟨hrises, hfounded, hplaced, hagrees, hresting, hpresent⟩ := h.orderly
    exact { h with orderly :=
      ⟨hrises, ⟨hfounded.slotsRise, hfounded.entries⟩, ⟨hplaced.nodup, hplaced.apart⟩, hagrees, hresting, hpresent⟩ }
  | grants possession sections =>
    obtain ⟨hrises, hfounded, hplaced, hagrees, hresting, hpresent⟩ := h.orderly
    exact { h with orderly :=
      ⟨hrises, ⟨hfounded.slotsRise, hfounded.entries⟩, ⟨hplaced.nodup, hplaced.apart⟩, hagrees, hresting, hpresent⟩ }
  | gives possession sections =>
    obtain ⟨hrises, hfounded, hplaced, hagrees, hresting, hpresent⟩ := h.orderly
    exact { h with orderly :=
      ⟨hrises, ⟨hfounded.slotsRise, hfounded.entries⟩, ⟨hplaced.nodup, hplaced.apart⟩, hagrees, hresting, hpresent⟩ }
  | stores v hv =>
    refine { h with image := fun i hi => ?_ }
    obtain ⟨j, hj, htables, _⟩ := hv i hi
    exact htables ▸ h.image j hj
  | stages st _ hrises _ hactive hnone =>
    refine ⟨hactive ▸ h.orderly, hactive ▸ h.active, hactive ▸ h.activeRises, hrises h.activeRises h.stagedRises,
      fun c hc => ?_, h.image⟩
    rw [show st.commit = none from hnone] at hc
    cases hc
  | commit c _ hphase =>
    refine { h with staged := fun d hd hne => ?_ }
    rcases hphase d hd hne with hvalid | ⟨y, hy, hyne⟩
    · exact Tables.flankApart_of_valid hvalid
    · exact h.staged y hy hyne
  | restores =>
    refine { h with image := ?_ }
    rintro i ⟨⟩
    exact ⟨h.active, h.activeRises⟩
  | powers =>
    refine ⟨⟨List.Pairwise.nil, ⟨List.Pairwise.nil, ?_⟩, ⟨List.nodup_nil, ?_⟩, fun n p hp => ?_, ?_, ?_⟩, rfl, rfl, rfl, ?_, h.image⟩
    · rintro g r n ⟨⟩
    · exact fun x hx => absurd hx List.not_mem_nil
    · rcases hp with ⟨k, hk⟩ | ⟨c, hc, _⟩
      · cases hk
      · exact absurd hc List.not_mem_nil
    · rintro g c ⟨⟩
    · rintro g c ⟨⟩
    · rintro c ⟨⟩
  | creates i hstart himage =>
    refine h.creates (s.trafficLawful_iff.1 ht (by rw [hstart]; rfl)) ?_ himage
    by_contra hcommit
    have := s.commitLawful_iff.1 hc hcommit
    simp [hstart] at this
  | activates c hcommit hphase =>
    refine h.activates (s.trafficLawful_iff.1 ht ?_) hcommit hphase
    rcases s.commitLawful_iff.1 hc (by simp [hcommit]) with hm | hm <;> rw [hm] <;> rfl
  | _ => exact { h with }

/-- Settles O57, by the single changes that a step is made of. -/
theorem everyStepKeepsOrdersLawful : Obligations.EveryStepKeepsOrdersLawful := by
  intro s t hs h
  rw [State.ordersLawful_iff] at hs ⊢
  exact step_keeps (P := fun s => s.Ordered ∧ s.trafficLawful = true ∧ s.commitLawful = true)
    (fun _ _ m ⟨ho, ht, hc⟩ => ⟨m.ordered ht hc ho, m.trafficLawful ht, m.commitLawful hc⟩) h hs

end Sys2Proof.Machine
end

section
/-! PROOFS. The step and the clock: how each command is taken, what stands at power-on, and which timers are due. -/

namespace Sys2Proof.Machine

/-! ## The step -/

/-- Settles O1. -/
theorem stepRunsFrontCommand : Obligations.StepRunsFrontCommand := fun i rest _ => step_cons i rest _ rfl

/-- Settles O4: every clause is about the one state of the reset. -/
theorem resetIsTheMomentOfPowerOn : Obligations.ResetIsTheMomentOfPowerOn := by
  unfold Obligations.ResetIsTheMomentOfPowerOn
  decide

/-! ## Answers -/

section Answers
variable {tag kind : Nat} {detail : Option Nat} {rule : State → Taken} {s t : State} {code : Code}

/-- A telegram that its rule refuses is answered, and changes nothing. -/
theorem control_refused (hs : s.Running) (h : rule s = s.refuses (.plain code)) :
    control tag kind detail rule s = .next (s.sending (codeAnswer tag kind code)) :=
  (control_running _ _ _ _ _ hs).trans (by rw [h]; rfl)

theorem control_answered (hs : s.Running) (h : rule s = t.answers (.plain code)) :
    control tag kind detail rule s = .next (t.sending (codeAnswer tag kind code)) :=
  (control_running _ _ _ _ _ hs).trans (by rw [h]; rfl)

/-- The same, of an answer with a detail value. -/
theorem control_refused_with {value : Nat} (hs : s.Running) (h : rule s = s.refuses (.with code value)) :
    control tag kind detail rule s = .next (s.sending (detailAnswer tag kind code value)) :=
  (control_running _ _ _ _ _ hs).trans (by rw [h]; rfl)

theorem control_answered_with {value : Nat} (hs : s.Running) (h : rule s = t.answers (.with code value)) :
    control tag kind detail rule s = .next (t.sending (detailAnswer tag kind code value)) :=
  (control_running _ _ _ _ _ hs).trans (by rw [h]; rfl)

end Answers

/-! ## Every command completes -/

/-- A command that is a control telegram is taken by the rule of its kind, with the detail that its refusal in START has. -/
theorem exec_control {i : Instr} {kind tag : Nat} {body : List Octet} (h : controlParts i = some (kind, tag, body)) :
    ∃ rule, ∀ s, exec i s = control tag kind (if kind = 8 ∨ kind = 10 then some 0 else none) rule s := by
  cases i <;> simp only [controlParts, Option.some.injEq, Prod.mk.injEq, reduceCtorEq] at h <;>
    (obtain ⟨rfl, rfl, -⟩ := h; exact ⟨_, fun _ => rfl⟩)

/-- Any other command but POWER ON is taken as an event, or as a telegram whose form or check fails. -/
theorem exec_event {i : Instr} (h : controlParts i = none) (hp : i ≠ .powerOn) :
    (∃ rule, ∀ s, exec i s = event rule s) ∨ (∃ tag kind rule, ∀ s, exec i s = control tag kind none rule s) ∨
      ∀ s, exec i s = .next s := by
  cases i with
  | controlBadForm tag kind => exact .inr (.inl ⟨tag, kind, _, fun _ => rfl⟩)
  | checkFailedTelegram port => exact .inr (.inr fun _ => rfl)
  | powerOn => exact absurd rfl hp
  | _ => simp [controlParts] at h <;> exact .inl ⟨_, fun _ => rfl⟩

/-- A control telegram has a next state, which without power is the state itself. -/
theorem control_completes (tag kind : Nat) (detail : Option Nat) (rule : State → Taken) (s : State) :
    (∃ t, control tag kind detail rule s = .next t) ∧
      (s.power = false → control tag kind detail rule s = .next s) := by
  refine ⟨?_, control_off tag kind detail rule s⟩
  cases hp : s.power with
  | false => exact ⟨_, control_off _ _ _ _ _ hp⟩
  | true =>
    by_cases hm : s.mode = .start
    · exact ⟨_, control_start _ _ _ _ _ hp hm⟩
    · exact ⟨_, control_running _ _ _ _ _ ⟨hp, hm⟩⟩

/-- An event has a next state, which without power is the state itself. -/
theorem event_completes (rule : State → State) (s : State) :
    (∃ t, event rule s = .next t) ∧ (s.power = false → event rule s = .next s) := by
  refine ⟨?_, event_off rule s⟩
  cases hp : s.power with
  | false => exact ⟨_, event_off _ _ hp⟩
  | true => exact ⟨_, event_on _ _ hp⟩

theorem exec_completes (i : Instr) (s : State) :
    (∃ t, exec i s = .next t) ∧ (s.power = false → i ≠ .powerOn → exec i s = .next s) := by
  by_cases hi : i = .powerOn
  · subst hi
    exact ⟨⟨_, rfl⟩, fun _ h => absurd rfl h⟩
  · have taken : (∃ t, exec i s = .next t) ∧ (s.power = false → exec i s = .next s) := by
      cases hc : controlParts i with
      | some x =>
        obtain ⟨rule, hr⟩ := exec_control (kind := x.1) (tag := x.2.1) (body := x.2.2) hc
        rw [hr]
        exact control_completes ..
      | none =>
        obtain ⟨rule, hr⟩ | ⟨tag, kind, rule, hr⟩ | hr := exec_event hc hi
        · rw [hr]
          exact event_completes ..
        · rw [hr]
          exact control_completes ..
        · rw [hr]
          exact ⟨⟨_, rfl⟩, fun _ => rfl⟩
    exact ⟨taken.1, fun hp _ => taken.2 hp⟩

/-- What comes on a port without a link record is discarded. -/
theorem State.heard_nothing {s : State} (h : s.live.links = []) (port : Nat) (meaningful : Bool)
    (rule : LinkRec → Env → Work → Work) : s.heard port meaningful rule = s := by
  simp [State.heard, h]

/-- Settles O3: by the form of the command, a control telegram or an event. -/
theorem everyCommandCompletes : Obligations.EveryCommandCompletes := by
  refine ⟨exec_completes, fun s hp hm => ⟨fun i kind tag body hi => ?_, fun tag kind => ?_, fun address content => ?_,
    fun hl port => ⟨fun i v ls => ?_, fun xs => ?_, fun line n => ?_, fun line n v => ?_⟩⟩⟩
  · obtain ⟨rule, hr⟩ := exec_control hi
    rw [hr, control_start _ _ _ _ _ hp hm]
    rfl
  · exact control_start tag kind none (fun s => s.refuses (.plain .badForm)) s hp hm
  · exact (event_on _ _ hp).trans (by simp [statusTaken, hm])
  · exact (event_on _ _ hp).trans (congrArg _ (State.heard_nothing hl ..))
  · exact (event_on _ _ hp).trans (congrArg _ (State.heard_nothing hl ..))
  · exact (event_on _ _ hp).trans (congrArg _ (State.heard_nothing hl ..))
  · exact (event_on _ _ hp).trans (congrArg _ (State.heard_nothing hl ..))

/-! ## The timers that are due -/

theorem mem_dueAt {clock : Nat} {moment : Option Nat} {i j : Instr} :
    i ∈ dueAt clock moment j ↔ i = j ∧ ∃ m, moment = some m ∧ m ≤ clock := by
  unfold dueAt
  cases moment with
  | none => simp
  | some m => by_cases h : m ≤ clock <;> simp [h]

theorem dueAt_nodup (clock : Nat) (moment : Option Nat) (i : Instr) : (dueAt clock moment i).Nodup := by
  unfold dueAt
  split <;> simp

/-- Lists of different records that share no command, each without repetition, hold none twice together. -/
theorem nodup_flatMap_ids {α : Type} {m : Map α} (hm : (Map.ids m).Nodup) {f : Nat × α → List Instr}
    (each : ∀ x ∈ m, (f x).Nodup) (apart : ∀ x y i, i ∈ f x → i ∈ f y → x.1 = y.1) : (m.flatMap f).Nodup := by
  refine List.nodup_flatMap.mpr ⟨each, ?_⟩
  refine (List.pairwise_map.mp hm).imp fun {x y} hxy i hx hy => hxy (apart x y i hx hy)

theorem mem_elementDue {clock : Nat} {x : Nat × ElementRec} {i : Instr} : i ∈ elementDue clock x ↔
    (i = .freshnessExpiry x.1 ∧ ∃ m, x.2.freshness = some m ∧ m ≤ clock) ∨
    (i = .movementExpiry x.1 ∧ ∃ m, x.2.movementMoment = some m ∧ m ≤ clock) ∨
    (i = .provingExpiry x.1 ∧ ∃ m, x.2.provingMoment = some m ∧ m ≤ clock) := by
  simp only [elementDue, List.mem_append, mem_dueAt, or_assoc]

theorem mem_slotDue {clock : Nat} {x : Nat × Slot} {i : Instr} : i ∈ slotDue clock x ↔
    (i = .overlapExpiry x.1 ∧ ∃ m, x.2.overlapMoment = some m ∧ m ≤ clock) ∨
    (i = .timedReleaseExpiry x.1 ∧ ∃ m, x.2.releaseMoment = some m ∧ m ≤ clock) := by
  simp only [slotDue, List.mem_append, mem_dueAt]

theorem mem_linkDue {clock : Nat} {x : Nat × LinkRec} {i : Instr} : i ∈ linkDue clock x ↔
    (i = .lastHeardExpiry x.1 ∧ ∃ m, x.2.lastHeard = some m ∧ m ≤ clock) ∨
    ∃ y ∈ x.2.lines, i = .askExpiry x.1 y.1 ∧ ∃ m, y.2.ask.map (fun a => a.2) = some m ∧ m ≤ clock := by
  simp only [linkDue, List.mem_append, List.mem_flatMap, mem_dueAt]

/-- No two timers of one element, slot or link, and no two of different ones, have the same command. -/
theorem elementDue_nodup (clock : Nat) (x : Nat × ElementRec) : (elementDue clock x).Nodup := by
  simp only [elementDue, List.nodup_append, dueAt_nodup, List.mem_append, mem_dueAt, true_and]
  refine ⟨?_, ?_⟩
  · rintro _ ⟨rfl, -⟩ _ ⟨rfl, -⟩
    simp
  · rintro _ (⟨rfl, -⟩ | ⟨rfl, -⟩) _ ⟨rfl, -⟩ <;> simp

theorem slotDue_nodup (clock : Nat) (x : Nat × Slot) : (slotDue clock x).Nodup := by
  simp only [slotDue, List.nodup_append, dueAt_nodup, mem_dueAt, true_and]
  rintro _ ⟨rfl, -⟩ _ ⟨rfl, -⟩
  simp

theorem linkDue_nodup (clock : Nat) (x : Nat × LinkRec) (h : (Map.ids x.2.lines).Nodup) : (linkDue clock x).Nodup := by
  simp only [linkDue, List.nodup_append, dueAt_nodup, List.mem_flatMap, mem_dueAt, true_and]
  refine ⟨nodup_flatMap_ids h (fun _ _ => dueAt_nodup ..) fun y z i hy hz => ?_, ?_⟩
  · obtain ⟨rfl, -⟩ := mem_dueAt.mp hy
    simpa using (mem_dueAt.mp hz).1
  · rintro _ ⟨rfl, -⟩ _ ⟨_, _, rfl, -⟩
    simp

/-- No command is due twice. -/
theorem State.due_nodup {s : State} (h : s.live.recordsOnce) : s.due.Nodup := by
  obtain ⟨helements, hslots, hlinks, hlines, hwaiting⟩ := h
  have elements : (s.live.elements.flatMap (elementDue s.clock)).Nodup :=
    nodup_flatMap_ids helements (fun _ _ => elementDue_nodup ..) fun x y i hx hy => by
      simp only [mem_elementDue] at hx hy
      rcases hx with ⟨rfl, -⟩ | ⟨rfl, -⟩ | ⟨rfl, -⟩ <;> grind
  have waiting : (s.live.waiting.flatMap (fun q => dueAt s.clock (some q.expiry) (.patienceExpiry q.route))).Nodup := by
    refine List.nodup_flatMap.mpr ⟨fun _ _ => dueAt_nodup .., (List.pairwise_map.mp hwaiting).imp ?_⟩
    intro x y hxy i hx hy
    obtain ⟨rfl, -⟩ := mem_dueAt.mp hx
    exact hxy (by simpa using (mem_dueAt.mp hy).1)
  have slots : (s.live.slots.flatMap (slotDue s.clock)).Nodup :=
    nodup_flatMap_ids hslots (fun _ _ => slotDue_nodup ..) fun x y i hx hy => by
      simp only [mem_slotDue] at hx hy
      rcases hx with ⟨rfl, -⟩ | ⟨rfl, -⟩ <;> grind
  have links : (s.live.links.flatMap (linkDue s.clock)).Nodup :=
    nodup_flatMap_ids hlinks (fun x hx => linkDue_nodup _ x (hlines x hx)) fun x y i hx hy => by
      simp only [mem_linkDue] at hx hy
      rcases hx with ⟨rfl, -⟩ | ⟨_, -, rfl, -⟩ <;> grind
  simp only [State.due, List.nodup_append, dueAt_nodup, elements, waiting, slots, links, true_and, List.mem_append,
    List.mem_flatMap, mem_dueAt, mem_elementDue, mem_slotDue, mem_linkDue]
  grind

/-- Over records that stand once, the timer of some record under an id is that of the record found there. -/
theorem Map.timer_iff {α : Type} {m : Map α} (hm : (Map.ids m).Nodup) (k clock : Nat) (f : α → Option Nat) :
    (∃ a, (k, a) ∈ m ∧ ∃ x, f a = some x ∧ x ≤ clock) ↔ ∃ x, (Map.find k m).bind f = some x ∧ x ≤ clock := by
  have found : ∀ a, (k, a) ∈ m ↔ Map.find k m = some a := fun a => ⟨Map.find_of_mem hm, Map.mem_of_find⟩
  simp only [found, Option.bind_eq_some_iff]
  grind

/-- The timers of elements and slots, read from the record of whatever kind or state that stands there. -/
theorem Live.point_timer (n : Nat) (l : Live) :
    ((l.point n).bind (fun r => r.movement)).map (fun m => m.2) =
      (Map.find n l.elements).bind ElementRec.movementMoment := by
  unfold Live.point
  cases Map.find n l.elements with
  | none => rfl
  | some y => cases y <;> rfl

theorem Live.signal_timer (n : Nat) (l : Live) :
    (l.signal n).bind (fun r => r.proving) = (Map.find n l.elements).bind ElementRec.provingMoment := by
  unfold Live.signal
  cases Map.find n l.elements with
  | none => rfl
  | some y => cases y <;> rfl

theorem Slot.overlap_timer (y : Option Slot) :
    (y.filter (fun x => x.state == .entered && x.overlap == some .timing)).bind
      (fun x => x.timer.map (fun y => y.expiry)) = y.bind Slot.overlapMoment := by
  cases y with
  | none => rfl
  | some x => by_cases h : x.state = .entered ∧ x.overlap = some .timing <;>
      simp [Option.filter, Slot.overlapMoment, h]

theorem Slot.release_timer (y : Option Slot) :
    (y.filter (fun x => x.state == .timedRelease)).bind (fun x => x.timer.map (fun y => y.expiry)) =
      y.bind Slot.releaseMoment := by
  cases y with
  | none => rfl
  | some x => by_cases h : x.state = .timedRelease <;> simp [Option.filter, Slot.releaseMoment, h]

/-- A request of a route is the one found for it, when each route waits once. -/
theorem find_request_iff {qs : List Request} (h : (qs.map (fun q => q.route)).Nodup) (route : Nat) (q : Request) :
    q ∈ qs ∧ route = q.route ↔ qs.find? (fun q => q.route == route) = some q := by
  constructor
  · rintro ⟨hq, rfl⟩
    induction qs with
    | nil => simp at hq
    | cons x qs ih => grind
  · intro hq
    exact ⟨List.mem_of_find?_eq_some hq, (beq_iff_eq.mp (List.find?_some (p := fun q : Request => q.route == route) hq)).symm⟩

/-- A command is due exactly when it is that of a timer that is set and whose moment the clock has reached. -/
theorem State.mem_due {s : State} (h : s.live.recordsOnce) (i : Instr) :
    i ∈ s.due ↔ ∃ moment, s.timerOf i = some moment ∧ moment ≤ s.clock := by
  obtain ⟨helements, hslots, hlinks, hlines, hwaiting⟩ := h
  simp only [State.due, List.mem_append, List.mem_flatMap, mem_dueAt, mem_elementDue, mem_slotDue, mem_linkDue]
  cases i with
  | freshnessExpiry n => simpa [State.timerOf] using Map.timer_iff helements n s.clock ElementRec.freshness
  | movementExpiry n =>
    rw [State.timerOf, Live.point_timer]
    simpa using Map.timer_iff helements n s.clock ElementRec.movementMoment
  | provingExpiry n =>
    rw [State.timerOf, Live.signal_timer]
    simpa using Map.timer_iff helements n s.clock ElementRec.provingMoment
  | patienceExpiry route =>
    simp only [State.timerOf, ← find_request_iff hwaiting, Option.map_eq_some_iff]
    simp [and_assoc]
  | overlapExpiry n =>
    rw [State.timerOf, Slot.overlap_timer]
    simpa [Live.slot] using Map.timer_iff hslots n s.clock Slot.overlapMoment
  | timedReleaseExpiry n =>
    rw [State.timerOf, Slot.release_timer]
    simpa [Live.slot] using Map.timer_iff hslots n s.clock Slot.releaseMoment
  | lastHeardExpiry link => simpa [State.timerOf] using Map.timer_iff hlinks link s.clock (fun k => k.lastHeard)
  | askExpiry link line =>
    have line_timer : s.timerOf (.askExpiry link line) = (Map.find link s.live.links).bind
        (fun k => (Map.find line k.lines).bind (fun y => y.ask.map (fun a => a.2))) := by
      simp only [State.timerOf, Live.line, Option.map_bind, Option.bind_assoc]
      congr 1
      funext k
      simp [Option.map_bind]
    calc _ ↔ ∃ k, (link, k) ∈ s.live.links ∧ ∃ y, (line, y) ∈ k.lines ∧
            ∃ m, y.ask.map (fun a => a.2) = some m ∧ m ≤ s.clock := by simp
      _ ↔ ∃ k, (link, k) ∈ s.live.links ∧ ∃ m, (Map.find line k.lines).bind
            (fun y => y.ask.map (fun a => a.2)) = some m ∧ m ≤ s.clock :=
          exists_congr fun _ => and_congr_right fun hk => Map.timer_iff (hlines _ hk) ..
      _ ↔ _ := by
          rw [line_timer]
          exact Map.timer_iff hlinks ..
  | _ => simp [State.timerOf]

/-- What an empty queue takes up: the due commands in some order, and no change but in the free choices that order them. -/
theorem State.enqueueDue_spec (s : State) : s.enqueueDue.pending.Perm s.due ∧ s.enqueueDue =
    { s with pending := s.enqueueDue.pending, live := { s.live with choices := s.enqueueDue.live.choices } } := by
  unfold State.enqueueDue
  dsimp only
  split
  · exact ⟨.refl _, rfl⟩
  · exact ⟨arrangeBy_perm _ _, rfl⟩

/-- Settles O2: the tick enqueues what is due at the next tenth of a second. -/
theorem emptyQueueLetsTimePass : Obligations.EmptyQueueLetsTimePass := by
  intro s hs
  refine ⟨fun hp => by rw [step_nil s hs]; simp [State.tick, hp], fun hp => ?_⟩
  have ⟨hperm, hrest⟩ := State.enqueueDue_spec { s with clock := s.clock + 1 }
  refine ⟨State.enqueueDue { s with clock := s.clock + 1 }, ?_, congrArg State.clock hrest, hperm, hrest, fun h => ?_⟩
  · rw [step_nil s hs]
    simp [State.tick, hp]
  · refine ⟨hperm.nodup_iff.mpr (State.due_nodup (s := { s with clock := s.clock + 1 }) h), fun i => ?_⟩
    rw [hperm.mem_iff, State.mem_due (s := { s with clock := s.clock + 1 }) h]
    cases i <;> rfl

end Sys2Proof.Machine
end

section
/-! PROOFS. The flank search, choice by choice (R100). -/

namespace Sys2Proof.Machine

/-- A choice is the first candidate that is obtainable in its required state, and its level is that candidate's place. -/
theorem Live.firstObtainable_first {t : Tables} {chosen : List Choice} {entry level : Nat} {l : Live}
    {cs : List Candidate} {c : Choice} (h : l.firstObtainable t chosen entry level cs = some c) :
    c.entry = entry ∧ ∃ i, c.level = level + i ∧
      (∃ d, cs[i]? = some d ∧ d.element = c.element ∧ t.requiredState d = some c.required ∧
        l.obtainable t chosen c.element c.required = true) ∧
      ∀ j < i, ∀ d, cs[j]? = some d → ∀ q, t.requiredState d = some q → l.obtainable t chosen d.element q = false := by
  induction cs generalizing level with
  | nil => simp [Live.firstObtainable] at h
  | cons k cs ih =>
    have later (hk : ∀ q, t.requiredState k = some q → l.obtainable t chosen k.element q = false)
        (h : l.firstObtainable t chosen entry (level + 1) cs = some c) :
        c.entry = entry ∧ ∃ i, c.level = level + i ∧
          (∃ d, (k :: cs)[i]? = some d ∧ d.element = c.element ∧ t.requiredState d = some c.required ∧
            l.obtainable t chosen c.element c.required = true) ∧
          ∀ j < i, ∀ d, (k :: cs)[j]? = some d → ∀ q, t.requiredState d = some q →
            l.obtainable t chosen d.element q = false := by
      obtain ⟨hentry, i, hlevel, hchosen, hbefore⟩ := ih h
      refine ⟨hentry, i + 1, by omega, hchosen, fun j hj d hd => ?_⟩
      cases j with
      | zero =>
        cases hd
        exact hk
      | succ j => exact hbefore j (by omega) d hd
    unfold Live.firstObtainable at h
    split at h
    · next required hreq =>
      split at h
      · next hobt =>
        cases h
        exact ⟨rfl, 0, rfl, ⟨k, rfl, rfl, hreq, hobt⟩, fun j hj => absurd hj (by omega)⟩
      · next hobt => exact later (fun q hq => by simpa [Option.some.inj (hreq.symm.trans hq)] using hobt) h
    · next hreq => exact later (fun q hq => by simp [hreq] at hq) h

/-- No candidate of an entry without a choice is obtainable. -/
theorem Live.firstObtainable_none {t : Tables} {chosen : List Choice} {entry level : Nat} {l : Live}
    {cs : List Candidate} (h : l.firstObtainable t chosen entry level cs = none) :
    ∀ c ∈ cs, ∀ q, t.requiredState c = some q → l.obtainable t chosen c.element q = false := by
  induction cs generalizing level with
  | nil => simp
  | cons k cs ih =>
    unfold Live.firstObtainable at h
    split at h
    · next required hreq =>
      split at h
      · simp at h
      · next hobt =>
        refine List.forall_mem_cons.mpr ⟨fun q hq => ?_, ih h⟩
        simpa [Option.some.inj (hreq.symm.trans hq)] using hobt
    · next hreq => exact List.forall_mem_cons.mpr ⟨fun q hq => by simp [hreq] at hq, ih h⟩

/-- A search adds one choice for each entry, each found with the choices before it. -/
theorem Live.searchFrom_choices {t : Tables} {l : Live} {k : Nat} {chosen cs : List Choice} {fs : List FlankEntry}
    (h : l.searchFrom t k chosen fs = some cs) : ∃ new, cs = chosen ++ new ∧ new.length = fs.length ∧
      ∀ i (hi : i < new.length) (hf : i < fs.length),
        l.firstObtainable t (chosen ++ new.take i) (k + i) 0 fs[i].candidates = some new[i] := by
  induction fs generalizing k chosen with
  | nil =>
    cases h
    exact ⟨[], by simp⟩
  | cons f fs ih =>
    unfold Live.searchFrom at h
    split at h
    · next c hfirst =>
      obtain ⟨new, rfl, hlen, hnew⟩ := ih h
      refine ⟨c :: new, by simp, by simp [hlen], fun i hi hf => ?_⟩
      cases i with
      | zero => simpa using hfirst
      | succ i => simpa [Nat.add_assoc, Nat.add_comm 1] using hnew i (by simpa using hi) (by simpa using hf)
    · simp at h

/-- A search without a result has come to an entry that has no choice. -/
theorem Live.searchFrom_none {t : Tables} {l : Live} {k : Nat} {chosen : List Choice} {fs : List FlankEntry}
    (h : l.searchFrom t k chosen fs = none) : ∃ i, ∃ hi : i < fs.length, ∃ before : List Choice,
      l.searchFrom t k chosen (fs.take i) = some before ∧
      l.firstObtainable t before (k + i) 0 fs[i].candidates = none := by
  induction fs generalizing k chosen with
  | nil => simp [Live.searchFrom] at h
  | cons f fs ih =>
    unfold Live.searchFrom at h
    split at h
    · next c hfirst =>
      obtain ⟨i, hi, before, hbefore, hnone⟩ := ih h
      refine ⟨i + 1, by simpa using hi, before, ?_, by simpa [Nat.add_assoc, Nat.add_comm 1] using hnone⟩
      simpa [Live.searchFrom, hfirst] using hbefore
    · next hfirst => exact ⟨0, by simp, chosen, rfl, hfirst⟩

/-- Settles O6. -/
theorem flankSearchTakesFirstObtainable : Obligations.FlankSearchTakesFirstObtainable := by
  intro t r l
  refine ⟨fun choices h => ?_, fun h => ?_⟩
  · obtain ⟨new, rfl, hlen, hnew⟩ := Live.searchFrom_choices h
    refine ⟨hlen, fun k hk hf => ?_⟩
    obtain ⟨hentry, i, hlevel, ⟨d, hd, hel, hreq, hobt⟩, hbefore⟩ := Live.firstObtainable_first (hnew k hk hf)
    rw [Nat.zero_add] at hlevel
    simp only [List.nil_append] at *
    subst hlevel
    exact ⟨by omega, d, hd, hel, hreq, hel ▸ hobt, hbefore⟩
  · obtain ⟨i, hi, before, hbefore, hnone⟩ := Live.searchFrom_none h
    exact ⟨i, hi, before, hbefore, Live.firstObtainable_none hnone⟩

end Sys2Proof.Machine
end

section
/-! PROOFS. What a slot holds and gives back: the clearing conditions, the freeing, the overlap, the timers of a slot and the
emergency release (R87, R88, R94, R117 to R126). -/

namespace Sys2Proof.Machine

/-! ## Reading a slot and its route -/

theorem Work.withSlot_found {e : Env} {n : Nat} {f : Slot → RouteEntry → Work → Work} {w : Work} {x : Slot} {r : RouteEntry}
    (hx : w.live.slot n = some x) (hr : Map.find x.route e.tables.routes = some r) : w.withSlot e n f = f x r w := by
  simp [Work.withSlot, hx, hr]

theorem Live.isClear_iff {l : Live} {sec : Nat} :
    l.isClear sec = true ↔ ∃ y, l.sectionAt sec = some y ∧ y.state = .clear := by
  unfold Live.isClear
  cases l.sectionAt sec <;> simp

theorem Live.detected_iff {l : Live} {p : Nat} {q : Position} :
    l.detected p q = true ↔ ∃ r, l.point p = some r ∧ r.evaluated = some q := by
  unfold Live.detected
  cases l.point p <;> simp

theorem Live.allDetected_iff {l : Live} {r : RouteEntry} :
    l.allDetected r = true ↔ ∀ y ∈ r.requirements, l.detected y.1 y.2 = true := by
  simp [Live.allDetected]

theorem RouteEntry.exitLine_iff {r : RouteEntry} {link line : Nat} :
    r.exitLine = some (link, line) ↔ r.exit = .line link line := by
  unfold RouteEntry.exitLine
  cases r.exit <;> simp

theorem RouteEntry.exitLine_none {r : RouteEntry} : r.exitLine = none ↔ ∃ g, r.exit = .signal g := by
  unfold RouteEntry.exitLine
  cases r.exit <;> simp

theorem Live.lineReady_iff {l : Live} {r : RouteEntry} : l.lineReady r = true ↔
    ∀ link line, r.exit = .line link line → l.linkState link = .up ∧
      ∃ y, l.line link line = some y ∧ y.owner = .us ∧ ∃ p, y.last = some p ∧ p.lineClear = true := by
  unfold Live.lineReady
  split
  · next h =>
    obtain ⟨g, hg⟩ := RouteEntry.exitLine_none.mp h
    simp [hg]
  · next link line h =>
    rw [RouteEntry.exitLine_iff] at h
    simp only [h, Exit.line.injEq, Live.lineIsOurs, Bool.and_eq_true, Option.any_eq_true, beq_iff_eq,
      Option.bind_eq_some_iff]
    constructor
    · rintro ⟨⟨⟨y, hy, howner⟩, hup⟩, p, ⟨z, hz, hp⟩, hclear⟩ _ _ ⟨rfl, rfl⟩
      cases hy.symm.trans hz
      exact ⟨hup, y, hy, howner, p, hp, hclear⟩
    · intro hready
      obtain ⟨hup, y, hy, howner, p, hp, hclear⟩ := hready _ _ ⟨rfl, rfl⟩
      exact ⟨⟨⟨y, hy, howner⟩, hup⟩, p, ⟨y, hy, hp⟩, hclear⟩

/-- Settles O20. -/
theorem clearingConditions : Obligations.ClearingConditions := by
  intro n r l
  refine ⟨?_, fun link line h => by simp [Live.chosenAspect, h], fun g h => ⟨?_, fun hy => ?_⟩⟩
  · simp only [Live.clearable, Bool.and_eq_true, List.all_eq_true, Live.lineReady_iff, Live.allDetected_iff,
      Live.isClear_iff, Live.detected_iff, RouteEntry.lockedSections, Option.any_eq_true, and_assoc]
    simp [or_iff_not_imp_left]
  · rintro ⟨y, hy, hp | hp⟩ <;> simp [Live.chosenAspect, h, hy, hp]
  · simp only [Live.chosenAspect, h]
    cases hs : l.signal g with
    | none => rfl
    | some y => obtain hp | hp := hy y hs <;> simp [hp]

/-! ## Reports -/

/-- What the queue becomes with a report depends on the queue alone. -/
theorem Live.offer_reports_congr {a b : Live} (h : a.reports = b.reports) (e : Env) (cls : ReportClass) (code : ReportCode)
    (kind : SubjectKind) (number : Nat) (detail : Option Nat) :
    (a.offer e cls code kind number detail).reports = (b.offer e cls code kind number detail).reports := by
  unfold Live.offer Live.noticeReports
  simp only [h, apply_ite Live.reports]

/-! ## Freeing -/

theorem Work.freeSlot_found {e : Env} {n : Nat} {w : Work} {x : Slot} (h : w.live.slot n = some x) :
    w.freeSlot e n = (((w.on (Live.emptySlot e.tables n)).report e .c .routeReleased .slot n (some x.route)).placeDue
      (w.live.lockedPoints n)).scanDue := by
  simp [Work.freeSlot, h]

@[simp] theorem Live.emptySlot_claims (t : Tables) (n : Nat) (l : Live) :
    (l.emptySlot t n).claims = l.claims.filter (fun c => c.slot != n) := rfl
@[simp] theorem Live.emptySlot_queue (t : Tables) (n : Nat) (l : Live) : (l.emptySlot t n).queue = l.queue := rfl
@[simp] theorem Live.emptySlot_waiting (t : Tables) (n : Nat) (l : Live) : (l.emptySlot t n).waiting = l.waiting := rfl
@[simp] theorem Live.emptySlot_reports (t : Tables) (n : Nat) (l : Live) : (l.emptySlot t n).reports = l.reports := rfl

theorem Live.emptySlot_arm (t : Tables) (n : Nat) (l : Live) :
    (l.emptySlot t n).arm = l.arm.filter (fun a => a.slot != n) := by
  show (if l.arm.any (fun a => a.slot == n) then none else l.arm) = _
  cases l.arm with
  | none => rfl
  | some a => by_cases h : a.slot = n <;> simp [h, Option.filter]

/-- Every section of a moment is among the ids, so an emptied slot leaves none its lock. -/
theorem Live.emptySlot_sectionAt (t : Tables) (n sec : Nat) (l : Live) :
    (l.emptySlot t n).sectionAt sec = (l.sectionAt sec).map (fun y =>
      if y.lock.map (fun k => k.1) = some n then { y with lock := none } else y) := by
  show (l.unlockSections n (Map.ids l.sections)).sectionAt sec = _
  rw [Live.sectionAt_unlockSections]
  cases hy : l.sectionAt sec with
  | none => rfl
  | some y =>
    have hsec : sec ∈ Map.ids l.sections := List.mem_map_of_mem (f := Prod.fst) (Map.mem_of_find hy)
    simp only [Option.map_some, SectionRec.unlocked, List.contains_iff_mem.mpr hsec, Bool.true_and, beq_iff_eq]

/-- An element's record once a slot holds it no more: neither its route lock nor its entry-of-slot names the slot. -/
def ElementRec.emptied (n : Nat) (y : ElementRec) : ElementRec :=
  match y with
  | .point z => .point (if z.routeLock.map (fun k => k.1) = some n then { z with routeLock := none } else z)
  | .signal z => .signal (if z.entryOf = some n then { z with entryOf := none } else z)
  | .head z => .head z

/-- A point that the slot route-locks is among its points, so an emptied slot leaves no lock. -/
theorem Live.emptySlot_emptied (t : Tables) (n p : Nat) (l : Live) :
    Map.find p (l.emptySlot t n).elements = (Map.find p l.elements).map (ElementRec.emptied n) := by
  rw [Live.emptySlot_find]
  cases h : Map.find p l.elements with
  | none => rfl
  | some y =>
    cases y with
    | point z =>
      by_cases hz : z.routeLock.map (fun k => k.1) = some n
      · have hp := List.contains_iff_mem.mpr (Live.mem_lockedPoints (Map.mem_of_find h) hz)
        simp only [Option.map_some, ElementRec.unlocked, hp, hz, Bool.true_and, beq_self_eq_true, if_true]
        simp [ElementRec.left, ElementRec.emptied, hz]
      · simp [ElementRec.unlocked, ElementRec.left, ElementRec.emptied, hz]
    | signal z => by_cases hz : z.entryOf = some n <;> simp [ElementRec.unlocked, ElementRec.left, ElementRec.emptied, hz]
    | head z => rfl

/-- Settles O13. -/
theorem freeingEmptiesTheSlot : Obligations.FreeingEmptiesTheSlot := by
  intro e n x w hx
  rw [Work.freeSlot_found hx]
  simp only [Work.scanDue_live, Work.placeDue_live, Work.report_live, Work.on_live, Live.slot, Live.offer_slots,
    Live.offer_elements, Live.offer_claims, Live.offer_arm, Live.offer_queue, Live.offer_waiting, Work.scanDue_scan,
    Live.emptySlot_slots, Live.emptySlot_claims, Live.emptySlot_arm, Live.emptySlot_queue, Live.emptySlot_waiting,
    Map.find_drop_self, true_and, and_true]
  refine ⟨fun m hm => Map.find_drop_ne hm _, fun sec => ?_, fun p => ?_, Live.offer_reports_congr (Live.emptySlot_reports ..) ..⟩
  · rw [Live.sectionAt, Live.offer_sections]
    exact Live.emptySlot_sectionAt ..
  · exact Live.emptySlot_emptied ..

/-! ## Sections given back -/

theorem Live.mem_releasedPoints {e : Env} {n p : Nat} {secs : List Nat} {l : Live} {y : PointRec} (hy : l.point p = some y)
    (hlock : y.routeLock.map (fun k => k.1) = some n) :
    p ∈ l.releasedPoints e n secs ↔ ∃ sec ∈ secs, e.tables.pointSection p = some sec := by
  have hp : p ∈ l.lockedPoints n := Live.mem_lockedPoints (Map.mem_of_find (Live.point_some.mp hy)) hlock
  simp only [Live.releasedPoints, List.mem_filter, hp, true_and, Option.any_eq_true, List.contains_iff_mem]
  exact exists_congr fun _ => and_comm

theorem Work.releaseSections_sectionAt (e : Env) (n : Nat) (secs : List Nat) (w : Work) (sec : Nat) :
    (w.releaseSections e n secs).live.sectionAt sec = (w.live.sectionAt sec).map (fun y =>
      if sec ∈ secs ∧ y.lock.map (fun k => k.1) = some n then { y with lock := none } else y) := by
  show (w.live.unlockSections n secs).sectionAt sec = _
  rw [Live.sectionAt_unlockSections]
  refine congrArg (fun f => Option.map f _) (funext fun y => ?_)
  simp only [SectionRec.unlocked, Bool.and_eq_true, List.contains_iff_mem, beq_iff_eq]

/-- A route-locked point that lies in a section given back loses its lock, and may be placed. -/
theorem Work.releaseSections_unlocks {e : Env} {n p : Nat} {secs : List Nat} {w : Work} {y : PointRec}
    (hy : w.live.point p = some y) (hlock : y.routeLock.map (fun k => k.1) = some n)
    (hlies : ∃ sec ∈ secs, e.tables.pointSection p = some sec) :
    (w.releaseSections e n secs).live.point p = some { y with routeLock := none } ∧
      p ∈ (w.releaseSections e n secs).places := by
  have hp := (Live.mem_releasedPoints hy hlock).mpr hlies
  refine ⟨Live.point_some.mpr ?_, List.mem_append_right _ hp⟩
  show Map.find p ((w.live.unlockSections n secs).unlockPoints n _).elements = _
  rw [Live.find_unlockPoints]
  show (Map.find p w.live.elements).map _ = _
  simp [Live.point_some.mp hy, ElementRec.unlocked, hp, hlock]

/-- Any other point is as it was. -/
theorem Work.releaseSections_point {e : Env} {n p : Nat} {secs : List Nat} {w : Work} {y : PointRec}
    (hy : w.live.point p = some y)
    (h : ¬ (∃ sec ∈ secs, e.tables.pointSection p = some sec) ∨ y.routeLock.map (fun k => k.1) ≠ some n) :
    (w.releaseSections e n secs).live.point p = some y := by
  refine Live.point_some.mpr ?_
  show Map.find p ((w.live.unlockSections n secs).unlockPoints n _).elements = _
  rw [Live.find_unlockPoints]
  show (Map.find p w.live.elements).map _ = _
  by_cases hlock : y.routeLock.map (fun k => k.1) = some n
  · have hp : p ∉ w.live.releasedPoints e n secs := fun hp =>
      h.elim (fun h => h ((Live.mem_releasedPoints hy hlock).mp hp)) (fun h => h hlock)
    simp [Live.point_some.mp hy, ElementRec.unlocked, hp]
  · simp [Live.point_some.mp hy, ElementRec.unlocked, hlock]

/-- The slot is complete: it is in ENTERED, no path section is left, and its overlap is RELEASED or it has none. -/
theorem Work.freeIfDone_found {e : Env} {n : Nat} {w : Work} {x : Slot} {r : RouteEntry} (hx : w.live.slot n = some x)
    (hr : Map.find x.route e.tables.routes = some r) (hs : x.state = .entered) :
    w.freeIfDone e n = if (∀ sec ∈ r.path, w.live.holder sec ≠ some (n, .path)) ∧
      (x.overlap = none ∨ x.overlap = some .released) then w.freeSlot e n else w := by
  rw [Work.freeIfDone, Work.withSlot_found hx hr]
  simp [hs]

theorem Live.holder_congr {a b : Live} (h : a.sections = b.sections) (sec : Nat) : a.holder sec = b.holder sec := by
  simp [Live.holder, Live.sectionAt, h]

theorem Work.slotTo_found {n : Nat} {w : Work} {x : Slot} (hx : w.live.slot n = some x) (f : Slot → Slot) :
    (w.slotTo n f).live.slot n = some (f x) := by
  rw [Work.slot_slotTo, hx, Option.map_some, if_pos rfl]

theorem Work.slotTo_other {m n : Nat} (h : m ≠ n) (f : Slot → Slot) (w : Work) :
    (w.slotTo n f).live.slot m = w.live.slot m := by
  simp only [Work.slot_slotTo, h, if_false, Option.map_id']

/-- Overlap sections given back, with the overlap RELEASED when none is left: the release of the overlap but for the freeing
(R118). -/
def Work.overlapGiven (e : Env) (n : Nat) (r : RouteEntry) (secs : List Nat) (w : Work) : Work :=
  if r.overlap.all (fun s => (w.releaseSections e n secs).live.holder s != some (n, .overlap)) then
    (w.releaseSections e n secs).slotTo n (fun x => { x with overlap := some .released })
  else w.releaseSections e n secs

theorem Work.overlapGiven_rest (e : Env) (n : Nat) (r : RouteEntry) (secs : List Nat) (w : Work) :
    w.overlapGiven e n r secs = { w.releaseSections e n secs with
      live := { (w.releaseSections e n secs).live with slots := (w.overlapGiven e n r secs).live.slots } } := by
  unfold Work.overlapGiven
  split <;> rfl

theorem Work.overlapGiven_other {m n : Nat} (h : m ≠ n) (e : Env) (r : RouteEntry) (secs : List Nat) (w : Work) :
    (w.overlapGiven e n r secs).live.slot m = w.live.slot m := by
  unfold Work.overlapGiven
  split
  · exact Work.slotTo_other h _ _
  · rfl

/-- The overlap is RELEASED exactly when no overlap section is left to the slot. -/
theorem Work.overlapGiven_slot {e : Env} {n : Nat} {r : RouteEntry} {secs : List Nat} {w : Work} {x : Slot}
    (hx : w.live.slot n = some x) : ∃ o, (w.overlapGiven e n r secs).live.slot n = some { x with overlap := o } ∧
      ((∀ sec ∈ r.overlap, (w.overlapGiven e n r secs).live.holder sec ≠ some (n, .overlap)) → o = some .released) ∧
      (¬ (∀ sec ∈ r.overlap, (w.overlapGiven e n r secs).live.holder sec ≠ some (n, .overlap)) → o = x.overlap) := by
  have hu : (w.releaseSections e n secs).live.slot n = some x := hx
  have hheld (sec : Nat) : (w.overlapGiven e n r secs).live.holder sec = (w.releaseSections e n secs).live.holder sec := by
    rw [Work.overlapGiven_rest]
    rfl
  simp only [hheld]
  unfold Work.overlapGiven
  split
  · next h =>
    simp only [List.all_eq_true, bne_iff_ne] at h
    exact ⟨_, Work.slotTo_found hu _, fun _ => rfl, fun hn => absurd h hn⟩
  · next h =>
    simp only [List.all_eq_true, bne_iff_ne] at h
    exact ⟨_, hu, fun hn => absurd hn h, fun _ => rfl⟩

theorem Work.releaseOverlap_found {e : Env} {n : Nat} {r : RouteEntry} {secs : List Nat} {w : Work} {x : Slot}
    (hx : w.live.slot n = some x) (hr : Map.find x.route e.tables.routes = some r) :
    w.releaseOverlap e n secs = (w.overlapGiven e n r secs).freeIfDone e n :=
  Work.withSlot_found (w := w.releaseSections e n secs) hx hr

/-- The release of overlap sections, from a step at work that differs from the one before in the slot alone. -/
theorem Work.releaseOverlap_released {e : Env} {n : Nat} {x : Slot} {r : RouteEntry} {secs : List Nat} {before v : Work}
    (hr : Map.find x.route e.tables.routes = some r) (hs : x.state = .entered)
    (hv : v = { before with live := { before.live with slots := v.live.slots } })
    (hother : ∀ m ≠ n, v.live.slot m = before.live.slot m)
    (hx : v.live.slot n = some { x with timer := none, overlap := some .timing }) :
    OverlapReleased e n x r (fun sec => sec ∈ secs) before (v.releaseOverlap e n secs) := by
  have hlive : v.live = { before.live with slots := v.live.slots } := congrArg Work.live hv
  have hsections (sec : Nat) : before.live.sectionAt sec = v.live.sectionAt sec := by rw [hlive]; rfl
  have hpoints (p : Nat) : before.live.point p = v.live.point p := by rw [hlive]; rfl
  have hrest := Work.overlapGiven_rest e n r secs v
  have hrestlive := congrArg Work.live hrest
  have hkept : ∀ m ≠ n, _ := fun m hm => (Work.overlapGiven_other hm e r secs v).trans (hother m hm)
  obtain ⟨o, hz, hreleased, htiming⟩ := Work.overlapGiven_slot (e := e) (r := r) (secs := secs) hx
  rw [Work.releaseOverlap_found hx hr]
  generalize v.overlapGiven e n r secs = w at hz hreleased htiming hrest hrestlive hkept
  have hsec (sec : Nat) : w.live.sectionAt sec = (v.releaseSections e n secs).live.sectionAt sec := by rw [hrestlive]; rfl
  have hpoint (p : Nat) : w.live.point p = (v.releaseSections e n secs).live.point p := by rw [hrestlive]; rfl
  refine ⟨w, _, hz, rfl, fun sec y hy => ?_, fun p y hy => ?_, ?_, ?_, ?_, fun m hm => ?_, ?_, ?_, hreleased, htiming,
    fun h hc => ?_, fun h => ?_⟩
  · rw [hsections] at hy
    rw [hsec, Work.releaseSections_sectionAt, hy]
    exact ⟨fun hg hl => congrArg some (if_pos ⟨hg, hl⟩), fun h => congrArg some (if_neg (not_and_or.mpr h))⟩
  · rw [hpoints] at hy
    rw [hpoint, show w.places = _ from congrArg Work.places hrest]
    have lies : (∃ sec, e.tables.pointSection p = some sec ∧ sec ∈ secs) ↔
        ∃ sec ∈ secs, e.tables.pointSection p = some sec := exists_congr fun _ => and_comm
    exact ⟨fun h hl => Work.releaseSections_unlocks hy hl (lies.mp h),
      fun h => Work.releaseSections_point hy (h.imp (mt lies.mpr) id)⟩
  · exact (show w.live.claims = v.live.claims by rw [hrestlive]; rfl).trans (by rw [hlive])
  · exact (show w.live.queue = v.live.queue by rw [hrestlive]; rfl).trans (by rw [hlive])
  · exact (show w.live.reports = v.live.reports by rw [hrestlive]; rfl).trans (by rw [hlive])
  · exact hkept m hm
  · exact (show w.todo = v.todo by rw [hrest]; rfl).trans (by rw [hv])
  · exact congrArg Work.scan hrest
  · rw [Work.freeIfDone_found hz hr hs, if_pos ⟨hc, .inr (hreleased h)⟩]
  · rw [Work.freeIfDone_found hz hr hs, if_neg]
    rintro ⟨hc, ho⟩
    refine h.elim (fun h => ?_) (fun h => h hc)
    simp [htiming h] at ho

/-- The overlap sections that an expiry gives back are those that are not OCCUPIED. -/
theorem Live.mem_vacated {l : Live} {r : RouteEntry} : (fun sec => sec ∈
    r.overlap.filter (fun s => (l.sectionAt s).any (fun y => y.state != .occupied))) = l.vacatedOverlap r := by
  funext sec
  simp [Live.vacatedOverlap, Option.any_eq_true]

/-- An overlap in TIMING expires (R118), from a step at work whose slot alone differs from the one before. -/
theorem Work.overlapExpire_released {e : Env} {n : Nat} {x : Slot} {r : RouteEntry} {before v : Work} {timer : Option SlotTimer}
    (hr : Map.find x.route e.tables.routes = some r) (hs : x.state = .entered)
    (hv : v = { before with live := { before.live with slots := v.live.slots } })
    (hother : ∀ m ≠ n, v.live.slot m = before.live.slot m)
    (hx : v.live.slot n = some { x with timer := timer, overlap := some .timing }) :
    OverlapReleased e n x r (before.live.vacatedOverlap r) before (v.overlapExpire e n) := by
  have hexpires : v.overlapExpire e n = (v.slotTo n (fun x => { x with timer := none })).releaseOverlap e n
      (r.overlap.filter (fun s => (v.live.sectionAt s).any (fun y => y.state != .occupied))) := by
    rw [Work.overlapExpire, Work.withSlot_found hx hr]
    simp [hs]
  have hsections (sec : Nat) : v.live.sectionAt sec = before.live.sectionAt sec := by rw [hv]; rfl
  rw [hexpires, ← Live.mem_vacated]
  simp only [hsections]
  exact Work.releaseOverlap_released hr hs (by rw [hv]; rfl)
    (fun m hm => (Work.slotTo_other hm _ _).trans (hother m hm)) (Work.slotTo_found hx _)

/-- A slot expires by its timer's moment, read from its record. -/
theorem Slot.overlapMoment_iff {x : Slot} {moment : Nat} : x.overlapMoment = some moment ↔
    x.state = .entered ∧ x.overlap = some .timing ∧ ∃ y, x.timer = some y ∧ y.expiry = moment := by
  unfold Slot.overlapMoment
  split
  · next h => simp [h.1, h.2]
  · next h => simpa using fun hs ho => absurd ⟨hs, ho⟩ h

theorem Slot.releaseMoment_iff {x : Slot} {moment : Nat} : x.releaseMoment = some moment ↔
    x.state = .timedRelease ∧ ∃ y, x.timer = some y ∧ y.expiry = moment := by
  unfold Slot.releaseMoment
  split
  · next h => simp [h]
  · next h => simp [h]

/-- Settles O14. -/
theorem slotTimersExpire : Obligations.SlotTimersExpire := by
  intro n s hp
  refine ⟨fun x y hx hs hy hmoment => ?_, fun h => ?_, fun x y r hx hs ho hy hmoment hr => ?_, fun h => ?_⟩
  · refine (event_on _ _ hp).trans (congrArg _ ?_)
    have hreach : (s.live.slot n).bind Slot.releaseMoment = some y.expiry := by
      rw [hx]
      exact Slot.releaseMoment_iff.mpr ⟨hs, y, hy, rfl⟩
    rw [timedReleaseExpired, hreach, State.expire_reached _ hmoment, State.doing_eq]
  · refine (event_on _ _ hp).trans (congrArg _ (State.expire_early _ fun moment hmoment => ?_))
    obtain ⟨x, hx, hx'⟩ := Option.bind_eq_some_iff.mp hmoment
    obtain ⟨hs, y, hy, rfl⟩ := Slot.releaseMoment_iff.mp hx'
    exact h x y hx hs hy
  · refine ⟨_, (event_on _ _ hp).trans (congrArg _ ?_), Work.overlapExpire_released (timer := x.timer) hr hs rfl
      (fun _ _ => rfl) (ho ▸ hx)⟩
    have hreach : (s.live.slot n).bind Slot.overlapMoment = some y.expiry := by
      rw [hx]
      exact Slot.overlapMoment_iff.mpr ⟨hs, ho, y, hy, rfl⟩
    rw [overlapExpired, hreach, State.expire_reached _ hmoment, State.doing_eq]
  · refine (event_on _ _ hp).trans (congrArg _ (State.expire_early _ fun moment hmoment => ?_))
    obtain ⟨x, hx, hx'⟩ := Option.bind_eq_some_iff.mp hmoment
    obtain ⟨hs, ho, y, hy, rfl⟩ := Slot.overlapMoment_iff.mp hx'
    exact h x y hx hs ho hy

/-! ## Overlap timing and FLEET STOP -/

/-- A slot that does not meet a condition of the work is passed over. -/
theorem Work.withSlot_idle {e : Env} {n : Nat} {f : Slot → RouteEntry → Work → Work} {w : Work} {x : Slot}
    (hx : w.live.slot n = some x) (h : ∀ r, f x r w = w) : w.withSlot e n f = w := by
  unfold Work.withSlot
  simp only [hx]
  cases Map.find x.route e.tables.routes with
  | none => rfl
  | some r => exact h r

theorem Work.releaseTest_idle {e : Env} {n : Nat} {w : Work} {x : Slot} (hx : w.live.slot n = some x)
    (hs : x.state ≠ .entered) : w.releaseTest e n = w :=
  Work.withSlot_idle hx fun r => by simp [hs]

/-- Overlap timing starts in ENTERED alone, with no train to follow and the last path section marked (R117). -/
def Slot.startsOverlap (x : Slot) : Prop :=
  x.state = .entered ∧ x.fleet = 0 ∧ x.overlap = some .locked ∧ x.marks.getLast? = some true

theorem Work.startOverlap_idle {e : Env} {n : Nat} {w : Work} {x : Slot} (hx : w.live.slot n = some x)
    (h : ¬ x.startsOverlap) : w.startOverlap e n = w := by
  refine Work.withSlot_idle hx fun r => if_neg ?_
  simpa [Slot.startsOverlap, and_assoc] using h

/-- The slot's record when its overlap is timed from now. -/
def Slot.timed (e : Env) (r : RouteEntry) (x : Slot) : Slot :=
  { x with overlap := some .timing, timer := some { expiry := e.clock + r.overlapTime * 10, cause := none } }

theorem Work.startOverlap_found {e : Env} {n : Nat} {w : Work} {x : Slot} {r : RouteEntry} (hx : w.live.slot n = some x)
    (hr : Map.find x.route e.tables.routes = some r) (h : x.startsOverlap) : w.startOverlap e n =
      if r.overlapTime = 0 then (w.slotTo n (Slot.timed e r)).overlapExpire e n else w.slotTo n (Slot.timed e r) := by
  obtain ⟨hs, hf, ho, hm⟩ := h
  rw [Work.startOverlap, Work.withSlot_found hx hr, if_pos (by simp [hs, hf, ho, hm])]
  rfl

/-- FLEET STOP for a slot that follows no train changes its fleet remaining alone. -/
theorem Work.stopFleet_idle {e : Env} {n : Nat} {w : Work} {x : Slot} (hx : w.live.slot n = some x)
    (hs : x.state ≠ .entered) : w.stopFleet e n = w.slotTo n (fun x => { x with fleet := 0 }) := by
  have hx' := Work.slotTo_found hx (fun x => { x with fleet := 0 })
  rw [Work.stopFleet, Work.releaseTest_idle hx' hs, Work.startOverlap_idle hx' fun h => hs h.1]

/-- Settles O15. -/
theorem fleetStopEndsTheRun : Obligations.FleetStopEndsTheRun := by
  refine ⟨fun e n x r w hx hr => ⟨Work.startOverlap_idle hx, fun h ht => ?_, fun h ht => ?_⟩, fun tag route s hs => ?_⟩
  · rw [Work.startOverlap_found hx hr h, if_neg (by omega)]
    exact ⟨rfl, fun m hm => Work.slotTo_other hm _ _, Work.slotTo_found hx _⟩
  · rw [Work.startOverlap_found hx hr h, if_pos ht]
    exact Work.overlapExpire_released hr h.1 rfl (fun m hm => Work.slotTo_other hm _ _) (Work.slotTo_found hx _)
  · refine ⟨fun hm => control_refused hs (by simp [fleetStop, hm]), fun hm hr =>
      control_refused hs (by simp [fleetStop, hm, Map.has, hr]), fun hm hr => ⟨fun n x hslot hx => ⟨fun hstate => ?_,
      fun hstate => ?_⟩, fun hslot => ⟨fun ⟨q, hq, hroute⟩ => ?_, fun hnone => ?_⟩⟩⟩
    · refine control_answered hs ?_
      have hidle := Work.stopFleet_idle (e := s.env) (w := s.work) hx hstate
      simp only [fleetStop, hm, Map.has, hr, hslot, Bool.not_true, Bool.false_eq_true, if_false, State.doing_eq, hidle]
      rw [State.ending_idle _ _ rfl rfl rfl rfl]
      rfl
    · refine control_answered hs ?_
      simp only [fleetStop, hm, Map.has, hr, hslot, Bool.not_true, Bool.false_eq_true, if_false, State.doing_eq]
      rfl
    · refine control_answered hs ?_
      have hwaits : (s.live.requestOf route).isSome = true := List.find?_isSome.mpr ⟨q, hq, beq_iff_eq.mpr hroute⟩
      simp [fleetStop, hm, Map.has, hr, hslot, hwaits]
      rfl
    · have hwaits : s.live.requestOf route = none := List.find?_eq_none.mpr fun q hq => by simpa using hnone q hq
      exact control_refused hs (by simp [fleetStop, hm, Map.has, hr, hslot, hwaits])

/-! ## Emergency release -/

/-- A slot enters TIMED_RELEASE for a time that is not 0 (R122). -/
theorem Work.timedRelease_found {e : Env} {n seconds : Nat} {cause : ReleaseCause} {w : Work} {x : Slot}
    (hx : w.live.slot n = some x) (ht : seconds ≠ 0) : w.timedRelease e n cause seconds =
      (w.slotTo n (fun x => { x with
        state := .timedRelease, fleet := 0, held := none
        timer := some { expiry := e.clock + seconds * 10, cause := some cause } })).scanIf
          (x.state == .clearing || x.state == .clear || x.state == .entered) := by
  simp [Work.timedRelease, hx, ht]

theorem State.armed_iff {n : Nat} {s : State} :
    s.armed n = true ↔ ∃ a, s.live.arm = some a ∧ a.slot = n ∧ s.clock < a.expiry := by
  simp [State.armed, Option.any_eq_true]

theorem Slot.armable_iff {x : Slot} : x.armable = true ↔ x.state = .entered ∨ x.state = .replaced := by
  simp [Slot.armable]

/-- Settles O17. -/
theorem emergencyReleaseNeedsItsArm : Obligations.EmergencyReleaseNeedsItsArm := by
  refine ⟨fun tag n s hs => ⟨fun hm => ⟨control_refused hs (by simp [Machine.releaseArm, hm]),
    control_refused hs (by simp [Machine.releaseConfirm, hm])⟩, fun hm => ⟨fun hx => ?_, fun x hx => ⟨fun hstate => ?_,
      fun hentered hreplaced => ?_⟩⟩⟩, fun s hp => ⟨fun a ha hmoment => ?_, fun h => ?_⟩, fun tag n s hs hm =>
      ⟨fun x r hx hr harmed hstate => ?_, fun h => ?_⟩⟩
  · exact control_refused hs (by simp [Machine.releaseArm, hm, hx])
  · refine control_answered hs ?_
    have harmable := Slot.armable_iff.mpr hstate
    simp [Machine.releaseArm, hm, hx, harmable]
    rfl
  · have harmable : x.armable = false := by simp [Slot.armable, hentered, hreplaced]
    exact control_refused hs (by simp [Machine.releaseArm, hm, hx, harmable])
  · refine (event_on _ _ hp).trans (congrArg _ ?_)
    rw [armExpired, ha, Option.map_some, State.expire_reached _ hmoment]
  · refine (event_on _ _ hp).trans (congrArg _ (State.expire_early _ fun moment hmoment => ?_))
    obtain ⟨a, ha, rfl⟩ := Option.map_eq_some_iff.mp hmoment
    exact h a ha
  · refine ⟨s.work.emergency s.env n x.route, control_answered hs ?_, ?_⟩
    · simp only [Machine.releaseConfirm, hm, hx, State.armed_iff.mpr harmed, Slot.armable_iff.mpr hstate, State.doing_eq]
      rfl
    · have htime : s.env.tables.releaseTime x.route .emergency = max r.approachTime 60 := by
        show max (((Map.find x.route s.store.active.routes).map _).getD 0) 60 = _
        rw [hr]
        rfl
      have hx' : (s.work.on (fun l => { l with arm := none })).live.slot n = some x := hx
      rw [Work.emergency, htime, Work.timedRelease_found hx' (by omega)]
      rcases hstate with hstate | hstate <;> simp only [hstate] <;> exact ⟨rfl, rfl, rfl⟩
  · refine control_refused hs ?_
    cases hx : s.live.slot n with
    | none => simp [Machine.releaseConfirm, hm, hx]
    | some x =>
      have hnot : (s.armed n && x.armable) = false := by
        rw [← Bool.not_eq_true, Bool.and_eq_true, State.armed_iff, Slot.armable_iff]
        rintro ⟨harmed, hstate⟩
        obtain h | h | ⟨y, hy, hentered, hreplaced⟩ := h
        · exact h harmed
        · simp [hx] at h
        · cases hx.symm.trans hy
          exact hstate.elim hentered hreplaced
      simp [Machine.releaseConfirm, hm, hx, hnot]

/-! ## STAGE HOLD -/

theorem Stage.ofCode_code (g : Stage) : Stage.ofCode g.code = some g := by cases g <;> rfl

theorem Stage.ofCode_none {c : Nat} (h1 : c ≠ 1) (h2 : c ≠ 2) : Stage.ofCode c = none := by
  unfold Stage.ofCode
  split
  · contradiction
  · contradiction
  · rfl

/-- A removed hold lets the slot go on that is held at the stage, and no other. -/
theorem Work.endHold_idle {e : Env} {route : Nat} {g : Stage} {w : Work}
    (h : ∀ n x, w.live.slotOf route = some (n, x) → x.held ≠ some g) : w.endHold e route g = w := by
  unfold Work.endHold
  split
  · next n x hx => rw [if_neg (h n x hx)]
  · rfl

theorem Work.endHold_found {e : Env} {route n : Nat} {g : Stage} {w : Work} {x : Slot}
    (hx : w.live.slotOf route = some (n, x)) (hheld : x.held = some g) : w.endHold e route g = w.goOn e n := by
  simp [Work.endHold, hx, hheld]

/-- Settles O18. -/
theorem stageHoldKeepsEightEntries : Obligations.StageHoldKeepsEightEntries := by
  intro tag route stage action g s hs
  refine ⟨fun hm => control_refused hs (by simp [stageHold, hm]), fun hm hr => control_refused hs
    (by simp [stageHold, hm, Map.has, hr]), fun hm hr => ⟨fun hform => ?_, ?_⟩⟩
  · refine control_refused hs ?_
    simp only [stageHold, hm, Map.has, hr, Bool.not_true, Bool.false_eq_true, if_false]
    obtain ⟨h1, h2⟩ | ⟨h1, h2⟩ := hform
    · simp [Stage.ofCode_none h1 h2]
    · split
      · exact absurd rfl h1
      · exact absurd rfl h2
      · rfl
  · rintro rfl
    refine ⟨?_, ?_⟩
    · rintro rfl
      have sets : stageHold route g.code 1 s = s.setsHold route g := by
        simp [stageHold, hm, Map.has, hr, Stage.ofCode_code]
      refine ⟨fun hin => control_answered hs ?_, fun hin hfull => control_refused hs ?_,
        fun hin hroom => control_answered hs ?_⟩
      · simp [sets, State.setsHold, hin]
      · simp [sets, State.setsHold, hin, Config.holdPlaces, hfull]
      · simp [sets, State.setsHold, hin, Config.holdPlaces, Nat.not_le.mpr hroom]
    · rintro rfl
      have removes : stageHold route g.code 2 s = s.removesHold route g := by
        simp [stageHold, hm, Map.has, hr, Stage.ofCode_code]
      refine ⟨fun hin => control_refused hs (by simp [removes, State.removesHold, hin]), fun hin => ?_⟩
      let t : State := { s with stageHolds := s.stageHolds.filter (fun y => y != (route, g)) }
      have ends : s.removesHold route g = (t.ending (t.work.endHold t.env route g)).answers (.plain .done) := by
        simp only [State.removesHold, List.contains_iff_mem.mpr hin, if_true]
        rfl
      refine ⟨fun h => control_answered hs ?_, fun n x hx hheld => control_answered hs ?_⟩
      · rw [removes, ends, Work.endHold_idle h, State.ending_work]
      · rw [removes, ends, Work.endHold_found hx hheld]

end Sys2Proof.Machine
end

section
/-! PROOFS. The Report Queue and the telegrams about it (12.1): what an offered report does, and FETCH, STATUS, ALARM ACK and
QUERY. -/

namespace Sys2Proof.Machine

/-! ## Offering a report -/

theorem withoutOldestC_first {a b : List Report} {x : Report} (ha : ∀ y ∈ a, y.cls ≠ .c) (hx : x.cls = .c) :
    withoutOldestC (a ++ x :: b) = some (a ++ b) := by
  induction a with
  | nil => simp [withoutOldestC, hx]
  | cons y a ih =>
    obtain ⟨hy, ha⟩ := List.forall_mem_cons.mp ha
    simp [withoutOldestC, hy, ih ha]

theorem withoutOldestC_none {qs : List Report} (h : ∀ y ∈ qs, y.cls ≠ .c) : withoutOldestC qs = none := by
  induction qs with
  | nil => rfl
  | cons y qs ih =>
    obtain ⟨hy, hqs⟩ := List.forall_mem_cons.mp h
    simp [withoutOldestC, hy, ih hqs]

/-- The queue with a report numbered, before it is kept or not: class A becomes the latest and may set the hold. -/
def ReportQueue.numbered (stop : Bool) (r : Report) (q : ReportQueue) : ReportQueue :=
  { q with
    counter := q.counter + 1
    latestA := if r.cls = .a then some r.sequence else q.latestA
    hold := q.hold || (r.cls == .a && stop) }

theorem ReportQueue.offer_eq (stop : Bool) (r : Report) (q : ReportQueue) : q.offer stop r = (q.numbered stop r).keep r := rfl

theorem ReportQueue.keep_room {r : Report} {q : ReportQueue} (h : q.reports.length < 128) :
    q.keep r = { q with reports := q.reports ++ [r] } := if_pos h

theorem ReportQueue.keep_discards {r : Report} {q : ReportQueue} (h : ¬ q.reports.length < 128) (hc : r.cls = .c) :
    q.keep r = { q with lostC := true } := (if_neg h).trans (if_pos hc)

theorem ReportQueue.keep_displaces {r : Report} {q : ReportQueue} {rest : List Report} (h : ¬ q.reports.length < 128)
    (hc : r.cls ≠ .c) (hrest : withoutOldestC q.reports = some rest) : q.keep r = { q with reports := rest ++ [r] } := by
  refine (if_neg h).trans ((if_neg hc).trans ?_)
  rw [hrest]

theorem ReportQueue.keep_loses {r : Report} {q : ReportQueue} (h : ¬ q.reports.length < 128) (hc : r.cls ≠ .c)
    (hrest : withoutOldestC q.reports = none) : q.keep r = { q with lostAB := true } := by
  refine (if_neg h).trans ((if_neg hc).trans ?_)
  rw [hrest]

/-- Keeping a report writes the reports and the lost flags alone. -/
theorem ReportQueue.keep_rest (r : Report) (q : ReportQueue) : q.keep r = { q with
    reports := (q.keep r).reports, lostAB := (q.keep r).lostAB, lostC := (q.keep r).lostC } := by
  unfold ReportQueue.keep
  split
  · rfl
  · split
    · rfl
    · split <;> rfl

/-- A full queue does not grow. -/
theorem ReportQueue.keep_full {r : Report} {q : ReportQueue} (h : ¬ q.reports.length < 128) :
    (q.keep r).reports.length = q.reports.length := by
  by_cases hc : r.cls = .c
  · rw [ReportQueue.keep_discards h hc]
  · cases hrest : withoutOldestC q.reports with
    | none => rw [ReportQueue.keep_loses h hc hrest]
    | some rest =>
      rw [ReportQueue.keep_displaces h hc hrest]
      simp [withoutOldestC_length hrest]

/-- A report offered to a queue that has a place: the notice may follow. -/
theorem Live.offer_room {e : Env} {cls : ReportClass} {code : ReportCode} {kind : SubjectKind} {number : Nat}
    {detail : Option Nat} {l : Live} (h : l.reports.reports.length < 128) :
    l.offer e cls code kind number detail = Live.noticeReports e.tables.watermark { l with
      reports := l.reports.offer e.tables.stopOnAlarm (l.reports.next e.clock cls code kind number detail) } := by
  refine if_pos ?_
  rw [ReportQueue.offer_eq, ReportQueue.keep_room (q := l.reports.numbered _ _) h]
  simp [ReportQueue.numbered]

theorem Live.offer_full {e : Env} {cls : ReportClass} {code : ReportCode} {kind : SubjectKind} {number : Nat}
    {detail : Option Nat} {l : Live} (h : ¬ l.reports.reports.length < 128) :
    l.offer e cls code kind number detail = { l with
      reports := l.reports.offer e.tables.stopOnAlarm (l.reports.next e.clock cls code kind number detail) } := by
  refine if_neg (Nat.not_lt.mpr (Nat.le_of_eq ?_))
  rw [ReportQueue.offer_eq]
  exact ReportQueue.keep_full h

/-- The notice writes the armed flag of the queue alone. -/
theorem Live.noticeReports_reports (watermark : Nat) (l : Live) : (l.noticeReports watermark).reports = { l.reports with
    armed := (l.noticeReports watermark).reports.armed } := by
  unfold Live.noticeReports
  split <;> rfl

/-- The queue after an offered report, but for the armed flag. -/
theorem Live.offer_kept (e : Env) (cls : ReportClass) (code : ReportCode) (kind : SubjectKind) (number : Nat)
    (detail : Option Nat) (l : Live) : (l.offer e cls code kind number detail).reports = {
      (l.reports.numbered e.tables.stopOnAlarm (l.reports.next e.clock cls code kind number detail)).keep
        (l.reports.next e.clock cls code kind number detail) with
      armed := (l.offer e cls code kind number detail).reports.armed } := by
  by_cases h : l.reports.reports.length < 128
  · rw [Live.offer_room h]
    exact Live.noticeReports_reports ..
  · rw [Live.offer_full h]
    rfl

/-- The armed notice goes when the queue has grown to its watermark. -/
theorem Live.offer_noticed {e : Env} {cls : ReportClass} {code : ReportCode} {kind : SubjectKind} {number : Nat}
    {detail : Option Nat} {l : Live} (h : l.reports.reports.length < 128) (harmed : l.reports.armed = true)
    (hmark : e.tables.watermark ≤ l.reports.reports.length + 1) :
    (l.offer e cls code kind number detail).reports.armed = false ∧
      (l.offer e cls code kind number detail).sent = l.sent ++ [.reportNotice (l.reports.reports.length + 1)] := by
  rw [Live.offer_room h, ReportQueue.offer_eq, ReportQueue.keep_room (q := l.reports.numbered _ _) h]
  simp [Live.noticeReports, ReportQueue.numbered, harmed, hmark]

/-- Otherwise it stays as it was, and none goes. -/
theorem Live.offer_unnoticed {e : Env} {cls : ReportClass} {code : ReportCode} {kind : SubjectKind} {number : Nat}
    {detail : Option Nat} {l : Live} (hn : ¬ (l.reports.reports.length < 128 ∧ l.reports.armed = true ∧
      e.tables.watermark ≤ l.reports.reports.length + 1)) :
    (l.offer e cls code kind number detail).reports.armed = l.reports.armed ∧
      (l.offer e cls code kind number detail).sent = l.sent := by
  by_cases h : l.reports.reports.length < 128
  · have hnot : ¬ (l.reports.armed = true ∧ e.tables.watermark ≤ l.reports.reports.length + 1) := fun hw => hn ⟨h, hw⟩
    rw [Live.offer_room h, ReportQueue.offer_eq, ReportQueue.keep_room (q := l.reports.numbered _ _) h, Live.noticeReports,
      if_neg (by simpa [ReportQueue.numbered] using hnot)]
    exact ⟨rfl, rfl⟩
  · rw [Live.offer_full h, ReportQueue.offer_eq, ReportQueue.keep_rest]
    exact ⟨rfl, rfl⟩

/-- Settles O49: by whether the queue has a place, and then by the class of the report. -/
theorem everyReportIsNumbered : Obligations.EveryReportIsNumbered := by
  intro e cls code kind number detail l q after r grown noticed
  have hafter : after = { (q.numbered e.tables.stopOnAlarm r).keep r with armed := after.armed } :=
    Live.offer_kept e cls code kind number detail l
  have hrest := ReportQueue.keep_rest r (q.numbered e.tables.stopOnAlarm r)
  have hcounter : after.counter = q.counter + 1 := by rw [hafter, hrest]; rfl
  have hlatest : after.latestA = if cls = .a then some q.counter else q.latestA := by rw [hafter, hrest]; rfl
  have hhold : after.hold = (q.hold || (cls == .a && e.tables.stopOnAlarm)) := by rw [hafter, hrest]; rfl
  have hreports : after.reports = ((q.numbered e.tables.stopOnAlarm r).keep r).reports := by rw [hafter]
  have hlostAB : after.lostAB = ((q.numbered e.tables.stopOnAlarm r).keep r).lostAB := by rw [hafter]
  have hlostC : after.lostC = ((q.numbered e.tables.stopOnAlarm r).keep r).lostC := by rw [hafter]
  refine ⟨hcounter, hlatest, by simp [hhold], fun h => ?_, fun h => ⟨fun hc => ?_, fun hc =>
    ⟨fun a x b hq ha hx => ?_, fun hnone => ?_⟩⟩, fun h => ?_, fun h => ?_⟩
  · rw [hreports, hlostAB, hlostC, ReportQueue.keep_room (q := q.numbered _ r) h]
    exact ⟨rfl, rfl, rfl⟩
  · rw [hreports, hlostAB, hlostC, ReportQueue.keep_discards (q := q.numbered _ r) h hc]
    exact ⟨rfl, rfl, rfl⟩
  · rw [hreports, hlostAB, hlostC, ReportQueue.keep_displaces (q := q.numbered _ r) h hc (hq ▸ withoutOldestC_first ha hx)]
    exact ⟨rfl, rfl, rfl⟩
  · rw [hreports, hlostAB, hlostC, ReportQueue.keep_loses (q := q.numbered _ r) h hc (withoutOldestC_none hnone)]
    exact ⟨rfl, rfl, rfl⟩
  · obtain ⟨hgrown, harmed, hmark⟩ := h
    exact Live.offer_noticed hgrown harmed hmark
  · exact Live.offer_unnoticed h

/-! ## The counters of a link -/

/-- One element's part in the exported heads of a link. -/
def Tables.exportedStep (t : Tables) (link : Nat) (m : Map Nat) (n : Nat) : Map Nat :=
  match t.exportTarget n with
  | some (k, number) => if k = link then Map.put number n m else m
  | none => m

theorem Tables.exportedHeads_eq (t : Tables) (link : Nat) :
    t.exportedHeads link = (Map.ids t.elements).foldl (t.exportedStep link) [] := by
  simp only [Tables.exportedHeads, Map.ids, List.foldl_map]
  rfl

theorem Tables.exportedStep_target {t : Tables} {link number n : Nat} {m : Map Nat}
    (h : t.exportTarget n = some (link, number)) : t.exportedStep link m n = Map.put number n m := by
  simp [Tables.exportedStep, h]

/-- A step either leaves the heads found so far or puts an exported head under its number. -/
theorem Tables.exportedStep_cases (t : Tables) (link : Nat) (m : Map Nat) (n : Nat) :
    t.exportedStep link m n = m ∨
      ∃ number, t.exportTarget n = some (link, number) ∧ t.exportedStep link m n = Map.put number n m := by
  unfold Tables.exportedStep
  split
  · next k number h =>
    by_cases hk : k = link
    · exact .inr ⟨number, hk ▸ h, if_pos hk⟩
    · exact .inl (if_neg hk)
  · exact .inl rfl

/-- The exported heads of a link stand by rising number, each exported under it. -/
theorem Tables.exportedHeads_spec (t : Tables) (link : Nat) : (Map.ids (t.exportedHeads link)).Pairwise (· < ·) ∧
    ∀ x ∈ t.exportedHeads link, t.exportTarget x.2 = some (link, x.1) := by
  rw [Tables.exportedHeads_eq]
  induction Map.ids t.elements using List.reverseRecOn with
  | nil => simp [Map.ids]
  | append_singleton ns n ih =>
    rw [List.foldl_append, List.foldl_cons, List.foldl_nil]
    obtain h | ⟨number, htarget, h⟩ := t.exportedStep_cases link (ns.foldl (t.exportedStep link) []) n
    · rwa [h]
    · rw [h]
      refine ⟨(Map.put_rising _ _ _ ih.1).1, fun x hx => ?_⟩
      obtain rfl | hx := Map.mem_put hx
      · exact htarget
      · exact ih.2 x hx

/-- A head that alone is exported under its number of a link is found there. -/
theorem Tables.find_exportedHeads {t : Tables} {link number n : Nat} (h : t.exportTarget n = some (link, number))
    (alone : ∀ m, t.exportTarget m = some (link, number) → m = n) : Map.find number (t.exportedHeads link) = some n := by
  have present : n ∈ Map.ids t.elements := by
    cases he : Map.find n t.elements with
    | none => simp [Tables.exportTarget, he] at h
    | some e => exact List.mem_map_of_mem (f := Prod.fst) (Map.mem_of_find he)
  rw [Tables.exportedHeads_eq]
  generalize Map.ids t.elements = ns at present
  induction ns using List.reverseRecOn with
  | nil => simp at present
  | append_singleton ns m ih =>
    rw [List.foldl_append, List.foldl_cons, List.foldl_nil]
    obtain hn | hn := List.mem_append.mp present
    · obtain hkeep | ⟨other, htarget, hput⟩ := t.exportedStep_cases link (ns.foldl (t.exportedStep link) []) m
      · rw [hkeep]
        exact ih hn
      · rw [hput]
        by_cases ho : other = number
        · subst ho
          rw [alone m htarget, Map.find_put_self]
        · rw [Map.find_put_ne (Ne.symm ho)]
          exact ih hn
    · obtain rfl := List.mem_singleton.mp hn
      rw [Tables.exportedStep_target h, Map.find_put_self]

theorem Live.mem_exportsOf {t : Tables} {link : Nat} {k : LinkRec} {x : Nat × Octet × Octet} :
    x ∈ Live.exportsOf t link k ↔ ∃ n, (x.1, n) ∈ t.exportedHeads link ∧ Map.find n k.exported = some x.2 := by
  obtain ⟨number, c⟩ := x
  simp [Live.exportsOf]

/-- The counters of a link stand by rising number. -/
theorem Live.exportsOf_rises (t : Tables) (link : Nat) (k : LinkRec) :
    (Live.exportsOf t link k).Pairwise (fun x y => x.1 < y.1) := by
  refine List.pairwise_filterMap.mpr ((List.pairwise_map.mp (t.exportedHeads_spec link).1).imp fun {a b} hab x hx y hy => ?_)
  obtain ⟨_, -, rfl⟩ := Option.map_eq_some_iff.mp hx
  obtain ⟨_, -, rfl⟩ := Option.map_eq_some_iff.mp hy
  exact hab

/-! ## FETCH, STATUS, ALARM ACK and QUERY -/

/-- What a query sends: the record it names, or UNKNOWN. -/
def queryAnswer (tag : Nat) (x : Option Payload) : Sent :=
  match x with
  | some data => .answer tag 24 .done none data
  | none => codeAnswer tag 24 .unknown

theorem query_taken {tag kind n id : Nat} {s : State} (hs : s.Running) (hk : queryKind kind = true) :
    exec (.query tag kind n id) s = .next (s.sending (queryAnswer tag (s.record kind n id))) := by
  refine (control_running _ _ _ _ _ hs).trans (congrArg _ ?_)
  rw [query, hk]
  cases s.record kind n id <;> rfl

/-- The bits of flags up to 3. -/
theorem testBit_flags {flags : Nat} (h : flags ≤ 3) :
    (!flags.testBit 0) = (flags % 2 == 0) ∧ (!flags.testBit 1) = (flags / 2 == 0) := by
  interval_cases flags <;> decide

theorem Tables.tableNumber_iff {n : Nat} : tableNumber n = true ↔ 1 ≤ n ∧ n ≤ 5 := by
  simp [tableNumber]

/-- Settles O50. -/
theorem reportAndQueryTelegrams : Obligations.ReportAndQueryTelegrams := by
  refine ⟨fun tag count flags s hs => ⟨fun h => control_refused hs (by simp [reportFetch, h]), fun h => ?_, ?_, fun h =>
    control_refused hs (by simp [statusClear, h]), fun h => ?_⟩, fun tag n id sequence s hs => ⟨fun h =>
    control_refused hs (by simp [alarmAck, h]), fun hhold latest hl => ⟨fun hseq => control_answered hs ?_, fun hseq =>
    control_refused_with hs ?_⟩, fun hhold hl => control_refused hs ?_, fun kind hk => control_refused hs ?_,
    query_taken hs rfl, query_taken hs rfl, query_taken hs rfl, query_taken hs rfl, query_taken hs rfl, fun h =>
    (query_taken hs rfl).trans ?_, fun h1 h5 => (query_taken hs rfl).trans ?_, fun h => (query_taken hs rfl).trans ?_,
    fun t link k => ⟨Live.exportsOf_rises t link k, fun x hx => ?_, fun n number c hc alone => ?_⟩⟩⟩
  · refine (control_running _ _ _ _ _ hs).trans (congrArg _ ?_)
    rw [reportFetch, if_neg (by omega)]
    simp only [State.answers, Taken.outcome, List.length_take, Nat.min_comm, List.length_drop, ReportQueue.fetch,
      State.onReports]
    rfl
  · exact (control_running _ _ _ _ _ hs)
  · refine (control_running _ _ _ _ _ hs).trans (congrArg _ ?_)
    obtain ⟨h0, h1⟩ := testBit_flags h
    rw [statusClear, if_neg (by omega)]
    simp only [h0, h1]
    rfl
  · have : alarmAck sequence s = s.clearsHold.answers (.plain .done) := by simp [alarmAck, hhold, hl, hseq]
    exact this.trans rfl
  · simp [alarmAck, hhold, hl, Ne.symm hseq]
    rfl
  · simp [alarmAck, hhold, hl]
    rfl
  · have : queryKind kind = false := by simpa [queryKind] using hk
    simp [query, this]
  · subst h
    rfl
  · have : s.record 8 n id = some (.table (s.store.marks.of n) (s.store.staging.entryAt n id)) := by
      show s.tableData n id = _
      rw [State.tableData, if_neg (by omega), if_pos (Tables.tableNumber_iff.mpr ⟨h1, h5⟩)]
    rw [this]
    rfl
  · have : s.record 8 n id = none := by
      show s.tableData n id = _
      rw [State.tableData, if_neg (by omega), if_neg (mt Tables.tableNumber_iff.mp (by omega))]
    rw [this]
    rfl
  · obtain ⟨n, hn, hc⟩ := Live.mem_exportsOf.mp hx
    exact ⟨n, (t.exportedHeads_spec link).2 _ hn, hc⟩
  · obtain ⟨htarget, hfound⟩ := hc
    exact Live.mem_exportsOf.mpr ⟨n, Map.mem_of_find (Tables.find_exportedHeads htarget alone), hfound⟩

end Sys2Proof.Machine
end

section
/-! PROOFS. Loading the tables (Chapter 11): the checks that the loading telegrams share, the staging of a table and of an
entry, and the phases of a commit. -/

namespace Sys2Proof.Machine

/-! ## The shared checks -/

/-- A commit is in progress, or a restoring write runs. -/
theorem Store.busy_iff {x : Store} : x.busy = true ↔ x.commit ≠ none ∨ x.restoring = true := by
  simp [Store.busy, Option.isSome_iff_ne_none]

theorem Store.busy_false {x : Store} (h : ¬ (x.commit ≠ none ∨ x.restoring = true)) : x.busy = false :=
  Bool.eq_false_iff.mpr (mt Store.busy_iff.mp h)

theorem State.loadRefused_mode {s : State} (h : s.mode ≠ .suspended) (h' : s.mode ≠ .failed) :
    s.loadRefused = some .mode := by
  have : s.mode.loading = false := Bool.eq_false_iff.mpr fun hl => (Mode.loading_iff.mp hl).elim h h'
  simp [State.loadRefused, this]

section Loading
variable {s : State} (hm : s.mode = .suspended ∨ s.mode = .failed)
include hm

theorem State.loadRefused_busy (hb : s.store.commit ≠ none ∨ s.store.restoring = true) : s.loadRefused = some .busy := by
  simp [State.loadRefused, Mode.loading_iff.mpr hm, Store.busy_iff.mpr hb]

theorem State.loadRefused_frozen (hb : ¬ (s.store.commit ≠ none ∨ s.store.restoring = true)) (hf : s.store.frozen = true) :
    s.loadRefused = some .frozen := by
  simp [State.loadRefused, Mode.loading_iff.mpr hm, Store.busy_false hb, hf]

theorem State.loadRefused_passed (hb : ¬ (s.store.commit ≠ none ∨ s.store.restoring = true)) (hf : s.store.frozen = false) :
    s.loadRefused = none := by
  simp [State.loadRefused, Mode.loading_iff.mpr hm, Store.busy_false hb, hf]

end Loading

/-! ## Marks and entries by table number -/

theorem Marks.of_set {table : Nat} (h : 1 ≤ table ∧ table ≤ 5) (x : Mark) (m : Marks) : (m.set table x).of table = x := by
  obtain ⟨h1, h5⟩ := h
  interval_cases table <;> rfl

theorem Marks.of_set_ne {table other : Nat} (h : 1 ≤ other ∧ other ≤ 5) (hne : other ≠ table) (x : Mark) (m : Marks) :
    (m.set table x).of other = m.of other := by
  obtain ⟨h1, h5⟩ := h
  unfold Marks.set
  split <;> interval_cases other <;> simp_all [Marks.of]

theorem Tables.entryAt_copyTable {table : Nat} (h : 1 ≤ table ∧ table ≤ 5) (source t : Tables) (id : Nat) :
    (Tables.copyTable table source t).entryAt table id = source.entryAt table id := by
  obtain ⟨h1, h5⟩ := h
  interval_cases table <;> rfl

theorem Tables.entryAt_copyTable_ne {table other : Nat} (hne : other ≠ table) (source t : Tables) (id : Nat) :
    (Tables.copyTable table source t).entryAt other id = t.entryAt other id := by
  unfold Tables.copyTable
  split <;> unfold Tables.entryAt <;> split <;> simp_all

theorem Tables.entryAt_empty (table id : Nat) : Tables.empty.entryAt table id = none := by
  unfold Tables.entryAt
  split <;> rfl

theorem Tables.entryAt_dropEntry_self (table id : Nat) (t : Tables) : (t.dropEntry table id).entryAt table id = none := by
  unfold Tables.dropEntry
  split <;> simp [Tables.entryAt]

theorem Tables.entryAt_dropEntry_ne {table id u v : Nat} (h : u ≠ table ∨ v ≠ id) (t : Tables) :
    (t.dropEntry table id).entryAt u v = t.entryAt u v := by
  unfold Tables.dropEntry
  split <;> unfold Tables.entryAt <;> split <;> simp_all [Map.find_drop_ne]

theorem Tables.entryAt_putEntry_self (id : Nat) (e : Staged) (t : Tables) :
    (t.putEntry id e).entryAt e.table id = some e := by
  cases e <;> simp [Tables.putEntry, Tables.entryAt, Staged.table]

theorem Tables.entryAt_putEntry_ne {id u v : Nat} {e : Staged} (h : u ≠ e.table ∨ v ≠ id) (t : Tables) :
    (t.putEntry id e).entryAt u v = t.entryAt u v := by
  cases e <;> unfold Tables.putEntry Tables.entryAt <;> split <;> simp_all [Map.find_put_ne, Staged.table]

/-! ## TABLE FRESH, TABLE AMEND and TABLE ENTRY -/

/-- The content of a table is read as an entry of that table. -/
theorem readEntry_table {table : Nat} {xs : List Octet} {e : Staged} (h : readEntry table xs = some e) : e.table = table := by
  unfold readEntry at h
  split at h
  case h_6 => simp at h
  all_goals
    obtain ⟨_, -, rfl⟩ := Option.map_eq_some_iff.mp h
    rfl

/-- An empty content is no entry of any table. -/
theorem readEntry_nil (table : Nat) : readEntry table [] = none := by
  unfold readEntry
  split <;> rfl

/-- A table begun anew: its items leave the amendment record, and every other table keeps its mark and its entries. -/
theorem Store.begins_spec {table : Nat} (h : 1 ≤ table ∧ table ≤ 5) (source : Tables) (x : Mark) (st : Store) :
    let a := st.begins table source x
    a = { st with staging := a.staging, marks := a.marks, amendment := a.amendment } ∧
    a.amendment = st.amendment.filter (fun y => y.1 != table) ∧
    (∀ other, 1 ≤ other → other ≤ 5 → other ≠ table → a.marks.of other = st.marks.of other ∧
      ∀ id, a.staging.entryAt other id = st.staging.entryAt other id) ∧
    a.marks.of table = x ∧ ∀ id, a.staging.entryAt table id = source.entryAt table id :=
  ⟨rfl, rfl, fun _ h1 h5 hne => ⟨Marks.of_set_ne ⟨h1, h5⟩ hne .., fun _ => Tables.entryAt_copyTable_ne hne ..⟩,
    Marks.of_set h .., fun _ => Tables.entryAt_copyTable h ..⟩

/-- The amendment record has no place: the table is not FRESH, the pair is not recorded, and 8 pairs are. -/
theorem Store.amendFull_iff {table id : Nat} {st : Store} : st.amendFull table id = true ↔
    st.marks.of table ≠ .fresh ∧ (table, id) ∉ st.amendment ∧ 8 ≤ st.amendment.length := by
  simp only [Store.amendFull, Bool.and_eq_true, bne_iff_ne, Bool.not_eq_true', decide_eq_true_eq, and_assoc,
    ← Bool.not_eq_true, List.contains_iff_mem, ne_eq]
  rfl

/-- What a TABLE ENTRY that passes writes: the entry at its id alone, the mark, and the amendment record. -/
theorem Store.writes_spec {table id : Nat} (h : 1 ≤ table ∧ table ≤ 5) {entry : Option Staged}
    (he : ∀ e, entry = some e → e.table = table) (st : Store) :
    let a := st.writes table id entry
    a = { st with staging := a.staging, marks := a.marks, amendment := a.amendment } ∧
    a.staging.entryAt table id = entry ∧
    (∀ u v, u ≠ table ∨ v ≠ id → a.staging.entryAt u v = st.staging.entryAt u v) ∧
    (st.marks.of table = .fresh → a.marks = st.marks ∧ a.amendment = st.amendment) ∧
    (st.marks.of table ≠ .fresh → a.marks.of table = .amending) ∧
    ((table, id) ∈ st.amendment → a.amendment = st.amendment) ∧
    (st.marks.of table ≠ .fresh → (table, id) ∉ st.amendment → a.amendment = st.amendment ++ [(table, id)]) := by
  refine ⟨rfl, ?_, fun u v hne => ?_, fun hf => ?_, fun hf => ?_, fun hr => ?_, fun hf hr => ?_⟩
  · cases entry with
    | none => exact Tables.entryAt_dropEntry_self ..
    | some e => exact he e rfl ▸ Tables.entryAt_putEntry_self ..
  · cases entry with
    | none => exact Tables.entryAt_dropEntry_ne hne _
    | some e => exact Tables.entryAt_putEntry_ne (he e rfl ▸ hne) _
  · simp [Store.writes, hf]
  · simp [Store.writes, hf, Marks.of_set h]
  · simp [Store.writes, hr]
  · simp [Store.writes, hf, hr]

/-- Settles O45. -/
theorem stagingTelegrams : Obligations.StagingTelegrams := by
  refine ⟨fun tag table s hs => ?_, fun tag table id content s hs => ?_⟩
  · have both {code : Code} (h : s.loadRefused = some code) :
        exec (.tableFresh tag table) s = .next (s.sending (codeAnswer tag 16 code)) ∧
        exec (.tableAmend tag table) s = .next (s.sending (codeAnswer tag 17 code)) :=
      ⟨control_refused hs (by simp [tableFresh, h]), control_refused hs (by simp [tableAmend, h])⟩
    refine ⟨fun h h' => both (State.loadRefused_mode h h'), fun hm => ⟨fun hb => both (State.loadRefused_busy hm hb),
      fun hb hf => both (State.loadRefused_frozen hm hb hf), fun hb hf => ?_⟩⟩
    have hpass := State.loadRefused_passed hm hb hf
    refine ⟨fun hform => ?_, fun h1 h5 => ?_⟩
    · have hn : tableNumber table = false := Bool.eq_false_iff.mpr (mt Tables.tableNumber_iff.mp (by omega))
      exact ⟨control_refused hs (by simp [tableFresh, hpass, hn]), control_refused hs (by simp [tableAmend, hpass, hn])⟩
    · have hn : tableNumber table = true := Tables.tableNumber_iff.mpr ⟨h1, h5⟩
      obtain ⟨hrest, hamend, hother, hmark, hentry⟩ := Store.begins_spec ⟨h1, h5⟩ Tables.empty .fresh s.store
      obtain ⟨hrest', hamend', hother', hmark', hentry'⟩ := Store.begins_spec ⟨h1, h5⟩ s.store.active .amending s.store
      refine ⟨_, _, control_answered hs (by simp [tableFresh, hpass, hn]),
        control_answered hs (by simp [tableAmend, hpass, hn]), ?_, hmark, hmark', fun id => ⟨?_, hentry' id⟩⟩
      · simp only [List.forall_mem_cons, List.not_mem_nil, false_imp_iff, implies_true, and_true]
        exact ⟨⟨hrest, hamend, hother⟩, hrest', hamend', hother'⟩
      · exact (hentry id).trans (Tables.entryAt_empty ..)
  · have refused {code : Code} (h : s.loadRefused = some code) :
        exec (.tableEntry tag table id content) s = .next (s.sending (codeAnswer tag 18 code)) :=
      control_refused hs (by simp [tableEntry, h])
    refine ⟨fun h h' => refused (State.loadRefused_mode h h'), fun hm => ⟨fun hb => refused (State.loadRefused_busy hm hb),
      fun hb hf => refused (State.loadRefused_frozen hm hb hf), fun hb hf => ?_⟩⟩
    have hpass := State.loadRefused_passed hm hb hf
    refine ⟨fun hform => control_refused hs ?_, fun htable hid => ⟨fun hc hread => control_refused hs ?_, fun hform =>
      ⟨fun hfresh hrec hlen => control_refused hs ?_, fun hroom => ?_⟩⟩⟩
    · have : (tableNumber table && idInRange table id) = false := Bool.and_eq_false_iff.mpr hform
      simp [tableEntry, hpass, this]
    · simp [tableEntry, hpass, htable, hid, hc, hread]
    · have hread : ¬ (content ≠ [] ∧ readEntry table content = none) := by
        rintro ⟨hc, hread⟩
        exact hform.elim hc (fun h => h hread)
      have hfull := Store.amendFull_iff.mpr ⟨hfresh, hrec, hlen⟩
      simp only [tableEntry, hpass, htable, hid, if_neg hread, hfull]
      rfl
    · have hread : ¬ (content ≠ [] ∧ readEntry table content = none) := by
        rintro ⟨hc, hread⟩
        exact hform.elim hc (fun h => h hread)
      have hfull : s.store.amendFull table id = false := by
        refine Bool.eq_false_iff.mpr (mt Store.amendFull_iff.mp ?_)
        rintro ⟨hfresh, hrec, hlen⟩
        exact hroom.elim hfresh (fun h => h.elim hrec (by omega))
      obtain ⟨hrest, hentry, hother, hfresh, hmark, hrec, hnew⟩ :=
        Store.writes_spec (id := id) (Tables.tableNumber_iff.mp htable) (fun e => readEntry_table (xs := content)) s.store
      refine ⟨s.store.writes table id (readEntry table content), control_answered hs ?_, hrest, fun hc => ?_,
        fun _ => hentry, hother, fun hf => (hfresh hf).1, hmark, fun h => ?_, hnew⟩
      · simp only [tableEntry, hpass, htable, hid, if_neg hread, hfull]
        rfl
      · rw [hentry, hc, readEntry_nil]
      · exact h.elim (fun hf => (hfresh hf).2) hrec

/-! ## The phases of a commit, the freeze, the identity and the restoring write -/

/-- Checks of a commit beyond those of every loading telegram: an identity write stands before the freeze. -/
theorem tableCommit_busy {tag : Nat} {word : Word16} {s : State} (hm : s.mode = .suspended ∨ s.mode = .failed)
    (h : s.store.commit ≠ none ∨ s.store.restoring = true ∨ s.store.identityWrite ≠ none) :
    tableCommit tag word s = s.refuses (.plain .busy) := by
  by_cases hb : s.store.commit ≠ none ∨ s.store.restoring = true
  · simp [tableCommit, State.loadRefused_busy hm hb]
  · have hi : s.store.identityWrite.isSome = true := by
      rw [← or_assoc] at h
      exact Option.isSome_iff_ne_none.mpr (h.resolve_left hb)
    cases hf : s.store.frozen with
    | true => simp [tableCommit, State.loadRefused_frozen hm hb hf, hi]
    | false => simp [tableCommit, State.loadRefused_passed hm hb hf, hi]

theorem validationEnds_idle {s : State} (h : ∀ c, s.store.commit = some c → c.phase ≠ .validation) :
    validationEnds s = s := by
  unfold validationEnds
  split
  · next heq => exact absurd rfl (h _ heq)
  · rfl

theorem comparisonEnds_idle {s : State} (h : ∀ c, s.store.commit = some c → c.phase ≠ .comparison) :
    comparisonEnds s = s := by
  unfold comparisonEnds
  split
  · next heq => exact absurd rfl (h _ heq)
  · rfl

/-- Settles O47. -/
theorem commitFreezeAndIdentity : Obligations.CommitFreezeAndIdentity := by
  refine ⟨fun tag word s hp => ⟨fun hstart => ?_, fun hc => ⟨fun kind n constraint hi => ?_, fun hi => ?_⟩, fun hc =>
    ⟨fun hw => ?_, fun hw => ?_⟩, fun h => ?_, fun h => ?_⟩, fun tag identity s hp => ⟨fun hstart => ?_, fun hi => ?_,
    fun hi => ?_, fun hr => ?_, fun hr => ?_⟩⟩
  · have hs : s.Running := ⟨hp, hstart⟩
    refine ⟨fun h h' => control_refused hs (by simp [tableCommit, State.loadRefused_mode h h']), fun hm =>
      ⟨fun hb => control_refused hs (tableCommit_busy hm hb), fun hb hf => ?_, fun hb hf => ?_⟩⟩
    · obtain ⟨hb, hi⟩ := not_or.mp (or_assoc.not.mpr hb)
      exact control_refused hs (by
        simp [tableCommit, State.loadRefused_frozen hm hb hf, Option.not_isSome_iff_eq_none.mpr (not_not.mp hi)])
    · obtain ⟨hb, hi⟩ := not_or.mp (or_assoc.not.mpr hb)
      refine (control_running _ _ _ _ _ hs).trans (congrArg _ ?_)
      have hnone : s.store.identityWrite.isSome = false := by simpa using hi
      simp only [tableCommit, State.loadRefused_passed hm hb hf, hnone]
      rfl
  · refine (event_on _ _ hp).trans (congrArg _ ?_)
    simp only [validationEnds, hc, hi]
    rfl
  · refine (event_on _ _ hp).trans (congrArg _ ?_)
    simp only [validationEnds, hc, hi]
    rfl
  · refine (event_on _ _ hp).trans (congrArg _ ?_)
    simp only [comparisonEnds, hc, if_neg hw]
    rfl
  · refine (event_on _ _ hp).trans (congrArg _ ?_)
    simp only [comparisonEnds, hc, if_pos hw]
    rfl
  · exact (event_on _ _ hp).trans (congrArg _ (validationEnds_idle h))
  · exact (event_on _ _ hp).trans (congrArg _ (comparisonEnds_idle h))
  · have hs : s.Running := ⟨hp, hstart⟩
    refine ⟨fun hb => ⟨control_refused hs (by simp [tableFreeze, Store.busy_iff.mpr hb]),
      control_refused hs (by simp [areaIdentity, Store.busy_iff.mpr hb])⟩, fun hb => ?_⟩
    have hb := Store.busy_false hb
    have hb : ¬ s.store.busy = true := Bool.eq_false_iff.mp hb
    refine ⟨control_answered hs (by simp [tableFreeze, hb]), fun hi => control_refused hs ?_, fun hi hn =>
      control_refused hs ?_, fun hi hn hw => control_refused hs ?_, fun hi hn hw =>
      (control_running _ _ _ _ _ hs).trans (congrArg _ ?_)⟩
    · rw [areaIdentity, if_neg hb, if_pos hi]
    · rw [areaIdentity, if_neg hb, if_neg hi, if_pos hn]
    · rw [areaIdentity, if_neg hb, if_neg hi, if_neg (not_not.mpr hn), if_pos (Option.isSome_iff_ne_none.mpr hw)]
    · rw [areaIdentity, if_neg hb, if_neg hi, if_neg (not_not.mpr hn), if_neg (by simp [hw])]
      rfl
  · refine (event_on _ _ hp).trans (congrArg _ ?_)
    simp only [identityWritten, hi]
    rfl
  · refine (event_on _ _ hp).trans (congrArg _ ?_)
    simp only [identityWritten, hi]
  · refine (event_on _ _ hp).trans (congrArg _ ?_)
    simp [restoringEnds, hr]
  · refine ⟨s.restoredImage, (event_on _ _ hp).trans (congrArg _ ?_), rfl, rfl, rfl, fun h => if_pos h, fun h => if_neg h⟩
    simp [restoringEnds, hr]

/-! ## MODE SET -/

/-- The slots that a test chooses are those of the condition that the test decides. -/
theorem Live.slotsWhere_chosen {e : Env} {test : Slot → RouteEntry → Bool} {who : Slot → RouteEntry → Prop}
    (h : ∀ x r, test x r = true ↔ who x r) (l : Live) : l.Chosen e who (l.slotsWhere e test) := by
  refine ⟨List.Sublist.map _ List.filter_sublist, fun n => ?_⟩
  rw [Live.mem_slotsWhere]
  constructor
  · rintro ⟨x, hx, r, hr, ht⟩
    exact ⟨(n, x), hx, rfl, r, hr, (h x r).mp ht⟩
  · rintro ⟨⟨_, x⟩, hx, rfl, r, hr, hw⟩
    exact ⟨x, hx, r, hr, (h x r).mpr hw⟩

/-- Acting for the slots that a test chooses reaches each of them once, in a free order. -/
theorem Work.forEach_reaches {e : Env} {test : Slot → RouteEntry → Bool} {who : Slot → RouteEntry → Prop}
    (h : ∀ x r, test x r = true ↔ who x r) (act : Nat → Work → Work) (w : Work) :
    Work.Reaches e who act w (w.forEach (w.live.slotsWhere e test) act) := by
  obtain ⟨hperm, hrest⟩ := Work.arrange_rest (w.live.slotsWhere e test) w
  exact ⟨_, _, (w.arrange _).2.live.choices, Live.slotsWhere_chosen h w.live, hperm,
    congrArg (fun v => List.foldl (fun v n => act n v) v _) hrest⟩

/-- With no slot chosen nothing is done. -/
theorem Work.forEach_nil {α : Type} (act : α → Work → Work) (w : Work) : w.forEach [] act = w := rfl

theorem Mode.code_set {m : Mode} (h : m = .suspended ∨ m = .inService ∨ m = .commissioning) :
    Mode.ofSetCode m.code = some m := by
  obtain rfl | rfl | rfl := h <;> rfl

theorem Mode.ofSetCode_none {c : Nat} (h : c = 0 ∨ 3 < c) : Mode.ofSetCode c = none := by
  unfold Mode.ofSetCode
  split
  case h_4 => rfl
  all_goals omega

/-- Settles O42. -/
theorem modeSetChangesMode : Obligations.ModeSetChangesMode := by
  intro tag mode s hs
  refine ⟨fun hf => control_refused hs (by simp [modeSet, hf]), fun hf hb => control_refused_with hs
    (by simp [modeSet, hf, Store.busy_iff.mpr hb]), fun hf hb => ?_⟩
  have hb := Store.busy_false hb
  refine ⟨fun hc => control_refused hs (by simp [modeSet, hf, hb, Mode.ofSetCode_none hc]), ?_⟩
  rintro m rfl hm
  have hset : modeSet m.code s = if m = s.mode then s.answers (.plain .done)
      else if m = .suspended ∧ (s.live.slots ≠ [] ∨ s.live.waiting ≠ []) then s.refuses (.with .busy 2)
      else (s.changesMode m).answers (.plain .done) := by
    simp [modeSet, hf, hb, Mode.code_set hm]
  refine ⟨fun hsame => control_refused hs (by rw [hset, if_pos hsame]; rfl), fun hne hsus hused => control_refused_with hs
    (by rw [hset, if_neg hne, if_pos ⟨hsus, hused⟩]), fun hne hfree => ?_⟩
  have hchanges : modeSet m.code s = (s.changesMode m).answers (.plain .done) := by
    rw [hset, if_neg hne, if_neg]
    rintro ⟨hsus, hused⟩
    obtain ⟨hslots, hwaiting⟩ := hfree hsus
    exact hused.elim (fun h => h hslots) (fun h => h hwaiting)
  let t : State := { s with mode := m, live := s.live.offer s.env .c .modeChanged .table 0 (some m.code) }
  have hchanged : s.changesMode m = if s.mode = .commissioning ∧ m = .inService then t.doing Work.endHolds else t := by
    have : State.modeChanged { s with mode := m } = t := by
      obtain rfl | rfl | rfl := hm <;> rfl
    rw [State.changesMode, this]
  refine ⟨fun hheld => control_answered hs ?_, fun hother => control_answered hs ?_, fun hfrom hto =>
    ⟨t.work.endHolds t.env, control_answered hs ?_, Work.forEach_reaches (fun x _ => Option.isSome_iff_ne_none) ..⟩⟩
  · rw [hchanges, hchanged]
    split
    · have hnone : t.live.slotsWhere t.env (fun x _ => x.held.isSome) = [] := by
        refine List.eq_nil_iff_forall_not_mem.mpr fun n hn => ?_
        obtain ⟨x, hx, r, -, hsome⟩ := Live.mem_slotsWhere.mp hn
        have hx : (n, x) ∈ s.live.slots := by rwa [Live.offer_slots] at hx
        exact absurd (hheld _ hx) (Option.isSome_iff_ne_none.mp hsome)
      rw [State.doing_eq, Work.endHolds, State.work_live, hnone, Work.forEach_nil, State.ending_work]
    · rfl
  · rw [hchanges, hchanged, if_neg hother]
  · rw [hchanges, hchanged, if_pos ⟨hfrom, hto⟩]
    rfl

/-! ## Telegrams that no record takes -/

theorem Work.wrongKind_eq (e : Env) (n : Nat) (r : ElementRec) (w : Work) : w.wrongKind e n r =
    if r.wrongSeen then w else (w.on (Live.setElement n r.rememberWrong)).report e .c .wrongKind .element n none := by
  cases r <;> rfl

/-- A content with a meaning, but of another kind than the element's, is only remembered. -/
theorem Work.elementStatus_unsuited {e : Env} {n : Nat} {content : StatusContent} {r : ElementRec} {w : Work}
    (hm : StatusContent.meaningful content = true) (hr : Map.find n w.live.elements = some r)
    (hs : StatusContent.suits content r = false) :
    w.elementStatus e n content = w.wrongKind e n r := by
  cases content with
  | position code =>
    obtain ⟨p, hp⟩ := Option.isSome_iff_exists.mp hm
    simp only [Work.elementStatus, hp, Work.positionStatus, hr]
    cases r <;> simp_all [StatusContent.suits]
  | aspect code =>
    obtain ⟨a, ha⟩ := Option.isSome_iff_exists.mp hm
    simp only [Work.elementStatus, ha, Work.aspectStatus, hr]
    cases r <;> simp_all [StatusContent.suits]
  | counts nA nB =>
    simp only [Work.elementStatus, Work.countsStatus, hr]
    cases r <;> simp_all [StatusContent.suits]
  | other kind => simp [StatusContent.meaningful] at hm

theorem State.heard_found {link : Nat} {k : LinkRec} {s : State} (hk : Map.find link s.live.links = some k)
    (f : LinkRec → Env → Work → Work) : s.heard link true f = s.ending (f k s.env
      (s.work.updateLink link (LinkRec.hear (s.clock + s.store.active.linkSupervision link)))) := by
  simp only [State.heard, hk, if_true]
  rfl

theorem LinkRec.hear_unknownSeen (moment : Nat) (k : LinkRec) : (k.hear moment).unknownSeen = k.unknownSeen := by
  unfold LinkRec.hear
  split <;> rfl

/-- A number that names no remote head is reported, and joins the unknown numbers seen, the first time. -/
theorem Work.unknownHead_found {e : Env} {link number : Nat} {k : LinkRec} {w : Work}
    (hk : Map.find link w.live.links = some k) : w.unknownHead e link number = if number ∈ k.unknownSeen then w
      else (w.updateLink link (fun k => { k with unknownSeen := k.unknownSeen ++ [number] })).report e .c
        .unknownRemoteHead .link link (some number) := by
  simp [Work.unknownHead, hk]

/-- Settles O34. -/
theorem telegramsDiscarded : Obligations.TelegramsDiscarded := by
  refine ⟨fun _ _ => rfl, fun s hp hm => ⟨fun tag kind => ?_, fun address content hc => ?_, fun address content hc hn =>
    ⟨fun hseen => ?_, fun hf hseen => ?_⟩, fun address content n r hc hn hr hs => ⟨fun hw => ?_, fun hw => ?_⟩,
    fun port k number nA nB hk hn => ⟨fun hseen => ?_, fun hseen => ?_⟩⟩⟩
  · exact control_refused (rule := fun s => s.refuses (.plain .badForm)) ⟨hp, hm⟩ rfl
  · refine (event_on _ _ hp).trans (congrArg _ ?_)
    simp [statusTaken, hc]
  · refine (event_on _ _ hp).trans (congrArg _ ?_)
    simp [statusTaken, hc, hm, hn, State.unknownAddress, hseen]
  · refine (event_on _ _ hp).trans (congrArg _ ?_)
    simp [statusTaken, hc, hm, hn, State.unknownAddress, hseen, hf]
    rfl
  · refine (event_on _ _ hp).trans (congrArg _ ?_)
    have hstatus := Work.elementStatus_unsuited (e := s.env) (w := s.work) hc hr hs
    rw [Work.wrongKind_eq, if_pos hw] at hstatus
    simp [statusTaken, hc, hm, hn, State.doing_eq, hstatus]
  · refine (event_on _ _ hp).trans (congrArg _ ?_)
    have hstatus := Work.elementStatus_unsuited (e := s.env) (w := s.work) hc hr hs
    rw [Work.wrongKind_eq, if_neg (by simp [hw])] at hstatus
    simp only [statusTaken, hc, hm, hn, State.doing_eq, hstatus]
    exact State.ending_idle _ _ rfl rfl rfl rfl
  all_goals
    have hk' : Map.find port (s.work.updateLink port (LinkRec.hear (s.clock + s.store.active.linkSupervision port))).live.links
        = some (k.hear (s.clock + s.store.active.linkSupervision port)) := by
      simp [hk]
    have hcounts := State.heard_found hk
      (fun _ e w => [{ number := number, nA := nA, nB := nB : CountsEntry }].foldl (Work.deliver e port) w)
    have hdeliver : ∀ w, Work.deliver s.env port w { number := number, nA := nA, nB := nB } =
        w.unknownHead s.env port number := fun w => by simp [Work.deliver, hn]
    simp only [List.foldl_cons, List.foldl_nil, hdeliver, Work.unknownHead_found hk', LinkRec.hear_unknownSeen] at hcounts
    refine (event_on _ _ hp).trans (congrArg _ (hcounts.trans ?_))
  · rw [if_pos hseen]
    exact State.ending_idle _ _ rfl rfl rfl rfl
  · rw [if_neg hseen]
    exact State.ending_idle _ _ rfl rfl rfl rfl

end Sys2Proof.Machine
end

section
/-! PROOFS. Orders to the field (R52, R55) and what they leave: the claims that follow a signal (R106), and the holdings that
stand. -/

namespace Sys2Proof.Machine

/-! ## Claims that follow their element -/

theorem Live.shows_signal {l : Live} {g : Nat} {z : SignalRec} (h : l.signal g = some z) (q : Required) :
    l.shows g q = z.showing q := by
  cases q <;> simp [Live.shows, Live.signal_some.mp h, SignalRec.showing]

theorem Live.shows_point {l : Live} {p : Nat} {z : PointRec} (h : l.point p = some z) (q : Required) :
    l.shows p q = z.showing q := by
  unfold Live.shows
  rw [Live.point_some.mp h]
  cases q with
  | position p =>
    show (z.evaluated == some p) = z.evaluated.any (fun a => Required.position p == .position a)
    cases z.evaluated with
    | none => rfl
    | some a => cases a <;> cases p <;> rfl
  | danger =>
    show false = z.evaluated.any (fun a => Required.danger == .position a)
    cases z.evaluated <;> rfl

/-- Proving the claims on an element afresh makes them follow what it shows; each change is handed to the claim's slot
(R106). The claims and the changes handed over so far are those of a work before. -/
theorem Work.reprove_follows {n : Nat} {shows : Required → Bool} {changed : Prop} {before w : Work} (hchanged : changed)
    (hclaims : w.live.claims = before.live.claims)
    (htodo : ∀ slot m v, .claimChanged slot m v ∈ w.todo ↔ .claimChanged slot m v ∈ before.todo)
    (hshows : ∀ q, w.live.shows n q = shows q) : ClaimsFollow n changed shows before (w.reprove n) := by
  refine ⟨fun h => absurd hchanged h, fun _ => ?_, fun slot m v => ?_⟩
  · rw [Work.reprove_rest, ← hclaims]
    refine List.map_congr_left fun c _ => ?_
    by_cases hc : c.element = n
    · simp [hc, Live.proved, hshows]
    · simp [hc]
  · rw [Work.mem_reprove_todo, hclaims, htodo]
    refine or_congr_right ?_
    constructor
    · rintro ⟨d, hd, he, hp, hc⟩
      obtain ⟨rfl, rfl, rfl⟩ := Change.claimChanged.inj hc
      rw [he, hshows] at hp
      refine ⟨hchanged, rfl, d, hd, he, rfl, ?_, by simp⟩
      cases hv : d.proven <;> cases hs : shows d.required <;> simp_all
    · rintro ⟨-, rfl, d, hd, he, rfl, rfl, hp⟩
      refine ⟨d, hd, he, by rw [he, hshows]; exact hp.symm, ?_⟩
      cases hv : d.proven <;> cases hs : shows d.required <;> simp_all

/-- Without a change of what the element shows the claims stand, and no claim's change is handed on. -/
theorem claimsFollow_unchanged {n : Nat} {shows : Required → Bool} {changed : Prop} {before after : Work} (h : ¬ changed)
    (hclaims : after.live.claims = before.live.claims)
    (htodo : ∀ slot m v, .claimChanged slot m v ∈ after.todo ↔ .claimChanged slot m v ∈ before.todo) :
    ClaimsFollow n changed shows before after :=
  ⟨fun _ => hclaims, fun hc => absurd hc h, fun slot m v => by simp [htodo, h]⟩

/-- Following keeps everything of a claim but whether it is proven. -/
theorem ClaimsFollow.unproved {n : Nat} {shows : Required → Bool} {changed : Prop} {before after : Work}
    (h : ClaimsFollow n changed shows before after) :
    after.live.claims.map Claim.unproved = before.live.claims.map Claim.unproved := by
  by_cases hc : changed
  · rw [h.2.1 hc, List.map_map]
    refine List.map_congr_left fun c _ => ?_
    by_cases he : c.element = n <;> simp [he, Claim.unproved]
  · rw [h.1 hc]

/-! ## Placing an order -/

/-- Placing an order writes no element but the one ordered. -/
theorem Live.placeOrder_ne {m n : Nat} (h : m ≠ n) (t : Tables) (o : Order) (l : Live) :
    Map.find m (l.placeOrder t n o).elements = Map.find m l.elements := by
  unfold Live.placeOrder
  split
  · exact Map.find_update_ne h (fun r => if r.pendingOrder.isSome then r.withPending (some o) else r) l.elements
  · split
    · exact Map.find_update_ne h ..
    · rfl

/-- The element ordered keeps its record but for the order it holds as pending. -/
theorem Live.placeOrder_self {t : Tables} {n : Nat} {o : Order} {l : Live} {r : ElementRec}
    (h : Map.find n l.elements = some r) : ∃ p, Map.find n (l.placeOrder t n o).elements = some (r.withPending p) := by
  have kept : r.withPending r.pendingOrder = r := by cases r <;> rfl
  unfold Live.placeOrder Live.changeOrder
  split
  · rw [Map.find_update_self, h, Option.map_some]
    split
    · exact ⟨_, rfl⟩
    · exact ⟨r.pendingOrder, by rw [kept]⟩
  · split
    · rw [Map.find_update_self, h, Option.map_some]
      exact ⟨_, rfl⟩
    · exact ⟨r.pendingOrder, by rw [h, kept]⟩

/-- An order waits once it is placed, for an element that may hold one. -/
theorem Live.placeOrder_makes {t : Tables} {n : Nat} {o : Order} {l : Live} {r : ElementRec}
    (h : Map.find n l.elements = some r) (hr : (r.withPending (some o)).pendingOrder = some o) :
    (l.placeOrder t n o).waits n o := by
  unfold Live.placeOrder
  split
  · next hhas =>
    obtain ⟨c, ⟨x, hx, hn, -⟩ | hp⟩ := Live.hasOrder_iff.mp hhas
    · exact .inl ⟨_, List.mem_map_of_mem hx, by simp [hn], by simp [hn]⟩
    · exact .inr (by rw [Live.changeOrder_pending, if_pos rfl, hp]; rfl)
  · split
    · refine .inr ?_
      unfold Live.pendingOrder
      rw [Map.find_update_self, h]
      exact hr
    · exact .inl ⟨_, List.mem_append_right _ (List.mem_singleton_self _), rfl, rfl⟩

/-- A signal order, as it is taken: the record written, the order placed, and every other record of the elements kept. -/
theorem Live.takeSignalOrder_spec {e : Env} {g : Nat} {a : Aspect} {r : SignalRec} {l : Live} :
    (∃ z, (l.takeSignalOrder e g a r).signal g = some z ∧ z = { r with
      commanded := a, proving := some (e.clock + e.tables.provingTime g), pendingOrder := z.pendingOrder }) ∧
    (l.takeSignalOrder e g a r).waits g (.aspect a) ∧
    ∀ m ≠ g, Map.find m (l.takeSignalOrder e g a r).elements = Map.find m l.elements := by
  let z : SignalRec := { r with commanded := a, proving := some (e.clock + e.tables.provingTime g) }
  have hz : Map.find g (l.setElement g (.signal z)).elements = some (.signal z) := Map.find_put_self ..
  obtain ⟨p, hp⟩ := Live.placeOrder_self (t := e.tables) (o := .aspect a) hz
  exact ⟨⟨_, Live.signal_some.mpr hp, rfl⟩, Live.placeOrder_makes hz rfl,
    fun m hm => (Live.placeOrder_ne hm ..).trans (Live.setElement_ne hm ..)⟩

/-! ## Signal orders -/

theorem Work.orderSignal_none {e : Env} {g : Nat} {a : Aspect} {w : Work} (h : w.live.signal g = none) :
    w.orderSignal e g a = w := by
  simp [Work.orderSignal, h]

theorem Work.orderSignal_found {e : Env} {g : Nat} {a : Aspect} {r : SignalRec} {w : Work} (h : w.live.signal g = some r) :
    w.orderSignal e g a = (w.on (Live.takeSignalOrder e g a r)).reprove g := by
  simp [Work.orderSignal, h]

/-- A signal order writes the signal and its claims, and hands on the claims' changes alone (R52, R106). -/
theorem Work.orderSignal_ordered {e : Env} {g : Nat} {a : Aspect} {r : SignalRec} {w : Work} (h : w.live.signal g = some r) :
    SignalOrdered e g a w (w.orderSignal e g a) := by
  rw [Work.orderSignal_found h]
  obtain ⟨⟨z, hz, hrest⟩, hwaits, hother⟩ := Live.takeSignalOrder_spec (e := e) (g := g) (a := a) (r := r) (l := w.live)
  have hw : (w.on (Live.takeSignalOrder e g a r)).live = { w.live with
      queue := (w.live.takeSignalOrder e g a r).queue, elements := (w.live.takeSignalOrder e g a r).elements } :=
    Live.placeOrder_rest ..
  have hreprove := Work.reprove_rest g (w.on (Live.takeSignalOrder e g a r))
  have helements (m : Nat) : Map.find m ((w.on (Live.takeSignalOrder e g a r)).reprove g).live.elements =
      Map.find m (w.live.takeSignalOrder e g a r).elements := by rw [hreprove]; rfl
  refine ⟨r, z, h, Live.signal_some.mpr ((helements g).trans (Live.signal_some.mp hz)), hrest, ?_,
    Work.reprove_follows trivial (by rw [hw]) (fun _ _ _ => .rfl) (Live.shows_signal hz), fun c hc => ?_, ?_, ?_,
    fun m hm => (helements m).trans (hother m hm), ?_, ?_, ?_, ?_⟩
  · rw [hreprove]
    exact hwaits
  · rw [Work.mem_reprove_todo] at hc
    exact hc.imp id fun ⟨d, _, _, _, hd⟩ => ⟨_, _, hd⟩
  · rw [hreprove]; rfl
  · rw [hreprove]; rfl
  · rw [hreprove, hw]
  · rw [hreprove, hw]
  · rw [hreprove, hw]
  · rw [hreprove, hw]

/-- What a signal order leaves standing: every section lock, route lock, entry-of-slot and claim, and the slots that it leaves
as they were (R108). -/
theorem SignalOrdered.holdingsStand {e : Env} {g n : Nat} {a : Aspect} {before after : Work}
    (h : SignalOrdered e g a before after) (hslots : ∀ m ≠ n, after.live.slot m = before.live.slot m) :
    before.live.HoldingsStand n after.live := by
  obtain ⟨r, z, hr, hz, hrest, -, hclaims, -, -, -, hother, hsections, -, hwaiting, harm⟩ := h
  have hentry : z.entryOf = r.entryOf := by rw [hrest]
  refine ⟨hsections, hclaims.unproved, fun p => ?_, fun k => ?_, hwaiting, harm, hslots⟩
  · by_cases hp : p = g
    · subst hp
      simp [Live.point, Live.signal_some.mp hr, Live.signal_some.mp hz]
    · simp [Live.point, hother p hp]
  · by_cases hk : k = g
    · subst hk
      simp [hr, hz, hentry]
    · simp [Live.signal, hother k hk]

/-- The signal stands ordered. -/
theorem SignalOrdered.ordered {e : Env} {g : Nat} {a : Aspect} {before after : Work} (h : SignalOrdered e g a before after) :
    after.live.ordered e g a := by
  obtain ⟨r, z, hr, hz, hrest, -⟩ := h
  exact ⟨z, hz, by rw [hrest], by rw [hrest]⟩

/-! ## The field order queue -/

theorem Live.queueFull_iff {l : Live} : l.queueFull = true ↔
    Config.orderPlaces ≤ l.queue.length ∨ ∃ x ∈ l.elements, x.2.pendingOrder ≠ none := by
  simp only [Live.queueFull, Bool.or_eq_true, decide_eq_true_eq, List.any_eq_true, Option.isSome_iff_ne_none]

theorem Live.queued_iff {l : Live} {n : Nat} : l.queued n = true ↔ ∃ x ∈ l.queue, x.element = n := by
  simp [Live.queued]

/-- Settles O26. -/
theorem orderKeepsItsPlace : Obligations.OrderKeepsItsPlace := by
  refine ⟨fun e g a w => ⟨Work.orderSignal_none, fun r hr => ⟨Work.orderSignal_ordered hr, ?_, ?_, ?_⟩⟩,
    fun t n o l => ⟨fun hw => ?_, fun hw hp => ?_, fun hw hp => ⟨fun hf => ?_, fun hf => ?_⟩⟩, fun s hp =>
    ⟨fun hq => ?_, fun x rest hq => ⟨fun hnone => ?_, fun a n r b o hel ha ho hlen => ?_⟩⟩⟩
  · rw [Work.orderSignal_rest]
  · rw [Work.orderSignal_rest]
  · rw [Work.orderSignal_rest]
  · rw [Live.placeOrder, if_pos (by simp [Live.hasOrder, Live.queued_iff.mpr hw])]
    rfl
  · rw [Live.placeOrder, if_pos (by simp [Live.hasOrder, Option.isSome_iff_ne_none.mpr hp])]
    obtain ⟨c, hc⟩ := Option.ne_none_iff_exists'.mp hp
    refine ⟨?_, by rw [Live.changeOrder_pending, if_pos rfl, hc]; rfl⟩
    rw [Live.changeOrder_queue]
    refine (List.map_congr_left fun x hx => if_neg fun hn => hw ⟨x, hx, hn⟩).trans (List.map_id' _)
  · have hno : ¬ l.hasOrder n = true := by simpa [Live.hasOrder, hp] using mt Live.queued_iff.mp hw
    rw [Live.placeOrder, if_neg hno, if_neg (mt Live.queueFull_iff.mp hf)]
  · have hno : ¬ l.hasOrder n = true := by simpa [Live.hasOrder, hp] using mt Live.queued_iff.mp hw
    rw [Live.placeOrder, if_neg hno, if_pos (Live.queueFull_iff.mpr hf)]
    refine ⟨rfl, fun h => ?_⟩
    have ⟨r, hr, hhold⟩ : ∃ r, Map.find n l.elements = some r ∧ (r.withPending (some o)).pendingOrder = some o := by
      obtain ⟨r, hr⟩ | ⟨r, hr⟩ := h
      · exact ⟨_, Live.point_some.mp hr, rfl⟩
      · exact ⟨_, Live.signal_some.mp hr, rfl⟩
    simp [Live.pendingOrder, hr, hhold]
  all_goals
    have sent : exec .fieldOrderSent s = .next { s with live := s.live.orderSent s.store.active } :=
      event_on (fun s => { s with live := s.live.orderSent s.store.active }) s hp
    rw [sent]
  · simp [Live.orderSent, hq]
  · have hfind : s.live.elements.find? (fun x => x.2.pendingOrder.isSome) = none :=
      List.find?_eq_none.mpr fun y hy => by simp [hnone y hy]
    simp [Live.orderSent, hq, Live.admitPending, Live.send, hfind]
  · have hfind : s.live.elements.find? (fun x => x.2.pendingOrder.isSome) = some (n, r) := by
      rw [hel, List.find?_append, List.find?_eq_none.mpr fun y hy => by simp [ha y hy]]
      simp [ho]
    simp [Live.orderSent, hq, Live.admitPending, Live.send, hfind, hlen, ho]

end Sys2Proof.Machine
end

section
/-! PROOFS. The STATE NOTICES of elements (R58): what is handed on makes none due, each is sent once as the element then stands,
and what makes one due. -/

namespace Sys2Proof.Machine

/-! ## Nothing that is handed on makes a notice due -/

section
variable {e : Env} {n : Nat} {w : Work}

theorem Work.foldl_notices {α : Type} {f : Work → α → Work} (hf : ∀ w x, (f w x).notices = w.notices) (xs : List α) (w : Work) :
    (xs.foldl f w).notices = w.notices := by
  induction xs generalizing w with
  | nil => rfl
  | cons x xs ih => rw [List.foldl_cons, ih, hf]

theorem Work.arrange_notices {α : Type} (xs : List α) (w : Work) : (w.arrange xs).2.notices = w.notices := by
  unfold Work.arrange
  split <;> rfl

theorem Work.forEach_notices {α : Type} {f : α → Work → Work} (hf : ∀ x w, (f x w).notices = w.notices) (xs : List α)
    (w : Work) : (w.forEach xs f).notices = w.notices := by
  unfold Work.forEach
  dsimp only
  rw [Work.foldl_notices fun w x => hf x w, Work.arrange_notices]

theorem Work.withSlot_notices {f : Slot → RouteEntry → Work → Work} (hf : ∀ x r w, (f x r w).notices = w.notices) (w : Work) :
    (w.withSlot e n f).notices = w.notices := by
  unfold Work.withSlot
  split
  · rfl
  · split
    · rfl
    · exact hf _ _ _

/-- A branch that makes no notice due, either way. -/
theorem Work.ite_notices {c : Prop} [Decidable c] {a b : Work} (ha : a.notices = w.notices) (hb : b.notices = w.notices) :
    (if c then a else b).notices = w.notices := by
  split
  · exact ha
  · exact hb

@[simp] theorem Work.reprove_notices (g : Nat) : (w.reprove g).notices = w.notices := by rw [Work.reprove_rest]

@[simp] theorem Work.orderPoint_notices (p : Nat) (q : Position) : (w.orderPoint e p q).notices = w.notices := by
  rw [Work.orderPoint_rest]

@[simp] theorem Work.orderSignal_notices (g : Nat) (a : Aspect) : (w.orderSignal e g a).notices = w.notices := by
  rw [Work.orderSignal_rest]

@[simp] theorem Work.placePoint_notices (p : Nat) : (w.placePoint e p).notices = w.notices := by rw [Work.placePoint_rest]

@[simp] theorem Work.placeSignal_notices (g : Nat) : (w.placeSignal e g).notices = w.notices := by
  unfold Work.placeSignal
  split
  · exact Work.ite_notices (Work.orderSignal_notices ..) rfl
  · rfl

@[simp] theorem Work.freeSlot_notices : (w.freeSlot e n).notices = w.notices := by
  unfold Work.freeSlot
  split <;> rfl

@[simp] theorem Work.refuseSlot_notices (reason : Nat) : (w.refuseSlot e reason n).notices = w.notices := by
  unfold Work.refuseSlot
  split
  · rfl
  · exact Work.freeSlot_notices

@[simp] theorem Work.orderRequired_notices (p : Nat) (q : Position) : (w.orderRequired e p q).notices = w.notices := by
  unfold Work.orderRequired
  split
  · rfl
  · exact Work.ite_notices (Work.orderPoint_notices ..) rfl

@[simp] theorem Work.orderPoints_notices : (w.orderPoints e n).notices = w.notices := by
  refine Work.withSlot_notices (fun _ _ _ => ?_) _
  exact Work.ite_notices (Work.foldl_notices (fun _ _ => Work.orderRequired_notices ..) ..) rfl

@[simp] theorem Work.sendAsk_notices (link number : Nat) : (w.sendAsk e link number).notices = w.notices := by
  unfold Work.sendAsk
  split <;> rfl

theorem Work.needLine_notices (link number : Nat) {waiting : Work → Work} (hf : (waiting w).notices = w.notices) :
    (w.needLine e n link number waiting).notices = w.notices := by
  unfold Work.needLine
  dsimp only
  exact Work.ite_notices (Work.ite_notices hf ((Work.sendAsk_notices ..).trans hf)) (Work.refuseSlot_notices _)

@[simp] theorem Work.enterWaitLine_notices (link number : Nat) : (w.enterWaitLine e n link number).notices = w.notices :=
  Work.needLine_notices _ _ Work.orderPoints_notices

/-! ### Clearing, replacement and entry -/

@[simp] theorem Work.orderEntry_notices (r : RouteEntry) (a : Aspect) : (w.orderEntry e n r a).notices = w.notices :=
  Work.orderSignal_notices ..

@[simp] theorem Work.clearTest_notices : (w.clearTest e n).notices = w.notices := by
  refine Work.withSlot_notices (fun _ _ _ => ?_) _
  exact Work.ite_notices (Work.orderEntry_notices ..) rfl

@[simp] theorem Work.enterLocked_notices : (w.enterLocked e n).notices = w.notices := Work.clearTest_notices

@[simp] theorem Work.lockTest_notices : (w.lockTest e n).notices = w.notices := by
  refine Work.withSlot_notices (fun _ _ _ => ?_) _
  exact Work.ite_notices Work.enterLocked_notices rfl

@[simp] theorem Work.leaveWaitLine_notices : (w.leaveWaitLine e n).notices = w.notices := by
  refine Work.withSlot_notices (fun _ _ _ => ?_) _
  exact Work.ite_notices (Work.ite_notices Work.enterLocked_notices rfl) rfl

@[simp] theorem Work.replace_notices (cause number : Nat) : (w.replace e n cause number).notices = w.notices := by
  refine Work.withSlot_notices (fun _ _ _ => ?_) _
  exact Work.ite_notices (Work.ite_notices rfl (Work.orderSignal_notices ..)) rfl

/-! ### Releases -/

@[simp] theorem Work.freeIfDone_notices : (w.freeIfDone e n).notices = w.notices := by
  refine Work.withSlot_notices (fun _ _ _ => ?_) _
  exact Work.ite_notices Work.freeSlot_notices rfl

@[simp] theorem Work.releaseOverlap_notices (secs : List Nat) : (w.releaseOverlap e n secs).notices = w.notices := by
  refine Work.withSlot_notices (fun _ _ _ => ?_) _
  exact Work.freeIfDone_notices.trans (Work.ite_notices rfl rfl)

@[simp] theorem Work.overlapExpire_notices : (w.overlapExpire e n).notices = w.notices := by
  refine Work.withSlot_notices (fun _ _ _ => ?_) _
  exact Work.ite_notices (Work.releaseOverlap_notices _) rfl

@[simp] theorem Work.startOverlap_notices : (w.startOverlap e n).notices = w.notices := by
  refine Work.withSlot_notices (fun _ _ _ => ?_) _
  exact Work.ite_notices (Work.ite_notices Work.overlapExpire_notices rfl) rfl

@[simp] theorem Work.releaseTest_notices : (w.releaseTest e n).notices = w.notices := by
  refine Work.withSlot_notices (fun x r w => Work.ite_notices ?_ rfl) _
  split
  · rfl
  · exact Work.freeIfDone_notices

@[simp] theorem Work.fleetTest_notices : (w.fleetTest e n).notices = w.notices := by
  refine Work.withSlot_notices (fun x r w => Work.ite_notices ?_ rfl) _
  dsimp only
  split
  · exact Work.enterWaitLine_notices ..
  · exact Work.ite_notices Work.enterLocked_notices Work.orderPoints_notices

@[simp] theorem Work.enterTrain_notices (r : RouteEntry) (sec : Nat) : (w.enterTrain e n r sec).notices = w.notices :=
  Work.startOverlap_notices.trans (Work.orderEntry_notices ..)

@[simp] theorem Work.passedAfterCancel_notices (r : RouteEntry) (sec : Nat) :
    (w.passedAfterCancel e n r sec).notices = w.notices := by
  unfold Work.passedAfterCancel
  split
  · rfl
  · exact Work.startOverlap_notices

/-! ### The changes that a slot takes -/

@[simp] theorem Work.sectionInEntered_notices (sec : Nat) : (w.sectionInEntered e sec n).notices = w.notices := by
  refine Work.withSlot_notices (fun _ _ _ => ?_) _
  exact Work.ite_notices
    ((Work.fleetTest_notices.trans Work.releaseTest_notices).trans (Work.ite_notices Work.startOverlap_notices rfl))
    (Work.ite_notices (Work.releaseOverlap_notices _) rfl)

@[simp] theorem Work.onSection_notices (sec : Nat) : (w.onSection e sec n).notices = w.notices := by
  refine Work.withSlot_notices (fun x r w => ?_) _
  cases x.state with
  | locked => exact Work.ite_notices Work.clearTest_notices rfl
  | clearing | clear => exact Work.ite_notices (Work.enterTrain_notices ..) (Work.ite_notices (Work.replace_notices ..) rfl)
  | entered => exact Work.sectionInEntered_notices _
  | timedRelease => exact Work.ite_notices (Work.passedAfterCancel_notices ..) rfl
  | setting | waitLine | replaced => rfl

@[simp] theorem Work.onPoint_notices (p : Nat) : (w.onPoint e p n).notices = w.notices := by
  refine Work.withSlot_notices (fun x r w => ?_) _
  cases x.state with
  | setting | waitLine => exact Work.lockTest_notices.trans Work.orderPoints_notices
  | locked => exact Work.ite_notices Work.orderPoints_notices rfl
  | clearing | clear => exact Work.ite_notices (Work.replace_notices ..) rfl
  | replaced | entered | timedRelease => rfl

@[simp] theorem Work.onClaim_notices (element : Nat) (proven : Bool) : (w.onClaim e n element proven).notices = w.notices :=
  Work.ite_notices Work.clearTest_notices (Work.replace_notices ..)

@[simp] theorem Work.onProving_notices (element : Nat) (proven : Bool) :
    (w.onProving e element n proven).notices = w.notices := by
  refine Work.withSlot_notices (fun _ _ _ => ?_) _
  exact Work.ite_notices (Work.ite_notices rfl rfl) (Work.replace_notices ..)

@[simp] theorem Work.onAspect_notices (g : Nat) : (w.onAspect e g n).notices = w.notices := by
  refine Work.withSlot_notices (fun _ _ _ => ?_) _
  exact Work.ite_notices
    (Work.ite_notices (Work.orderEntry_notices ..) (Work.ite_notices (Work.replace_notices ..) rfl)) rfl

@[simp] theorem Work.onLineLost_notices (link number : Nat) : (w.onLineLost e link number n).notices = w.notices := by
  refine Work.withSlot_notices (fun x r w => ?_) _
  cases x.state with
  | setting | locked => exact Work.enterWaitLine_notices ..
  | clearing | clear => exact Work.replace_notices ..
  | waitLine | replaced | entered | timedRelease => rfl

@[simp] theorem Work.onLineFlag_notices (link number : Nat) : (w.onLineFlag e link number n).notices = w.notices := by
  refine Work.withSlot_notices (fun x r w => ?_) _
  cases x.state with
  | locked => exact Work.clearTest_notices
  | clearing | clear => exact Work.ite_notices rfl (Work.replace_notices ..)
  | setting | waitLine | replaced | entered | timedRelease => rfl

/-- A change handed on makes no notice due, whatever it is. -/
theorem Work.take_notices (c : Change) : (w.take e c).notices = w.notices := by
  cases c with
  | sectionState s => exact Work.forEach_notices (fun _ _ => Work.onSection_notices _) ..
  | pointChanged p => exact Work.forEach_notices (fun _ _ => Work.onPoint_notices _) ..
  | provingEnded g proven =>
    unfold Work.take
    dsimp only
    split
    · exact Work.onProving_notices ..
    · rfl
  | placeSignal g => exact Work.placeSignal_notices _
  | aspectChanged g => exact Work.forEach_notices (fun _ _ => Work.onAspect_notices _) ..
  | signalSupervised g => exact Work.forEach_notices (fun _ _ => Work.clearTest_notices) ..
  | claimChanged n element proven => exact Work.onClaim_notices ..
  | lineOurs link number => exact Work.forEach_notices (fun _ _ => Work.leaveWaitLine_notices) ..
  | lineLost link number => exact Work.forEach_notices (fun _ _ => Work.onLineLost_notices ..) ..
  | lineFlag link number => exact Work.forEach_notices (fun _ _ => Work.onLineFlag_notices ..) ..
  | askFailed link number reason => exact Work.foldl_notices (fun _ _ => Work.refuseSlot_notices _) ..
  | linkLost link number => exact Work.forEach_notices (fun _ _ => Work.replace_notices ..) ..

/-! ### Settling, placing and scanning -/

theorem Work.settle_notices (k : Nat) (w : Work) : (w.settle e k).notices = w.notices := by
  induction k generalizing w with
  | zero => rfl
  | succ k ih =>
    unfold Work.settle
    split
    · rfl
    · exact (ih _).trans (Work.take_notices _)

theorem Work.settled_notices : (w.settled e).notices = w.notices := by
  unfold Work.settled
  rw [Work.placeAll_rest]
  exact Work.settle_notices ..

theorem Work.takeRoute_notices (route : Nat) (r : RouteEntry) (fleet : Nat) (choices : List Choice) :
    (w.takeRoute e route r fleet n choices).notices = w.notices := by
  have begins (v : Work) : (v.begin e n).notices = v.notices := by
    unfold Work.begin
    split
    · exact Work.needLine_notices _ _ rfl
    · exact Work.lockTest_notices
  have claims (v : Work) : (v.makeClaims e n choices).notices = v.notices := by
    refine Work.foldl_notices (fun _ _ => ?_) ..
    exact Work.ite_notices rfl rfl
  have places (v : Work) : (v.placeClaims e n).notices = v.notices :=
    Work.foldl_notices (fun _ _ => (Work.placeSignal_notices _).trans (Work.placePoint_notices _)) ..
  exact (begins _).trans ((places _).trans (Work.orderPoints_notices.trans (claims _)))

theorem Work.examine_notices (q : Request) : (w.examine e q).notices = w.notices := by
  unfold Work.examine
  split
  · rfl
  · split
    · rw [Work.settled_notices, Work.report_notices, Work.takeRoute_notices]
      rfl
    · split <;> rfl

theorem Work.scans_notices (k : Nat) (w : Work) : (w.scans e k).notices = w.notices := by
  induction k generalizing w with
  | zero => rfl
  | succ k ih =>
    unfold Work.scans
    split
    · rw [ih]
      unfold Work.scanOnce
      refine Work.foldl_notices (fun v q => ?_) ..
      split
      · rfl
      · exact Work.examine_notices _
    · rfl

/-- The whole of an event makes no notice due. -/
theorem Work.event_notices : (w.event e).notices = w.notices := (Work.scans_notices ..).trans Work.settled_notices

end

/-! ## Each notice due is sent once, as the element then stands -/

/-- The notices of the elements that are present, in the order in which they became due. -/
theorem Live.sendNotices_on {t : Tables} (h : t.noticesOn = true) (due : List Nat) (l : Live) :
    l.sendNotices t due = { l with
      sent := l.sent ++ due.filterMap (fun n => (Map.find n l.elements).map (ElementRec.notice n)) } := by
  unfold Live.sendNotices
  rw [if_pos h]
  induction due generalizing l with
  | nil => simp
  | cons n ns ih =>
    rw [List.foldl_cons, ih]
    cases hn : Map.find n l.elements <;> simp [hn, Live.send]

theorem Live.sendNotices_off {t : Tables} (h : t.noticesOn = false) (due : List Nat) (l : Live) : l.sendNotices t due = l := by
  simp [Live.sendNotices, h]

/-! ## What makes a notice due -/

theorem Work.noticeDue_notices (n : Nat) (w : Work) :
    (w.noticeDue n).notices = if n ∈ w.notices then w.notices else w.notices ++ [n] := by
  simp [Work.noticeDue]

theorem Work.scanIf_notices (b : Bool) (w : Work) : (w.scanIf b).notices = w.notices := by cases b <;> rfl

/-- A branch that makes no notice due leaves those of the work it stands beside. -/
theorem Work.ite_owes {c : Prop} [Decidable c] {a b : Work} (h : a.notices = b.notices) :
    (if c then a else b).notices = b.notices := Work.ite_notices h rfl

/-- A change handed on for a point makes its notice due when a field of R58 differs. -/
theorem Work.handPoint_notices (e : Env) (p : Nat) (old new : PointRec) (w : Work) :
    (w.handPoint e p old new).notices = if old.noticed new then (w.noticeDue p).notices else w.notices := by
  unfold Work.handPoint
  rw [Work.scanIf_notices]
  refine (Work.ite_owes (Work.reprove_notices _)).trans (Eq.trans (Work.ite_owes ?_) ?_)
  · rfl
  · split <;> rfl

/-- A change handed on for a signal makes its notice due when a field of R58 differs. -/
theorem Work.handSignal_notices (e : Env) (g : Nat) (old new : SignalRec) (ended : Option Bool) (w : Work) :
    (w.handSignal e g old new ended).notices =
      if old.supervised != new.supervised || old.proven != new.proven then (w.noticeDue g).notices else w.notices := by
  unfold Work.handSignal
  rw [Work.scanIf_notices]
  refine Eq.trans (Work.ite_owes ?_) (Eq.trans (Work.ite_owes ?_) ?_)
  · rfl
  · exact Work.reprove_notices _
  · cases ended <;> dsimp only <;> split <;> rfl

/-- Settles O31: what is handed on owes no notice, so those owed at the end of a step are those owed before. -/
theorem noticesOfElements : Obligations.NoticesOfElements := by
  refine ⟨fun e w => ⟨Work.event_notices, fun h => ?_, fun h => ?_⟩, fun e p old new w => ?_, fun e g old new ended w => ?_⟩
  · exact Live.sendNotices_off (by simpa [Tables.noticesOn] using h) ..
  · refine (Live.sendNotices_on (by simpa [Tables.noticesOn] using h) ..).trans ?_
    rw [Work.event_notices]
    rfl
  · rw [Work.handPoint_notices, Work.noticeDue_notices]
    dsimp only
    by_cases hp : p ∈ w.notices <;> simp [hp, PointRec.noticed, or_assoc]
  · rw [Work.handSignal_notices, Work.noticeDue_notices]
    dsimp only
    by_cases hp : g ∈ w.notices <;> simp [hp]

end Sys2Proof.Machine
end

section
/-! PROOFS. The Vacancy Evaluator (Chapter 2): what a section whose record changes reports and hands on, the sections that a
head bounds, and SECTION RESET. -/

namespace Sys2Proof.Machine

/-! ## A section's record changed -/

/-- The report of a cause that was not in the set (R27). -/
def Live.reportCause (e : Env) (n : Nat) (cause : Option Cause) (l : Live) : Live :=
  match cause with
  | some c => l.offer e .b .sectionDisturbed .trackSection n (some c.code)
  | none => l

/-- The STATE NOTICE of a section whose state has changed, with notices on (R28). -/
def Tables.sectionNotices (t : Tables) (n : Nat) (old : SectionState) (new : SectionRec) : List Sent :=
  if new.state ≠ old ∧ t.optionsInForce.stateNotices = 1 then [.sectionNotice n new.state new.balance new.causes] else []

theorem Live.reportCause_rest (e : Env) (n : Nat) (cause : Option Cause) (l : Live) : l.reportCause e n cause = { l with
    reports := (l.reportCause e n cause).reports, sent := (l.reportCause e n cause).sent } := by
  cases cause
  · rfl
  · exact Live.offer_rest ..

/-- What a cause's report does depends on the reports and what has been sent alone. -/
theorem Live.reportCause_sections (e : Env) (n : Nat) (cause : Option Cause) (m : Map SectionRec) (l : Live) :
    Live.reportCause e n cause { l with sections := m } = { l.reportCause e n cause with sections := m } := by
  cases cause
  · rfl
  · show Live.offer e _ _ _ _ _ { l with sections := m } = { l.offer e _ _ _ _ _ with sections := m }
    unfold Live.offer Live.noticeReports
    dsimp only
    split
    · split <;> rfl
    · rfl

theorem Work.section_absent {e : Env} {n : Nat} {f : SectionRec → SectionRec × Option Cause} {w : Work}
    (h : w.live.sectionAt n = none) : w.section_ e n f = w := by
  simp [Work.section_, h]

theorem SectionRec.leaveClear_state (before : SectionState) (r : SectionRec) : (r.leaveClear before).state = r.state := by
  unfold SectionRec.leaveClear
  split <;> rfl

/-- A present section: its record is written, a new cause is reported, and a change of state alone is handed on (R27, R28). -/
theorem Work.section_found {e : Env} {n : Nat} {f : SectionRec → SectionRec × Option Cause} {w : Work} {old : SectionRec}
    (h : w.live.sectionAt n = some old) :
    let new := (f old).1.leaveClear old.state
    w.section_ e n f = { w with
      live := { w.live.reportCause e n (f old).2 with
        sections := (w.live.setSection n new).sections
        links := if new.state = old.state then w.live.links else ((w.live.setSection n new).formLineFlags e.tables).links
        sent := (w.live.reportCause e n (f old).2).sent ++ e.tables.sectionNotices n old.state new }
      todo := w.todo ++ if new.state ≠ old.state then [.sectionState n] else [] } := by
  intro new
  have hreported : Live.reportCause e n (f old).2 (w.live.setSection n new) =
      { w.live.reportCause e n (f old).2 with sections := (w.live.setSection n new).sections } :=
    Live.reportCause_sections ..
  have hsection : w.section_ e n f =
      let v : Work := { w with live := (w.live.setSection n new).reportCause e n (f old).2 }
      if new.state = old.state then v else v.handSection e n new := by
    simp only [Work.section_, h]
    cases (f old).2 <;> rfl
  rw [hsection]
  dsimp only
  rw [hreported]
  by_cases hstate : new.state = old.state
  · simp only [hstate, if_true, Tables.sectionNotices, ne_eq, not_true, false_and, if_false, List.append_nil]
    rw [Live.reportCause_rest]
  · rw [if_neg hstate, if_neg hstate, if_pos hstate]
    unfold Work.handSection Work.hand Work.on Tables.sectionNotices
    dsimp only
    rw [Live.reportCause_rest]
    by_cases hon : e.tables.optionsInForce.stateNotices = 1
    · rw [if_pos (by simpa [Tables.noticesOn] using hon), if_pos ⟨hstate, hon⟩]
      rfl
    · rw [if_neg (by simpa [Tables.noticesOn] using hon), if_neg (fun hc => hon hc.2), List.append_nil]
      rfl

theorem Work.sectionAt_section_ne {e : Env} {m n : Nat} {f : SectionRec → SectionRec × Option Cause} {w : Work} (hm : m ≠ n) :
    (w.section_ e n f).live.sectionAt m = w.live.sectionAt m := by
  rw [Work.sectionAt_section]
  cases w.live.sectionAt m <;> simp [hm]

/-- A line's flag, as it is formed: every line section is CLEAR and no lock holder stands on any of them (R135). -/
theorem Live.lineClearNow_iff {t : Tables} {link number : Nat} {l : Live} : l.lineClearNow t link number = true ↔
    ∃ x, t.lineEntry link number = some x ∧ ∀ sec ∈ x.sections,
      ∃ z, l.sectionAt sec = some z ∧ z.state = .clear ∧ z.lock = none := by
  simp [Live.lineClearNow_eq, Option.any_eq_true]

/-! ## Each of several things, in a free order -/

/-- Several things that come together are taken in some order (log 3). -/
theorem Work.forEach_perm {α : Type} (xs : List α) (f : α → Work → Work) (w : Work) : ∃ (ys : List α) (choices : List Nat), ys.Perm xs ∧
    w.forEach xs f = ys.foldl (fun v x => f x v) (w.on (fun l => { l with choices := choices })) := by
  obtain ⟨hperm, hrest⟩ := Work.arrange_rest xs w
  exact ⟨_, (w.arrange xs).2.live.choices, hperm, congrArg (fun v => List.foldl (fun v x => f x v) v _) hrest⟩

/-- Settles O29, from the one equation of a section whose record changes and the free order of the sections that a head bounds. -/
theorem sectionChangesHandedOn : Obligations.SectionChangesHandedOn := by
  refine ⟨fun e n f w => ⟨Work.section_absent, fun old hold => ?_⟩, fun c r =>
    ⟨rfl, fun d => SectionRec.mem_causes_addCause c d r, SectionRec.addCause_reported c r⟩, rfl, fun e h cA cB nA nB w =>
    ⟨rfl, fun hfault => ?_, fun hfault => ?_, Work.forEach_perm ..⟩⟩
  · intro left new reported changed notice
    have hfound := Work.section_found (e := e) (f := f) hold
    have hself : (w.section_ e n f).live.sectionAt n = some new := by
      rw [Work.sectionAt_section, hold, Option.map_some, if_pos rfl]
      rfl
    refine ⟨hself, fun m hm => Work.sectionAt_section_ne hm, ?_, fun hsame => ?_, fun hchanged link line y hy => ?_⟩
    · rw [hfound]
      rfl
    · rw [hfound]
      exact if_pos (not_not.mp hsame)
    · have hlinks : (w.section_ e n f).live.links = ((w.live.setSection n new).formLineFlags e.tables).links := by
        rw [hfound]
        exact if_neg hchanged
      have hsections : (w.section_ e n f).live.sections = (w.live.setSection n new).sections := by
        rw [hfound]
        rfl
      have hline : (w.section_ e n f).live.line link line =
          some { y with lineClear := (w.live.setSection n new).lineClearNow e.tables link line } := by
        have := Live.line_formLineFlags e.tables link line (w.live.setSection n new)
        unfold Live.line at this ⊢
        rw [hlinks, this]
        exact congrArg _ hy
      refine ⟨_, hline, rfl, ?_⟩
      rw [Live.lineClearNow_iff]
      unfold Live.sectionAt
      rw [hsections]
  · unfold Work.evaluate
    dsimp only
    rw [if_pos (by simpa using hfault)]
    exact Work.forEach_perm ..
  · unfold Work.evaluate
    dsimp only
    rw [if_neg (by simpa using hfault)]
    exact Work.forEach_perm ..

/-! ## SECTION RESET -/

theorem Live.headsSupervised_iff {t : Tables} {n : Nat} {x : SectionEntry} {l : Live} (h : Map.find n t.sections = some x) :
    l.headsSupervised t n = true ↔ ∀ i ∈ x.heads, ∃ h, l.head i.head = some h ∧ h.supervised = true := by
  simp [Live.headsSupervised, h, Option.any_eq_true]

/-- A reset that passes: the record, every other section's, the change handed on, and the report (R32, R33). -/
theorem Work.resetSection_found {e : Env} {n : Nat} {r : SectionRec} {w : Work} (hr : w.live.sectionAt n = some r)
    (hstate : r.state = .disturbed) :
    (w.resetSection e n r).live.sectionAt n = some (r.reset (if r.possession.isSome then .clear else .sweep)) ∧
    (∀ m ≠ n, (w.resetSection e n r).live.sectionAt m = w.live.sectionAt m) ∧
    (w.resetSection e n r).todo = w.todo ++ [.sectionState n] ∧
    (w.resetSection e n r).live.reports =
      (w.live.offer e .c .sectionReset .trackSection n (some (if r.possession.isSome then 0 else 1))).reports := by
  let target : SectionState := if r.possession.isSome then .clear else .sweep
  let v := w.report e .c .sectionReset .trackSection n (some (if r.possession.isSome then 0 else 1))
  have hv (m : Nat) : v.live.sectionAt m = w.live.sectionAt m := by
    unfold Live.sectionAt
    exact congrArg (Map.find m) (Live.offer_sections ..)
  have hchanged : (r.reset target).state ≠ r.state := by
    rw [hstate]
    show target ≠ _
    cases h : r.possession.isSome <;> simp [target, h]
  have hleave : (r.reset target).leaveClear r.state = r.reset target := by simp [SectionRec.leaveClear, hstate]
  have hfound := Work.section_found (e := e) (f := fun x => (x.reset target, none)) ((hv n).trans hr)
  refine ⟨?_, fun m hm => ?_, ?_, ?_⟩
  · show (v.section_ e n _).live.sectionAt n = _
    rw [Work.sectionAt_section, hv, hr, Option.map_some, if_pos rfl, hleave]
  · show (v.section_ e n _).live.sectionAt m = _
    rw [Work.sectionAt_section_ne hm, hv]
  · show (v.section_ e n _).todo = _
    rw [hfound, hleave, if_pos hchanged]
    rfl
  · show (v.section_ e n _).live.reports = _
    rw [hfound]
    rfl

/-- Settles O27: the checks in order, and the reset of a DISTURBED section, which always changes its state. -/
theorem sectionResetByPossession : Obligations.SectionResetByPossession := by
  intro tag n s hs
  refine ⟨fun hm => control_refused hs (by simp [sectionReset, hm]), fun hm => ⟨fun hn =>
    control_refused hs (by simp [sectionReset, hm, hn]), fun r x hr hx => ⟨fun hlock => ?_, fun hlock hstate => ?_,
      fun hlock hstate hsup => ?_, fun hlock hstate hsup => ?_⟩⟩⟩
  · exact control_refused hs (by simp [sectionReset, hm, hr, Option.isSome_iff_ne_none, hlock])
  · exact control_refused hs (by simp [sectionReset, hm, hr, hlock, hstate])
  · rw [← Live.headsSupervised_iff hx, Bool.not_eq_true] at hsup
    exact control_refused hs (by simp [sectionReset, hm, hr, hlock, hstate, hsup])
  · rw [← Live.headsSupervised_iff hx] at hsup
    intro inPossession
    have hrule (code : Code) (hcode : (if r.possession.isSome then Code.done else .accepted) = code) :
        sectionReset n s = (s.ending (s.work.resetSection s.env n r)).answers (.plain code) := by
      rw [← hcode]
      simp [sectionReset, hm, hr, hlock, hstate, hsup, State.doing_eq]
    have hfound := Work.resetSection_found (e := s.env) (w := s.work) hr hstate
    refine ⟨s.work.resetSection s.env n r, fun hp => control_answered hs (hrule _ ?_), fun hp =>
      control_answered hs (hrule _ ?_), ⟨_, hfound.1, rfl, fun hp => ?_, fun hp => ?_⟩, hfound.2.1, hfound.2.2.1,
      fun hp => ?_, fun hp => ?_⟩
    · exact if_pos (Option.isSome_iff_ne_none.mpr hp)
    · simp [not_not.mp hp]
    · exact if_pos (Option.isSome_iff_ne_none.mpr hp)
    · simp [SectionRec.reset, not_not.mp hp]
    · rw [hfound.2.2.2, if_pos (Option.isSome_iff_ne_none.mpr hp)]
      rfl
    · rw [hfound.2.2.2, if_neg (by simp [not_not.mp hp])]
      rfl

end Sys2Proof.Machine
end

section
/-! PROOFS. The Element Mirror (Chapter 3): what the change of a point's or a signal's record writes and hands on (R57, R58,
R103, R106), the statuses of points and signals, and the expiries of their timers. -/

namespace Sys2Proof.Machine

/-! ## What the change of a record hands on -/

theorem Work.scanIf_scan (b : Bool) (w : Work) : (w.scanIf b).scan = (w.scan || b) := by
  cases b <;> simp [Work.scanIf, Work.scanDue]

theorem Work.scanIf_todo (b : Bool) (w : Work) : (w.scanIf b).todo = w.todo := by cases b <;> rfl
theorem Work.scanIf_places (b : Bool) (w : Work) : (w.scanIf b).places = w.places := by cases b <;> rfl

theorem Live.flankNamed_congr {t : Tables} {n : Nat} {a b : Live} (h : a.waiting = b.waiting) :
    a.flankNamed t n = b.flankNamed t n := by
  unfold Live.flankNamed
  rw [h]

theorem State.flankAwaited_iff {n : Nat} {s : State} : s.live.flankNamed s.store.active n = true ↔ s.flankAwaited n := by
  simp only [Live.flankNamed, State.flankAwaited, List.any_eq_true]
  refine exists_congr fun q => and_congr_right fun _ => ?_
  cases Map.find q.route s.store.active.routes <;> simp

/-- Only the claims and the changes handed over so far matter of what comes before. -/
theorem ClaimsFollow.after_same {n : Nat} {shows : Required → Bool} {changed : Prop} {a b after : Work}
    (h : ClaimsFollow n changed shows a after) (hclaims : a.live.claims = b.live.claims) (htodo : a.todo = b.todo) :
    ClaimsFollow n changed shows b after := by
  unfold ClaimsFollow at h ⊢
  rw [← hclaims, ← htodo]
  exact h

/-- Only the claims and the changes handed over matter of what comes after. -/
theorem ClaimsFollow.to_same {n : Nat} {shows : Required → Bool} {changed : Prop} {before a b : Work}
    (h : ClaimsFollow n changed shows before a) (hclaims : b.live.claims = a.live.claims)
    (htodo : ∀ slot m v, .claimChanged slot m v ∈ b.todo ↔ .claimChanged slot m v ∈ a.todo) :
    ClaimsFollow n changed shows before b :=
  ⟨fun hc => hclaims.trans (h.1 hc), fun hc => hclaims.trans (h.2.1 hc), fun _ _ _ => (htodo ..).trans (h.2.2 ..)⟩

/-! ### A point's record -/

/-- The change of a point's record reaches the slots and the Flank Allocator when a field of R58 differs, or a movement has
ended (R57, R103). -/
def PointRec.moved (old new : PointRec) : Bool := old.noticed new || (old.movement.isSome && new.movement.isNone)

/-- A point becomes supervised, or has failed no more: it may have become obtainable (R70). -/
def PointRec.regained (old new : PointRec) : Bool := !old.supervised && new.supervised || old.moveFailed && !new.moveFailed

/-- What is handed on for a point, before the claims on it are proved afresh. -/
def Work.pointHanded (p : Nat) (old new : PointRec) (w : Work) : Work :=
  let v := w.on (Live.setElement p (.point new))
  let v := if old.noticed new then v.noticeDue p else v
  if old.moved new then (v.hand [.pointChanged p]).placeDue [p] else v

theorem Work.handPoint_eq (e : Env) (p : Nat) (old new : PointRec) (w : Work) : w.handPoint e p old new =
    let v := if old.evaluated ≠ new.evaluated then (w.pointHanded p old new).reprove p else w.pointHanded p old new
    v.scanIf (old.regained new && v.live.flankNamed e.tables p) := by
  unfold Work.handPoint Work.pointHanded PointRec.moved PointRec.regained
  simp only [bne_iff_ne]

section
variable {e : Env} {p : Nat} {old new : PointRec} {w : Work}

theorem Work.pointHanded_live : (w.pointHanded p old new).live = w.live.setElement p (.point new) := by
  unfold Work.pointHanded
  dsimp only
  split <;> split <;> rfl

theorem Work.pointHanded_todo : (w.pointHanded p old new).todo = w.todo ++ if old.moved new then [.pointChanged p] else [] := by
  unfold Work.pointHanded
  dsimp only
  split <;> split <;> simp

theorem Work.pointHanded_places : (w.pointHanded p old new).places = w.places ++ if old.moved new then [p] else [] := by
  unfold Work.pointHanded
  dsimp only
  split <;> split <;> simp

theorem Work.pointHanded_scan : (w.pointHanded p old new).scan = w.scan := by
  unfold Work.pointHanded
  dsimp only
  split <;> split <;> rfl

theorem Work.handPoint_element : (w.handPoint e p old new).live.point p = some new := by
  rw [Work.handPoint_rest]
  exact Live.point_some.mpr (Map.find_put_self ..)

theorem Work.handPoint_ne {m : Nat} (hm : m ≠ p) :
    Map.find m (w.handPoint e p old new).live.elements = Map.find m w.live.elements := by
  rw [Work.handPoint_rest]
  exact Map.find_put_ne hm ..

theorem Work.handPoint_places : (w.handPoint e p old new).places = w.places ++ if old.moved new then [p] else [] := by
  rw [Work.handPoint_eq]
  dsimp only
  rw [Work.scanIf_places]
  split
  · rw [Work.reprove_rest]
    exact Work.pointHanded_places
  · exact Work.pointHanded_places

theorem Work.handPoint_scan :
    (w.handPoint e p old new).scan = (w.scan || (old.regained new && w.live.flankNamed e.tables p)) := by
  rw [Work.handPoint_eq]
  dsimp only
  rw [Work.scanIf_scan]
  have hl := Work.pointHanded_live (w := w) (p := p) (old := old) (new := new)
  split
  · rw [Work.reprove_rest, Live.flankNamed_congr (b := w.live) (by dsimp only; rw [hl]; rfl)]
    exact congrArg (· || _) Work.pointHanded_scan
  · rw [Live.flankNamed_congr (b := w.live) (by rw [hl]; rfl), Work.pointHanded_scan]

theorem Work.handPoint_pointChanged {q : Nat} :
    .pointChanged q ∈ (w.handPoint e p old new).todo ↔ .pointChanged q ∈ w.todo ∨ (old.moved new = true ∧ q = p) := by
  rw [Work.handPoint_eq]
  dsimp only
  rw [Work.scanIf_todo, apply_ite Work.todo]
  split
  · rw [Work.mem_reprove_todo, Work.pointHanded_todo]
    by_cases h : old.moved new = true <;> simp [h]
  · rw [Work.pointHanded_todo]
    by_cases h : old.moved new = true <;> simp [h]

/-- The claims on a point follow its evaluated position (R106). -/
theorem Work.handPoint_follows : ClaimsFollow p (old.evaluated ≠ new.evaluated) new.showing w (w.handPoint e p old new) := by
  have hclaims : (w.pointHanded p old new).live.claims = w.live.claims := by rw [Work.pointHanded_live]; rfl
  have htodo (slot m : Nat) (v : Bool) :
      .claimChanged slot m v ∈ (w.pointHanded p old new).todo ↔ .claimChanged slot m v ∈ w.todo := by
    rw [Work.pointHanded_todo]
    by_cases h : old.moved new = true <;> simp [h]
  rw [Work.handPoint_eq]
  dsimp only
  split
  · next h =>
    refine ClaimsFollow.to_same (a := (w.pointHanded p old new).reprove p) ?_ (by rw [Work.scanIf_live])
      fun _ _ _ => by rw [Work.scanIf_todo]
    refine Work.reprove_follows h hclaims htodo (Live.shows_point ?_)
    rw [Work.pointHanded_live]
    exact Live.point_some.mpr (Map.find_put_self ..)
  · next h =>
    exact claimsFollow_unchanged h (by rw [Work.scanIf_live, hclaims]) fun _ _ _ => by rw [Work.scanIf_todo, htodo]

end

/-! ### A signal's record -/

/-- What is handed on for a signal, before the claims on it are proved afresh. -/
def Work.signalHanded (g : Nat) (old new : SignalRec) (ended : Option Bool) (w : Work) : Work :=
  let v := w.on (Live.setElement g (.signal new))
  let v := if old.supervised != new.supervised || old.proven != new.proven then v.noticeDue g else v
  match ended with
  | some proven => v.hand [.provingEnded g proven, .placeSignal g]
  | none => v

/-- What the end of a proving hands on (R57, R104). -/
def provingHanded (g : Nat) (ended : Option Bool) : List Change :=
  match ended with
  | some proven => [.provingEnded g proven, .placeSignal g]
  | none => []

theorem Work.handSignal_eq (e : Env) (g : Nat) (old new : SignalRec) (ended : Option Bool) (w : Work) :
    w.handSignal e g old new ended =
      let v := w.signalHanded g old new ended
      let v := if old.proven ≠ new.proven then (v.hand [.aspectChanged g]).reprove g else v
      let v := if old.supervised ≠ new.supervised then v.hand [.signalSupervised g] else v
      v.scanIf ((!old.supervised && new.supervised) && v.live.flankNamed e.tables g) := by
  unfold Work.handSignal Work.signalHanded
  cases ended <;> simp only [bne_iff_ne]

section
variable {e : Env} {g : Nat} {old new : SignalRec} {ended : Option Bool} {w : Work}

theorem Work.signalHanded_live : (w.signalHanded g old new ended).live = w.live.setElement g (.signal new) := by
  unfold Work.signalHanded
  cases ended <;> dsimp only <;> split <;> rfl

theorem Work.signalHanded_scan : (w.signalHanded g old new ended).scan = w.scan := by
  unfold Work.signalHanded
  cases ended <;> dsimp only <;> split <;> rfl

theorem Work.signalHanded_todo : (w.signalHanded g old new ended).todo = w.todo ++ provingHanded g ended := by
  unfold Work.signalHanded provingHanded
  cases ended <;> dsimp only <;> split <;> simp

theorem Work.handSignal_element : (w.handSignal e g old new ended).live.signal g = some new := by
  rw [Work.handSignal_rest]
  exact Live.signal_some.mpr (Map.find_put_self ..)

theorem Work.handSignal_ne {m : Nat} (hm : m ≠ g) :
    Map.find m (w.handSignal e g old new ended).live.elements = Map.find m w.live.elements := by
  rw [Work.handSignal_rest]
  exact Map.find_put_ne hm ..

/-- The claims on a signal that changes, proved afresh after what is handed on for it. -/
theorem Work.handSignal_claims : (w.handSignal e g old new ended).live.claims =
    (if old.proven ≠ new.proven then
      ((w.signalHanded g old new ended).hand [.aspectChanged g]).reprove g else w.signalHanded g old new ended).live.claims := by
  rw [Work.handSignal_eq]
  dsimp only
  rw [Work.scanIf_live]
  split <;> rfl

/-- All that is handed on for a signal: what a proving's end hands on, its aspect with its claims, and its supervised flag. -/
theorem Work.handSignal_todo : (w.handSignal e g old new ended).todo =
    (if old.proven ≠ new.proven then
      ((w.signalHanded g old new ended).hand [.aspectChanged g]).reprove g else w.signalHanded g old new ended).todo ++
    if old.supervised ≠ new.supervised then [.signalSupervised g] else [] := by
  rw [Work.handSignal_eq]
  dsimp only
  rw [Work.scanIf_todo]
  split <;> simp

theorem Work.mem_handSignal_todo {c : Change} (hc : ∀ slot m v, c ≠ .claimChanged slot m v) :
    c ∈ (w.handSignal e g old new ended).todo ↔ c ∈ w.todo ∨ c ∈ provingHanded g ended ∨
      (old.proven ≠ new.proven ∧ c = .aspectChanged g) ∨ (old.supervised ≠ new.supervised ∧ c = .signalSupervised g) := by
  have hclaim : ¬ ∃ d ∈ ((w.signalHanded g old new ended).hand [.aspectChanged g]).live.claims, d.element = g ∧
      d.proven ≠ ((w.signalHanded g old new ended).hand [.aspectChanged g]).live.shows d.element d.required ∧
      c = .claimChanged d.slot g (!d.proven) := fun ⟨_, _, _, _, h⟩ => hc _ _ _ h
  rw [Work.handSignal_todo, List.mem_append]
  by_cases hp : old.proven = new.proven <;> by_cases hs : old.supervised = new.supervised <;>
    simp only [hp, hs, ne_eq, not_true, not_false_eq_true, if_true, if_false, Work.mem_reprove_todo, hclaim,
      Work.hand_todo, Work.signalHanded_todo, List.mem_append, List.mem_singleton, List.not_mem_nil, or_false,
      false_or, false_and, true_and, or_assoc]

theorem Work.handSignal_scan : (w.handSignal e g old new ended).scan =
    (w.scan || ((!old.supervised && new.supervised) && w.live.flankNamed e.tables g)) := by
  have hl := Work.signalHanded_live (w := w) (g := g) (old := old) (new := new) (ended := ended)
  have hmid (v : Work) (hv : v = if old.proven ≠ new.proven then
      ((w.signalHanded g old new ended).hand [.aspectChanged g]).reprove g else w.signalHanded g old new ended) :
      v.scan = w.scan ∧ v.live.waiting = w.live.waiting := by
    subst hv
    split
    · rw [Work.reprove_rest]
      exact ⟨Work.signalHanded_scan, by simp [hl, Live.setElement]⟩
    · exact ⟨Work.signalHanded_scan, by rw [hl]; rfl⟩
  obtain ⟨hscan, hwaiting⟩ := hmid _ rfl
  rw [Work.handSignal_eq]
  dsimp only
  rw [Work.scanIf_scan]
  split
  · rw [Work.hand_scan, Work.hand_live, hscan, Live.flankNamed_congr hwaiting]
  · rw [hscan, Live.flankNamed_congr hwaiting]

/-- The claims on a signal follow its proven aspect (R106). -/
theorem Work.handSignal_follows :
    ClaimsFollow g (old.proven ≠ new.proven) new.showing w (w.handSignal e g old new ended) := by
  have hlive := Work.signalHanded_live (w := w) (g := g) (old := old) (new := new) (ended := ended)
  have hended (slot m : Nat) (v : Bool) : .claimChanged slot m v ∉ provingHanded g ended := by
    cases ended <;> simp [provingHanded]
  have hhanded (slot m : Nat) (v : Bool) :
      .claimChanged slot m v ∈ (w.signalHanded g old new ended).todo ↔ .claimChanged slot m v ∈ w.todo := by
    simp [Work.signalHanded_todo, hended]
  refine ClaimsFollow.to_same (a := if old.proven ≠ new.proven then
    ((w.signalHanded g old new ended).hand [.aspectChanged g]).reprove g else w.signalHanded g old new ended) ?_
    Work.handSignal_claims fun slot m v => ?_
  · split
    · next h =>
      refine Work.reprove_follows h (by rw [Work.hand_live, hlive]; rfl) (fun slot m v => ?_) fun q => ?_
      · simp [hhanded]
      · rw [Work.hand_live, hlive]
        exact Live.shows_signal (Live.signal_some.mpr (Map.find_put_self ..)) q
    · next h => exact claimsFollow_unchanged h (by rw [hlive]; rfl) hhanded
  · rw [Work.handSignal_todo, List.mem_append]
    by_cases hs : old.supervised = new.supervised <;> simp [hs]

end

end Sys2Proof.Machine
end

section
/-! PROOFS. The statuses of points and signals, and the expiries of elements (Chapter 3). -/

namespace Sys2Proof.Machine

/-! ## A status of the element's kind -/

section
variable {address code n : Nat} {s : State}

theorem exec_status {content : StatusContent} (hp : s.power = true) (hm : s.mode ≠ .start)
    (hc : StatusContent.meaningful content = true) (hn : s.store.active.atAddress address = some n) :
    exec (.status address content) s = .next (s.ending (s.work.elementStatus s.env n content)) :=
  (event_on _ _ hp).trans (congrArg _ (by simp [statusTaken, hm, hc, hn, State.doing_eq]))

theorem Work.elementStatus_position {e : Env} {reported : Option Position} {r : PointRec} {w : Work}
    (hc : reportedPosition code = some reported) (hr : Map.find n w.live.elements = some (.point r)) :
    w.elementStatus e n (.position code) = w.handPoint e n r (r.status e n reported) := by
  simp [Work.elementStatus, hc, Work.positionStatus, hr]

theorem Work.elementStatus_aspect {e : Env} {shown : Option Aspect} {r : SignalRec} {w : Work}
    (hc : shownAspect code = some shown) (hr : Map.find n w.live.elements = some (.signal r)) :
    w.elementStatus e n (.aspect code) =
      (if r.mismatch shown then w.report e .b .aspectMismatch .element n (some (aspectCode shown)) else w).handSignal e n r
        (r.status e n shown).1 (r.status e n shown).2 := by
  simp [Work.elementStatus, hc, Work.aspectStatus, hr]

end

theorem ClaimsFollow.of_iff {n : Nat} {shows : Required → Bool} {p q : Prop} {a b : Work} (h : ClaimsFollow n p shows a b)
    (hpq : p ↔ q) : ClaimsFollow n q shows a b := propext hpq ▸ h

theorem mem_provingHanded {g : Nat} {ended : Option Bool} {c : Change} : c ∈ provingHanded g ended ↔
    ∃ b, ended = some b ∧ (c = .provingEnded g b ∨ c = .placeSignal g) := by
  cases ended <;> simp [provingHanded]

/-! ## Points -/

theorem PointRec.noticed_iff {old new : PointRec} : old.noticed new = true ↔
    new.supervised ≠ old.supervised ∨ new.evaluated ≠ old.evaluated ∨ new.moveFailed ≠ old.moveFailed := by
  simp only [PointRec.noticed, Bool.or_eq_true, bne_iff_ne, or_assoc, ne_comm]

/-- What the slots and the Flank Allocator are told of, of a record whose movement stands or has ended. -/
theorem PointRec.moved_iff {old new : PointRec} (h : new.movement = old.movement ∨ new.movement = none) :
    old.moved new = true ↔ new.supervised ≠ old.supervised ∨ new.evaluated ≠ old.evaluated ∨
      new.moveFailed ≠ old.moveFailed ∨ new.movement ≠ old.movement := by
  have hended : (old.movement.isSome && new.movement.isNone) = true ↔ new.movement ≠ old.movement := by
    obtain h | h := h <;> cases ho : old.movement <;> simp [h, ho]
  rw [PointRec.moved, Bool.or_eq_true, hended, PointRec.noticed_iff]
  simp only [or_assoc]

theorem PointRec.regained_iff {old new : PointRec} (h : new.supervised = true) : old.regained new = true ↔
    old.supervised = false ∨ (old.moveFailed = true ∧ new.moveFailed = false) := by
  simp [PointRec.regained, h]

section
variable {e : Env} {n : Nat} {reported : Option Position} {r : PointRec}

/-- A status touches of a point's record what R45 to R50 write. -/
theorem PointRec.status_frame : (r.status e n reported).supervised = true ∧
    (r.status e n reported).freshness = some (e.clock + e.tables.supervision n) ∧
    (r.status e n reported).lastReported = some reported ∧ (r.status e n reported).routeLock = r.routeLock ∧
    (r.status e n reported).pendingOrder = r.pendingOrder ∧
    ((r.status e n reported).movement = r.movement ∨ (r.status e n reported).movement = none) := by
  unfold PointRec.status PointRec.underMovement PointRec.underPersistence
  cases r.movement with
  | none =>
    dsimp only
    split
    · split
      · exact ⟨rfl, rfl, rfl, rfl, rfl, .inl rfl⟩
      · split <;> exact ⟨rfl, rfl, rfl, rfl, rfl, .inl rfl⟩
    · exact ⟨rfl, rfl, rfl, rfl, rfl, .inl rfl⟩
  | some m =>
    dsimp only
    split
    · exact ⟨rfl, rfl, rfl, rfl, rfl, .inr rfl⟩
    · exact ⟨rfl, rfl, rfl, rfl, rfl, .inl rfl⟩

theorem PointRec.status_moving {target : Position} {moment : Nat} (h : r.movement = some (target, moment)) :
    (reported = some target → (r.status e n reported).movement = none ∧ (r.status e n reported).evaluated = some target ∧
      (r.status e n reported).moveFailed = false ∧ (r.status e n reported).persistence = 0) ∧
    (reported ≠ some target → (r.status e n reported).movement = r.movement ∧ (r.status e n reported).evaluated = none ∧
      (r.status e n reported).moveFailed = r.moveFailed) := by
  unfold PointRec.status PointRec.underMovement
  simp only [h]
  exact ⟨fun hr => by simp [hr], fun hr => by simp [hr]⟩

theorem PointRec.status_still (h : r.movement = none) : (r.status e n reported).movement = none ∧
    (r.status e n reported).moveFailed = r.moveFailed ∧
    (r.supervised = false → (r.status e n reported).evaluated = reported ∧ (r.status e n reported).persistence = 0) ∧
    (r.supervised = true →
      (reported = r.evaluated → (r.status e n reported).evaluated = r.evaluated ∧ (r.status e n reported).persistence = 0) ∧
      (reported ≠ r.evaluated → r.persistence + 1 = e.tables.persistence n →
        (r.status e n reported).evaluated = reported ∧ (r.status e n reported).persistence = 0) ∧
      (reported ≠ r.evaluated → r.persistence + 1 ≠ e.tables.persistence n →
        (r.status e n reported).evaluated = r.evaluated ∧ (r.status e n reported).persistence = r.persistence + 1)) := by
  unfold PointRec.status PointRec.underPersistence
  simp only [h]
  refine ⟨?_, ?_, fun hs => by simp [hs], fun hs => ⟨fun he => by simp [hs, he], fun he hp => by simp [hs, he, hp],
    fun he hp => by simp [hs, he, hp]⟩⟩
  · split
    · split
      · rfl
      · split <;> rfl
    · rfl
  · split
    · split
      · rfl
      · split <;> rfl
    · rfl

end

theorem Work.noticeDue_first (n : Nat) (w : Work) (h : w.notices = []) : (w.noticeDue n).notices = [n] := by
  simp [Work.noticeDue_notices, h]

/-- Settles O32: the status of a supervised, moving or newly heard point, and what the change of its record hands on. -/
theorem pointStatus : Obligations.PointStatus := by
  intro address code n reported r s hp hm hn hc hr
  have hexec := exec_status hp hm (content := .position code) (by simp [StatusContent.meaningful, hc]) hn
  rw [Work.elementStatus_position hc hr] at hexec
  obtain ⟨hsup, hfresh, hlast, hlock, hpending, hmove⟩ := PointRec.status_frame (e := s.env) (n := n) (reported := reported)
    (r := r)
  have hmoved := PointRec.moved_iff hmove
  have hrest := Work.handPoint_rest s.env n r (r.status s.env n reported) s.work
  refine ⟨_, _, hexec, Work.handPoint_element, hsup, hfresh, hlast, hlock, hpending, fun target moment h =>
    PointRec.status_moving h, PointRec.status_still, ?_, ?_, fun p => ?_, ?_, ?_, by rw [hrest]; rfl, by rw [hrest]; rfl,
    by rw [hrest]; rfl, fun m hne => Work.handPoint_ne hne⟩
  · rw [Work.handPoint_pointChanged, hmoved]
    simp [State.work]
  · rw [Work.handPoint_notices, Work.noticeDue_first n s.work rfl]
    simp only [PointRec.noticed_iff]
    rfl
  · rw [Work.handPoint_places]
    by_cases h : r.moved (r.status s.env n reported) = true
    · simp [h, hmoved.mp h, State.work]
    · simp [h, mt hmoved.mpr h, State.work]
  · rw [Work.handPoint_scan, ← PointRec.regained_iff hsup, ← State.flankAwaited_iff, ← Bool.and_eq_true]
    rfl
  · exact Work.handPoint_follows.of_iff ne_comm

/-! ## Signals -/

/-- A status touches of a signal's record what R45, R47 and R53 write. -/
theorem SignalRec.status_frame (e : Env) (g : Nat) (shown : Option Aspect) (r : SignalRec) : (r.status e g shown).1 = { r with
    supervised := true, freshness := some (e.clock + e.tables.supervision g), proven := shown
    proving := (r.status e g shown).1.proving } := by
  unfold SignalRec.status
  dsimp only
  split <;> rfl

theorem SignalRec.status_proved {e : Env} {g : Nat} {shown : Option Aspect} {r : SignalRec}
    (h : r.proving ≠ none ∧ shown = some r.commanded) :
    (r.status e g shown).1.proving = none ∧ (r.status e g shown).2 = some true := by
  simp [SignalRec.status, Option.isSome_iff_ne_none, h.1, h.2]

theorem SignalRec.status_unproved {e : Env} {g : Nat} {shown : Option Aspect} {r : SignalRec}
    (h : ¬ (r.proving ≠ none ∧ shown = some r.commanded)) :
    (r.status e g shown).1.proving = r.proving ∧ (r.status e g shown).2 = none := by
  unfold SignalRec.status
  rw [if_neg (by simpa [Option.isSome_iff_ne_none] using h)]
  exact ⟨rfl, rfl⟩

theorem SignalRec.status_ended {e : Env} {g : Nat} {shown : Option Aspect} {r : SignalRec} {b : Bool} :
    (r.status e g shown).2 = some b ↔ (r.proving ≠ none ∧ shown = some r.commanded) ∧ b = true := by
  by_cases h : r.proving ≠ none ∧ shown = some r.commanded
  · rw [(SignalRec.status_proved h).2, Option.some.injEq, eq_comm]
    exact (and_iff_right h).symm
  · rw [(SignalRec.status_unproved h).2]
    simp [h]

theorem SignalRec.mismatch_iff {shown : Option Aspect} {r : SignalRec} :
    r.mismatch shown = true ↔ r.proving = none ∧ r.proven ≠ shown ∧ shown ≠ some r.commanded := by
  simp [SignalRec.mismatch, and_assoc]

/-- Settles O33: the status of a signal, with the end of its proving, and what the change of its record hands on. -/
theorem signalStatus : Obligations.SignalStatus := by
  intro address code g shown r s hp hm hn hc hr proved mismatch
  have hexec := exec_status hp hm (content := .aspect code) (by simp [StatusContent.meaningful, hc]) hn
  rw [Work.elementStatus_aspect hc hr] at hexec
  generalize hv : (if r.mismatch shown then _ else s.work : Work) = v at hexec
  have hrest : v = { s.work with live := { s.live with reports := v.live.reports, sent := v.live.sent } } := by
    subst hv
    split
    · exact congrArg (fun l => { s.work with live := l }) (Live.offer_rest ..)
    · rfl
  have htodo : v.todo = [] := by rw [hrest]; rfl
  have hwaiting : v.live.waiting = s.live.waiting := by rw [hrest]
  have hhand := Work.handSignal_rest s.env g r (r.status s.env g shown).1 (r.status s.env g shown).2 v
  have hframe := SignalRec.status_frame s.env g shown r
  have hsupervised : (r.status s.env g shown).1.supervised = true := by rw [hframe]
  have hproven : (r.status s.env g shown).1.proven = shown := by rw [hframe]
  refine ⟨_, _, hexec, Work.handSignal_element, hframe, fun h => (SignalRec.status_proved h).1,
    fun h => (SignalRec.status_unproved h).1, ?_, ?_, ?_, ?_, ?_, ?_, ?_, ?_, fun h => ?_, fun h => ?_, ?_, ?_, ?_,
    fun m hne => (Work.handSignal_ne hne).trans (by rw [hrest])⟩
  · rw [Work.mem_handSignal_todo (by simp), mem_provingHanded, htodo]
    simp [SignalRec.status_ended, proved]
  · rw [Work.mem_handSignal_todo (by simp), mem_provingHanded, htodo]
    simp [SignalRec.status_ended, proved]
  · have hnone : v.notices = [] := by rw [hrest]; rfl
    rw [Work.handSignal_notices, Work.noticeDue_first g v hnone, hsupervised, hproven, hnone]
    simp [bne_iff_ne]
  · rw [Work.mem_handSignal_todo (by simp), mem_provingHanded, htodo, hproven]
    simp
  · rw [Work.handSignal_scan, hsupervised, Live.flankNamed_congr hwaiting, ← State.flankAwaited_iff,
      show v.scan = false by rw [hrest]; rfl]
    simp
  · rw [hhand, hrest]
    rfl
  · refine (Work.handSignal_follows.of_iff (by rw [hproven])).after_same ?_ ?_
    · rw [hrest]; rfl
    · rw [hrest]
  · rw [Work.mem_handSignal_todo (by simp), mem_provingHanded, htodo, hsupervised]
    simp
  · rw [hhand, ← hv, if_pos (SignalRec.mismatch_iff.mpr h)]
    rfl
  · rw [hhand, ← hv, if_neg (mt SignalRec.mismatch_iff.mp h)]
    rfl
  · rw [hhand, hrest]
  · rw [hhand, hrest]
  · rw [hhand, hrest]

end Sys2Proof.Machine
end

section
/-! PROOFS. The expiries of elements (R46, R51, R54), and several sections changed one after another. -/

namespace Sys2Proof.Machine

/-! ## Several sections changed one after another (R26, R29) -/

/-- Change the record of each of several sections. -/
def Work.eachSection (e : Env) (f : Nat × Bool → SectionRec → SectionRec × Option Cause) (xs : List (Nat × Bool)) (w : Work) :
    Work :=
  xs.foldl (fun v x => v.section_ e x.1 (f x)) w

section
variable {e : Env} {f : Nat × Bool → SectionRec → SectionRec × Option Cause} {xs : List (Nat × Bool)} {w : Work}

/-- A section that is not among them keeps its record. -/
theorem Work.eachSection_other {sec : Nat} (h : ∀ inA, (sec, inA) ∉ xs) :
    (w.eachSection e f xs).live.sectionAt sec = w.live.sectionAt sec := by
  induction xs generalizing w with
  | nil => rfl
  | cons x xs ih =>
    have hx : sec ≠ x.1 := fun hx => h x.2 (by simp [hx])
    exact (ih fun inA hm => h inA (List.mem_cons_of_mem _ hm)).trans (Work.sectionAt_section_ne hx)

/-- A section that is among them once is changed once. -/
theorem Work.eachSection_self (hn : (xs.map Prod.fst).Nodup) {sec : Nat} {inA : Bool} (h : (sec, inA) ∈ xs) :
    (w.eachSection e f xs).live.sectionAt sec =
      (w.live.sectionAt sec).map (fun y => (f (sec, inA) y).1.leaveClear y.state) := by
  induction xs generalizing w with
  | nil => simp at h
  | cons x xs ih =>
    obtain ⟨hx, hn⟩ := List.nodup_cons.mp hn
    show (Work.eachSection e f xs (w.section_ e x.1 (f x))).live.sectionAt sec = _
    obtain rfl | hm := List.mem_cons.mp h
    · rw [Work.eachSection_other fun b hb => hx (List.mem_map.mpr ⟨_, hb, rfl⟩), Work.sectionAt_section]
      simp
    · have hne : sec ≠ x.1 := fun hs => hx (hs ▸ List.mem_map_of_mem hm)
      rw [ih hn hm, Work.sectionAt_section_ne hne]

/-- What is handed on: each of them whose state changes. -/
theorem Work.mem_eachSection_todo (hn : (xs.map Prod.fst).Nodup) {c : Change} : c ∈ (w.eachSection e f xs).todo ↔
    c ∈ w.todo ∨ ∃ x ∈ xs, c = .sectionState x.1 ∧ ∃ y, w.live.sectionAt x.1 = some y ∧ (f x y).1.state ≠ y.state := by
  induction xs generalizing w with
  | nil => simp [Work.eachSection]
  | cons x xs ih =>
    obtain ⟨hx, hn⟩ := List.nodup_cons.mp hn
    have hhead : c ∈ (w.section_ e x.1 (f x)).todo ↔
        c ∈ w.todo ∨ (c = .sectionState x.1 ∧ ∃ y, w.live.sectionAt x.1 = some y ∧ (f x y).1.state ≠ y.state) := by
      cases hs : w.live.sectionAt x.1 with
      | none => simp [Work.section_absent hs]
      | some y =>
        rw [Work.section_found hs]
        by_cases hy : (f x y).1.state = y.state <;> simp [SectionRec.leaveClear_state, hy]
    have hrest : ∀ z ∈ xs, (w.section_ e x.1 (f x)).live.sectionAt z.1 = w.live.sectionAt z.1 := fun z hz =>
      Work.sectionAt_section_ne fun h => hx (h ▸ List.mem_map_of_mem hz)
    show c ∈ (Work.eachSection e f xs (w.section_ e x.1 (f x))).todo ↔ _
    rw [ih hn, hhead, or_assoc]
    simp only [List.mem_cons, or_and_right, exists_or, exists_eq_left]
    refine or_congr_right (or_congr_right ⟨fun ⟨z, hz, h⟩ => ⟨z, hz, ?_⟩, fun ⟨z, hz, h⟩ => ⟨z, hz, ?_⟩⟩)
    · rwa [hrest z hz] at h
    · rwa [hrest z hz]

/-- Nothing but sections, lines' flags, reports, what is sent and what is handed over changes. -/
theorem Work.eachSection_rest : w.eachSection e f xs = { w with
    live := { w.live with
      sections := (w.eachSection e f xs).live.sections, links := (w.eachSection e f xs).live.links
      reports := (w.eachSection e f xs).live.reports, sent := (w.eachSection e f xs).live.sent }
    todo := (w.eachSection e f xs).todo } := by
  induction xs generalizing w with
  | nil => rfl
  | cons x xs ih =>
    have hrest := ih (w := w.section_ e x.1 (f x))
    have hsection := Work.section_rest e x.1 (f x) w
    unfold Work.eachSection at hrest ⊢
    rw [List.foldl_cons]
    generalize w.section_ e x.1 (f x) = v at hrest hsection ⊢
    generalize List.foldl (fun v x => Work.section_ e x.1 (f x) v) v xs = u at hrest ⊢
    rw [hrest, hsection]

end

/-- A head that loses supervision takes HEAD_LOST to each section that it bounds, in a free order (R29). -/
theorem Work.loseHead_eq (e : Env) (h : Nat) (w : Work) : ∃ (xs : List (Nat × Bool)) (choices : List Nat),
    xs.Perm (e.tables.boundedBy h) ∧ w.loseHead e h =
      Work.eachSection e (fun _ => SectionRec.addCause .headLost) xs (w.on (fun l => { l with choices := choices })) :=
  Work.forEach_perm ..

/-! ## Expiries -/

section
variable {n : Nat} {s : State}

theorem exec_movementExpiry {r : PointRec} {target : Position} {moment : Nat} (hp : s.power = true)
    (hr : s.live.point n = some r) (hm : r.movement = some (target, moment)) (hc : moment ≤ s.clock) :
    exec (.movementExpiry n) s = .next (s.ending (s.work.failMovement s.env n r target)) :=
  (event_on _ _ hp).trans (congrArg _ (by
    simp only [movementExpired, hr, hm]
    exact State.expire_reached _ hc))

theorem exec_provingExpiry {r : SignalRec} {moment : Nat} (hp : s.power = true) (hr : s.live.signal n = some r)
    (hm : r.proving = some moment) (hc : moment ≤ s.clock) :
    exec (.provingExpiry n) s = .next (s.ending (s.work.failProving s.env n r)) :=
  (event_on _ _ hp).trans (congrArg _ (by
    simp only [provingExpired, hr, hm]
    exact State.expire_reached _ hc))

theorem exec_freshnessExpiry {r : ElementRec} {moment : Nat} (hp : s.power = true) (hr : Map.find n s.live.elements = some r)
    (hm : r.freshness = some moment) (hc : moment ≤ s.clock) :
    exec (.freshnessExpiry n) s = .next (s.ending (s.work.silence s.env n)) :=
  (event_on _ _ hp).trans (congrArg _ (by
    simp only [freshnessExpired, hr, Option.bind_some, hm]
    exact State.expire_reached _ hc))

end

section
variable {e : Env} {n : Nat} {w : Work}

theorem Work.silence_point {r : PointRec} (h : Map.find n w.live.elements = some (.point r)) :
    w.silence e n = w.handPoint e n r r.silent := by simp [Work.silence, h]

theorem Work.silence_signal {r : SignalRec} (h : Map.find n w.live.elements = some (.signal r)) :
    w.silence e n = w.handSignal e n r r.silent none := by simp [Work.silence, h]

theorem Work.silence_head {r : HeadRec} (h : Map.find n w.live.elements = some (.head r)) :
    w.silence e n = ((w.on (Live.setElement n (.head r.silent))).noticeDue n).loseHead e n := by simp [Work.silence, h]

end

theorem ClaimsFollow.to_shows {n : Nat} {a b : Required → Bool} {changed : Prop} {before after : Work}
    (h : ClaimsFollow n changed a before after) (hab : ∀ q, a q = b q) : ClaimsFollow n changed b before after :=
  funext hab ▸ h

/-- A step that has changed nothing but the reports and what is sent. -/
theorem Work.report_start (s : State) (cls : ReportClass) (code : ReportCode) (kind : SubjectKind) (number : Nat)
    (detail : Option Nat) : s.work.report s.env cls code kind number detail = { s.work with live := { s.live with
      reports := (s.live.offer s.env cls code kind number detail).reports
      sent := (s.live.offer s.env cls code kind number detail).sent } } :=
  congrArg (fun l => { s.work with live := l }) (Live.offer_rest ..)

/-- Settles O35: each expiry that has come changes one record and hands that change on; a head's hands on its sections too. -/
theorem elementTimersExpire : Obligations.ElementTimersExpire := by
  intro n s hp
  refine ⟨fun r target moment hr hm hc => ?_, fun r moment hr hm hc => ?_, fun h => ?_, fun h => ?_,
    fun r moment hr hm hc => ?_, fun r moment hr hm hc => ?_, fun r moment hr hm hc hn => ?_, fun h => ?_⟩
  · have hmoved : r.moved r.moveFails = true := by simp [PointRec.moved, PointRec.moveFails, hm]
    have hhand := Work.handPoint_rest s.env n r r.moveFails
      (s.work.report s.env .b .pointMoveFailed .element n (some target.code))
    have hreport := Work.report_start s .b .pointMoveFailed .element n (some target.code)
    refine ⟨_, exec_movementExpiry hp hr hm hc, Work.handPoint_element, ?_, Work.handPoint_pointChanged.mpr (.inr ⟨hmoved, rfl⟩),
      ?_, ?_, ?_, ?_, ?_, ?_, ?_, fun m hne => (Work.handPoint_ne hne).trans ?_⟩
    · exact congrArg (fun w => w.live.reports) hhand
    · exact Work.handPoint_places.trans (by rw [if_pos hmoved, hreport]; rfl)
    · exact Work.handPoint_scan.trans (by simp [PointRec.regained, PointRec.moveFails, State.work])
    · refine (Work.handPoint_follows (new := r.moveFails)).after_same ?_ ?_
      · rw [hreport]; rfl
      · rw [hreport]
    · refine (Work.handPoint_notices ..).trans ?_
      rw [Work.noticeDue_first n _ (by rw [hreport]; rfl), hreport]
      simp [PointRec.noticed_iff, PointRec.moveFails, State.work, @eq_comm _ none]
    · exact (congrArg (fun w => w.live.sections) hhand).trans (by rw [hreport])
    · exact (congrArg (fun w => w.live.slots) hhand).trans (by rw [hreport])
    · exact (congrArg (fun w => w.live.links) hhand).trans (by rw [hreport])
    · rw [hreport]
  · have hhand := Work.handSignal_rest s.env n r r.provingFails (some false)
      (s.work.report s.env .b .signalNotProven .element n (some r.commanded.code))
    have hreport := Work.report_start s .b .signalNotProven .element n (some r.commanded.code)
    refine ⟨_, exec_provingExpiry hp hr hm hc, Work.handSignal_element, ?_, ?_,
      (Work.mem_handSignal_todo (by simp)).mpr (.inr (.inl (by simp [provingHanded]))),
      (Work.mem_handSignal_todo (by simp)).mpr (.inr (.inl (by simp [provingHanded]))),
      (Work.mem_handSignal_todo (by simp)).trans ?_, ?_, ?_, ?_, ?_, ?_, ?_,
      fun m hne => (Work.handSignal_ne hne).trans ?_⟩
    · exact congrArg (fun w => w.live.reports) hhand
    · refine (Work.handSignal_notices ..).trans ?_
      rw [Work.noticeDue_first n _ (by rw [hreport]; rfl), hreport]
      simp [SignalRec.provingFails, State.work]
    · simp [provingHanded, SignalRec.provingFails, State.work]
    · exact (congrArg Work.places hhand).trans (by rw [hreport]; rfl)
    · exact Work.handSignal_scan.trans (by simp [SignalRec.provingFails, State.work])
    · refine ClaimsFollow.after_same (a := s.work.report s.env .b .signalNotProven .element n (some r.commanded.code))
        ((Work.handSignal_follows (new := r.provingFails)).to_shows fun q => ?_) ?_ ?_
      · simp [SignalRec.showing, SignalRec.provingFails]
      · rw [hreport]; rfl
      · rw [hreport]
    · exact (congrArg (fun w => w.live.sections) hhand).trans (by rw [hreport])
    · exact (congrArg (fun w => w.live.slots) hhand).trans (by rw [hreport])
    · exact (congrArg (fun w => w.live.links) hhand).trans (by rw [hreport])
    · rw [hreport]
  · refine (event_on _ _ hp).trans (congrArg _ ?_)
    unfold movementExpired
    split
    · rfl
    · next r hr =>
      split
      · rfl
      · next target moment hm => exact State.expire_early _ fun m hmo => by cases hmo; exact h r target _ hr hm
  · refine (event_on _ _ hp).trans (congrArg _ ?_)
    unfold provingExpired
    split
    · rfl
    · next r hr => exact State.expire_early _ fun m hmo => h r m hr hmo
  · have hexec := exec_freshnessExpiry hp hr hm hc
    rw [Work.silence_point hr] at hexec
    have hmoved : r.moved r.silent = true ↔ r.supervised = true ∨ r.evaluated ≠ none := by
      rw [PointRec.moved_iff (old := r) (new := r.silent) (.inl rfl)]
      simp [PointRec.silent, @eq_comm _ none]
    have hhand := Work.handPoint_rest s.env n r r.silent s.work
    refine ⟨_, hexec, Work.handPoint_element, ?_, ?_, ?_, Work.handPoint_follows (new := r.silent), ?_, ?_, ?_⟩
    · rw [Work.handPoint_pointChanged, hmoved]
      simp [State.work]
    · rw [Work.handPoint_places]
      simp only [hmoved]
      rfl
    · exact Work.handPoint_scan.trans (by simp [PointRec.regained, PointRec.silent, State.work])
    · rw [Work.handPoint_notices, Work.noticeDue_first n s.work rfl]
      simp [PointRec.noticed_iff, PointRec.silent, State.work, @eq_comm _ none]
    · rw [hhand]
      rfl
    · rw [hhand]
      rfl
  · have hexec := exec_freshnessExpiry hp hr hm hc
    rw [Work.silence_signal hr] at hexec
    have hhand := Work.handSignal_rest s.env n r r.silent none s.work
    refine ⟨_, hexec, Work.handSignal_element, (Work.mem_handSignal_todo (by simp)).trans ?_,
      (Work.mem_handSignal_todo (by simp)).trans ?_, ?_, ?_, ?_, ?_, ?_, ?_⟩
    · simp [provingHanded, SignalRec.silent, State.work]
    · simp [provingHanded, SignalRec.silent, State.work]
    · rw [hhand]
      rfl
    · exact Work.handSignal_scan.trans (by simp [SignalRec.silent, State.work])
    · exact (Work.handSignal_follows (new := r.silent)).to_shows fun q => by simp [SignalRec.showing, SignalRec.silent]
    · rw [Work.handSignal_notices, Work.noticeDue_first n s.work rfl]
      simp [SignalRec.silent, State.work]
    · rw [hhand]
      rfl
    · rw [hhand]
      rfl
  · have hexec := exec_freshnessExpiry hp hr hm hc
    rw [Work.silence_head hr] at hexec
    obtain ⟨xs, choices, hperm, hlost⟩ := Work.loseHead_eq s.env n
      ((s.work.on (Live.setElement n (.head r.silent))).noticeDue n)
    have hxs : (xs.map Prod.fst).Nodup := (hperm.map _).nodup_iff.mpr hn
    have hrest := Work.eachSection_rest (e := s.env) (f := fun _ => SectionRec.addCause .headLost) (xs := xs)
      (w := ((s.work.on (Live.setElement n (.head r.silent))).noticeDue n).on (fun l => { l with choices := choices }))
    rw [hlost] at hexec
    refine ⟨_, hexec, ?_, fun _ => ?_, fun sec => ?_, fun sec inA y hone hy => ?_, fun sec => ?_⟩
    · rw [hrest]
      exact Live.head_some.mpr (Map.find_put_self ..)
    · rw [hrest]
      exact Work.noticeDue_first n s.work rfl
    · rw [Work.mem_eachSection_todo hxs]
      constructor
      · rintro (h | ⟨x, hx, hc, y, hy, hs⟩)
        · exact absurd h List.not_mem_nil
        · obtain rfl := Change.sectionState.inj hc
          exact ⟨⟨x.2, hperm.mem_iff.mp hx⟩, y, hy, Ne.symm hs⟩
      · rintro ⟨⟨inA, h⟩, y, hy, hs⟩
        exact .inr ⟨(sec, inA), hperm.mem_iff.mpr h, rfl, y, hy, Ne.symm hs⟩
    · obtain rfl : xs = [(sec, inA)] := List.perm_singleton.mp (hone ▸ hperm)
      unfold Work.eachSection
      rw [List.foldl_cons, List.foldl_nil, Work.section_found hy]
      show (Live.reportCause s.env sec (y.addCause .headLost).2 _).reports = _
      rw [SectionRec.addCause_reported]
      split
      · rfl
      · show (Live.offer s.env .b .sectionDisturbed .trackSection sec (some Cause.headLost.code) _).reports = _
        refine Live.offer_reports_congr ?_ ..
        rfl
    · by_cases h : ∃ inA, (sec, inA) ∈ s.store.active.boundedBy n
      · obtain ⟨inA, hin⟩ := h
        rw [Work.eachSection_self hxs (hperm.mem_iff.mpr hin)]
        simp only [show (∃ inA, (sec, inA) ∈ s.store.active.boundedBy n) from ⟨inA, hin⟩, if_true]
        rfl
      · rw [Work.eachSection_other fun inA hin => h ⟨inA, hperm.mem_iff.mp hin⟩]
        simp only [if_neg h]
        exact (Option.map_id' ..).symm
  · refine (event_on _ _ hp).trans (congrArg _ (State.expire_early _ fun m hmo => ?_))
    obtain ⟨y, hy, hf⟩ := Option.bind_eq_some_iff.mp hmo
    exact h y m hy hf

end Sys2Proof.Machine
end

section
/-! PROOFS. A head's counters (Chapter 2): the sections that it bounds are counted once, the pair is held for the link on which it
is exported and sent there, and the entries of a COUNTS are taken one after another (R20 to R26, R35, R36, R138, R139). -/

namespace Sys2Proof.Machine

/-! ## What is sent stays sent -/

theorem Live.offer_sent (e : Env) (cls : ReportClass) (code : ReportCode) (kind : SubjectKind) (number : Nat)
    (detail : Option Nat) (l : Live) : l.sent <+: (l.offer e cls code kind number detail).sent := by
  unfold Live.offer Live.noticeReports
  dsimp only
  split
  · split
    · exact List.prefix_append ..
    · exact List.prefix_refl _
  · exact List.prefix_refl _

/-- No single change takes back what is sent. -/
theorem LiveStep.sent {e : Env} {σ : Scope} {a b : Live} (s : LiveStep e σ a b) : a.sent <+: b.sent := by
  cases s with
  | send x => exact List.prefix_append ..
  | offer => exact Live.offer_sent ..
  | orderPoint p q r =>
    rw [Live.takePointOrder, Live.placeOrder_rest]
    exact List.prefix_refl _
  | orderSignal g c r =>
    rw [Live.takeSignalOrder, Live.placeOrder_rest]
    exact List.prefix_refl _
  | admitted =>
    rw [Live.admitPending_rest]
  | taken route r fleet n choices =>
    rw [Live.taking_rest e route r fleet n choices a]
    exact List.prefix_refl _
  | _ => exact List.prefix_refl _

theorem Evolves.sent {e : Env} {σ : Scope} {a b : Live} (h : Evolves e σ a b) (hσ : ¬ σ.founded) : a.sent <+: b.sent :=
  h.keeps (P := fun l => a.sent <+: l.sent) (fun _ _ s hx => hx.trans s.sent) (fun hf => absurd hf hσ) (List.prefix_refl _)

/-- The hand-overs of a step, and its measurements. -/
def Scope.any : Scope := { founded := False, takes := True, measures := True, rests := fun _ => True }

/-! ## The agreed fields of the links -/

theorem sameAgreed.trans {a b c : Map LinkRec} (h : sameAgreed a b) (k : sameAgreed b c) : sameAgreed a c := fun n =>
  (k n).trans (h n)

theorem Work.section_sameAgreed (e : Env) (n : Nat) (f : SectionRec → SectionRec × Option Cause) (w : Work) :
    sameAgreed w.live.links (w.section_ e n f).live.links := by
  cases h : w.live.sectionAt n with
  | none => rw [Work.section_absent h]; exact sameAgreed_of_eq rfl
  | some old =>
    rw [Work.section_found h]
    dsimp only
    split
    · exact sameAgreed_of_eq rfl
    · exact Live.formLineFlags_sameAgreed _ (w.live.setSection n ((f old).1.leaveClear old.state))

theorem Work.eachSection_sameAgreed (e : Env) (f : Nat × Bool → SectionRec → SectionRec × Option Cause)
    (xs : List (Nat × Bool)) (w : Work) : sameAgreed w.live.links (w.eachSection e f xs).live.links := by
  induction xs generalizing w with
  | nil => exact sameAgreed_of_eq rfl
  | cons x xs ih => exact sameAgreed.trans (Work.section_sameAgreed _ _ _ _) (ih _)

/-! ## A head's counters against its references -/

/-- What a head's counters do to a section that it bounds: a step fault, or the net change (R22, R24). -/
def headChange (limit dA dB : Nat) (x : Nat × Bool) : SectionRec → SectionRec × Option Cause :=
  if limit < dA ∨ limit < dB then SectionRec.addCause .step else SectionRec.applyNet (netChange x.2 dA dB)

theorem Work.evaluate_eq (e : Env) (h : Nat) (cA cB nA nB : Octet) (w : Work) : ∃ (xs : List (Nat × Bool)) (choices : List Nat),
    xs.Perm (e.tables.boundedBy h) ∧ w.evaluate e h (some (cA, cB)) nA nB =
      Work.eachSection e (headChange (e.tables.stepLimit h) (delta nA cA) (delta nB cB)) xs
        (w.on (fun l => { l with choices := choices })) := by
  unfold Work.evaluate Work.eachSection headChange
  dsimp only
  by_cases hfault : e.tables.stepLimit h < delta nA cA ∨ e.tables.stepLimit h < delta nB cB
  · simp only [if_pos hfault]
    rw [if_pos (by simpa using hfault)]
    exact Work.forEach_perm ..
  · simp only [if_neg hfault]
    rw [if_neg (by simpa using hfault)]
    exact Work.forEach_perm ..

/-- A section as a head's counters leave it. -/
theorem headChange_counted (limit dA dB sec : Nat) (inA : Bool) (y : SectionRec) :
    (((headChange limit dA dB (sec, inA)) y).1.leaveClear y.state).counted =
      if limit < dA ∨ limit < dB then ((y.addCause .step).1.leaveClear y.state).counted
      else ((y.applyNet (netChange inA dA dB)).1.leaveClear y.state).counted := by
  unfold headChange
  split <;> rfl

/-! ## The pair held for a link -/

theorem Tables.passed_agreed (t : Tables) (n : Nat) (nA nB : Octet) (link : Nat) (k : LinkRec) :
    (t.passed n nA nB link k).agreed = t.passed n nA nB link k.agreed := by
  unfold Tables.passed LinkRec.agreed
  dsimp only
  split <;> rfl

section
variable {e : Env} {h link : Nat} {nA nB : Octet} {l : Live}

/-- Passing a head's counters on touches the link on which it is exported, and what is sent. -/
theorem Live.passCounters_rest : l.passCounters e h nA nB = { l with
    links := (l.passCounters e h nA nB).links, sent := (l.passCounters e h nA nB).sent } := by
  unfold Live.passCounters
  split
  · rfl
  · split
    · rfl
    · split <;> rfl

theorem Live.passCounters_links :
    Map.find link (l.passCounters e h nA nB).links = (Map.find link l.links).map (e.tables.passed h nA nB link) := by
  unfold Live.passCounters Tables.passed
  cases ht : e.tables.exportTarget h with
  | none => simp
  | some x =>
    obtain ⟨target, number⟩ := x
    dsimp only
    by_cases hlink : link = target
    · subst hlink
      cases hk : Map.find link l.links with
      | none => simp [hk]
      | some k =>
        by_cases hp : Map.find h k.exported = some (nA, nB)
        · simp [hk, hp]
        · simp [hp, Live.sendCounts, Live.send]
    · have hpassed : (some (target, number)).any (fun x : Nat × Nat => x.1 == link) = false := by simp [Ne.symm hlink]
      simp only [hpassed, Bool.false_and, Bool.false_eq_true, if_false, Option.map_id']
      split
      · rfl
      · split
        · rfl
        · exact Map.find_put_ne hlink ..

/-- A new pair is sent in a COUNTS that carries it (R138). -/
theorem Live.passCounters_sent {number : Nat} {k : LinkRec} {r : HeadRec} (ht : e.tables.exportTarget h = some (link, number))
    (hx : Map.find number (e.tables.exportedHeads link) = some h) (hk : Map.find link l.links = some k)
    (hnew : Map.find h k.exported ≠ some (nA, nB)) (hr : l.head h = some r) (hsup : r.supervised = true) :
    ∃ entries, (l.passCounters e h nA nB).sent = l.sent ++ [.counts link entries] ∧
      { number := number, nA := nA, nB := nB } ∈ entries := by
  let m := { l with links := Map.put link { k with exported := Map.put h (nA, nB) k.exported } l.links }
  have hpass : l.passCounters e h nA nB = m.sendCounts e.tables link := by
    simp only [Live.passCounters, ht, hk, if_neg hnew]
    rfl
  have hheld : ((Map.find link m.links).bind (fun k => Map.find h k.exported)) = some (nA, nB) := by simp [m]
  refine ⟨m.countsOut e.tables link, by rw [hpass]; rfl, ?_⟩
  refine List.mem_filterMap.mpr ⟨(number, h), Map.mem_of_find hx, ?_⟩
  have hhead : (m.head h).any (fun r => r.supervised) = true := by
    rw [show m.head h = some r from hr]
    exact hsup
  rw [if_pos hhead, hheld]
  rfl

end

/-! ## A head's status -/

section
variable {e : Env} {n : Nat} {h : HeadRec} {nA nB : Octet} {w : Work}

/-- The head's record as a status leaves it (R20, R45). -/
def HeadRec.heard (e : Env) (n : Nat) (nA nB : Octet) (h : HeadRec) : HeadRec :=
  { h with supervised := true, freshness := some (e.clock + e.tables.supervision n), references := some (nA, nB) }

/-- A head's status, before the sections that it bounds are evaluated: its record, and its notice. -/
def Work.headHeard (e : Env) (n : Nat) (h : HeadRec) (nA nB : Octet) (w : Work) : Work :=
  let w := w.on (Live.setElement n (.head (h.heard e n nA nB)))
  if h.supervised then w else w.noticeDue n

theorem Work.headHeard_rest : w.headHeard e n h nA nB = { w with
    live := w.live.setElement n (.head (h.heard e n nA nB))
    notices := if h.supervised then w.notices else (w.noticeDue n).notices } := by
  unfold Work.headHeard
  cases h.supervised <;> rfl

theorem Work.headStatus_eq : w.headStatus e n h nA nB =
    ((w.headHeard e n h nA nB).evaluate e n h.references nA nB).on (Live.passCounters e n nA nB) := rfl

/-- Evaluating a head's counters touches the sections that it bounds, and what their changes report, send and hand on. -/
theorem Work.evaluate_rest (e : Env) (n : Nat) (references : Option (Octet × Octet)) (nA nB : Octet) (w : Work) : ∃ choices,
    w.evaluate e n references nA nB = { w with
      live := { w.live with
        sections := (w.evaluate e n references nA nB).live.sections, links := (w.evaluate e n references nA nB).live.links
        reports := (w.evaluate e n references nA nB).live.reports, sent := (w.evaluate e n references nA nB).live.sent
        choices := choices }
      todo := (w.evaluate e n references nA nB).todo } ∧
    sameAgreed w.live.links (w.evaluate e n references nA nB).live.links := by
  cases references with
  | none => exact ⟨w.live.choices, rfl, sameAgreed_of_eq rfl⟩
  | some c =>
    obtain ⟨cA, cB⟩ := c
    obtain ⟨xs, choices, -, hw⟩ := Work.evaluate_eq e n cA cB nA nB w
    rw [hw]
    exact ⟨choices, Work.eachSection_rest,
      Work.eachSection_sameAgreed _ _ _ (w.on (fun l => { l with choices := choices }))⟩

theorem Work.headStatus_elements :
    (w.headStatus e n h nA nB).live.elements = Map.put n (.head (h.heard e n nA nB)) w.live.elements := by
  obtain ⟨choices, hrest, -⟩ := Work.evaluate_rest e n h.references nA nB (w.headHeard e n h nA nB)
  rw [Work.headStatus_eq, Work.on_live, Live.passCounters_rest, hrest, Work.headHeard_rest]
  rfl

theorem Work.headStatus_notices :
    (w.headStatus e n h nA nB).notices = if h.supervised then w.notices else (w.noticeDue n).notices := by
  obtain ⟨choices, hrest, -⟩ := Work.evaluate_rest e n h.references nA nB (w.headHeard e n h nA nB)
  rw [Work.headStatus_eq, Work.on_notices, hrest, Work.headHeard_rest]

/-- The links as a head's counters leave them: the pair is held where the head is exported (R36). -/
theorem Work.headStatus_agreed (link : Nat) :
    (Map.find link (w.headStatus e n h nA nB).live.links).map LinkRec.agreed =
      (Map.find link w.live.links).map (fun k => (e.tables.passed n nA nB link k).agreed) := by
  obtain ⟨-, -, hagreed⟩ := Work.evaluate_rest e n h.references nA nB (w.headHeard e n h nA nB)
  have hlink := congrArg (Option.map (e.tables.passed n nA nB link)) (hagreed link)
  have hstart : (w.headHeard e n h nA nB).live.links = w.live.links := by rw [Work.headHeard_rest]; rfl
  rw [hstart, Option.map_map, Option.map_map] at hlink
  rw [Work.headStatus_eq, Work.on_live, Live.passCounters_links, Option.map_map]
  simp only [Function.comp_def, Tables.passed_agreed] at hlink ⊢
  exact hlink

/-- The sections as a head's counters leave them (R20 to R26). -/
theorem Work.headStatus_sections (hn : ((e.tables.boundedBy n).map Prod.fst).Nodup) :
    (h.references = none → ∀ sec, (w.headStatus e n h nA nB).live.sectionAt sec = w.live.sectionAt sec) ∧
    ∀ cA cB, h.references = some (cA, cB) →
      (∀ sec inA, (sec, inA) ∈ e.tables.boundedBy n → (w.headStatus e n h nA nB).live.sectionAt sec =
        (w.live.sectionAt sec).map (fun y =>
          (headChange (e.tables.stepLimit n) (delta nA cA) (delta nB cB) (sec, inA) y).1.leaveClear y.state)) ∧
      ∀ sec, (∀ inA, (sec, inA) ∉ e.tables.boundedBy n) →
        (w.headStatus e n h nA nB).live.sectionAt sec = w.live.sectionAt sec := by
  have hstart (sec : Nat) : (w.headHeard e n h nA nB).live.sectionAt sec = w.live.sectionAt sec := by
    rw [Work.headHeard_rest]
    rfl
  have hpass (sec : Nat) : (w.headStatus e n h nA nB).live.sectionAt sec =
      ((w.headHeard e n h nA nB).evaluate e n h.references nA nB).live.sectionAt sec := by
    rw [Work.headStatus_eq, Work.on_live, Live.passCounters_rest]
    rfl
  refine ⟨fun hnone sec => ?_, fun cA cB hsome => ?_⟩
  · rw [hpass, hnone]
    exact hstart sec
  · obtain ⟨xs, choices, hperm, heval⟩ := Work.evaluate_eq e n cA cB nA nB (w.headHeard e n h nA nB)
    have hxs : (xs.map Prod.fst).Nodup := (hperm.map _).nodup_iff.mpr hn
    refine ⟨fun sec inA hin => ?_, fun sec hin => ?_⟩
    · rw [hpass, hsome, heval, Work.eachSection_self hxs (hperm.mem_iff.mpr hin), ← hstart]
      rfl
    · rw [hpass, hsome, heval, Work.eachSection_other fun inA hx => hin inA (hperm.mem_iff.mp hx), ← hstart]
      rfl

end

/-- A head's status counts, and what is handed on after it does not (R20 to R26, R28). -/
theorem Work.headStatus_counted {s : State} {n : Nat} {h : HeadRec} {nA nB : Octet} {w : Work} {l : Live}
    (hn : ((s.store.active.boundedBy n).map Prod.fst).Nodup) (hl : (w.headStatus s.env n h nA nB).live.Unmeasured l) :
    HeadCounted { s with live := w.live } { s with live := l } n h nA nB := by
  obtain ⟨hnone, hsome⟩ := Work.headStatus_sections (e := s.env) (n := n) (h := h) (nA := nA) (nB := nB) (w := w) hn
  refine ⟨?_, fun hr sec => ?_, fun cA cB hr => ?_⟩
  · refine (hl.reported n).trans ?_
    rw [Work.headStatus_elements, Map.find_put_self]
    rfl
  · refine (hl.counts sec).trans ?_
    rw [hnone hr]
    rfl
  · obtain ⟨hin, hout⟩ := hsome cA cB hr
    refine ⟨fun sec inA hb => (hl.counts sec).trans ?_, fun sec hb => (hl.counts sec).trans ?_⟩
    · rw [hin sec inA hb, Option.map_map]
      exact congrArg (fun f => Option.map f _) (funext fun y => headChange_counted _ _ _ sec inA y)
    · rw [hout sec hb]
      rfl

/-- A new pair is sent by the head's status (R36, R138). -/
theorem Work.headStatus_sent {e : Env} {n link number : Nat} {h : HeadRec} {nA nB : Octet} {w : Work} {k : LinkRec}
    (ht : e.tables.exportTarget n = some (link, number)) (hx : Map.find number (e.tables.exportedHeads link) = some n)
    (hk : Map.find link w.live.links = some k) (hnew : Map.find n k.exported ≠ some (nA, nB)) :
    ∃ a entries, (w.headStatus e n h nA nB).live.sent = w.live.sent ++ a ++ [.counts link entries] ∧
      { number := number, nA := nA, nB := nB } ∈ entries := by
  let u := (w.headHeard e n h nA nB).evaluate e n h.references nA nB
  have hstart : (w.headHeard e n h nA nB).live.links = w.live.links ∧ (w.headHeard e n h nA nB).live.sent = w.live.sent := by
    rw [Work.headHeard_rest]
    exact ⟨rfl, rfl⟩
  obtain ⟨choices, hrest, hagreed⟩ := Work.evaluate_rest e n h.references nA nB (w.headHeard e n h nA nB)
  have hhead : u.live.head n = some (h.heard e n nA nB) := by
    show ((w.headHeard e n h nA nB).evaluate e n h.references nA nB).live.head n = _
    rw [hrest, Work.headHeard_rest]
    exact Live.head_some.mpr (Map.find_put_self ..)
  obtain ⟨j, hj, hexported⟩ : ∃ j, Map.find link u.live.links = some j ∧ j.exported = k.exported := by
    have hlink := hagreed link
    rw [hstart.1, hk] at hlink
    obtain ⟨j, hj, hjk⟩ := Option.map_eq_some_iff.mp hlink
    exact ⟨j, hj, show j.agreed.exported = k.agreed.exported from congrArg LinkRec.exported hjk⟩
  obtain ⟨a, ha⟩ := Evolves.sent (Work.evaluate_evolves (σ := Scope.any) (e := e) trivial n h.references nA nB
    (w.headHeard e n h nA nB)) id
  obtain ⟨entries, hsent, hmem⟩ := Live.passCounters_sent (l := u.live) ht hx hj (by rwa [hexported]) hhead rfl
  refine ⟨a, entries, ?_, hmem⟩
  rw [Work.headStatus_eq, Work.on_live, hsent, ← hstart.2, ha]

/-! ## The entries of a COUNTS -/

section
variable {e : Env} {port : Nat} {x : CountsEntry} {w : Work}

theorem Work.deliver_found {n : Nat} {h : HeadRec} (hx : Map.find x.number (e.tables.remoteHeads port) = some n)
    (hr : Map.find n w.live.elements = some (.head h)) :
    w.deliver e port x = (w.headStatus e n h x.nA x.nB).event e := by
  simp [Work.deliver, hx, Work.countsStatus, hr]

theorem Work.deliver_unknown (hx : Map.find x.number (e.tables.remoteHeads port) = none) :
    w.deliver e port x = w.unknownHead e port x.number := by
  simp [Work.deliver, hx]

end

/-- An event counts nothing. -/
theorem Work.event_unmeasured (e : Env) (w : Work) : w.live.Unmeasured (w.event e).live :=
  Evolves.unmeasured (Work.event_evolves w fun _ => trivial)

theorem Work.finish_unmeasured (e : Env) (w : Work) : w.live.Unmeasured (w.finish e) :=
  Evolves.unmeasured (Work.finish_evolves w fun _ => trivial)

theorem Work.event_sent (e : Env) (w : Work) : w.live.sent <+: (w.event e).live.sent :=
  Evolves.sent (σ := Scope.any) (Work.event_evolves w fun _ => trivial) id

theorem Work.finish_sent (e : Env) (w : Work) : w.live.sent <+: (w.finish e).sent :=
  Evolves.sent (σ := Scope.any) (Work.finish_evolves w fun _ => trivial) id

theorem LinkRec.hear_exported (moment : Nat) (k : LinkRec) : (k.hear moment).exported = k.exported := by
  unfold LinkRec.hear
  split <;> rfl

/-- A head's counters, from the moment they are heard to the end of the step: counted, sent and held (R20 to R26, R36, R138). -/
theorem Work.headStatus_ends {s : State} {n : Nat} {h : HeadRec} {nA nB : Octet} {w : Work} {l : Live}
    (hn : ((s.store.active.boundedBy n).map Prod.fst).Nodup) (hl : (w.headStatus s.env n h nA nB).live.Unmeasured l)
    (hsent : (w.headStatus s.env n h nA nB).live.sent <+: l.sent) :
    HeadCounted { s with live := w.live } { s with live := l } n h nA nB ∧
    CountersSent { s with live := w.live } { s with live := l } n nA nB ∧
    ∀ link, (Map.find link l.links).map LinkRec.agreed =
      (Map.find link w.live.links).map (fun k => (s.store.active.passed n nA nB link k).agreed) := by
  refine ⟨Work.headStatus_counted hn hl, fun link number k ht hx hk hnew => ?_, fun link =>
    (hl.agreed link).trans (Work.headStatus_agreed link)⟩
  obtain ⟨a, entries, hs, hmem⟩ := Work.headStatus_sent (e := s.env) (h := h) ht hx hk hnew
  obtain ⟨b, hb⟩ := hsent
  refine ⟨a, entries, b, ?_, hmem⟩
  show l.sent = _
  rw [← hb, hs]
  simp

/-- Settles O30, from what a head's status counts, sends and holds, and from what its hand-overs leave of that. -/
theorem headStatusCounts : Obligations.HeadStatusCounts := by
  refine ⟨fun port entries k s hp hk => ⟨?_, ?_, fun x w => ⟨fun n h hx hr hn => ?_, fun n h hx hr => ?_, fun hx y hy =>
    ⟨fun hseen => ?_, fun hseen => ?_⟩⟩⟩, fun n h nA nB s hp hm hr hn => ⟨fun address haddr => ?_, fun port y number hy hx => ?_⟩⟩
  · refine (event_on _ _ hp).trans (congrArg _ ((State.heard_found hk _).trans ?_))
    exact State.ending_idle _ _ rfl rfl rfl rfl
  · exact (event_on _ _ hp).trans (congrArg _ (State.heard_found hk _))
  · rw [Work.deliver_found (e := s.env) hx hr]
    exact Work.headStatus_counted hn (Work.event_unmeasured ..)
  · rw [Work.deliver_found (e := s.env) hx hr, Work.event_notices, Work.headStatus_notices, Work.noticeDue_notices]
    by_cases hs : h.supervised = true <;> simp [hs]
  · rw [Work.deliver_unknown (e := s.env) hx, Work.unknownHead_found hy, if_pos hseen]
  · rw [Work.deliver_unknown (e := s.env) hx, Work.unknownHead_found hy, if_neg hseen]
    refine ⟨rfl, ?_, ?_, ?_, ?_⟩
    · simp [hy]
    · refine Live.offer_reports_congr ?_ ..
      rfl
    · simp
    · simp
  · refine ⟨_, _, (exec_status hp hm (content := .counts nA nB) rfl haddr), rfl, ?_⟩
    have hstatus : s.work.elementStatus s.env n (.counts nA nB) = s.work.headStatus s.env n h nA nB := by
      simp [Work.elementStatus, Work.countsStatus, hr]
    rw [hstatus]
    obtain ⟨hcounted, hsent, hagreed⟩ := Work.headStatus_ends (w := s.work) (h := h) (nA := nA) (nB := nB) hn
      (Work.finish_unmeasured s.env _) (Work.finish_sent s.env _)
    refine ⟨?_, hcounted, hsent, fun link k hk => (hagreed link).trans ?_⟩
    · rw [Work.headStatus_notices, Work.noticeDue_first n s.work rfl]
      rfl
    · rw [State.work_live, hk]
      rfl
  · let v := s.work.updateLink port (LinkRec.hear (s.clock + s.store.active.linkSupervision port))
    have hdeliver : v.deliver s.env port { number := number, nA := nA, nB := nB } =
        (v.headStatus s.env n h nA nB).event s.env := Work.deliver_found hx hr
    have hv (link : Nat) (k : LinkRec) (hk : Map.find link s.live.links = some k) : Map.find link v.live.links =
        some (if link = port then k.hear (s.clock + s.store.active.linkSupervision port) else k) := by
      by_cases hl : link = port
      · subst hl; simp [v, hk]
      · simp [v, hl, hk, Map.find_update_ne hl]
    have hunmeasured := (Work.event_unmeasured s.env (v.headStatus s.env n h nA nB)).trans
      (Work.finish_unmeasured s.env ((v.headStatus s.env n h nA nB).event s.env))
    have hkept := (Work.event_sent s.env (v.headStatus s.env n h nA nB)).trans
      (Work.finish_sent s.env ((v.headStatus s.env n h nA nB).event s.env))
    obtain ⟨hcounted, hsent, hagreed⟩ := Work.headStatus_ends (w := v) (h := h) (nA := nA) (nB := nB) hn hunmeasured hkept
    refine ⟨_, (event_on _ _ hp).trans (congrArg _ ((State.heard_found hy _).trans (congrArg (s.ending ·) hdeliver))),
      hcounted, fun link num k ht hnum hk hnew => ?_, fun link k hk => (hagreed link).trans ?_⟩
    · refine hsent link num _ ht hnum (hv link k hk) ?_
      split
      · rwa [LinkRec.hear_exported]
      · exact hnew
    · rw [hv link k hk]
      rfl

end Sys2Proof.Machine
end

section
/-! PROOFS. The boundary ports (Chapter 8): our PRESENCE and COUNTS, a link that leaves UP, and the DIRECTION telegrams. -/

namespace Sys2Proof.Machine

/-! ## Our presence -/

/-- The PRESENCE of a link as it is sent: it reads the sections and the elements, and not what has been sent. -/
theorem State.presents_live (links : Map LinkRec) (s : State) : (s.presents links).live =
    { s.live with sent := s.live.sent ++ links.flatMap s.presenceOn } := by
  have hfold : ∀ (ks : Map LinkRec) (l : Live), (∃ sent, l = { s.live with sent := sent }) →
      ks.foldl (Live.sendPresence s.store.active s.nv.identity s.store.version) l =
        { l with sent := l.sent ++ ks.flatMap s.presenceOn } := by
    intro ks
    induction ks with
    | nil => simp
    | cons k ks ih =>
      rintro l ⟨sent, rfl⟩
      refine (ih _ ⟨sent ++ s.presenceOn k, ?_⟩).trans ?_
      · exact congrArg (fun x => { s.live with sent := x }) (List.append_assoc sent [_] [_])
      · refine congrArg (fun x => { s.live with sent := x }) ?_
        rw [List.flatMap_cons, ← List.append_assoc]
        exact congrArg (· ++ _) (List.append_assoc sent [_] [_])
  exact hfold links s.live ⟨_, rfl⟩

/-- The heads that a COUNTS of ours lists (R138). -/
theorem Live.mem_countsOut {t : Tables} {link : Nat} {l : Live} {x : CountsEntry} : x ∈ l.countsOut t link ↔
    ∃ n, (x.number, n) ∈ t.exportedHeads link ∧ (∃ h, l.head n = some h ∧ h.supervised = true) ∧
      ∃ k, Map.find link l.links = some k ∧ Map.find n k.exported = some (x.nA, x.nB) := by
  obtain ⟨number, nA, nB⟩ := x
  simp only [Live.countsOut, List.mem_filterMap, Prod.exists]
  constructor
  · rintro ⟨m, n, hmem, hx⟩
    split at hx
    · next hsup =>
      obtain ⟨c, hc, hx⟩ := Option.map_eq_some_iff.mp hx
      obtain ⟨k, hk, hc⟩ := Option.bind_eq_some_iff.mp hc
      cases hx
      exact ⟨n, hmem, by simpa [Option.any_eq_true] using hsup, k, hk, hc⟩
    · cases hx
  · rintro ⟨n, hmem, hsup, k, hk, hc⟩
    refine ⟨number, n, hmem, ?_⟩
    rw [if_pos (by simpa [Option.any_eq_true] using hsup), hk]
    simp [hc]

theorem Live.countsOut_rises (t : Tables) (link : Nat) (l : Live) :
    (l.countsOut t link).Pairwise (fun x y => x.number < y.number) := by
  refine List.pairwise_filterMap.mpr ((List.pairwise_map.mp (t.exportedHeads_spec link).1).imp fun {a b} hab x hx y hy => ?_)
  split at hx
  · split at hy
    · obtain ⟨_, -, rfl⟩ := Option.map_eq_some_iff.mp hx
      obtain ⟨_, -, rfl⟩ := Option.map_eq_some_iff.mp hy
      exact hab
    · cases hy
  · cases hx

/-! ## A link leaves UP -/

/-- A line once its link has left UP: no ask is outstanding, and no late number is held (R133). -/
def LineRec.dropped (y : LineRec) : LineRec := { y with ask := none, late := none }

theorem Map.update_update {α : Type} (k : Nat) (f g : α → α) (m : Map α) :
    Map.update k g (Map.update k f m) = Map.update k (fun a => g (f a)) m := by
  simp only [Map.update, List.map_map]
  refine List.map_congr_left fun x _ => ?_
  by_cases h : x.1 = k <;> simp [h]

theorem Map.update_id {α : Type} (k : Nat) (m : Map α) : Map.update k (fun a => a) m = m := by
  unfold Map.update
  refine (List.map_congr_left fun x _ => ?_).trans (List.map_id m)
  split <;> rfl

/-- Changing the record of each id, with a change that repeats itself, is changing every record. -/
theorem Map.foldl_update {α : Type} {f : α → α} (hf : ∀ a, f (f a) = f a) (m : Map α) :
    m.foldl (fun n x => Map.update x.1 f n) m = Map.each f m := by
  have hfold : ∀ xs n : Map α, xs.foldl (fun n x => Map.update x.1 f n) n =
      n.map (fun y => if y.1 ∈ Map.ids xs then (y.1, f y.2) else y) := by
    intro xs
    induction xs with
    | nil => simp [Map.ids]
    | cons x xs ih =>
      intro n
      rw [List.foldl_cons, ih, Map.update, List.map_map]
      refine List.map_congr_left fun y _ => ?_
      by_cases hy : y.1 = x.1 <;> by_cases hx : x.1 ∈ Map.ids xs <;> by_cases hz : y.1 ∈ Map.ids xs <;>
        simp_all [Map.ids]
  rw [hfold]
  exact List.map_congr_left fun y hy => if_pos (List.mem_map_of_mem hy)

theorem Work.dropLine_eq (link : Nat) (w : Work) (x : Nat × LineRec) : Work.dropLine link w x = { w with
    live := { w.live with
      links := Map.update link (fun k => { k with lines := Map.update x.1 LineRec.dropped k.lines }) w.live.links }
    todo := w.todo ++ if x.2.ask.isSome then [.askFailed link x.1 3] else [] } := by
  unfold Work.dropLine
  dsimp only
  cases x.2.ask.isSome
  · simp only [Bool.false_eq_true, if_false, List.append_nil]
    rfl
  · rfl

/-- The asks of the lines fail in the order of the line records, and their late numbers go. -/
theorem Work.dropLines_eq (link : Nat) (xs : Map LineRec) (w : Work) : xs.foldl (Work.dropLine link) w = { w with
    live := { w.live with links := Map.update link (fun k => { k with
      lines := xs.foldl (fun m x => Map.update x.1 LineRec.dropped m) k.lines }) w.live.links }
    todo := w.todo ++ (xs.filter (fun y => y.2.ask.isSome)).map (fun y => .askFailed link y.1 3) } := by
  induction xs generalizing w with
  | nil =>
    simp only [List.foldl_nil, List.filter_nil, List.map_nil, List.append_nil]
    rw [Map.update_id]
  | cons x xs ih =>
    rw [List.foldl_cons, ih, Work.dropLine_eq]
    dsimp only
    rw [Map.update_update]
    cases h : x.2.ask.isSome <;> simp [h]

/-- What a link's leaving UP writes and hands on: its lines' asks and late numbers, and its shared sections (R38, R133). -/
theorem Work.leaveUp_eq {e : Env} {link : Nat} {k : LinkRec} {w : Work} : w.leaveUp e link k = { w with
    live := { w.live with
      links := Map.update link (fun z => { z with
        lines := k.lines.foldl (fun m x => Map.update x.1 LineRec.dropped m) z.lines }) w.live.links
      sections := (w.live.agreeShared (e.tables.sharedOf link)).sections }
    todo := w.todo ++ (k.lines.filter (fun y => y.2.ask.isSome)).map (fun y => .askFailed link y.1 3) ++
      k.lines.map (fun x => .linkLost link x.1) } := by
  unfold Work.leaveUp
  dsimp only
  rw [Work.dropLines_eq]
  rfl

theorem Live.sectionAt_agreeShared (secs : List Nat) (l : Live) (sec : Nat) : (l.agreeShared secs).sectionAt sec =
    (l.sectionAt sec).map (fun y => if sec ∈ secs then { y with disagreement := 0 } else y) := by
  have hmapped : (l.agreeShared secs).sections =
      l.sections.map (fun x => (x.1, if x.1 ∈ secs then { x.2 with disagreement := 0 } else x.2)) := by
    refine List.map_congr_left fun x _ => ?_
    by_cases h : x.1 ∈ secs <;> simp [h]
  unfold Live.sectionAt
  rw [hmapped]
  exact Map.find_mapped (fun n (y : SectionRec) => if n ∈ secs then { y with disagreement := 0 } else y) sec l.sections

/-- The lines of a link that leaves UP. -/
theorem Work.leaveUp_lines {e : Env} {link : Nat} {k z : LinkRec} {w : Work} (hz : Map.find link w.live.links = some z)
    (hk : z.lines = k.lines) : Map.find link (w.leaveUp e link k).live.links =
      some { z with lines := Map.each LineRec.dropped k.lines } := by
  rw [Work.leaveUp_eq, Map.find_update_self, hz, Option.map_some, hk, Map.foldl_update (f := LineRec.dropped) fun _ => rfl]

/-- Settles O37, from what our presence sends and from what a link's leaving UP writes and hands on. -/
theorem linkTimersExpire : Obligations.LinkTimersExpire := by
  refine ⟨fun s hp => ⟨fun h => ?_, fun moment hm hc => ?_⟩, fun t link l => ⟨Live.countsOut_rises .., fun x hx => ?_,
    fun n number nA nB ⟨ht, hsup, hheld⟩ alone => ?_⟩, fun port k s hp hk => ⟨fun h => ?_, fun moment hm hc hstate => ?_⟩⟩
  · exact (event_on _ _ hp).trans (congrArg _ (State.expire_early _ h))
  · refine (event_on _ _ hp).trans (congrArg _ ?_)
    unfold presenceDue
    rw [hm, State.expire_reached _ hc]
    exact congrArg (fun l => { s with presenceDue := some (s.clock + 10), live := l })
      (State.presents_live s.live.links { s with presenceDue := some (s.clock + 10) })
  · obtain ⟨n, hmem, hrest⟩ := Live.mem_countsOut.mp hx
    exact ⟨n, (t.exportedHeads_spec link).2 _ hmem, hrest⟩
  · exact Live.mem_countsOut.mpr ⟨n, Map.mem_of_find (Tables.find_exportedHeads ht alone), hsup, hheld⟩
  · refine (event_on _ _ hp).trans (congrArg _ ?_)
    simp only [lastHeardExpired, hk]
    split
    · rfl
    · next hdown => exact State.expire_early _ (h.resolve_left hdown)
  · have hexec : exec (.lastHeardExpiry port) s = .next (s.ending (s.work.linkDown s.env port k)) := by
      refine (event_on _ _ hp).trans (congrArg _ ?_)
      simp only [lastHeardExpired, hk, if_neg hstate, hm]
      exact State.expire_reached _ hc
    let down : LinkRec := { k with state := .down, lastHeard := none }
    let v := (s.work.updateLink port (fun k => { k with state := .down, lastHeard := none })).report s.env .b .linkDown .link
      port (some (if k.state = .up then 2 else 1))
    have hv : v = { s.work with live := { s.live with
        links := Map.update port (fun k => { k with state := .down, lastHeard := none }) s.live.links
        reports := v.live.reports, sent := v.live.sent } } :=
      congrArg (fun l => { s.work with live := l }) (Live.offer_rest ..)
    have hreports (detail : Nat) (hd : (if k.state = .up then 2 else 1) = detail) :
        v.live.reports = (s.live.offer s.env .b .linkDown .link port (some detail)).reports := by
      rw [← hd]
      refine Live.offer_reports_congr ?_ ..
      rfl
    have hlink : Map.find port v.live.links = some down := by
      rw [hv]
      refine (Map.find_update_self port (fun k => { k with state := .down, lastHeard := none }) s.live.links).trans ?_
      rw [hk]
      rfl
    by_cases hup : k.state = .up
    · have hleave : s.work.linkDown s.env port k = v.leaveUp s.env port k := if_pos hup
      have heq := Work.leaveUp_eq (e := s.env) (link := port) (k := k) (w := v)
      refine ⟨_, _, hexec, hleave ▸ Work.leaveUp_lines hlink rfl, rfl, fun h => absurd (h.symm.trans hup) (by decide),
        fun _ => ⟨rfl, ?_, fun sec => ?_, ?_⟩, ?_, ?_⟩
      · rw [hleave, heq, hv]
        rfl
      · rw [hleave, heq]
        refine (Live.sectionAt_agreeShared ..).trans ?_
        rw [hv]
        rfl
      · rw [hleave, heq]
        exact hreports 2 (if_pos hup)
      · rw [hleave, heq, hv]
      · rw [hleave, heq, hv]
    · have hleave : s.work.linkDown s.env port k = v := if_neg hup
      refine ⟨_, down, hexec, hleave ▸ hlink, rfl, fun _ => ⟨rfl, ?_, ?_, ?_⟩, fun h => absurd h hup, ?_, ?_⟩
      · rw [hleave, hv]
        rfl
      · rw [hleave, hv]
      · rw [hleave]
        exact hreports 1 (if_neg hup)
      · rw [hleave, hv]
      · rw [hleave, hv]

end Sys2Proof.Machine
end

section
/-! PROOFS. The DIRECTION telegrams (Chapter 8): when we yield a line, and how our ask ends (R141 to R144). -/

namespace Sys2Proof.Machine

/-! ## When we yield -/

section
variable {e : Env} {link line : Nat} {l : Live}

theorem Live.exitsOnto_eq_false : l.exitsOnto e link line = false ↔ ∀ x ∈ l.slots, ∀ r,
    Map.find x.2.route e.tables.routes = some r → r.exit ≠ .line link line := by
  simp only [Live.exitsOnto, Live.slotsWhere, Bool.not_eq_false', List.isEmpty_iff, List.map_eq_nil_iff, List.filter_eq_nil_iff]
  refine forall₂_congr fun x _ => ?_
  cases hr : Map.find x.2.route e.tables.routes with
  | none => simp
  | some r => simp [RouteEntry.exitLine_iff]

theorem Live.waitsOn_iff {n : Nat} : l.waitsOn n link line = true ↔
    ∃ z, l.slot n = some z ∧ z.state = .waitLine ∧ z.lineWait = some (link, line) := by
  simp [Live.waitsOn, Option.any_eq_true]

theorem Live.crossable_iff {t : Tables} : l.crossable t link line = true ↔ ∃ x, t.lineEntry link line = some x ∧
    ∀ sec ∈ x.sections, l.isClear sec = true ∧ ∀ n role, l.holder sec = some (n, role) →
      ∃ z, l.slot n = some z ∧ z.state = .waitLine ∧ z.lineWait = some (link, line) := by
  unfold Live.crossable
  cases t.lineEntry link line with
  | none => simp
  | some x =>
    simp only [Option.map_some, Option.getD_some, List.all_eq_true, Bool.and_eq_true, Option.some.injEq, exists_eq_left']
    refine forall₂_congr fun sec _ => and_congr_right fun _ => ?_
    simp only [Option.all_eq_true, Live.waitsOn_iff, Prod.forall]

theorem Tables.neighbourSenior_iff {t : Tables} :
    t.neighbourSenior link line = true ↔ ∃ x, t.lineEntry link line = some x ∧ x.senior = 2 := by
  simp [Tables.neighbourSenior, Option.any_eq_true]

/-- The verdict on a neighbour's ask, by our owner of the line (R141, R142). -/
theorem Live.yields_iff {y : LineRec} : l.yields e link line y = true ↔
    (y.owner = .us ∧ y.lineClear = true ∧ ∀ x ∈ l.slots, ∀ r, Map.find x.2.route e.tables.routes = some r →
      r.exit ≠ .line link line) ∨
    y.owner = .neighbour ∨ (y.owner = .unknown ∧ y.ask = none ∧ y.lineClear = true) ∨
    (y.owner = .unknown ∧ y.ask ≠ none ∧ ∃ x, e.tables.lineEntry link line = some x ∧ x.senior = 2 ∧
      ∀ sec ∈ x.sections, l.isClear sec = true ∧ ∀ n role, l.holder sec = some (n, role) →
        ∃ z, l.slot n = some z ∧ z.state = .waitLine ∧ z.lineWait = some (link, line)) := by
  unfold Live.yields
  cases y.owner with
  | us =>
    simp only [Bool.and_eq_true, Bool.not_eq_true', Live.exitsOnto_eq_false, reduceCtorEq, false_and, or_false, true_and]
  | neighbour => simp
  | unknown =>
    cases hask : y.ask with
    | none => simp
    | some a =>
      simp only [Option.isSome_some, if_true, Bool.and_eq_true, Tables.neighbourSenior_iff, Live.crossable_iff]
      simp only [reduceCtorEq, false_and, true_and, false_or, ne_eq, not_false_eq_true]
      constructor
      · rintro ⟨⟨x, hx, hs⟩, z, hz, hclear⟩
        obtain rfl := Option.some.inj (hx.symm.trans hz)
        exact ⟨x, hx, hs, hclear⟩
      · rintro ⟨x, hx, hs, hclear⟩
        exact ⟨⟨x, hx, hs⟩, x, hx, hclear⟩

end

/-! ## A telegram heard -/

theorem Live.line_offer (e : Env) (cls : ReportClass) (code : ReportCode) (kind : SubjectKind) (number : Nat)
    (detail : Option Nat) (link line : Nat) (l : Live) :
    (l.offer e cls code kind number detail).line link line = l.line link line := by
  unfold Live.line
  rw [Live.offer_links]

/-- A telegram heard leaves the lines of its link. -/
theorem Live.line_heard {port line moment : Nat} {k : LinkRec} {l : Live} (hk : Map.find port l.links = some k) :
    Live.line { l with links := Map.update port (LinkRec.hear moment) l.links } port line = Map.find line k.lines := by
  unfold Live.line
  rw [Map.find_update_self, hk, Option.map_some, Option.bind_some, LinkRec.hear_lines]

theorem Live.line_updateLine_self {link line : Nat} {f : LineRec → LineRec} {y : LineRec} {l : Live}
    (h : l.line link line = some y) : (l.updateLine link line f).line link line = some (f y) := by
  rw [Live.line_updateLine, h, Option.map_some, if_pos ⟨rfl, rfl⟩]

section
variable {link line : Nat} {number : Octet} {k : LinkRec} {e : Env} {w : Work}

theorem Work.takeAsk_discarded (h : k.state ≠ .up ∨ Map.find line k.lines = none) :
    Work.takeAsk link line number k e w = w := by
  unfold Work.takeAsk
  split
  · next y hy => exact if_neg (h.resolve_right (by simp [hy]))
  · rfl

theorem Work.takeAsk_found {y : LineRec} (hy : Map.find line k.lines = some y) (hup : k.state = .up) :
    Work.takeAsk link line number k e w = if w.live.yields e link line y then w.yieldLine link line number y
      else w.on (Live.send (.directionReply link line number false)) := by
  simp [Work.takeAsk, hy, hup]

/-- A reply to no ask of ours and no late number is discarded. -/
theorem Work.takeReply_discarded {yielded : Bool} (h : Map.find line k.lines = none ∨ ∃ y, Map.find line k.lines = some y ∧
    (k.state ≠ .up ∨ (y.ask.map (fun a => a.1) ≠ some number ∧ y.late ≠ some number))) :
    Work.takeReply link line number yielded k e w = w := by
  obtain h | ⟨y, hy, h⟩ := h
  · simp [Work.takeReply, h]
  · obtain h | ⟨hask, hlate⟩ := h
    · simp [Work.takeReply, hy, h]
    · simp [Work.takeReply, hy, hask, hlate]

theorem Work.takeReply_ours {yielded : Bool} {y : LineRec} (hy : Map.find line k.lines = some y) (hup : k.state = .up)
    (hask : y.ask.map (fun a => a.1) = some number) :
    Work.takeReply link line number yielded k e w = w.endAsk link line yielded := by
  simp [Work.takeReply, hy, hup, hask]

theorem Work.takeReply_late {yielded : Bool} {y : LineRec} (hy : Map.find line k.lines = some y) (hup : k.state = .up)
    (hask : y.ask.map (fun a => a.1) ≠ some number) (hlate : y.late = some number) :
    Work.takeReply link line number yielded k e w =
      if yielded then w.lateYield e link line number else w.lineTo link line (fun y => { y with late := none }) := by
  simp [Work.takeReply, hy, hup, hask, hlate]

end

/-- Settles O40: the verdict on the neighbour's ask, and the four ends of ours. -/
theorem directionTelegrams : Obligations.DirectionTelegrams := by
  refine ⟨fun port line number k s hp hk => ?_, fun port line verdict number k s hp hk => ?_⟩
  · intro heard
    let v := s.work.updateLink port (LinkRec.hear (s.clock + s.store.active.linkSupervision port))
    have hline : v.live.line port line = Map.find line k.lines := Live.line_heard hk
    have hexec : exec (.directionAsk port line number) s =
        .next (s.ending (Work.takeAsk port line number k s.env v)) :=
      (event_on _ _ hp).trans (congrArg _ (State.heard_found hk _))
    refine ⟨fun h => ?_, fun y hy hup => ?_⟩
    · rw [hexec, Work.takeAsk_discarded h, State.ending_idle _ _ rfl rfl rfl rfl]
      rfl
    · intro yields crosses
      have hyields : v.live.yields s.env port line y = true ↔ yields := Live.yields_iff
      rw [Work.takeAsk_found hy hup] at hexec
      refine ⟨fun h => ?_, fun h => ?_⟩
      · rw [hexec, if_neg (mt hyields.mp h), State.ending_idle _ _ rfl rfl rfl rfl]
        rfl
      · rw [if_pos (hyields.mpr h)] at hexec
        have hsent : (v.on (Live.send (.directionReply port line number true))).live.line port line = some y := hline.trans hy
        by_cases hcross : crosses
        · have hyield : v.yieldLine port line number y = _ := if_pos ⟨hcross.1, Option.isSome_iff_ne_none.mpr hcross.2⟩
          rw [hyield] at hexec
          exact ⟨_, _, hexec, rfl, Live.line_updateLine_self hsent, rfl, fun _ => rfl, fun h => absurd hcross h, fun _ => rfl,
            fun h => absurd hcross h, rfl, rfl, rfl⟩
        · have hyield : v.yieldLine port line number y = _ :=
            if_neg fun h => hcross ⟨h.1, Option.isSome_iff_ne_none.mp h.2⟩
          rw [hyield] at hexec
          exact ⟨_, _, hexec, rfl, Live.line_updateLine_self hsent, rfl, fun h => absurd h hcross, fun _ => rfl,
            fun h => absurd h hcross, fun _ => rfl, rfl, rfl, rfl⟩
  · intro heard
    let v := s.work.updateLink port (LinkRec.hear (s.clock + s.store.active.linkSupervision port))
    have hline : v.live.line port line = Map.find line k.lines := Live.line_heard hk
    have hexec (hv : verdict = 1 ∨ verdict = 2) : exec (.directionReply port line number verdict) s =
        .next (s.ending (Work.takeReply port line number (verdict == 1) k s.env v)) := by
      refine (event_on _ _ hp).trans (congrArg _ ?_)
      have hvalid : (verdict == 1 || verdict == 2) = true := by simpa using hv
      unfold replyTaken
      rw [hvalid]
      exact State.heard_found hk _
    have hidle : s.ending v = heard := State.ending_idle _ _ rfl rfl rfl rfl
    refine ⟨fun h1 h2 => ?_, fun hv hnone => ?_, fun y hy => ?_⟩
    · refine (event_on _ _ hp).trans (congrArg _ ?_)
      simp [replyTaken, State.heard, hk, h1, h2]
    · rw [hexec hv, Work.takeReply_discarded (.inl hnone), hidle]
    · intro taken ours
      rw [hy] at hline
      have hown : s.live.line port line = some y := by simp [Live.line, hk, hy]
      refine ⟨fun hv h => ?_, fun hup hours => ⟨fun hv => ?_, fun hv => ?_⟩, fun hup hours hlate => ⟨fun hv => ?_, fun hv => ?_⟩,
        fun asked moment hask hc => ?_, fun h => ?_⟩
      · rw [hexec hv, Work.takeReply_discarded (.inr ⟨y, hy, h⟩), hidle]
      · refine ⟨_, (hexec (.inl hv)).trans (by rw [Work.takeReply_ours hy hup hours, hv]), ?_, rfl, rfl⟩
        exact Live.line_updateLine_self hline
      · refine ⟨_, (hexec (.inr hv)).trans (by rw [Work.takeReply_ours hy hup hours, hv]), ?_, rfl, rfl⟩
        exact Live.line_updateLine_self hline
      · refine ⟨v.lateYield s.env port line number, (hexec (.inl hv)).trans (by
          rw [Work.takeReply_late hy hup hours hlate, hv]; rfl), ?_, ?_, rfl⟩
        · exact (Live.line_offer ..).trans (Live.line_updateLine_self hline)
        · refine Live.offer_reports_congr ?_ ..
          rfl
      · refine ⟨_, (hexec (.inr hv)).trans (by rw [Work.takeReply_late hy hup hours hlate, hv]), ?_, rfl, rfl⟩
        exact Live.line_updateLine_self hline
      · refine ⟨s.work.askTimeout port line asked, (event_on _ _ hp).trans (congrArg _ ?_), ?_, rfl⟩
        · simp only [askExpired, hown, Option.bind_some, hask]
          exact State.expire_reached _ hc
        · exact Live.line_updateLine_self hown
      · refine (event_on _ _ hp).trans (congrArg _ ?_)
        simp only [askExpired, hown, Option.bind_some]
        cases hask : y.ask with
        | none => rfl
        | some a => exact State.expire_early _ fun m hm => by cases hm; exact h a.1 a.2 hask

end Sys2Proof.Machine
end

section
/-! PROOFS. The Possession Register (10.1): POSSESSION TAKE with its checks in order, POSSESSION GIVE, and the end of a
possession write (R157 to R159). -/

namespace Sys2Proof.Machine

/-! ## The first of several -/

theorem List.find?_first {α : Type} {p : α → Bool} {a b : List α} {x : α} (ha : ∀ y ∈ a, p y = false) (hx : p x = true) :
    (a ++ x :: b).find? p = some x := by
  rw [List.find?_append, List.find?_eq_none.mpr (by simpa using ha)]
  simp [hx]

theorem List.findSome?_first {α β : Type} {f : α → Option β} {a b : List α} {x : α} {y : β} (ha : ∀ z ∈ a, f z = none)
    (hx : f x = some y) : (a ++ x :: b).findSome? f = some y := by
  rw [List.findSome?_append, List.findSome?_eq_none_iff.mpr ha]
  simp [hx]

/-! ## POSSESSION TAKE -/

theorem Live.pointHeld_iff {p : Nat} {l : Live} :
    ((l.point p).any (fun r => r.routeLock.isSome) || l.claimed p) = true ↔ l.pointHeld p := by
  simp [Live.pointHeld, Live.claimed, Option.any_eq_true, Option.isSome_iff_ne_none]

/-- The lowest-numbered held point of a section. -/
theorem Live.heldPointIn_first {t : Tables} {sec p : Nat} {u v : List Nat} {l : Live} (h : t.pointsOf sec = u ++ p :: v)
    (hu : ∀ q ∈ u, ¬ l.pointHeld q) (hp : l.pointHeld p) : l.heldPointIn t sec = some p := by
  unfold Live.heldPointIn
  rw [h]
  exact List.find?_first (fun q hq => Bool.eq_false_iff.mpr (mt Live.pointHeld_iff.mp (hu q hq))) (Live.pointHeld_iff.mpr hp)

theorem Live.heldPointIn_eq_none {t : Tables} {sec : Nat} {l : Live} :
    l.heldPointIn t sec = none ↔ ¬ ∃ p ∈ t.pointsOf sec, l.pointHeld p := by
  simp only [Live.heldPointIn, List.find?_eq_none, Live.pointHeld_iff, not_exists, not_and]

section
variable {tag number : Nat} {secs : List Nat} {s : State}

/-- The checks of R157 from 4 on, in order, as they are reached. -/
theorem State.takeRefused_unknown {a b : List Nat} {n : Nat} (h : secs = a ++ n :: b)
    (ha : ∀ m ∈ a, (Map.find m s.store.active.sections).isSome = true)
    (hn : ¬ (Map.find n s.store.active.sections).isSome = true) :
    s.takeRefused number secs = some (.with .unknown n) := by
  unfold State.takeRefused
  rw [h, List.find?_first (fun m hm => by simp [Map.has, ha m hm]) (by simpa [Map.has] using hn)]

theorem State.allKnown (hentry : ∀ n ∈ secs, (Map.find n s.store.active.sections).isSome = true) :
    secs.find? (fun n => !Map.has n s.store.active.sections) = none :=
  List.find?_eq_none.mpr fun n hn => by simp [Map.has, hentry n hn]

theorem State.allUnpossessed (hapart : ∀ n ∈ secs, s.live.possessionOf n = none) :
    secs.findSome? (fun n => (s.live.possessionOf n).map (fun q => 256 * q + n)) = none :=
  List.findSome?_eq_none_iff.mpr fun n hn => by simp [hapart n hn]

theorem State.notGranted (hfree : Map.find number s.possessions = none) : Map.has number s.possessions = false := by
  simp [Map.has, hfree]

theorem State.takeRefused_granted (hentry : ∀ n ∈ secs, (Map.find n s.store.active.sections).isSome = true)
    (h : Map.find number s.possessions ≠ none) : s.takeRefused number secs = some (.with .overlap (256 * number)) := by
  have hhas : Map.has number s.possessions = true := Option.isSome_iff_ne_none.mpr h
  simp only [State.takeRefused, State.allKnown hentry, hhas, if_true]

variable (hentry : ∀ n ∈ secs, (Map.find n s.store.active.sections).isSome = true)
  (hfree : Map.find number s.possessions = none)
include hentry hfree

theorem State.takeRefused_overlap {a b : List Nat} {n q : Nat} (h : secs = a ++ n :: b)
    (ha : ∀ m ∈ a, s.live.possessionOf m = none) (hn : s.live.possessionOf n = some q) :
    s.takeRefused number secs = some (.with .overlap (256 * q + n)) := by
  have hfirst : secs.findSome? (fun n => (s.live.possessionOf n).map (fun q => 256 * q + n)) = some (256 * q + n) :=
    h ▸ List.findSome?_first (fun m hm => by simp [ha m hm]) (by simp [hn])
  simp only [State.takeRefused, State.allKnown hentry, State.notGranted hfree, Bool.false_eq_true, if_false, hfirst]

variable (hapart : ∀ n ∈ secs, s.live.possessionOf n = none)
include hapart

theorem State.takeRefused_locked {a b : List Nat} {n : Nat} (h : secs = a ++ n :: b)
    (ha : ∀ m ∈ a, s.live.holder m = none) (hn : s.live.holder n ≠ none) :
    s.takeRefused number secs = some (.with .lockedIn n) := by
  have hfirst : secs.find? (fun n => (s.live.holder n).isSome) = some n :=
    h ▸ List.find?_first (fun m hm => by simp [ha m hm]) (by simpa [Option.isSome_iff_ne_none] using hn)
  simp only [State.takeRefused, State.allKnown hentry, State.notGranted hfree, Bool.false_eq_true, if_false,
    State.allUnpossessed hapart, hfirst]

/-- Past the locks only the points of the sections are left to check. -/
theorem State.takeRefused_points (hunlocked : ∀ n ∈ secs, s.live.holder n = none) : s.takeRefused number secs =
    (secs.findSome? (fun n => s.live.heldPointIn s.store.active n)).map (fun p => .with .lockedIn (1000 + p)) := by
  have hnone : secs.find? (fun n => (s.live.holder n).isSome) = none :=
    List.find?_eq_none.mpr fun n hn => by simp [hunlocked n hn]
  simp only [State.takeRefused, State.allKnown hentry, State.notGranted hfree, Bool.false_eq_true, if_false,
    State.allUnpossessed hapart, hnone]

end

section
variable {tag number : Nat} {secs : List Nat} {s : State}

/-- Past its form a take is decided by the checks from 4 on. -/
theorem possessionTake_checked (hm : s.mode.operating = true) (hw : s.store.writing = false) (hnumber : number ≤ 7)
    (hne : secs ≠ []) (hlen : secs.length ≤ 16) (hnodup : secs.Nodup) : possessionTake tag number secs s =
      ((s.takeRefused number secs).map s.refuses).getD (s.grant tag number secs).defers := by
  have hform : (secs.isEmpty || 16 < secs.length || !noRepeats secs) = false := by
    simp [hne, hlen, noRepeats, hnodup]
  simp only [possessionTake, hm, hw, hform, Nat.not_lt.mpr hnumber, Bool.not_true, Bool.false_eq_true, if_false]
  cases s.takeRefused number secs <;> rfl

theorem exec_possessionTake_refused (hs : s.Running) {code : Code} {detail : Nat} (hm : s.mode.operating = true)
    (hw : s.store.writing = false) (hnumber : number ≤ 7) (hne : secs ≠ []) (hlen : secs.length ≤ 16) (hnodup : secs.Nodup)
    (h : s.takeRefused number secs = some (.with code detail)) : exec (.possessionTake tag number secs) s =
      .next (s.sending (detailAnswer tag 10 code detail)) :=
  control_refused_with hs (by rw [possessionTake_checked hm hw hnumber hne hlen hnodup, h]; rfl)

/-- A rule that leaves its answer to the end of a write changes the state alone. -/
theorem control_deferred {kind : Nat} {detail : Option Nat} {rule : State → Taken} {t : State} (hs : s.Running)
    (h : rule s = t.defers) : control tag kind detail rule s = .next t :=
  (control_running _ _ _ _ _ hs).trans (by rw [h]; rfl)

end

/-- Settles O41: each check in its turn, and the grant and the give-up as they are written. -/
theorem possessionTelegrams : Obligations.PossessionTelegrams := by
  refine ⟨fun tag number secs s hs => ?_, fun tag number s hs => ?_, fun s hp => ⟨fun h => ?_, fun x rest h => ?_⟩⟩
  · intro answered entry holds
    refine ⟨fun hm => control_refused_with hs (by simp [possessionTake, hm]), fun hm hw =>
      control_refused hs (by simp [possessionTake, hm, hw]), fun hm hw => ⟨fun hn => ?_, fun hn hform => ?_,
      fun hn hne hlen hnodup => ?_⟩⟩
    · exact control_refused_with hs (by simp [possessionTake, hm, hw, hn])
    · refine control_refused_with hs ?_
      have hbad : (secs.isEmpty || 16 < secs.length || !noRepeats secs) = true := by
        simpa [noRepeats, or_assoc] using hform
      simp [possessionTake, hm, hw, Nat.not_lt.mpr hn, hbad]
    · have refused {code : Code} {detail : Nat} := exec_possessionTake_refused (tag := tag) hs (code := code)
        (detail := detail) hm hw hn hne hlen hnodup
      refine ⟨fun a n b h ha hx => refused (State.takeRefused_unknown h ha hx), fun hentry =>
        ⟨fun h => refused (State.takeRefused_granted hentry h), fun hfree =>
          ⟨fun a n b q h ha hx => refused (State.takeRefused_overlap hentry hfree h ha hx), fun hapart =>
            ⟨fun a n b h ha hx => refused (State.takeRefused_locked hentry hfree hapart h ha hx), fun hunlocked => ?_⟩⟩⟩⟩
      have hpoints := State.takeRefused_points hentry hfree hapart hunlocked
      refine ⟨fun a n b u p v h ha hpts hu hp => refused ?_, fun hnone => ?_⟩
      · rw [hpoints, h, List.findSome?_first (fun m hm => Live.heldPointIn_eq_none.mpr (ha m hm))
          (Live.heldPointIn_first hpts hu hp)]
        rfl
      · intro records taken
        refine control_deferred hs ?_
        rw [possessionTake_checked hm hw hn hne hlen hnodup, hpoints,
          List.findSome?_eq_none_iff.mpr fun n hn => Live.heldPointIn_eq_none.mpr (hnone n hn)]
        have htaken : s.live.setPossession secs (some number) = taken := by
          simp [Live.setPossession, taken]
        simp only [Option.map_none, Option.getD_none, State.grant, htaken]
        rfl
  · intro answered
    refine ⟨fun hm => control_refused hs (by simp [possessionGive, hm]), fun hm hw =>
      control_refused hs (by simp [possessionGive, hm, hw]), fun hm hw => ⟨fun hn =>
        control_refused hs (by simp [possessionGive, hm, hw, hn]), fun hn => ⟨fun h =>
          control_refused hs (by simp [possessionGive, hm, hw, Nat.not_lt.mpr hn, h]), fun secs h => ?_⟩⟩⟩
    intro freed given
    refine control_deferred hs ?_
    have hfreed : s.live.setPossession secs none = freed := by simp [Live.setPossession, freed]
    simp only [possessionGive, hm, hw, Nat.not_lt.mpr hn, h, Bool.not_true, Bool.false_eq_true, if_false, State.giveUp, hfreed]
    rfl
  · exact (event_on _ _ hp).trans (congrArg _ (by simp [possessionWritten, h]))
  · refine (event_on _ _ hp).trans (congrArg _ ?_)
    simp only [possessionWritten, h]
    rfl

end Sys2Proof.Machine
end

section
/-! PROOFS. A slot in CLEARING and CLEAR (Chapter 5): the order of its entry signal, its replacement and the causes of that (R89 to
R93). -/

namespace Sys2Proof.Machine

/-! ## What stands through several changes -/

theorem Live.HoldingsStand.of_slots {n : Nat} {a b : Live} (hsections : b.sections = a.sections) (hclaims : b.claims = a.claims)
    (helements : b.elements = a.elements) (hwaiting : b.waiting = a.waiting) (harm : b.arm = a.arm)
    (hslots : ∀ m ≠ n, b.slot m = a.slot m) : a.HoldingsStand n b :=
  ⟨hsections, by rw [hclaims], fun p => by simp [Live.point, helements], fun g => by simp [Live.signal, helements], hwaiting,
    harm, hslots⟩

theorem Live.HoldingsStand.refl (n : Nat) (a : Live) : a.HoldingsStand n a := .of_slots rfl rfl rfl rfl rfl fun _ _ => rfl

theorem Live.HoldingsStand.trans {n : Nat} {a b c : Live} (h : a.HoldingsStand n b) (k : b.HoldingsStand n c) :
    a.HoldingsStand n c := by
  obtain ⟨h1, h2, h3, h4, h5, h6, h7⟩ := h
  obtain ⟨k1, k2, k3, k4, k5, k6, k7⟩ := k
  exact ⟨k1.trans h1, k2.trans h2, fun p => (k3 p).trans (h3 p), fun g => (k4 g).trans (h4 g), k5.trans h5, k6.trans h6,
    fun m hm => (k7 m hm).trans (h7 m hm)⟩

theorem Work.slotTo_holdingsStand (n : Nat) (f : Slot → Slot) (w : Work) : w.live.HoldingsStand n (w.slotTo n f).live :=
  .of_slots rfl rfl rfl rfl rfl fun _ hm => Work.slotTo_other hm f w

/-- A report touches the queue of reports and what is sent. -/
theorem Work.report_rest (e : Env) (cls : ReportClass) (code : ReportCode) (kind : SubjectKind) (number : Nat)
    (detail : Option Nat) (w : Work) : w.report e cls code kind number detail = { w with live := { w.live with
      reports := (w.live.offer e cls code kind number detail).reports
      sent := (w.live.offer e cls code kind number detail).sent } } :=
  congrArg (fun l => { w with live := l }) (Live.offer_rest ..)

theorem SignalOrdered.reported {e : Env} {g : Nat} {a : Aspect} {before after : Work} (h : SignalOrdered e g a before after)
    (cls : ReportClass) (code : ReportCode) (kind : SubjectKind) (number : Nat) (detail : Option Nat) :
    SignalOrdered e g a before (after.report e cls code kind number detail) := by
  rw [Work.report_rest]
  exact h

/-! ## The order of the entry signal -/

section
variable {e : Env} {n : Nat} {x : Slot} {r : RouteEntry} {a : Aspect} {g : SignalRec} {w : Work}

/-- A slot's order for its entry signal is a signal order, and the slot's aspect ordered. -/
theorem Work.orderEntry_ordered (hg : w.live.signal r.entrySignal = some g) :
    SignalOrdered e r.entrySignal a w (w.orderEntry e n r a) :=
  Work.orderSignal_ordered (w := w.slotTo n (fun x => { x with aspect := some a })) hg

theorem Work.orderEntry_slots : (w.orderEntry e n r a).live.slots =
    (w.slotTo n (fun x => { x with aspect := some a })).live.slots := Work.orderSignal_slots ..

theorem Work.orderEntry_self (hx : w.live.slot n = some x) :
    (w.orderEntry e n r a).live.slot n = some { x with aspect := some a } := by
  rw [Live.slot_congr Work.orderEntry_slots]
  exact Work.slotTo_found hx _

theorem Work.orderEntry_other {m : Nat} (hm : m ≠ n) : (w.orderEntry e n r a).live.slot m = w.live.slot m := by
  rw [Live.slot_congr Work.orderEntry_slots]
  exact Work.slotTo_other hm _ w

theorem Work.orderEntry_reports : (w.orderEntry e n r a).live.reports = w.live.reports ∧
    (w.orderEntry e n r a).scan = w.scan := by
  unfold Work.orderEntry
  rw [Work.orderSignal_rest]
  exact ⟨rfl, rfl⟩

theorem Work.orderEntry_stands (hg : w.live.signal r.entrySignal = some g) :
    w.live.HoldingsStand n (w.orderEntry e n r a).live :=
  (Work.orderEntry_ordered hg).holdingsStand fun _ hm => Work.orderEntry_other hm

/-! ## Replacement -/

theorem Work.replace_idle {cause number : Nat} (hx : w.live.slot n = some x) (h : x.state ≠ .clearing) (h' : x.state ≠ .clear) :
    w.replace e n cause number = w :=
  Work.withSlot_idle hx fun _ => if_neg (by simp [h, h'])

/-- The replacement of a slot in CLEARING or CLEAR: DANGER ordered, its report, and a scan due; every lock and claim stands (R91,
R108). -/
structure Work.Replaced (e : Env) (n : Nat) (x : Slot) (r : RouteEntry) (cause number : Nat) (before after : Work) : Prop where
  slot : after.live.slot n = some { x with state := .replaced, aspect := some .danger }
  scan : after.scan = true
  ordered : SignalOrdered e r.entrySignal .danger before after
  stands : before.live.HoldingsStand n after.live
  reports : after.live.reports = (before.live.offer e .a .signalReplaced .slot n (some (1000 * cause + number))).reports

theorem Work.replace_found {cause number : Nat} (hx : w.live.slot n = some x) (hr : Map.find x.route e.tables.routes = some r)
    (h : x.state = .clearing ∨ x.state = .clear) (hcause : cause ≠ 6) : w.replace e n cause number =
      (((w.slotTo n (fun x => { x with state := .replaced, aspect := some .danger })).orderSignal e r.entrySignal .danger).report
        e .a .signalReplaced .slot n (some (1000 * cause + number))).scanDue := by
  rw [Work.replace, Work.withSlot_found hx hr, if_pos (by simpa using h)]
  exact congrArg (fun v => (Work.report e .a .signalReplaced .slot n _ v).scanDue) (if_neg hcause)

theorem Work.replace_replaced {cause number : Nat} (hx : w.live.slot n = some x)
    (hr : Map.find x.route e.tables.routes = some r) (h : x.state = .clearing ∨ x.state = .clear) (hcause : cause ≠ 6)
    (hg : w.live.signal r.entrySignal = some g) : Work.Replaced e n x r cause number w (w.replace e n cause number) := by
  let v := w.slotTo n (fun x => { x with state := .replaced, aspect := some .danger })
  have hordered : SignalOrdered e r.entrySignal .danger w (v.orderSignal e r.entrySignal .danger) :=
    Work.orderSignal_ordered (w := v) hg
  have hreport := hordered.reported .a .signalReplaced .slot n (some (1000 * cause + number))
  have hslots (m : Nat) : ((v.orderSignal e r.entrySignal .danger).report e .a .signalReplaced .slot n
      (some (1000 * cause + number))).live.slot m = v.live.slot m :=
    Live.slot_congr ((Live.offer_slots ..).trans (Work.orderSignal_slots ..)) m
  rw [Work.replace_found hx hr h hcause]
  refine ⟨(hslots n).trans (Work.slotTo_found hx _), rfl, hreport,
    hreport.holdingsStand fun m hm => (hslots m).trans (Work.slotTo_other hm _ w), ?_⟩
  refine Live.offer_reports_congr ?_ ..
  rw [Work.orderSignal_rest]
  rfl

/-- A slot that is replaced is replaced once. -/
theorem Work.Replaced.again {cause number : Nat} {before after : Work} (h : Work.Replaced e n x r cause number before after)
    (ns : List Nat) (hns : ∀ m ∈ ns, m = n) (cause' number' : Nat) :
    ns.foldl (fun v m => v.replace e m cause' number') after = after := by
  induction ns with
  | nil => rfl
  | cons m ns ih =>
    obtain rfl := hns m (by simp)
    rw [List.foldl_cons, Work.replace_idle h.slot (by simp) (by simp)]
    exact ih fun k hk => hns k (by simp [hk])

end

theorem Work.clearTest_idle {e : Env} {n : Nat} {x : Slot} {w : Work} (hx : w.live.slot n = some x) (h : x.state ≠ .locked) :
    w.clearTest e n = w :=
  Work.withSlot_idle hx fun r => if_neg (by simp [h])

/-- The neighbour's last presence set its line-clear flag of the line. -/
theorem Live.lineShown_iff {link line : Nat} {l : Live} :
    ((l.line link line).bind (fun y => y.last)).any (fun y => y.lineClear) = true ↔
      ∃ y p, l.line link line = some y ∧ y.last = some p ∧ p.lineClear = true := by
  simp only [Option.any_eq_true, Option.bind_eq_some_iff]
  exact ⟨fun ⟨p, ⟨y, hy, hp⟩, hc⟩ => ⟨y, p, hy, hp, hc⟩, fun ⟨y, p, hy, hp, hc⟩ => ⟨p, ⟨y, hy, hp⟩, hc⟩⟩

/-- A lost link reaches the slots that exit onto the line. -/
theorem Work.linkLost_reaches (e : Env) (link line : Nat) (w : Work) :
    Work.Reaches e (fun _ r => r.exit = .line link line) (fun n v => v.replace e n 5 (10 * link + line)) w
      (w.take e (.linkLost link line)) :=
  Work.forEach_reaches (fun _ _ => by simp [RouteEntry.exitLine_iff]) ..

theorem RouteEntry.exitSignal_iff {r : RouteEntry} {g : Nat} : r.exitSignal = some g ↔ r.exit = .signal g := by
  unfold RouteEntry.exitSignal
  cases r.exit <;> simp

/-- Settles O22: each cause is the one replacement, and the other changes are an order of the aspect chosen or none. -/
theorem replacementCauses : Obligations.ReplacementCauses := by
  refine ⟨fun e n cause number x w hx h h' => ⟨Work.replace_idle hx h h', fun g => ⟨fun proven => ?_, ?_⟩⟩,
    fun e n x r g w hx hr hstate hg => ?_⟩
  · refine Work.withSlot_idle hx fun r => ?_
    cases proven
    · exact Work.replace_idle hx h h'
    · simp [h]
  · exact Work.withSlot_idle hx fun r => if_neg (by simp [h, h'])
  · intro shows replaced
    have hlocked : x.state ≠ .locked := by rcases hstate with h | h <;> simp [h]
    have hreplaced {v : Work} {cause number : Nat} (hcause : cause ≠ 6) (hv : v = w.replace e n cause number) :
        replaced v cause number := by
      have k := Work.replace_replaced (number := number) hx hr hstate hcause hg
      rw [hv]
      exact ⟨k.slot, k.ordered.ordered, k.scan, k.ordered, k.stands, k.reports⟩
    refine ⟨fun p q hq => ⟨fun hd => hreplaced (by decide) ?_, fun hd => ?_⟩, fun element => ⟨hreplaced (by decide) rfl, ?_⟩,
      fun link line => hreplaced (by decide) ?_, fun link line => ⟨fun hshown => ?_, fun hshown => hreplaced (by decide) ?_⟩,
      fun link line hexit halone => ?_, hreplaced (by decide) ?_, fun hclear => ?_, fun hclearing => ?_, fun a => ?_⟩
    · rw [Work.onPoint, Work.withSlot_found hx hr]
      rcases hstate with h | h <;> simp [h, hq, hd]
    · rw [Work.onPoint, Work.withSlot_found hx hr]
      rcases hstate with h | h <;> simp [h, hq, hd]
    · exact Work.clearTest_idle hx hlocked
    · rw [Work.onLineLost, Work.withSlot_found hx hr]
      rcases hstate with h | h <;> simp only [h]
    · have hflag := Live.lineShown_iff.mpr hshown
      rw [Work.onLineFlag, Work.withSlot_found hx hr]
      rcases hstate with h | h <;> simp only [h, if_pos hflag]
    · have hflag := mt Live.lineShown_iff.mp hshown
      rw [Work.onLineFlag, Work.withSlot_found hx hr]
      rcases hstate with h | h <;> simp only [h, if_neg hflag]
    · obtain ⟨ms, ns, choices, ⟨-, hchosen⟩, hperm, htake⟩ := Work.linkLost_reaches e link line w
      have hmem : n ∈ ns := hperm.mem_iff.mpr ((hchosen n).mpr ⟨(n, x), Map.mem_of_find hx, rfl, r, hr, hexit⟩)
      have hall : ∀ m ∈ ns, m = n := fun m hm => by
        obtain ⟨y, hy, rfl, z, hz, hzexit⟩ := (hchosen m).mp (hperm.mem_iff.mp hm)
        exact halone y hy z hz hzexit
      let v := w.on (fun l => { l with choices := choices })
      have k := Work.replace_replaced (w := v) (number := 10 * link + line) hx hr hstate (show 5 ≠ 6 by decide) hg
      have hreached : w.take e (.linkLost link line) = v.replace e n 5 (10 * link + line) := by
        rw [htake]
        cases ns with
        | nil => simp at hmem
        | cons m ns =>
          obtain rfl := hall m (by simp)
          exact k.again ns (fun j hj => hall j (by simp [hj])) 5 (10 * link + line)
      rw [hreached]
      refine ⟨k.slot, k.ordered.ordered, k.scan, k.ordered, k.stands, k.reports.trans ?_⟩
      refine Live.offer_reports_congr ?_ ..
      rfl
    · rw [Work.onProving, Work.withSlot_found hx hr]
      rfl
    · rw [Work.onProving, Work.withSlot_found hx hr]
      simp [hclear]
    · refine ⟨(w.slotTo n (fun x => { x with state := .clear })).live.slots, ?_, Work.slotTo_found hx _,
        fun m hm => Work.slotTo_other hm _ w⟩
      rw [Work.onProving, Work.withSlot_found hx hr]
      simp only [hclearing, if_true, beq_self_eq_true]
      rfl
    · intro chosen steps fails
      have hactive : (x.state == .clearing || x.state == .clear) = true := by simpa using hstate
      have hsteps : (r.exitSignal == some a && x.aspect != some chosen) = true ↔ steps := by
        simp [steps, RouteEntry.exitSignal_iff]
      have haspect : w.onAspect e a n = if r.exitSignal == some a && x.aspect != some chosen then w.orderEntry e n r chosen
          else if r.entrySignal == a && x.state == .clear &&
            (w.live.signal a).any (fun y => y.proving.isNone && y.proven != x.aspect) then w.replace e n 8 a else w := by
        rw [Work.onAspect, Work.withSlot_found hx hr, if_pos hactive]
      have hfails : (r.entrySignal == a && x.state == .clear &&
          (w.live.signal a).any (fun y => y.proving.isNone && y.proven != x.aspect)) = true ↔ fails := by
        simp only [Bool.and_eq_true, beq_iff_eq, Option.any_eq_true, Option.isNone_iff_eq_none, bne_iff_ne, and_assoc]
        constructor
        · rintro ⟨rfl, hclear, y, hy, hproof⟩
          cases hg.symm.trans hy
          exact ⟨rfl, hclear, hproof⟩
        · rintro ⟨rfl, hclear, hproof⟩
          exact ⟨rfl, hclear, g, hg, hproof⟩
      refine ⟨fun h => ?_, fun h hf => ?_, fun h hf => ?_⟩
      · rw [haspect, if_pos (hsteps.mpr h)]
        exact ⟨Work.orderEntry_self hx, (Work.orderEntry_ordered hg).ordered, Work.orderEntry_ordered hg,
          Work.orderEntry_stands hg, Work.orderEntry_reports.1⟩
      · refine hreplaced (by decide) ?_
        rw [haspect, if_neg (mt hsteps.mp h), if_pos (hfails.mpr hf), hf.1]
      · rw [haspect, if_neg (mt hsteps.mp h), if_neg (mt hfails.mp hf)]

end Sys2Proof.Machine
end

section
/-! PROOFS. The entry of a train, and a section's change in ENTERED and TIMED_RELEASE (Chapter 7; R113 to R121). -/

namespace Sys2Proof.Machine

/-! ## What a signal is ordered to, through releases -/

/-- What a signal is ordered to, and how long its proving lasts (R52). -/
def ElementRec.orderedTo : ElementRec → Option (Aspect × Option Nat)
  | .signal r => some (r.commanded, r.proving)
  | _ => none

theorem Live.ordered_iff {e : Env} {g : Nat} {a : Aspect} {l : Live} : l.ordered e g a ↔
    (Map.find g l.elements).bind ElementRec.orderedTo = some (a, some (e.clock + e.tables.provingTime g)) := by
  unfold Live.ordered Live.signal
  cases Map.find g l.elements with
  | none => simp
  | some r => cases r <;> simp [ElementRec.orderedTo]

theorem Live.ordered_same {e : Env} {g : Nat} {a : Aspect} {l m : Live} (h : Live.SamePart ElementRec.orderedTo l m) :
    l.ordered e g a → m.ordered e g a := by
  rw [Live.ordered_iff, Live.ordered_iff]
  have hjoin (k : Live) : (Map.find g k.elements).bind ElementRec.orderedTo =
      ((Map.find g k.elements).map ElementRec.orderedTo).join := by cases Map.find g k.elements <;> rfl
  rw [hjoin, hjoin, h g]
  exact id

/-- Freeing and releasing leave every signal ordered as it was. -/
theorem ElementRec.emptied_orderedTo (n : Nat) (r : ElementRec) : (r.emptied n).orderedTo = r.orderedTo := by
  cases r <;> simp only [ElementRec.emptied, ElementRec.orderedTo]
  split <;> rfl

theorem ElementRec.unlocked_orderedTo (n : Nat) (ps : List Nat) (p : Nat) (r : ElementRec) :
    (r.unlocked n ps p).orderedTo = r.orderedTo := by
  cases r <;> simp only [ElementRec.unlocked]
  split <;> rfl

section
variable {e : Env} {n : Nat} {w : Work}

theorem Work.freeSlot_orderedTo : Live.SamePart ElementRec.orderedTo w.live (w.freeSlot e n).live := by
  cases hx : w.live.slot n with
  | none => simp only [Work.freeSlot, hx]; exact .refl _ _
  | some x =>
    intro g
    rw [Work.freeSlot_found hx]
    show (Map.find g (Live.offer _ _ _ _ _ _ (w.live.emptySlot e.tables n)).elements).map _ = _
    rw [Live.offer_elements, Live.emptySlot_emptied, Option.map_map]
    exact congrArg (fun f => Option.map f _) (funext fun r => r.emptied_orderedTo n)

theorem Work.withSlot_orderedTo {f : Slot → RouteEntry → Work → Work}
    (hf : ∀ x r, Live.SamePart ElementRec.orderedTo w.live (f x r w).live) :
    Live.SamePart ElementRec.orderedTo w.live (w.withSlot e n f).live := by
  unfold Work.withSlot
  split
  · exact .refl _ _
  · split
    · exact .refl _ _
    · exact hf _ _

theorem Work.freeIfDone_orderedTo : Live.SamePart ElementRec.orderedTo w.live (w.freeIfDone e n).live := by
  refine Work.withSlot_orderedTo fun x r => ?_
  split
  · exact Work.freeSlot_orderedTo
  · exact .refl _ _

theorem Work.releaseOverlap_orderedTo (secs : List Nat) :
    Live.SamePart ElementRec.orderedTo w.live (w.releaseOverlap e n secs).live := by
  have hunlock : Live.SamePart ElementRec.orderedTo w.live (w.releaseSections e n secs).live :=
    Live.samePart_of_mapped (fun p r => ElementRec.unlocked n (w.live.releasedPoints e n secs) p r)
      (Live.unlockPoints_elements n _ (w.live.unlockSections n secs)) fun p r => r.unlocked_orderedTo n _ p
  refine hunlock.trans (Work.withSlot_orderedTo fun x r => ?_)
  refine Live.SamePart.trans ?_ Work.freeIfDone_orderedTo
  split <;> exact Live.samePart_of_elements rfl

theorem Work.overlapExpire_orderedTo : Live.SamePart ElementRec.orderedTo w.live (w.overlapExpire e n).live := by
  refine Work.withSlot_orderedTo fun x r => ?_
  split
  · exact (Live.samePart_of_elements rfl).trans (Work.releaseOverlap_orderedTo _)
  · exact .refl _ _

theorem Work.startOverlap_orderedTo : Live.SamePart ElementRec.orderedTo w.live (w.startOverlap e n).live := by
  refine Work.withSlot_orderedTo fun x r => ?_
  split
  · refine Live.SamePart.trans (b := (w.slotTo n (Slot.timed e r)).live) (Live.samePart_of_elements rfl) ?_
    dsimp only
    split
    · exact Work.overlapExpire_orderedTo
    · exact .refl _ _
  · exact .refl _ _

/-- A slot that still holds an OCCUPIED path section is not freed by the start of its overlap timing. -/
theorem Work.startOverlap_stays {x : Slot} {r : RouteEntry} {sec : Nat} {y : SectionRec} (hx : w.live.slot n = some x)
    (hr : Map.find x.route e.tables.routes = some r) (hs : x.state = .entered) (hsec : sec ∈ r.path)
    (hy : w.live.sectionAt sec = some y) (hocc : y.state = .occupied) (hheld : w.live.holder sec = some (n, .path)) :
    ∃ z, (w.startOverlap e n).live.slot n = some z ∧ z = { x with overlap := z.overlap, timer := z.timer } := by
  by_cases hstart : x.startsOverlap
  · rw [Work.startOverlap_found hx hr hstart]
    split
    · have hv := Work.slotTo_found hx (Slot.timed e r)
      obtain ⟨v, z, hz, hzeq, hsections, -, -, -, -, -, -, -, -, -, -, hstay⟩ :=
        Work.overlapExpire_released (before := w) hr hs rfl (fun m hm => Work.slotTo_other hm _ w) hv
      have hgiven : ¬ w.live.vacatedOverlap r sec := by
        rintro ⟨-, u, hu, hfree⟩
        cases hy.symm.trans hu
        exact hfree hocc
      have hkept := (hsections sec y hy).2 (.inl hgiven)
      rw [hstay (.inr fun hc => hc sec hsec (by
        rw [← hheld]
        unfold Live.holder
        rw [hkept, hy]))]
      exact ⟨z, hz, by rw [hzeq]⟩
    · exact ⟨_, Work.slotTo_found hx _, rfl⟩
  · rw [Work.startOverlap_idle hx hstart]
    exact ⟨x, hx, rfl⟩

end

/-- Settles O21: in CLEARING and CLEAR an entry or a replacement, in ENTERED marks and releases, in a timed release an entry. -/
theorem entryOrReplacement : Obligations.EntryOrReplacement := by
  refine ⟨fun e n sec x r y g w hx hr hstate hsec hy hclear hg => ?_, fun e n sec x r w hx hr => ?_⟩
  · intro entry marks ordered
    have hlocked : r.lockedSections.contains sec = true := List.contains_iff_mem.mpr hsec
    have hnotclear : w.live.isClear sec = false := Bool.eq_false_iff.mpr fun h => by
      obtain ⟨z, hz, hc⟩ := Live.isClear_iff.mp h
      cases hy.symm.trans hz
      exact hclear hc
    have hfirst : (r.path.head? == some sec && (w.live.sectionAt sec).any (fun y => y.state == .occupied)) = true ↔ entry := by
      simp [entry, hy]
    have hon : w.onSection e sec n =
        if r.path.head? == some sec && (w.live.sectionAt sec).any (fun y => y.state == .occupied) then w.enterTrain e n r sec
        else w.replace e n 1 sec := by
      rw [Work.onSection, Work.withSlot_found hx hr]
      rcases hstate with h | h <;> simp only [h, hlocked, hnotclear, Bool.not_false, Bool.and_self, if_true]
    let v := (w.slotTo n (fun x => { x.mark r sec with state := .entered })).orderEntry e n r .danger
    have hv : v.live.slot n = some { x with state := .entered, aspect := some .danger, marks := marks } :=
      Work.orderEntry_self (w := w.slotTo n (fun x => { x.mark r sec with state := .entered })) (Work.slotTo_found hx _)
    have hvordered : SignalOrdered e r.entrySignal .danger w v :=
      Work.orderEntry_ordered (w := w.slotTo n (fun x => { x.mark r sec with state := .entered })) hg
    have hvstands : w.live.HoldingsStand n v.live := hvordered.holdingsStand fun m hm =>
      (Work.orderEntry_other hm).trans (Work.slotTo_other hm _ w)
    refine ⟨?_, fun hentry hheld => ?_, fun hentry => ?_, fun hentry => ?_⟩
    · rw [hon]
      split
      · exact Live.ordered_same Work.startOverlap_orderedTo hvordered.ordered
      · exact (Work.replace_replaced hx hr hstate (by decide) hg).ordered.ordered
    · rw [hon, if_pos (hfirst.mpr hentry)]
      have hsections : v.live.sections = w.live.sections := hvstands.1
      obtain ⟨z, hz, hzeq⟩ := Work.startOverlap_stays (e := e) (r := r) (sec := sec) (y := y) hv hr rfl
        (List.mem_of_mem_head? hentry.1) (by rw [Live.sectionAt, hsections]; exact hy) hentry.2
        (by rw [Live.holder_congr hsections]; exact hheld)
      exact ⟨z, hz, by rw [hzeq], by rw [hzeq], by rw [hzeq], by rw [hzeq], by rw [hzeq]⟩
    · rw [hon, if_pos (hfirst.mpr hentry)]
      exact ⟨v, rfl, ⟨hvordered, hvstands⟩, Work.orderEntry_reports.2, hv, hvstands.1, Work.orderEntry_reports.1⟩
    · rw [hon, if_neg (mt hfirst.mp hentry)]
      have k := Work.replace_replaced (number := sec) hx hr hstate (show 1 ≠ 6 by decide) hg
      exact ⟨⟨k.ordered, k.stands⟩, k.scan, k.slot, k.reports⟩
  · intro occupied after marked becomes
    have hoccupied : (w.live.sectionAt sec).any (fun y => y.state == .occupied) = true ↔ occupied := by
      simp [Option.any_eq_true, occupied]
    have hmarked (f : Slot → Slot) (z : Slot) (hz : f x = z) : becomes (w.slotTo n f) z :=
      ⟨hz ▸ Work.slotTo_found hx f, fun m hm => Work.slotTo_other hm f w, rfl⟩
    refine ⟨fun hstate h => ?_, fun hstate => ?_, fun hstate => ?_⟩
    · have hfirst : ¬ (r.path.head? == some sec &&
          (w.live.sectionAt sec).any (fun y => y.state == .occupied)) = true := by
        rw [Bool.and_eq_true, hoccupied, beq_iff_eq]
        rintro ⟨hhead, y, hy, hocc⟩
        obtain hout | ⟨z, hz, hclear⟩ := h
        · exact hout (List.mem_append_left _ (List.mem_of_mem_head? hhead))
        · cases hy.symm.trans hz
          exact absurd (hocc.symm.trans hclear) (by decide)
      have hlocked : ¬ (r.lockedSections.contains sec && !w.live.isClear sec) = true := by
        rw [Bool.and_eq_true, List.contains_iff_mem, Bool.not_eq_true', Bool.eq_false_iff, ne_eq, Live.isClear_iff]
        rintro ⟨hin, hnot⟩
        exact h.elim (fun hout => hout hin) hnot
      show w.onSection e sec n = w
      rw [Work.onSection, Work.withSlot_found hx hr]
      rcases hstate with hs | hs <;> simp only [hs, if_neg hfirst, if_neg hlocked]
    · have hon : after = w.sectionInEntered e sec n := by
        show w.onSection e sec n = _
        rw [Work.onSection, Work.withSlot_found hx hr]
        simp only [hstate]
      intro later
      rw [Work.sectionInEntered, Work.withSlot_found hx hr] at hon
      have hpath : r.path.contains sec = true ↔ sec ∈ r.path := List.contains_iff_mem
      have hlater : (r.overlap.contains sec && x.overlap == some .timing && x.timer.isNone &&
          w.live.holder sec == some (n, .overlap) &&
          (w.live.sectionAt sec).any (fun y => y.state != .occupied)) = true ↔ later := by
        simp only [Bool.and_eq_true, List.contains_iff_mem, beq_iff_eq, Option.isNone_iff_eq_none, Option.any_eq_true,
          bne_iff_ne, and_assoc, later]
      refine ⟨fun hin hocc => ?_, fun hin hocc => ?_, fun hin hl => ?_, fun hin hl => ?_⟩
      · rw [if_pos (hpath.mpr hin)] at hon
        dsimp only at hon
        rw [if_pos (hoccupied.mpr hocc)] at hon
        exact ⟨_, hmarked (Slot.mark r sec) _ rfl, rfl, rfl, hon⟩
      · rw [if_pos (hpath.mpr hin)] at hon
        dsimp only at hon
        rwa [if_neg (mt hoccupied.mp hocc)] at hon
      · rw [if_neg (mt hpath.mp hin), if_pos (hlater.mpr hl)] at hon
        obtain ⟨-, htiming, htimer, -⟩ := hl
        have hsame : x = { x with timer := none, overlap := some .timing } := by
          rw [← htiming, ← htimer]
        have k := Work.releaseOverlap_released (e := e) (secs := [sec]) (before := w) (v := w) hr hstate rfl (fun _ _ => rfl)
          (hx.trans (congrArg some hsame))
        simp only [List.mem_singleton] at k
        rwa [hon]
      · rwa [if_neg (mt hpath.mp hin), if_neg (mt hlater.mp hl)] at hon
    · intro entry
      have hentry : (r.path.head? == some sec && (w.live.sectionAt sec).any (fun y => y.state == .occupied) &&
          (x.timer.bind (fun y => y.cause)) == some .approach) = true ↔ entry := by
        simp only [Bool.and_eq_true, hoccupied, beq_iff_eq, Option.bind_eq_some_iff, and_assoc, entry]
      have hon : after = if r.path.head? == some sec && (w.live.sectionAt sec).any (fun y => y.state == .occupied) &&
          (x.timer.bind (fun y => y.cause)) == some .approach then w.passedAfterCancel e n r sec else w := by
        show w.onSection e sec n = _
        rw [Work.onSection, Work.withSlot_found hx hr]
        simp only [hstate]
      refine ⟨fun h => ?_, fun h => ?_⟩
      · let v := (w.slotTo n (fun x => { x.mark r sec with state := .entered, timer := none })).report e .a
          .signalPassedAfterCancel .slot n (some x.route)
        have hv : v = _ := Work.report_rest ..
        refine ⟨v, ⟨?_, fun m hm => ?_, ?_⟩, ?_, ?_⟩
        · rw [hv]
          exact Work.slotTo_found hx (fun x => { x.mark r sec with state := .entered, timer := none })
        · rw [hv]
          exact Work.slotTo_other hm (fun x => { x.mark r sec with state := .entered, timer := none }) w
        · rw [hv]
          rfl
        · rw [hon, if_pos (hentry.mpr h)]
          simp only [Work.passedAfterCancel, hx]
          rfl
        · refine Live.offer_reports_congr ?_ ..
          rfl
      · rw [hon, if_neg (mt hentry.mp h)]

end Sys2Proof.Machine
end

section
/-! PROOFS. The cancellation of a route (Chapters 4 and 7; R74, R120 to R122). -/

namespace Sys2Proof.Machine

/-! ## Work that touches one slot's record -/

/-- Work that touches the record of slot n, and makes a scan due, at most. -/
structure Work.SlotOnly (n : Nat) (before after : Work) : Prop where
  rest : after = { before with live := { before.live with slots := after.live.slots }, scan := after.scan }
  other : ∀ m ≠ n, after.live.slot m = before.live.slot m

section
variable {e : Env} {g n : Nat} {a : Aspect} {r : RouteEntry} {w before after : Work}

theorem Work.slotTo_slotOnly (n : Nat) (f : Slot → Slot) (w : Work) : Work.SlotOnly n w (w.slotTo n f) :=
  ⟨rfl, fun _ hm => Work.slotTo_other hm f w⟩

theorem Work.SlotOnly.scanIf (h : Work.SlotOnly n before after) (b : Bool) : Work.SlotOnly n before (after.scanIf b) := by
  obtain ⟨hrest, hother⟩ := h
  refine ⟨?_, fun m hm => by rw [Work.scanIf_live]; exact hother m hm⟩
  cases b
  · exact hrest
  · exact congrArg Work.scanDue hrest

theorem Work.SlotOnly.trans {between : Work} (h : Work.SlotOnly n before between) (k : Work.SlotOnly n between after) :
    Work.SlotOnly n before after := by
  obtain ⟨hrest, hother⟩ := h
  obtain ⟨krest, kother⟩ := k
  exact ⟨krest.trans (by rw [hrest]), fun m hm => (kother m hm).trans (hother m hm)⟩

theorem Work.SlotOnly.holdingsStand (h : Work.SlotOnly n before after) : before.live.HoldingsStand n after.live := by
  obtain ⟨hrest, hother⟩ := h
  exact .of_slots (by rw [hrest]) (by rw [hrest]) (by rw [hrest]) (by rw [hrest]) (by rw [hrest]) hother

theorem SignalOrdered.slotOnly {between : Work} (h : SignalOrdered e g a before between) (k : Work.SlotOnly n between after) :
    SignalOrdered e g a before after := by
  rw [k.rest]
  exact h

/-! ## What a cancellation begins with -/

/-- The end of a cancellation: the slot is freed, or timed (R121, R122). -/
theorem Work.cancelCleared_found {x : Slot} (hx : w.live.slot n = some x) : ∃ v, Work.SlotOnly n w v ∧
    (w.live.releasableAtOnce r = true → w.cancelCleared e n r = v.freeSlot e n ∧ v.live.slot n = some { x with fleet := 0 }) ∧
    (w.live.releasableAtOnce r = false → w.cancelCleared e n r = (if r.approachTime = 0 then v.freeSlot e n else v) ∧
      v.live.slot n = some { x with
        state := .timedRelease, fleet := 0, held := none
        timer := some { expiry := e.clock + r.approachTime * 10, cause := some .approach } } ∧
      v.scan = (w.scan || (x.state == .clearing || x.state == .clear || x.state == .entered))) := by
  let u := w.slotTo n (fun x => { x with fleet := 0 })
  have hu : u.live.slot n = some { x with fleet := 0 } := Work.slotTo_found hx _
  have hslots : Work.SlotOnly n w u := Work.slotTo_slotOnly ..
  cases hreleasable : w.live.releasableAtOnce r with
  | true => exact ⟨u, hslots, fun _ => ⟨if_pos hreleasable, hu⟩, fun h => absurd h (by simp)⟩
  | false =>
    let v := (u.slotTo n (fun x => { x with
      state := .timedRelease, fleet := 0, held := none
      timer := some { expiry := e.clock + r.approachTime * 10, cause := some .approach } })).scanIf
        (x.state == .clearing || x.state == .clear || x.state == .entered)
    refine ⟨v, hslots.trans ((Work.slotTo_slotOnly ..).scanIf _), fun h => absurd h (by simp), fun _ => ⟨?_, ?_, ?_⟩⟩
    · have hno : u.live.releasableAtOnce r ≠ true := ne_true_of_eq_false hreleasable
      refine (if_neg hno).trans ?_
      show Work.timedRelease e n .approach r.approachTime u = _
      simp only [Work.timedRelease, hu]
      rfl
    · rw [Work.scanIf_live]
      exact Work.slotTo_found hu _
    · exact Work.scanIf_scan ..

end

/-- What a cancellation of a slot that has begun to clear takes first: in CLEARING and CLEAR the order of DANGER (R120). -/
def Work.cancelOrder (e : Env) (n : Nat) (x : Slot) (r : RouteEntry) (w : Work) : Work :=
  if x.state = .replaced then w else w.orderEntry e n r .danger

section
variable {e : Env} {n : Nat} {x : Slot} {r : RouteEntry} {w : Work}

theorem Work.cancelOrder_slot (hx : w.live.slot n = some x) : (w.cancelOrder e n x r).live.slot n =
    some { x with aspect := if x.state = .replaced then x.aspect else some .danger } := by
  unfold Work.cancelOrder
  split
  · exact hx
  · exact Work.orderEntry_self hx

theorem Work.cancelOrder_rest : (w.cancelOrder e n x r).live.reports = w.live.reports ∧
    (w.cancelOrder e n x r).live.links = w.live.links ∧ (w.cancelOrder e n x r).scan = w.scan := by
  unfold Work.cancelOrder
  split
  · exact ⟨rfl, rfl, rfl⟩
  · unfold Work.orderEntry
    rw [Work.orderSignal_rest]
    exact ⟨rfl, rfl, rfl⟩

/-- Nothing is ordered without a signal's record, or in REPLACED. -/
theorem Work.cancelOrder_slotOnly (h : x.state = .replaced ∨ w.live.signal r.entrySignal = none) :
    Work.SlotOnly n w (w.cancelOrder e n x r) := by
  unfold Work.cancelOrder
  split
  · exact ⟨rfl, fun _ _ => rfl⟩
  · next hstate =>
    have hnone := h.resolve_left hstate
    rw [Work.orderEntry, Work.orderSignal_none (w := w.slotTo n _) hnone]
    exact Work.slotTo_slotOnly ..

theorem Work.cancelOrder_ordered {g : SignalRec} (hstate : x.state ≠ .replaced) (hg : w.live.signal r.entrySignal = some g) :
    SignalOrdered e r.entrySignal .danger w (w.cancelOrder e n x r) := by
  rw [Work.cancelOrder, if_neg hstate]
  exact Work.orderEntry_ordered hg

theorem Work.cancelOrder_stands : w.live.HoldingsStand n (w.cancelOrder e n x r).live := by
  by_cases hstate : x.state = .replaced
  · exact (Work.cancelOrder_slotOnly (.inl hstate)).holdingsStand
  cases hg : w.live.signal r.entrySignal with
  | none => exact (Work.cancelOrder_slotOnly (.inr hg)).holdingsStand
  | some g =>
    rw [Work.cancelOrder, if_neg hstate]
    exact Work.orderEntry_stands hg

end

theorem Live.releasableAtOnce_iff {r : RouteEntry} {l : Live} : l.releasableAtOnce r = true ↔
    r.approach ≠ [] ∧ ∀ sec ∈ r.approach ++ r.path, l.isClear sec = true := by
  simp only [Live.releasableAtOnce, Bool.and_eq_true, Bool.not_eq_true', List.isEmpty_eq_false_iff, List.all_eq_true,
    List.mem_append, or_imp, forall_and, and_assoc]

theorem Live.releasableAtOnce_congr {a b : Live} (h : a.sections = b.sections) (r : RouteEntry) :
    a.releasableAtOnce r = b.releasableAtOnce r := by
  have hclear : a.isClear = b.isClear := funext fun sec => by simp only [Live.isClear, Live.sectionAt, h]
  simp only [Live.releasableAtOnce, hclear]

theorem State.cancelsSlot_clears {r : RouteEntry} {n : Nat} {x : Slot} {s : State}
    (h : x.state = .clearing ∨ x.state = .clear ∨ x.state = .replaced) : s.cancelsSlot r n x =
      (s.doing (fun e w => (w.cancelOrder e n x r).cancelCleared e n r)).answers
        (.plain (if s.live.releasableAtOnce r then .done else .accepted)) := by
  obtain h | h | h := h <;> simp [State.cancelsSlot, Work.cancelOrder, h]

theorem filter_request {route : Nat} {q : Request} {a b : List Request} (hq : q.route = route)
    (hother : ∀ x ∈ a ++ b, x.route ≠ route) : (a ++ q :: b).filter (fun x => x.route != route) = a ++ b := by
  have hkeep : (a ++ b).filter (fun x => x.route != route) = a ++ b :=
    List.filter_eq_self.mpr fun x hx => bne_iff_ne.mpr (hother x hx)
  rw [List.filter_append] at hkeep
  rw [List.filter_append, List.filter_cons_of_neg (by simp [hq]), hkeep]

/-- Settles O12: a slot that has begun to clear is cancelled by its order, and then freed or timed. -/
theorem cancelByWhereTheRouteStands : Obligations.CancelByWhereTheRouteStands := by
  refine ⟨fun tag route s hs => ⟨fun hm => control_refused hs (by simp [routeCancel, hm]), fun hm hr =>
    control_refused hs (by simp [routeCancel, hm, hr]), fun hm hsome => ?_⟩,
    fun tag route n r x s hs hm hr hreq hslot hx => ?_⟩
  · obtain ⟨r, hr⟩ := Option.isSome_iff_exists.mp hsome
    refine ⟨fun q a b hq hother hwaiting => control_answered hs ?_, fun hreq hslots => control_refused hs ?_⟩
    · have hfound : (s.live.requestOf route).isSome = true :=
        List.find?_isSome.mpr ⟨q, by simp [hwaiting], beq_iff_eq.mpr hq⟩
      have hdrop : s.live.dropRequest route = { s.live with waiting := a ++ b } := by
        rw [Live.dropRequest, hwaiting, filter_request hq hother]
      simp [routeCancel, hm, hr, hfound, hdrop]
    · have hnone : s.live.requestOf route = none := List.find?_eq_none.mpr fun q hq => by simpa using hreq q hq
      have hfree : s.live.slotOf route = none := List.find?_eq_none.mpr fun y hy => by simpa using hslots y hy
      simp [routeCancel, hm, hr, hnone, hfree]
  · have hrule : routeCancel route s = s.cancelsSlot r n x := by simp [routeCancel, hm, hr, hreq, hslot]
    refine ⟨fun h => control_refused hs (hrule.trans ?_), fun h => control_answered hs (hrule.trans ?_), fun h => ?_⟩
    · obtain h | h := h <;> simp [State.cancelsSlot, h]
    · obtain h | h | h := h <;> simp only [State.cancelsSlot, h] <;> rfl
    · let base := s.work.cancelOrder s.env n x r
      have hbase : s.live.HoldingsStand n base.live := Work.cancelOrder_stands (w := s.work)
      obtain ⟨hreports, hlinks, hscan⟩ := Work.cancelOrder_rest (e := s.env) (n := n) (x := x) (r := r) (w := s.work)
      have hreleasable : base.live.releasableAtOnce r = s.live.releasableAtOnce r := Live.releasableAtOnce_congr hbase.1 r
      obtain ⟨v, honly, hnow, hlater⟩ :=
        Work.cancelCleared_found (e := s.env) (r := r) (Work.cancelOrder_slot (e := s.env) (r := r) (w := s.work) hx)
      rw [hreleasable] at hnow hlater
      have hexec := control_answered (tag := tag) (kind := 2) (detail := none) hs (hrule.trans (State.cancelsSlot_clears h))
      have hordered (hstate : x.state ≠ .replaced) {y} (hy : s.live.signal r.entrySignal = some y) :
          SignalOrdered s.env r.entrySignal .danger s.work v := (Work.cancelOrder_ordered hstate hy).slotOnly honly
      have hend : base.cancelCleared s.env n r = v.freeSlot s.env n ∨ base.cancelCleared s.env n r = v := by
        cases hr : s.live.releasableAtOnce r with
        | true => exact .inl (hnow hr).1
        | false =>
          rw [(hlater hr).1]
          split
          · exact .inl rfl
          · exact .inr rfl
      have hroute : ∃ y, v.live.slot n = some y ∧ y.route = x.route := by
        cases hr : s.live.releasableAtOnce r with
        | true => exact ⟨_, (hnow hr).2, rfl⟩
        | false => exact ⟨_, (hlater hr).2.1, rfl⟩
      refine ⟨v, base.cancelCleared s.env n r, fun hat => ?_, fun hnot => ?_, hroute, ?_, ?_, ?_, fun hnone => ?_,
        fun hstate y hy => hordered hstate hy, fun hstate y hy => ?_⟩
      · have hyes := Live.releasableAtOnce_iff.mpr hat
        obtain ⟨hw, hv⟩ := hnow hyes
        rw [if_pos hyes] at hexec
        exact ⟨hw, by rw [hw]; exact (freeingEmptiesTheSlot s.env n _ v hv).1, hexec⟩
      · have hno := eq_false_of_ne_true (mt Live.releasableAtOnce_iff.mp hnot)
        obtain ⟨hw, hv, hvscan⟩ := hlater hno
        rw [if_neg (by simp [hno])] at hexec
        refine ⟨hexec, fun hpos => ?_, fun hzero => ?_⟩
        · rw [if_neg (by omega)] at hw
          refine ⟨hw, by rw [hw]; exact hv, ?_⟩
          rw [hw, hvscan, hscan]
          obtain h | h | h := h <;> simp [h, State.work]
        · rw [if_pos hzero] at hw
          exact ⟨hw, by rw [hw]; exact (freeingEmptiesTheSlot s.env n _ v hv).1⟩
      · rw [honly.rest]
        exact hreports
      · rw [honly.rest]
        exact hlinks
      · exact hbase.trans honly.holdingsStand
      · have hsame := (Work.cancelOrder_slotOnly (e := s.env) hnone).trans honly
        rw [hsame.rest]
        exact ⟨rfl, rfl, rfl, rfl⟩
      · have hv := (hordered hstate hy).ordered
        obtain hw | hw := hend <;> rw [hw]
        · exact Live.ordered_same Work.freeSlot_orderedTo hv
        · exact hv

end Sys2Proof.Machine
end

section
/-! PROOFS. The Order Gate (Chapter 9; R146 to R152). -/

namespace Sys2Proof.Machine

theorem State.queueIsFull_iff {s : State} : s.live.queueFull = true ↔ s.queueIsFull := Live.queueFull_iff

theorem State.orderWaits_iff {n : Nat} {s : State} : s.live.hasOrder n = true ↔ s.orderWaits n := by
  simp only [Live.hasOrder, Bool.or_eq_true, Live.queued_iff, Option.isSome_iff_ne_none, State.orderWaits]

theorem State.canPlace_iff {n : Nat} {s : State} : s.live.canPlace n = true ↔ ¬ s.queueIsFull ∨ s.orderWaits n := by
  rw [Live.canPlace, Bool.or_eq_true, State.orderWaits_iff, Bool.not_eq_true', ← Bool.not_eq_true, State.queueIsFull_iff]

/-! ## The pending order of a signal that is ordered -/

section
variable {t : Tables} {e : Env} {n g : Nat} {o : Order} {a : Aspect} {r : SignalRec} {l : Live} {w : Work}

/-- A queue that can take an order leaves no pending order but one that was pending. -/
theorem Live.placeOrder_pending (h : l.canPlace n = true) :
    (l.placeOrder t n o).pendingOrder n = (l.pendingOrder n).map (fun _ => o) := by
  unfold Live.placeOrder
  split
  · rw [Live.changeOrder_pending, if_pos rfl]
  · next hhas =>
    have hfull : l.queueFull ≠ true := by simpa [Live.canPlace, hhas] using h
    have hnone : l.pendingOrder n = none := by
      simp only [Live.hasOrder, Bool.or_eq_true, not_or, Bool.not_eq_true, Option.isSome_eq_false_iff, Option.isNone_iff_eq_none] at hhas
      exact hhas.2
    rw [if_neg hfull, hnone]
    exact hnone

/-- An element's record with its pending order kept takes no place of the queue. -/
theorem Live.setElement_canPlace {x y : ElementRec} (hx : Map.find n l.elements = some x) (hy : y.pendingOrder = x.pendingOrder)
    (h : l.canPlace n = true) : (l.setElement n y).canPlace n = true := by
  have hpending : (l.setElement n y).pendingOrder n = l.pendingOrder n := by
    rw [Live.pendingOrder, Live.pendingOrder, Live.setElement_elements, Map.find_put_self, hx]
    exact hy
  have hhas : (l.setElement n y).hasOrder n = l.hasOrder n := by
    rw [Live.hasOrder, Live.hasOrder, hpending]
    rfl
  rw [Live.canPlace, hhas]
  cases hwaits : l.hasOrder n with
  | true => simp
  | false =>
    have hfull : l.queueFull ≠ true := by simpa [Live.canPlace, hwaits] using h
    have hnone : y.pendingOrder = none := by
      simp only [Live.hasOrder, Bool.or_eq_false_iff, Option.isSome_eq_false_iff, Option.isNone_iff_eq_none] at hwaits
      rw [hy]
      simpa [Live.pendingOrder, hx] using hwaits.2
    have : (l.setElement n y).queueFull ≠ true := fun hnew => hfull <| Live.queueFull_iff.mpr <|
      (Live.queueFull_iff.mp hnew).imp_right fun ⟨z, hz, hsome⟩ => by
        obtain rfl | hmem := Map.mem_put hz
        · exact absurd hnone hsome
        · exact ⟨z, hmem, hsome⟩
    simpa using this

/-- A signal that can be ordered holds an order as pending only where it held one. -/
theorem Work.orderSignal_pending (hr : w.live.signal g = some r) (h : w.live.canPlace g = true) :
    (w.orderSignal e g a).live.pendingOrder g = r.pendingOrder.map (fun _ => .aspect a) := by
  have hfound := Live.signal_some.mp hr
  let ordered : SignalRec := { r with commanded := a, proving := some (e.clock + e.tables.provingTime g) }
  have hplace : (w.live.setElement g (.signal ordered)).canPlace g = true := Live.setElement_canPlace hfound rfl h
  have hpending : (w.live.setElement g (.signal ordered)).pendingOrder g = r.pendingOrder := by
    rw [Live.pendingOrder, Live.setElement_elements, Map.find_put_self]
    rfl
  rw [Work.orderSignal_found hr, Work.reprove_live]
  show (Live.placeOrder e.tables g (.aspect a) (w.live.setElement g (.signal ordered))).pendingOrder g = _
  rw [Live.placeOrder_pending hplace, hpending]

/-- A slot in CLEARING or CLEAR whose entry signal the gate has ordered (R91, cause 6). -/
theorem Work.replace_ordered {x : Slot} {z : RouteEntry} {number : Nat} (hx : w.live.slot n = some x)
    (hz : Map.find x.route e.tables.routes = some z) (h : x.state = .clearing ∨ x.state = .clear) : w.replace e n 6 number =
      ((w.slotTo n (fun x => { x with state := .replaced, aspect := some .danger })).report e .a .signalReplaced .slot n
        (some (1000 * 6 + number))).scanDue := by
  rw [Work.replace, Work.withSlot_found hx hz, if_pos (by simpa using h)]
  rfl

/-- The gate's DANGER order for a signal is a signal order, whatever comes of the slot (R150, R151). -/
theorem Work.gateDanger_ordered (hr : w.live.signal g = some r) :
    SignalOrdered e g .danger w (w.gateDanger e g r) ∧
    (w.gateDanger e g r).live.pendingOrder g = (w.orderSignal e g .danger).live.pendingOrder g := by
  have hordered : SignalOrdered e g .danger w (w.orderSignal e g .danger) := Work.orderSignal_ordered hr
  unfold Work.gateDanger
  cases r.entryOf with
  | none => exact ⟨hordered, rfl⟩
  | some n =>
    show SignalOrdered e g .danger w ((w.orderSignal e g .danger).replace e n 6 g) ∧
      ((w.orderSignal e g .danger).replace e n 6 g).live.pendingOrder g = _
    simp only [Work.replace, Work.withSlot, ↓reduceIte]
    split
    · exact ⟨hordered, rfl⟩
    · split
      · exact ⟨hordered, rfl⟩
      · split
        · rw [Work.report_rest]
          exact ⟨hordered, rfl⟩
        · exact ⟨hordered, rfl⟩

end

/-! ## The checks of a point order -/

section
variable {n : Nat} {p : Position} {r : PointRec} {s : State}

theorem Live.pointHolder_none {l : Live} (hr : l.point n = some r) (h : ¬ l.pointHeld n) :
    l.pointHolder n r = none ∧ r.routeLock = none ∧ l.claimed n = false := by
  have hlock : r.routeLock = none := by
    by_contra hsome
    exact h (.inl ⟨r, hr, hsome⟩)
  have hfree : ∀ c ∈ l.claims, c.element ≠ n := fun c hc hn => h (.inr ⟨c, hc, hn⟩)
  have hslots : l.claimSlots n = [] := by
    simpa [Live.claimSlots, List.filter_eq_nil_iff] using hfree
  exact ⟨by simp [Live.pointHolder, hlock, hslots], hlock, by simpa [Live.claimed] using hfree⟩

/-- Of the slots that claim a point the lowest holds it (R147). -/
theorem Live.pointHolder_claimed {l : Live} {c : Claim} (hlock : r.routeLock = none) (hc : c ∈ l.claims) (hn : c.element = n)
    (hleast : ∀ d ∈ l.claims, d.element = n → c.slot ≤ d.slot) : l.pointHolder n r = some c.slot := by
  simp only [Live.pointHolder, hlock]
  refine List.min?_eq_some_iff.mpr ⟨?_, fun m hm => ?_⟩
  · exact List.mem_map_of_mem (List.mem_filter.mpr ⟨hc, beq_iff_eq.mpr hn⟩)
  · obtain ⟨d, hd, rfl⟩ := List.mem_map.mp hm
    obtain ⟨hd, hdn⟩ := List.mem_filter.mp hd
    exact hleast d hd (beq_iff_eq.mp hdn)

theorem Live.movable_iff {l : Live} {sec : Nat} :
    l.movable sec = true ↔ l.isClear sec = true ∨ l.possessionOf sec ≠ none := by
  rw [Live.movable, Bool.or_eq_true, Option.isSome_iff_ne_none]

/-- A point that nothing holds and that stands still takes the gate's order. -/
theorem Work.orderPoint_free {e : Env} {w : Work} (hr : w.live.point n = some r) (h : ¬ w.live.pointHeld n)
    (hstill : r.movement = none) : w.orderPoint e n p = w.on (Live.takePointOrder e n p r) := by
  obtain ⟨-, hlock, hclaimed⟩ := Live.pointHolder_none hr h
  have hagainst : w.live.claimedAgainst n p = false := by
    simp only [Live.claimed, List.any_eq_false, beq_iff_eq] at hclaimed
    simp only [Live.claimedAgainst, List.any_eq_false, Bool.and_eq_true, beq_iff_eq, not_and]
    exact fun c hc hn => absurd hn (hclaimed c hc)
  simp [Work.orderPoint, hr, hstill, PointRec.lockedAgainst, hlock, hagainst]

/-- The checks of R147, as they are reached. -/
theorem State.gatePoint_held {slot : Nat} (hs : r.supervised = true) (h : s.live.pointHolder n r = some slot) :
    s.gatePoint n p r = s.refuses (.with .lockedIn slot) := by
  simp [State.gatePoint, hs, h]

end

/-- Settles O25: the gate's checks in order, and its two kinds of order. -/
theorem elementOrderDecided : Obligations.ElementOrderDecided := by
  refine ⟨fun tag n order s hs => ⟨fun h => control_refused_with hs ?_, fun p hn ho => ?_⟩,
    fun tag g order a s hs hg ho => ?_⟩
  · by_cases hn : 511 < n
    · exact if_pos hn
    · rw [elementOrder, if_neg hn, h.resolve_left hn]
  · have hrule : elementOrder n order s =
        if s.mode.operating then s.gate n (.position p) else s.refuses (.with .mode 0) := by
      rw [elementOrder, if_neg (by omega), ho]
    refine ⟨fun hm => control_refused_with hs (by simp [hrule, hm]), fun hm => ?_⟩
    replace hrule : elementOrder n order s = s.gate n (.position p) := hrule.trans (if_pos hm)
    refine ⟨fun hnone => control_refused_with hs (by simp [hrule, State.gate, hnone]), fun y hy hpoint =>
      control_refused_with hs (hrule.trans ?_), fun r sec hr hsec => ?_⟩
    · cases y with
      | point r => exact absurd (Live.point_some.mpr hy) (by simp [hpoint])
      | signal r => simp [State.gate, hy]
      | head r => simp [State.gate, hy]
    · replace hrule : elementOrder n order s = s.gatePoint n p r := hrule.trans (by simp [State.gate, Live.point_some.mp hr])
      refine ⟨fun h => control_refused_with hs (hrule.trans (by simp [State.gatePoint, h])), fun h slot q hlock =>
        control_refused_with hs (hrule.trans (State.gatePoint_held h (by simp [Live.pointHolder, hlock]))), fun h hlock c hc hcn
        hleast => control_refused_with hs (hrule.trans (State.gatePoint_held h (Live.pointHolder_claimed hlock hc hcn hleast))),
        fun ⟨hsup, hfree⟩ hmoves => control_refused_with hs (hrule.trans ?_), fun ⟨hsup, hfree⟩ hstill hfull =>
        control_refused_with hs (hrule.trans ?_), fun ⟨hsup, hfree⟩ hstill hfull => ⟨fun hclear hpossessed =>
        control_refused_with hs (hrule.trans ?_), fun hmovable => ⟨fun heval hfailed =>
        control_answered_with hs (hrule.trans ?_), fun helse => ?_⟩⟩⟩
      all_goals obtain ⟨hholder, -, -⟩ := Live.pointHolder_none hr hfree
      · simp [State.gatePoint, hsup, hholder, Option.isSome_iff_ne_none.mpr hmoves]
      · simp [State.gatePoint, hsup, hholder, hstill, State.queueIsFull_iff.mpr hfull]
      all_goals have hplace := eq_false_of_ne_true (mt State.queueIsFull_iff.mp hfull)
      · have hno : s.live.movable sec = false := by simp [Live.movable, hclear, hpossessed]
        simp [State.gatePoint, hsup, hholder, hstill, hplace, hsec, hno]
      · simp [State.gatePoint, hsup, hholder, hstill, hplace, hsec, Live.movable_iff.mpr hmovable, heval, hfailed]
      · have hnot : ¬ (r.evaluated = some p ∧ r.moveFailed = false) := by
          rintro ⟨h1, h2⟩
          simp [h1, h2] at helse
        have hgate : s.gatePoint n p r = (s.doing (fun e w => w.orderPoint e n p)).answers (.with .accepted 0) := by
          simp [State.gatePoint, hsup, hholder, hstill, hplace, hsec, Live.movable_iff.mpr hmovable, hnot]
        have hdone : s.doing (fun e w => w.orderPoint e n p) = { s with live := s.live.takePointOrder s.env n p r } := by
          rw [State.doing_eq, Work.orderPoint_free (w := s.work) hr hfree hstill, State.ending_idle _ _ rfl rfl rfl rfl]
          rfl
        rw [hdone] at hgate
        exact control_answered_with hs (hrule.trans hgate)
  · have hrule : elementOrder g order s = s.gate g (.aspect a) := by
      rw [elementOrder, if_neg (by omega), ho]
    refine ⟨fun hnone => control_refused_with hs (by simp [hrule, State.gate, hnone]), fun y hy hsignal =>
      control_refused_with hs (hrule.trans ?_), fun r hr => ?_⟩
    · cases y with
      | signal r => exact absurd (Live.signal_some.mpr hy) (by simp [hsignal])
      | point r => simp [State.gate, hy]
      | head r => simp [State.gate, hy]
    · intro clears
      have hclears (x : Nat × Slot) : ((x.2.state == .clearing || x.2.state == .clear) &&
          s.store.active.entryOf x.2 == some g) = true ↔ clears x := by simp [clears]
      have hdanger (h : a = .danger) : elementOrder g order s = s.gateSignal g r (.with .accepted 0) := by
        rw [hrule, h]
        simp [State.gate, Live.signal_some.mp hr]
      have hproceed (h : a ≠ .danger) : elementOrder g order s = s.gateProceed g r := by
        rw [hrule]
        cases a <;> simp_all [State.gate, Live.signal_some.mp hr]
      refine ⟨fun ha x hx hclear honly => control_refused_with hs ((hproceed ha).trans ?_), fun hpass => ?_⟩
      · have hsome : (s.live.slots.find? (fun x => (x.2.state == .clearing || x.2.state == .clear) &&
            s.store.active.entryOf x.2 == some g)).isSome = true := List.find?_isSome.mpr ⟨x, hx, (hclears x).mpr hclear⟩
        obtain ⟨y, hy⟩ := Option.isSome_iff_exists.mp hsome
        have hyclears := List.find?_some hy
        have hyx := honly y (List.mem_of_find?_eq_some hy) ((hclears y).mp hyclears)
        simp [State.gateProceed, Live.clearSlotAt, hy, hyx]
      · have hnoslot (h : a ≠ .danger) : s.live.clearSlotAt s.store.active g = none := by
          have hno := hpass.resolve_left h
          rw [Live.clearSlotAt, List.find?_eq_none.mpr fun x hx => mt (hclears x).mp (hno x hx), Option.map_none]
        have hgate : ∃ passed : Answer, elementOrder g order s = s.gateSignal g r passed ∧
            (a = .danger → passed = .with .accepted 0) ∧ (a ≠ .danger → passed = .with .replaced 1) := by
          by_cases ha : a = .danger
          · exact ⟨_, hdanger ha, fun _ => rfl, fun h => absurd ha h⟩
          · exact ⟨_, (hproceed ha).trans (by simp [State.gateProceed, hnoslot ha]), fun h => absurd h ha, fun _ => rfl⟩
        obtain ⟨passed, hgate, hd, hp⟩ := hgate
        refine ⟨fun hfull hnone => control_refused_with hs (hgate.trans ?_), fun hplace => ?_⟩
        · have hno : s.live.canPlace g ≠ true := mt State.canPlace_iff.mp (by tauto)
          simp [State.gateSignal, hno]
        · have hcan := State.canPlace_iff.mpr hplace
          have hgo : s.gateSignal g r passed = (s.doing (fun e w => w.gateDanger e g r)).answers passed := if_pos hcan
          obtain ⟨hordered, hpending⟩ := Work.gateDanger_ordered (e := s.env) (w := s.work) hr
          obtain ⟨r', z, hr', hz, hrest, hwaits, -⟩ := id hordered
          obtain rfl : r = r' := Option.some.inj (hr.symm.trans hr')
          have hzp : z.pendingOrder = r.pendingOrder.map (fun _ => .aspect .danger) := by
            rw [Work.orderSignal_pending (w := s.work) hr hcan, Live.pendingOrder, Live.signal_some.mp hz] at hpending
            exact hpending
          refine ⟨s.work.gateDanger s.env g r, fun ha => control_answered_with hs ?_, fun ha => control_answered_with hs ?_, ?_,
            hwaits, hordered, fun hentry => ?_, fun n x hentry hx hroute => ?_⟩
          · rw [hgate, hgo, hd ha]
            rfl
          · rw [hgate, hgo, hp ha]
            rfl
          · rw [hz, hrest, hzp]
            rfl
          · simp only [Work.gateDanger, hentry]
            rw [Work.orderSignal_rest]
            exact ⟨rfl, rfl⟩
          · let v := s.work.orderSignal s.env g .danger
            have hv : v = _ := Work.orderSignal_rest s.env g .danger s.work
            have hvslots : v.live.slots = s.live.slots := Work.orderSignal_slots ..
            have hvx : v.live.slot n = some x := (Live.slot_congr hvslots n).trans hx
            have hvreports : v.live.reports = s.live.reports := by
              rw [hv]
              rfl
            have hw : s.work.gateDanger s.env g r = v.replace s.env n 6 g := by simp only [Work.gateDanger, hentry, v]
            obtain ⟨x', hx'⟩ := Option.isSome_iff_exists.mp hroute
            refine ⟨fun hstate => ?_, fun h h' => ?_⟩
            · have hreplace := Work.replace_ordered (e := s.env) (number := g) hvx hx' hstate
              have hother : ∀ m ≠ n, (s.work.gateDanger s.env g r).live.slot m = s.live.slot m := fun m hm => by
                rw [hw, hreplace]
                exact (Live.slot_congr (Live.offer_slots ..) m).trans ((Work.slotTo_other hm _ v).trans
                  (Live.slot_congr hvslots m))
              refine ⟨?_, ?_, hordered.holdingsStand hother, ?_⟩
              · rw [hw, hreplace]
                exact (Live.slot_congr (Live.offer_slots ..) n).trans (Work.slotTo_found hvx _)
              · rw [hw, hreplace]
                rfl
              · rw [hw, hreplace]
                refine Live.offer_reports_congr ?_ ..
                exact hvreports
            · rw [hw, Work.replace_idle hvx h h']
              exact ⟨hvslots, hvreports⟩

end Sys2Proof.Machine
end

section
/-! PROOFS. The orders of a slot's points, and the entry of LOCKED (Chapter 5; R80 to R88). -/

namespace Sys2Proof.Machine

/-! ## A point order that is taken -/

/-- A point that R80 lets a slot order to a position. -/
def Live.mayOrder (l : Live) (p : Nat) (q : Position) (y : PointRec) : Prop :=
  y.evaluated ≠ some q ∧ y.supervised = true ∧ y.movement = none ∧ y.moveFailed = false ∧
    (∀ m a, y.routeLock = some (m, a) → a = q) ∧ ∀ c ∈ l.claims, c.element = p → c.required = .position q

/-- A point has begun to move to a position, with its order waiting (R48, R55). -/
def Live.movesTo (e : Env) (p : Nat) (q : Position) (y : PointRec) (l : Live) : Prop :=
  l.waits p (.position q) ∧ ∃ z, l.point p = some z ∧ z = { y with
    movement := some (q, e.clock + e.tables.moveLimit p), persistence := 0, pendingOrder := z.pendingOrder }

section
variable {e : Env} {t : Tables} {p m n : Nat} {q : Position} {o c : Order} {y : PointRec} {l : Live} {w : Work}

theorem Live.takePointOrder_ne (h : m ≠ p) :
    Map.find m (l.takePointOrder e p q y).elements = Map.find m l.elements :=
  (Live.placeOrder_ne h ..).trans (Live.setElement_ne h ..)

theorem Live.takePointOrder_moves : (l.takePointOrder e p q y).movesTo e p q y := by
  let z : PointRec := { y with movement := some (q, e.clock + e.tables.moveLimit p), persistence := 0 }
  have hz : Map.find p (l.setElement p (.point z)).elements = some (.point z) := Map.find_put_self ..
  obtain ⟨o, ho⟩ := Live.placeOrder_self (t := e.tables) (o := .position q) hz
  exact ⟨Live.placeOrder_makes hz rfl, _, Live.point_some.mpr ho, rfl⟩

/-- Placing an order leaves the orders of the other elements waiting. -/
theorem Live.placeOrder_keeps (hm : m ≠ n) (h : l.waits m c) : (l.placeOrder t n o).waits m c := by
  have hpending : (l.placeOrder t n o).pendingOrder m = l.pendingOrder m := by
    unfold Live.pendingOrder
    rw [Live.placeOrder_ne hm]
  obtain ⟨x, hx, hn, ho⟩ | hp := h
  · refine .inl ?_
    unfold Live.placeOrder
    split
    · exact ⟨x, List.mem_map.mpr ⟨x, hx, if_neg (by rw [hn]; exact hm)⟩, hn, ho⟩
    · split
      · exact ⟨x, hx, hn, ho⟩
      · exact ⟨x, List.mem_append_left _ hx, hn, ho⟩
  · exact .inr (hpending.trans hp)

theorem Live.takePointOrder_keeps (hm : m ≠ p) (h : l.waits m c) : (l.takePointOrder e p q y).waits m c := by
  refine Live.placeOrder_keeps hm (h.imp id fun hp => ?_)
  unfold Live.pendingOrder at hp ⊢
  rwa [Live.setElement_ne hm]

theorem Live.takePointOrder_rest : l.takePointOrder e p q y = { l with
    elements := (l.takePointOrder e p q y).elements, queue := (l.takePointOrder e p q y).queue } := by
  unfold Live.takePointOrder
  rw [Live.placeOrder_rest]
  rfl

theorem Live.takePointOrder_stands (hy : l.point p = some y) : l.HoldingsStand n (l.takePointOrder e p q y) := by
  obtain ⟨-, z, hz, hrest⟩ := Live.takePointOrder_moves (e := e) (p := p) (q := q) (y := y) (l := l)
  have hother (m : Nat) (hm : m ≠ p) := Live.takePointOrder_ne (e := e) (q := q) (y := y) (l := l) hm
  have hsame (k : Nat) : k ≠ p → (l.takePointOrder e p q y).point k = l.point k := fun hk => by
    unfold Live.point
    rw [hother k hk]
  refine ⟨by rw [Live.takePointOrder_rest], by rw [Live.takePointOrder_rest], fun k => ?_, fun g => ?_,
    by rw [Live.takePointOrder_rest], by rw [Live.takePointOrder_rest], fun m _ => by rw [Live.takePointOrder_rest]; rfl⟩
  · by_cases hk : k = p
    · subst hk
      rw [hz, hy, Option.map_some, Option.map_some, hrest]
    · rw [hsame k hk]
  · by_cases hg : g = p
    · subst hg
      simp only [Live.signal, Live.point_some.mp hz, Live.point_some.mp hy]
    · unfold Live.signal
      rw [hother g hg]

theorem Work.orderRequired_none (h : w.live.point p = none) : w.orderRequired e p q = w := by
  simp [Work.orderRequired, h]

/-- The test of R80 and of the order itself, for one required point. -/
theorem Work.orderRequired_idle (hy : w.live.point p = some y) (h : ¬ w.live.mayOrder p q y) : w.orderRequired e p q = w := by
  simp only [Work.orderRequired, hy]
  split
  · next htest =>
    simp only [Bool.and_eq_true, bne_iff_ne, Option.isNone_iff_eq_none, Bool.not_eq_true'] at htest
    obtain ⟨⟨⟨hevaluated, hsupervised⟩, hstill⟩, hfailed⟩ := htest
    simp only [Work.orderPoint, hy]
    refine if_pos ?_
    by_contra hnot
    simp only [hstill, Option.isSome_none, Bool.false_or, Bool.or_eq_true, not_or, Bool.not_eq_true] at hnot
    exact h ⟨hevaluated, hsupervised, hstill, hfailed, (PointRec.lockedAgainst_eq_false ..).mp hnot.1,
      (Live.claimedAgainst_eq_false ..).mp hnot.2⟩
  · rfl

theorem Work.orderRequired_moves (hy : w.live.point p = some y) (h : w.live.mayOrder p q y) :
    w.orderRequired e p q = w.on (Live.takePointOrder e p q y) := by
  obtain ⟨hevaluated, hsupervised, hstill, hfailed, hlock, hclaims⟩ := h
  have hlocked := (PointRec.lockedAgainst_eq_false ..).mpr hlock
  have hclaimed := (Live.claimedAgainst_eq_false ..).mpr hclaims
  simp [Work.orderRequired, Work.orderPoint, hy, hevaluated, hsupervised, hstill, hfailed, hlocked, hclaimed]

/-! ## The orders of a route's points, one after another -/

/-- What ordering required points leaves as it was: all but elements and queue. -/
theorem Work.orderRequired_rest : w.orderRequired e p q = { w with live := { w.live with
    elements := (w.orderRequired e p q).live.elements, queue := (w.orderRequired e p q).live.queue } } := by
  unfold Work.orderRequired
  split
  · rfl
  · split
    · rw [Work.orderPoint_rest]
    · rfl

theorem Work.orderRequired_ne (h : m ≠ p) :
    Map.find m (w.orderRequired e p q).live.elements = Map.find m w.live.elements ∧
    ∀ o, w.live.waits m o → (w.orderRequired e p q).live.waits m o := by
  cases hy : w.live.point p with
  | none =>
    rw [Work.orderRequired_none hy]
    exact ⟨rfl, fun _ => id⟩
  | some y =>
    by_cases hmay : w.live.mayOrder p q y
    · rw [Work.orderRequired_moves hy hmay]
      exact ⟨Live.takePointOrder_ne h, fun _ => Live.takePointOrder_keeps h⟩
    · rw [Work.orderRequired_idle hy hmay]
      exact ⟨rfl, fun _ => id⟩

theorem Work.orderRequired_stands : w.live.HoldingsStand n (w.orderRequired e p q).live := by
  cases hy : w.live.point p with
  | none =>
    rw [Work.orderRequired_none hy]
    exact .refl ..
  | some y =>
    by_cases hmay : w.live.mayOrder p q y
    · rw [Work.orderRequired_moves hy hmay]
      exact Live.takePointOrder_stands hy
    · rw [Work.orderRequired_idle hy hmay]
      exact .refl ..

end

/-- The required points of a route ordered in turn. -/
def Work.orderAll (e : Env) (ys : Map Position) (w : Work) : Work := ys.foldl (fun w y => w.orderRequired e y.1 y.2) w

section
variable {e : Env} {n p : Nat} {q : Position} {ys : Map Position} {y : PointRec} {x : Slot} {r : RouteEntry} {w : Work}

theorem Work.orderAll_rest : w.orderAll e ys = { w with live := { w.live with
    elements := (w.orderAll e ys).live.elements, queue := (w.orderAll e ys).live.queue } } := by
  induction ys generalizing w with
  | nil => rfl
  | cons z ys ih =>
    show (w.orderRequired e z.1 z.2).orderAll e ys = { w with live := { w.live with
      elements := ((w.orderRequired e z.1 z.2).orderAll e ys).live.elements
      queue := ((w.orderRequired e z.1 z.2).orderAll e ys).live.queue } }
    refine (ih (w := w.orderRequired e z.1 z.2)).trans ?_
    generalize ((w.orderRequired e z.1 z.2).orderAll e ys).live.elements = elements
    generalize ((w.orderRequired e z.1 z.2).orderAll e ys).live.queue = queue
    rw [Work.orderRequired_rest]

theorem Work.orderAll_stands : w.live.HoldingsStand n (w.orderAll e ys).live := by
  induction ys generalizing w with
  | nil => exact .refl ..
  | cons z ys ih => exact Work.orderRequired_stands.trans ih

theorem Work.orderAll_ne (h : p ∉ Map.ids ys) :
    Map.find p (w.orderAll e ys).live.elements = Map.find p w.live.elements ∧
    ∀ o, w.live.waits p o → (w.orderAll e ys).live.waits p o := by
  induction ys generalizing w with
  | nil => exact ⟨rfl, fun _ => id⟩
  | cons z ys ih =>
    rw [Map.ids, List.map_cons, List.mem_cons, not_or] at h
    obtain ⟨hz, hys⟩ := h
    obtain ⟨h1, h2⟩ := Work.orderRequired_ne (e := e) (q := z.2) (w := w) hz
    obtain ⟨h3, h4⟩ := ih (w := w.orderRequired e z.1 z.2) hys
    exact ⟨h3.trans h1, fun o ho => h4 o (h2 o ho)⟩

theorem Live.point_of_find {a b : Live} (h : Map.find p a.elements = Map.find p b.elements) : a.point p = b.point p := by
  unfold Live.point
  rw [h]

theorem Live.signal_of_find {a b : Live} (h : Map.find p a.elements = Map.find p b.elements) : a.signal p = b.signal p := by
  unfold Live.signal
  rw [h]

/-- Each point is ordered once, by what it and the claims on it were before. -/
theorem Work.orderAll_at (hys : (Map.ids ys).Nodup) (hq : (p, q) ∈ ys) (hy : w.live.point p = some y) :
    (¬ w.live.mayOrder p q y → (w.orderAll e ys).live.point p = some y) ∧
    (w.live.mayOrder p q y → (w.orderAll e ys).live.movesTo e p q y) := by
  induction ys generalizing w with
  | nil => exact absurd hq List.not_mem_nil
  | cons z ys ih =>
    rw [Map.ids, List.map_cons, List.nodup_cons] at hys
    obtain ⟨hz, hys⟩ := hys
    obtain rfl | hq := List.mem_cons.mp hq
    · obtain ⟨hfind, hwaits⟩ := Work.orderAll_ne (e := e) (w := w.orderRequired e p q) hz
      have hpoint := Live.point_of_find hfind
      refine ⟨fun hmay => hpoint.trans ?_, fun hmay => ?_⟩
      · rw [Work.orderRequired_idle hy hmay]
        exact hy
      · rw [Work.orderRequired_moves hy hmay] at hpoint hwaits
        obtain ⟨hw, v, hv, hrest⟩ := Live.takePointOrder_moves (e := e) (p := p) (q := q) (y := y) (l := w.live)
        refine ⟨?_, v, ?_, hrest⟩
        · show ((w.orderRequired e p q).orderAll e ys).live.waits p _
          rw [Work.orderRequired_moves hy hmay]
          exact hwaits _ hw
        · show ((w.orderRequired e p q).orderAll e ys).live.point p = _
          rw [Work.orderRequired_moves hy hmay]
          exact hpoint.trans hv
    · have hp : p ≠ z.1 := fun hp => hz (hp ▸ List.mem_map_of_mem (f := Prod.fst) hq)
      have hstep : (w.orderRequired e z.1 z.2).live.point p = some y :=
        (Live.point_of_find (Work.orderRequired_ne hp).1).trans hy
      have hmay : (w.orderRequired e z.1 z.2).live.mayOrder p q y ↔ w.live.mayOrder p q y := by
        unfold Live.mayOrder
        rw [Work.orderRequired_rest]
      rw [← hmay]
      exact ih hys hq hstep

theorem RouteEntry.requirements_nodup (r : RouteEntry) : (Map.ids r.requirements).Nodup := r.requirements_rise.imp Nat.ne_of_lt

theorem Work.orderAll_pointsOrdered : PointsOrdered e r w.live (w.orderAll e r.requirements).live := fun _ _ _ hq hy =>
  Work.orderAll_at r.requirements_nodup (Map.mem_of_find hq) hy

/-- A slot in SETTING or WAIT_LINE that is not held at SETTING orders its points (R80). -/
theorem Work.orderPoints_found (hx : w.live.slot n = some x) (hr : Map.find x.route e.tables.routes = some r)
    (hstate : x.state = .setting ∨ x.state = .waitLine) (hheld : x.held ≠ some .setting) :
    w.orderPoints e n = w.orderAll e r.requirements := by
  rw [Work.orderPoints, Work.withSlot_found hx hr]
  refine if_pos ?_
  simpa [hheld] using hstate

theorem Work.orderPoints_idle (hx : w.live.slot n = some x)
    (h : x.held = some .setting ∨ (x.state ≠ .setting ∧ x.state ≠ .waitLine)) : w.orderPoints e n = w := by
  refine Work.withSlot_idle hx fun r => if_neg ?_
  obtain h | ⟨h, h'⟩ := h <;> simp [*]

theorem Work.orderPoints_rest : w.orderPoints e n = { w with live := { w.live with
    elements := (w.orderPoints e n).live.elements, queue := (w.orderPoints e n).live.queue } } := by
  unfold Work.orderPoints Work.withSlot
  split
  · rfl
  · split
    · rfl
    · dsimp only
      split
      · exact Work.orderAll_rest
      · rfl

theorem Work.orderPoints_stands (m : Nat) : w.live.HoldingsStand m (w.orderPoints e n).live := by
  unfold Work.orderPoints Work.withSlot
  split
  · exact .refl ..
  · split
    · exact .refl ..
    · dsimp only
      split
      · exact Work.orderAll_stands
      · exact .refl ..

/-- Where every required point is detected there is none to order. -/
theorem Work.orderAll_detected (h : ∀ y ∈ ys, w.live.detected y.1 y.2 = true) : w.orderAll e ys = w := by
  induction ys with
  | nil => rfl
  | cons z ys ih =>
    obtain ⟨y, hy, hq⟩ := Live.detected_iff.mp (h z List.mem_cons_self)
    show (w.orderRequired e z.1 z.2).orderAll e ys = w
    rw [Work.orderRequired_idle hy fun hmay => hmay.1 hq]
    exact ih fun y hy => h y (List.mem_cons_of_mem _ hy)

/-- Orders move no evaluated position. -/
theorem Work.orderAll_detects (e : Env) (ys : Map Position) (hys : (Map.ids ys).Nodup) (w : Work) (m : Nat) (a : Position) :
    (w.orderAll e ys).live.detected m a = w.live.detected m a := by
  have hfound : ∀ y, w.live.point m = some y → ∃ z, (w.orderAll e ys).live.point m = some z ∧ z.evaluated = y.evaluated := by
    intro y hy
    by_cases hm : m ∈ Map.ids ys
    · obtain ⟨⟨k, q⟩, hq, (rfl : k = m)⟩ := List.mem_map.mp hm
      obtain ⟨hidle, hmoves⟩ := Work.orderAll_at (e := e) hys hq hy
      by_cases hmay : w.live.mayOrder k q y
      · obtain ⟨-, z, hz, hrest⟩ := hmoves hmay
        exact ⟨z, hz, by rw [hrest]⟩
      · exact ⟨y, hidle hmay, rfl⟩
    · exact ⟨y, (Live.point_of_find (Work.orderAll_ne hm).1).trans hy, rfl⟩
  have hstands := (Work.orderAll_stands (e := e) (n := 0) (ys := ys) (w := w)).2.2.1 m
  unfold Live.detected
  cases hy : w.live.point m with
  | none =>
    rw [hy, Option.map_none, Option.map_eq_none_iff] at hstands
    rw [hstands]
  | some y =>
    obtain ⟨z, hz, heval⟩ := hfound y hy
    rw [hz]
    simp only [heval]

end

end Sys2Proof.Machine
end

section
/-! PROOFS. Clearing, the entry of LOCKED, and the wait for a line (Chapter 5; R82 to R88, R140). -/

namespace Sys2Proof.Machine

/-! ## Signal orders and the points -/

section
variable {e : Env} {n m g p : Nat} {a : Aspect} {x : Slot} {r : RouteEntry} {w : Work}

theorem Work.orderSignal_stands (m : Nat) : w.live.HoldingsStand m (w.orderSignal e g a).live := by
  cases hg : w.live.signal g with
  | none =>
    rw [Work.orderSignal_none hg]
    exact .refl ..
  | some z => exact (Work.orderSignal_ordered hg).holdingsStand fun k _ => Live.slot_congr (Work.orderSignal_slots ..) k

/-- A signal order writes no point. -/
theorem Work.orderSignal_point (p : Nat) : (w.orderSignal e g a).live.point p = w.live.point p := by
  cases hg : w.live.signal g with
  | none => rw [Work.orderSignal_none hg]
  | some z =>
    obtain ⟨_, v, _, hv, -, -, -, -, -, -, hother, -⟩ := Work.orderSignal_ordered (e := e) (a := a) hg
    by_cases hp : p = g
    · subst hp
      simp only [Live.point, Live.signal_some.mp hv, Live.signal_some.mp hg]
    · exact Live.point_of_find (hother p hp)

/-! ## The clearing test -/

theorem Work.orderEntry_stand : w.live.HoldingsStand n (w.orderEntry e n r a).live :=
  (Work.slotTo_holdingsStand n _ w).trans (Work.orderSignal_stands n)

theorem Work.clearTest_clears (hx : w.live.slot n = some x) (hr : Map.find x.route e.tables.routes = some r)
    (h : x.state = .locked ∧ x.held ≠ some .locked ∧ w.live.clearable n r = true) : w.clearTest e n =
      (w.slotTo n (fun x => { x with state := .clearing })).orderEntry e n r (w.live.chosenAspect r) := by
  rw [Work.clearTest, Work.withSlot_found hx hr]
  exact if_pos (by simpa [and_assoc] using h)

theorem Work.clearTest_stays (hx : w.live.slot n = some x) (hr : Map.find x.route e.tables.routes = some r)
    (h : ¬ (x.state = .locked ∧ x.held ≠ some .locked ∧ w.live.clearable n r = true)) : w.clearTest e n = w := by
  rw [Work.clearTest, Work.withSlot_found hx hr]
  exact if_neg (by simpa [and_assoc] using h)

theorem Work.withSlot_stands {f : Slot → RouteEntry → Work → Work} (hf : ∀ x r, w.live.HoldingsStand m (f x r w).live) :
    w.live.HoldingsStand m (w.withSlot e n f).live := by
  unfold Work.withSlot
  split
  · exact .refl ..
  · split
    · exact .refl ..
    · exact hf _ _

theorem Work.clearTest_stands : w.live.HoldingsStand n (w.clearTest e n).live :=
  Work.withSlot_stands fun _ _ => by
    split
    · exact (Work.slotTo_holdingsStand n _ w).trans Work.orderEntry_stand
    · exact .refl ..

theorem Work.withSlot_point {f : Slot → RouteEntry → Work → Work} (hf : ∀ x r, (f x r w).live.point p = w.live.point p) :
    (w.withSlot e n f).live.point p = w.live.point p := by
  unfold Work.withSlot
  split
  · rfl
  · split
    · rfl
    · exact hf _ _

theorem Work.clearTest_point (p : Nat) : (w.clearTest e n).live.point p = w.live.point p :=
  Work.withSlot_point fun _ _ => by
    split
    · exact Work.orderSignal_point p
    · rfl

/-- The slot goes from LOCKED to CLEARING, with the aspect of its exit ordered (R87, R88). -/
theorem Work.clearTest_slot (hx : w.live.slot n = some x) (hr : Map.find x.route e.tables.routes = some r)
    (h : x.state = .locked ∧ x.held ≠ some .locked ∧ w.live.clearable n r = true) : (w.clearTest e n).live.slot n =
      some { x with state := .clearing, aspect := some (w.live.chosenAspect r) } := by
  rw [Work.clearTest_clears hx hr h]
  exact Work.orderEntry_self (Work.slotTo_found hx _)

theorem Work.clearTest_ordered {y : SignalRec} (hx : w.live.slot n = some x) (hr : Map.find x.route e.tables.routes = some r)
    (h : x.state = .locked ∧ x.held ≠ some .locked ∧ w.live.clearable n r = true)
    (hy : w.live.signal r.entrySignal = some y) :
    SignalOrdered e r.entrySignal (w.live.chosenAspect r) w (w.clearTest e n) := by
  rw [Work.clearTest_clears hx hr h]
  exact Work.orderEntry_ordered (w := w.slotTo n (fun x => { x with state := .clearing })) hy

theorem Work.clearTest_clearsFrom (hx : w.live.slot n = some x) (hr : Map.find x.route e.tables.routes = some r)
    (hstate : x.state = .locked) (hheld : x.held = none) (hclear : w.live.clearable n r = true) :
    ClearsFrom e n x r w.live (w.clearTest e n).live := by
  have h : x.state = .locked ∧ x.held ≠ some .locked ∧ w.live.clearable n r = true := ⟨hstate, by simp [hheld], hclear⟩
  refine ⟨?_, fun y hy => (Work.clearTest_ordered hx hr h hy).ordered⟩
  rw [Work.clearTest_slot hx hr h, ← hheld]

/-! ## The entry of LOCKED -/

theorem Env.holdsAt_iff {route : Nat} {stage : Stage} :
    e.holdsAt route stage = true ↔ e.mode = .commissioning ∧ (route, stage) ∈ e.holds := by
  simp [Env.holdsAt]

theorem Work.enterLocked_entersLocked (hx : w.live.slot n = some x) (hr : Map.find x.route e.tables.routes = some r) :
    EntersLocked e n x r w.live (w.enterLocked e n).live := by
  let v := w.slotTo n (fun x => { x with
    state := .locked
    held := if e.holdsAt x.route .locked then some .locked else none })
  have hv : v.live.slot n = _ := Work.slotTo_found hx _
  refine ⟨fun hholds => ?_, fun hholds hclear => ?_, fun hholds hclear => ?_⟩
  · rw [if_pos (Env.holdsAt_iff.mpr hholds)] at hv
    show (v.clearTest e n).live.slot n = _
    rwa [Work.clearTest_stays hv hr (by simp)]
  all_goals rw [if_neg (mt Env.holdsAt_iff.mp hholds)] at hv
  · have hclears : ClearsFrom e n { x with state := .locked, held := none } r v.live (v.clearTest e n).live :=
      Work.clearTest_clearsFrom hv hr rfl rfl hclear
    exact hclears
  · show (v.clearTest e n).live.slot n = _
    have hno : v.live.clearable n r = false := hclear
    rwa [Work.clearTest_stays hv hr (by simp [hno])]

theorem Work.enterLocked_stands : w.live.HoldingsStand n (w.enterLocked e n).live :=
  (Work.slotTo_holdingsStand n _ w).trans Work.clearTest_stands

theorem Work.enterLocked_point (p : Nat) : (w.enterLocked e n).live.point p = w.live.point p := Work.clearTest_point p

theorem Work.lockTest_enters (hx : w.live.slot n = some x) (hr : Map.find x.route e.tables.routes = some r)
    (hstate : x.state = .setting) (hheld : x.held ≠ some .setting) (hdetected : w.live.allDetected r = true) :
    w.lockTest e n = w.enterLocked e n := by
  rw [Work.lockTest, Work.withSlot_found hx hr]
  exact if_pos (by simp [hstate, hheld, hdetected])

theorem Work.lockTest_stays (hx : w.live.slot n = some x) (hr : Map.find x.route e.tables.routes = some r)
    (h : x.state ≠ .setting ∨ x.held = some .setting ∨ w.live.allDetected r = false) : w.lockTest e n = w := by
  rw [Work.lockTest, Work.withSlot_found hx hr]
  refine if_neg ?_
  obtain h | h | h := h <;> simp [h]

theorem Work.lockTest_stands : w.live.HoldingsStand n (w.lockTest e n).live :=
  Work.withSlot_stands fun _ _ => by
    split
    · exact Work.enterLocked_stands
    · exact .refl ..

/-- Where every required point is detected none is to be ordered. -/
theorem PointsOrdered.of_detected {before after : Live} (h : ∀ y ∈ r.requirements, before.detected y.1 y.2 = true)
    (hp : ∀ p, after.point p = before.point p) : PointsOrdered e r before after := fun p q y hq hy => by
  obtain ⟨z, hz, heval⟩ := Live.detected_iff.mp (h (p, q) (Map.mem_of_find hq))
  obtain rfl : y = z := Option.some.inj (hy.symm.trans hz)
  exact ⟨fun _ => (hp p).trans hy, fun hordered => absurd heval hordered.1⟩

/-- A slot in SETTING or WAIT_LINE, not held there, orders its points, and in SETTING enters LOCKED once they are detected (R80 to
R82). -/
theorem Work.setPoints_spec (hx : w.live.slot n = some x) (hr : Map.find x.route e.tables.routes = some r)
    (hstate : x.state = .setting ∨ x.state = .waitLine) (hheld : x.held ≠ some .setting) :
    let v := (w.orderPoints e n).lockTest e n
    let detected := ∀ y ∈ r.requirements, w.live.detected y.1 y.2 = true
    PointsOrdered e r w.live v.live ∧ (x.state = .waitLine ∨ ¬ detected → v.live.slot n = some x) ∧
      (x.state = .setting → detected → EntersLocked e n x r w.live v.live) := by
  intro v detected
  have hv : v = (w.orderAll e r.requirements).lockTest e n := by rw [← Work.orderPoints_found hx hr hstate hheld]
  have hslot : (w.orderAll e r.requirements).live.slot n = some x := by
    rw [Work.orderAll_rest]
    exact hx
  by_cases hdetected : detected
  · rw [Work.orderAll_detected hdetected] at hv
    refine ⟨.of_detected hdetected fun p => ?_, fun h => ?_, fun h _ => ?_⟩
    · rw [hv]
      exact Work.withSlot_point fun _ _ => by
        split
        · exact Work.enterLocked_point p
        · rfl
    · have hwait := h.resolve_right (not_not_intro hdetected)
      rw [hv, Work.lockTest_stays hx hr (.inl (by simp [hwait]))]
      exact hx
    · rw [hv, Work.lockTest_enters hx hr h hheld (Live.allDetected_iff.mpr hdetected)]
      exact Work.enterLocked_entersLocked hx hr
  · have hall : (w.orderAll e r.requirements).live.allDetected r = false := by
      refine eq_false_of_ne_true (mt Live.allDetected_iff.mp fun hnow => hdetected fun y hy => ?_)
      rw [← Work.orderAll_detects e r.requirements r.requirements_nodup w y.1 y.2]
      exact hnow y hy
    rw [Work.lockTest_stays hslot hr (.inr (.inr hall))] at hv
    rw [hv]
    exact ⟨Work.orderAll_pointsOrdered, fun _ => hslot, fun _ h => absurd h hdetected⟩

end

/-! ## STAGE STEP -/

theorem Work.goOn_setting {e : Env} {n : Nat} {x : Slot} {w : Work} (hx : w.live.slot n = some x) (h : x.held = some .setting) :
    w.goOn e n = ((w.slotTo n (fun x => { x with held := none })).orderPoints e n).lockTest e n := by
  simp [Work.goOn, hx, h]

theorem Work.goOn_locked {e : Env} {n : Nat} {x : Slot} {w : Work} (hx : w.live.slot n = some x) (h : x.held = some .locked) :
    w.goOn e n = (w.slotTo n (fun x => { x with held := none })).clearTest e n := by
  simp [Work.goOn, hx, h]

/-- Settles O19. -/
theorem stageStepLetsTheSlotGoOn : Obligations.StageStepLetsTheSlotGoOn := by
  intro tag route s hs
  refine ⟨fun hm => control_refused hs (by simp [stageStep, hm]), fun hm => ⟨fun hr => control_refused hs
    (by simp [stageStep, hm, Map.has, hr]), fun r hr => ⟨fun hslot => control_refused hs
    (by simp [stageStep, hm, Map.has, hr, hslot]), fun n x hslot hx => ?_⟩⟩⟩
  obtain ⟨-, hroute⟩ := Live.slotOf_spec hslot
  have hentry : Map.find x.route s.env.tables.routes = some r := by
    rw [hroute]
    exact hr
  let u := s.work.slotTo n (fun x => { x with held := none })
  have hu : u.live.slot n = some { x with held := none } := Work.slotTo_found (w := s.work) hx _
  refine ⟨fun hheld => control_refused hs ?_, fun hheld => control_answered hs ?_, fun hheld hstate =>
    ⟨fun hclear => ?_, fun hclear => ?_⟩, fun hheld => ?_⟩
  · simp [stageStep, hm, Map.has, hr, hslot, hheld]
  · simp only [stageStep, hm, Map.has, hr, hslot, Option.isSome_iff_ne_none.mpr hheld]
    rfl
  · rw [Work.goOn_locked (w := s.work) hx hheld]
    have hclears : ClearsFrom s.env n { x with held := none } r u.live (u.clearTest s.env n).live :=
      Work.clearTest_clearsFrom hu hentry hstate rfl hclear
    exact hclears
  · have hno : u.live.clearable n r = false := hclear
    rw [Work.goOn_locked (w := s.work) hx hheld, Work.clearTest_stays hu hentry (by simp [hno])]
    exact hu
  · rw [Work.goOn_setting (w := s.work) hx hheld]
    have spec (h : x.state = .setting ∨ x.state = .waitLine) := Work.setPoints_spec hu hentry h (by simp)
    exact ⟨fun h => (spec (.inr h)).2.1 (.inl h), fun h hnot => (spec (.inl h)).2.1 (.inr hnot),
      fun h hall => (spec (.inl h)).2.2 h hall, fun h => (spec h).1⟩

/-! ## The wait for a line -/

/-- Our ask for a line, unless one is outstanding (R83, R140). -/
def Work.askOnce (e : Env) (link line : Nat) (w : Work) : Work :=
  if ((w.live.line link line).bind (fun y => y.ask)).isSome then w else w.sendAsk e link line

section
variable {e : Env} {n link line : Nat} {x : Slot} {r : RouteEntry} {w : Work}

theorem Work.needLine_asks {waiting : Work → Work} (h : w.live.linkState link = .up) :
    w.needLine e n link line waiting = (waiting w).askOnce e link line := if_pos h

theorem Work.needLine_lost {waiting : Work → Work} (h : w.live.linkState link ≠ .up) :
    w.needLine e n link line waiting = w.refuseSlot e 3 n := if_neg h

theorem Work.askOnce_rest : w.askOnce e link line = { w with live := { w.live with
    links := (w.askOnce e link line).live.links, sent := (w.askOnce e link line).live.sent } } := by
  unfold Work.askOnce Work.sendAsk
  split
  · rfl
  · split <;> rfl

theorem Work.askOnce_spec {y : LineRec} {b : BoundaryEntry} (hy : w.live.line link line = some y)
    (hb : Map.find link e.tables.boundary = some b) :
    (y.ask ≠ none → (w.askOnce e link line).live.links = w.live.links ∧ (w.askOnce e link line).live.sent = w.live.sent) ∧
    (y.ask = none → (w.askOnce e link line).live.line link line = some { y with
        ask := some (y.nextAsk, e.clock + b.replyTimeout * 10), nextAsk := y.nextAsk + 1 } ∧
      (w.askOnce e link line).live.sent = w.live.sent ++ [.directionAsk link line y.nextAsk]) := by
  constructor
  · intro hask
    rw [Work.askOnce, if_pos (by simpa [hy, Option.isSome_iff_ne_none] using hask)]
    exact ⟨rfl, rfl⟩
  · intro hask
    rw [Work.askOnce, if_neg (by simp [hy, hask])]
    have hsend : w.sendAsk e link line = w.on (fun l => (l.updateLine link line (fun y => { y with
        ask := some (y.nextAsk, e.clock + b.replyTimeout * 10)
        nextAsk := y.nextAsk + 1 })).send (.directionAsk link line y.nextAsk)) := by
      simp [Work.sendAsk, hy, hb]
    rw [hsend]
    exact ⟨Live.line_updateLine_self hy, rfl⟩

/-- A slot enters WAIT_LINE while the link is UP (R83). -/
theorem Work.enterWaitLine_up (hx : w.live.slot n = some x) (hr : Map.find x.route e.tables.routes = some r)
    (h : w.live.linkState link = .up) :
    ∃ v : Work, w.enterWaitLine e n link line = v.askOnce e link line ∧ v.live.links = w.live.links ∧
      v.live.sent = w.live.sent ∧ v.live.slot n = some { x with
        state := .waitLine, lineWait := some (link, line), held := if x.held = some .locked then none else x.held } ∧
      (x.held = some .setting → v.live.elements = w.live.elements ∧ v.live.queue = w.live.queue) ∧
      (x.held ≠ some .setting → PointsOrdered e r w.live v.live) ∧ w.live.HoldingsStand n v.live ∧ v.scan = w.scan := by
  let u := w.slotTo n (fun x => { x with
    state := .waitLine
    lineWait := some (link, line)
    held := if x.held = some .locked then none else x.held })
  have hu : u.live.slot n = some { x with
    state := .waitLine, lineWait := some (link, line), held := if x.held = some .locked then none else x.held } :=
    Work.slotTo_found hx _
  have hrest : u.orderPoints e n = _ := Work.orderPoints_rest
  refine ⟨u.orderPoints e n, Work.needLine_asks h, by rw [hrest]; rfl, by rw [hrest]; rfl, ?_, fun hheld => ?_, fun hheld => ?_,
    (Work.slotTo_holdingsStand n _ w).trans (Work.orderPoints_stands n), by rw [hrest]; rfl⟩
  · rw [hrest]
    exact hu
  · rw [Work.orderPoints_idle hu (.inl (by simp [hheld]))]
    exact ⟨rfl, rfl⟩
  · rw [Work.orderPoints_found hu hr (.inr rfl) (by
      dsimp only
      split
      · simp
      · exact hheld)]
    exact Work.orderAll_pointsOrdered (w := u)

theorem Work.askOnce_stands : w.live.HoldingsStand n (w.askOnce e link line).live := by
  rw [Work.askOnce_rest]
  exact .of_slots rfl rfl rfl rfl rfl fun _ _ => rfl

theorem Work.enterWaitLine_stands (h : w.live.linkState link = .up) :
    w.live.HoldingsStand n (w.enterWaitLine e n link line).live := by
  rw [Work.enterWaitLine, Work.needLine_asks h]
  exact ((Work.slotTo_holdingsStand n _ w).trans (Work.orderPoints_stands n)).trans Work.askOnce_stands

end

end Sys2Proof.Machine
end

section
/-! PROOFS. How a slot before clearing follows the changes handed to it (Chapter 5; R80 to R87, R106, R136). -/

namespace Sys2Proof.Machine

section
variable {e : Env} {n link line : Nat} {x : Slot} {r : RouteEntry} {w : Work}

theorem Work.replace_stands {cause number : Nat} : w.live.HoldingsStand n (w.replace e n cause number).live :=
  Work.withSlot_stands fun x r => by
    split
    · dsimp only
      rw [Work.report_rest]
      refine (Work.slotTo_holdingsStand n (fun x => { x with state := .replaced, aspect := some .danger }) w).trans ?_
      show Live.HoldingsStand n _ (if cause = 6 then _ else _ : Work).live
      split
      · exact .refl ..
      · exact Work.orderSignal_stands n
    · exact .refl ..

/-! ## A required point -/

theorem Work.onPoint_setting {p : Nat} (hx : w.live.slot n = some x) (hr : Map.find x.route e.tables.routes = some r)
    (h : x.state = .setting ∨ x.state = .waitLine) : w.onPoint e p n = (w.orderPoints e n).lockTest e n := by
  rw [Work.onPoint, Work.withSlot_found hx hr]
  obtain h | h := h <;> simp only [h]

theorem RouteEntry.lost_iff {p : Nat} {l : Live} : (Map.find p r.requirements).any (fun q => !l.detected p q) = true ↔
    ∃ q, Map.find p r.requirements = some q ∧ l.detected p q = false := by
  simp only [Option.any_eq_true, Bool.not_eq_true']

/-- A slot in LOCKED whose point is lost goes back to SETTING, and orders its points (R81). -/
theorem Work.onPoint_locked {p : Nat} (hx : w.live.slot n = some x) (hr : Map.find x.route e.tables.routes = some r)
    (h : x.state = .locked) :
    let lost := ∃ q, Map.find p r.requirements = some q ∧ w.live.detected p q = false
    (¬ lost → w.onPoint e p n = w) ∧ (lost → (w.onPoint e p n).live.slot n = some { x with state := .setting, held := none } ∧
      PointsOrdered e r w.live (w.onPoint e p n).live) := by
  intro lost
  have hon : w.onPoint e p n = if (Map.find p r.requirements).any (fun q => !w.live.detected p q) = true then
      (w.slotTo n (fun x => { x with state := .setting, held := none })).orderPoints e n else w := by
    rw [Work.onPoint, Work.withSlot_found hx hr]
    simp only [h]
  refine ⟨fun hlost => hon.trans (if_neg (mt RouteEntry.lost_iff.mp hlost)), fun hlost => ?_⟩
  let u := w.slotTo n (fun x => { x with state := .setting, held := none })
  have hu : u.live.slot n = some { x with state := .setting, held := none } := Work.slotTo_found hx _
  rw [hon, if_pos (RouteEntry.lost_iff.mpr hlost), Work.orderPoints_found hu hr (.inl rfl) (by simp)]
  refine ⟨?_, Work.orderAll_pointsOrdered (w := u)⟩
  rw [Work.orderAll_rest]
  exact hu

theorem Work.onPoint_stands {p : Nat} : w.live.HoldingsStand n (w.onPoint e p n).live :=
  Work.withSlot_stands fun x r => by
    split
    · exact (Work.orderPoints_stands n).trans Work.lockTest_stands
    · exact (Work.orderPoints_stands n).trans Work.lockTest_stands
    · dsimp only
      split
      · exact (Work.slotTo_holdingsStand n _ w).trans (Work.orderPoints_stands n)
      · exact .refl ..
    · dsimp only
      split
      · exact Work.replace_stands
      · exact .refl ..
    · dsimp only
      split
      · exact Work.replace_stands
      · exact .refl ..
    · exact .refl ..
    · exact .refl ..
    · exact .refl ..

/-! ## The line that becomes ours -/

theorem Work.leaveWaitLine_spec (hx : w.live.slot n = some x) (hr : Map.find x.route e.tables.routes = some r) :
    let v := w.leaveWaitLine e n
    let left : Slot := { x with lineWait := none }
    let detected := ∀ y ∈ r.requirements, w.live.detected y.1 y.2 = true
    (x.state ≠ .waitLine → v = w) ∧
    (x.state = .waitLine → x.held = some .setting ∨ ¬ detected →
      v.live.slot n = some { left with state := .setting } ∧ v.live.queue = w.live.queue ∧
        v.live.elements = w.live.elements) ∧
    (x.state = .waitLine → x.held ≠ some .setting → detected → EntersLocked e n left r w.live v.live) := by
  intro v left detected
  have hv : v = if (x.state == .waitLine) = true then
      (if (x.held != some .setting && w.live.allDetected r) = true then
        (w.slotTo n (fun x => { x with lineWait := none })).enterLocked e n
      else (w.slotTo n (fun x => { x with lineWait := none })).slotTo n (fun x => { x with state := .setting })) else w := by
    show w.leaveWaitLine e n = _
    rw [Work.leaveWaitLine, Work.withSlot_found hx hr]
    rfl
  have hleft : (w.slotTo n (fun x => { x with lineWait := none })).live.slot n = some left := Work.slotTo_found hx _
  refine ⟨fun h => hv.trans (if_neg (by simpa using h)), fun h hset => ?_, fun h hheld hdetected => ?_⟩
  · rw [if_pos (beq_iff_eq.mpr h), if_neg] at hv
    · rw [hv]
      exact ⟨Work.slotTo_found hleft _, rfl, rfl⟩
    · rw [Bool.and_eq_true, bne_iff_ne, Live.allDetected_iff]
      exact fun ⟨h1, h2⟩ => hset.elim h1 fun hnot => hnot h2
  · rw [if_pos (beq_iff_eq.mpr h), if_pos (by rw [Bool.and_eq_true, bne_iff_ne, Live.allDetected_iff]; exact ⟨hheld, hdetected⟩)] at hv
    rw [hv]
    exact Work.enterLocked_entersLocked hleft hr

theorem Work.leaveWaitLine_stands : w.live.HoldingsStand n (w.leaveWaitLine e n).live :=
  Work.withSlot_stands fun x r => by
    split
    · dsimp only
      split
      · exact (Work.slotTo_holdingsStand n _ w).trans Work.enterLocked_stands
      · exact (Work.slotTo_holdingsStand n _ w).trans (Work.slotTo_holdingsStand n _ _)
    · exact .refl ..

/-! ## The line that is lost -/

theorem Work.onLineLost_waits (hx : w.live.slot n = some x) (hr : Map.find x.route e.tables.routes = some r)
    (h : x.state = .setting ∨ x.state = .locked) : w.onLineLost e link line n = w.enterWaitLine e n link line := by
  rw [Work.onLineLost, Work.withSlot_found hx hr]
  obtain h | h := h <;> simp only [h]

theorem Work.onLineLost_stands (h : w.live.linkState link = .up) :
    w.live.HoldingsStand n (w.onLineLost e link line n).live :=
  Work.withSlot_stands fun x r => by
    split
    · exact Work.enterWaitLine_stands h
    · exact Work.enterWaitLine_stands h
    · exact Work.replace_stands
    · exact Work.replace_stands
    · exact .refl ..
    · exact .refl ..
    · exact .refl ..
    · exact .refl ..

end

/-- Settles O23. -/
theorem slotsBeforeClearingFollowChanges : Obligations.SlotsBeforeClearingFollowChanges := by
  intro e n x r w hx hr
  refine ⟨⟨fun h => ⟨Work.clearTest_slot hx hr h, fun y hy => ?_⟩, Work.clearTest_stays hx hr⟩, fun p => ⟨fun h => ?_,
    fun h => Work.onPoint_locked hx hr h, fun h => ?_⟩, Work.leaveWaitLine_spec hx hr, fun link line => ⟨fun h =>
    ⟨fun hlost => ?_, fun hup => ?_⟩, fun h => ?_, fun h => ?_, fun h => ?_⟩, fun sec h => ⟨fun hin => ?_, fun hout => ?_⟩,
    fun sec h => ?_, ⟨Work.clearTest_stands, fun _ => Work.onPoint_stands, Work.leaveWaitLine_stands,
    fun _ _ => Work.onLineLost_stands⟩, fun element => ⟨rfl, fun h => ?_⟩⟩
  · have hordered := Work.clearTest_ordered hx hr h hy
    exact ⟨hordered.ordered, hordered⟩
  · rw [Work.onPoint_setting hx hr h]
    refine ⟨fun hheld => ?_, fun hheld => (Work.setPoints_spec hx hr h hheld).1, fun hstay => ?_, fun hstate hheld =>
      (Work.setPoints_spec hx hr h hheld).2.2 hstate⟩
    · rw [Work.orderPoints_idle hx (.inl hheld), Work.lockTest_stays hx hr (.inr (.inl hheld))]
    · by_cases hheld : x.held = some .setting
      · rw [Work.orderPoints_idle hx (.inl hheld), Work.lockTest_stays hx hr (.inr (.inl hheld))]
        exact hx
      · exact (Work.setPoints_spec hx hr h hheld).2.1 hstay
  · rw [Work.onPoint, Work.withSlot_found hx hr]
    obtain h | h | h := h <;> simp only [h]
  · rw [Work.onLineLost_waits hx hr h]
    exact Work.needLine_lost hlost
  · obtain ⟨v, hv, hlinks, hsent, hslot, hstays, hordered, -, -⟩ := Work.enterWaitLine_up (e := e) (line := line) hx hr hup
    rw [Work.onLineLost_waits hx hr h, hv]
    refine ⟨?_, fun hheld => ?_, fun hheld => ?_, fun y b hy hb => ?_⟩
    · rw [Work.askOnce_rest]
      exact hslot
    · rw [Work.askOnce_rest]
      exact hstays hheld
    · rw [Work.askOnce_rest]
      exact hordered hheld
    · have hline : v.live.line link line = some y := by
        rw [Live.line, hlinks]
        exact hy
      rw [← hlinks, ← hsent]
      exact Work.askOnce_spec hline hb
  · rw [Work.onLineLost, Work.withSlot_found hx hr]
    obtain h | h | h | h := h <;> simp only [h]
  · rw [Work.onLineFlag, Work.withSlot_found hx hr]
    simp only [h]
  · rw [Work.onLineFlag, Work.withSlot_found hx hr]
    obtain h | h | h | h | h := h <;> simp only [h]
  · rw [Work.onSection, Work.withSlot_found hx hr]
    simp only [h]
    exact if_pos (List.contains_iff_mem.mpr hin)
  · rw [Work.onSection, Work.withSlot_found hx hr]
    simp only [h]
    exact if_neg (mt List.contains_iff_mem.mp hout)
  · rw [Work.onSection, Work.withSlot_found hx hr]
    obtain h | h | h := h <;> simp only [h]
  · exact Work.replace_idle hx (by simp [h]) (by simp [h])

end Sys2Proof.Machine
end

section
/-! PROOFS. Whom each handed change reaches, and the placing of claimed elements (Chapters 2, 3, 5, 6 and 8; R28, R57, R103 to
R106). -/

namespace Sys2Proof.Machine

/-! ## Placing a claimed point -/

theorem ascending_rises (ns : List Nat) : (ascending ns).Pairwise (· < ·) := by
  suffices h : ∀ m : Map Unit, (Map.ids m).Pairwise (· < ·) →
      (Map.ids (ns.foldl (fun m n => Map.put n () m) m)).Pairwise (· < ·) from h [] List.Pairwise.nil
  induction ns with
  | nil => exact fun m h => h
  | cons n ns ih => exact fun m h => ih _ (Map.put_pairwise h)

section
variable {e : Env} {p g n : Nat} {q : Position} {y : PointRec} {z : SignalRec} {c : Claim} {x : Slot} {w : Work}

/-- A claimed point that is not locked is placed as a slot would order it, to the position that its first claim requires. -/
theorem Work.placePoint_orders (hy : w.live.point p = some y) (hlock : y.routeLock = none)
    (hc : w.live.claims.find? (fun c => c.element == p) = some c) (hq : c.required = .position q) :
    w.placePoint e p = w.orderRequired e p q := by
  obtain ⟨slot, element, required, serves, proven⟩ := c
  subst hq
  simp only [Work.placePoint, Work.orderRequired, hy, hc, hlock, Option.isNone_none, Bool.and_true]

theorem Work.placePoint_locked (hy : w.live.point p = some y) (hlock : y.routeLock ≠ none) : w.placePoint e p = w := by
  unfold Work.placePoint
  split
  · next hr _ =>
    obtain rfl := Option.some.inj (hy.symm.trans hr)
    exact if_neg (by simp [hlock])
  · rfl

/-- A claimed point that R103 lets be ordered moves to where its claims require it, and any other stays. -/
theorem Work.placePoint_spec (hy : w.live.point p = some y) :
    let may := fun q => (∃ c ∈ w.live.claims, c.element = p) ∧
      (∀ c ∈ w.live.claims, c.element = p → c.required = .position q) ∧
      y.evaluated ≠ some q ∧ y.routeLock = none ∧ y.supervised = true ∧ y.movement = none ∧ y.moveFailed = false
    (∀ q, may q → (w.placePoint e p).live.movesTo e p q y) ∧ ((∀ q, ¬ may q) → w.placePoint e p = w) := by
  intro may
  by_cases hlock : y.routeLock = none
  · cases hc : w.live.claims.find? (fun c => c.element == p) with
    | none =>
      have hnone : ∀ c ∈ w.live.claims, c.element ≠ p := by simpa using hc
      refine ⟨fun q h => absurd h.1 (by simpa using hnone), fun _ => ?_⟩
      simp only [Work.placePoint, hy, hc]
    | some c =>
      have hmem := List.mem_of_find?_eq_some hc
      have hp : c.element = p := by simpa using List.find?_some hc
      refine ⟨fun q ⟨_, hall, heval, _, hsup, hmove, hfail⟩ => ?_, fun hno => ?_⟩
      · have hmay : w.live.mayOrder p q y := ⟨heval, hsup, hmove, hfail, by simp [hlock], hall⟩
        rw [Work.placePoint_orders hy hlock hc (hall c hmem hp), Work.orderRequired_moves hy hmay]
        exact Live.takePointOrder_moves
      · cases hq : c.required with
        | danger =>
          obtain ⟨slot, element, required, serves, proven⟩ := c
          subst hq
          simp only [Work.placePoint, hy, hc]
        | position q =>
          rw [Work.placePoint_orders hy hlock hc hq]
          refine Work.orderRequired_idle hy fun ⟨heval, hsup, hmove, hfail, _, hall⟩ => hno q ?_
          exact ⟨⟨c, hmem, hp⟩, hall, heval, hlock, hsup, hmove, hfail⟩
  · exact ⟨fun q h => absurd h.2.2.2.1 hlock, fun _ => Work.placePoint_locked hy hlock⟩

/-! ## Placing a claimed signal -/

theorem Live.entryIn_iff {t : Tables} {l : Live} : l.entryIn t [.clearing, .clear] g = true ↔
    ∃ x ∈ l.slots, (x.2.state = .clearing ∨ x.2.state = .clear) ∧ t.entryOf x.2 = some g := by
  simp [Live.entryIn]

theorem Work.placeSignal_spec (hz : w.live.signal g = some z) :
    let clears := ∃ x ∈ w.live.slots, (x.2.state = .clearing ∨ x.2.state = .clear) ∧ e.tables.entryOf x.2 = some g
    let may := (∃ c ∈ w.live.claims, c.element = g) ∧ z.commanded ≠ .danger ∧ ¬ clears
    (may → w.placeSignal e g = w.orderSignal e g .danger) ∧ (¬ may → w.placeSignal e g = w) := by
  intro clears may
  have hmay : (w.live.claimed g && z.commanded != .danger && !w.live.entryIn e.tables [.clearing, .clear] g) = true ↔ may := by
    rw [Bool.and_eq_true, Bool.and_eq_true, bne_iff_ne, Bool.not_eq_true', ← Bool.not_eq_true, Live.entryIn_iff, and_assoc]
    simp [Live.claimed, may, clears]
  have hplace : w.placeSignal e g = if (w.live.claimed g && z.commanded != .danger &&
      !w.live.entryIn e.tables [.clearing, .clear] g) = true then w.orderSignal e g .danger else w := by
    simp only [Work.placeSignal, hz]
  exact ⟨fun h => hplace.trans (if_pos (hmay.mpr h)), fun h => hplace.trans (if_neg (mt hmay.mp h))⟩

/-! ## A failed ask -/

/-- A slot whose ask failed is reported and released (R84, R86). -/
theorem Work.refuseSlot_found {reason : Nat} (hx : w.live.slot n = some x) :
    (w.refuseSlot e reason n).live.slot n = none ∧ (∀ m ≠ n, (w.refuseSlot e reason n).live.slot m = w.live.slot m) ∧
    (w.refuseSlot e reason n).live.reports = (Live.offer e .c .routeReleased .slot n (some x.route)
      (w.live.offer e .b .lineRefused .slot n (some (1000 * reason + x.route)))).reports ∧
    (w.refuseSlot e reason n).live.queue = w.live.queue := by
  let v := w.report e .b .lineRefused .slot n (some (1000 * reason + x.route))
  have hslots (m : Nat) : v.live.slot m = w.live.slot m := Live.slot_congr (Live.offer_slots ..) m
  have hv : v.live.slot n = some x := (hslots n).trans hx
  have hrefuse : w.refuseSlot e reason n = v.freeSlot e n := by simp [Work.refuseSlot, hx, v]
  obtain ⟨hfree, hother, -⟩ := freeingEmptiesTheSlot e n x v hv
  rw [hrefuse]
  refine ⟨hfree, fun m hm => (hother m hm).trans (hslots m), ?_, ?_⟩
  · rw [Work.freeSlot_found hv]
    refine Live.offer_reports_congr ?_ ..
    rfl
  · rw [Work.freeSlot_found hv]
    show (Live.offer _ _ _ _ _ _ (v.live.emptySlot e.tables n)).queue = _
    rw [Live.offer_queue, Live.emptySlot_queue]
    exact Live.offer_queue ..

end

/-- Settles O24. -/
theorem changesReachTheirSlots : Obligations.ChangesReachTheirSlots := by
  intro e w
  refine ⟨fun sec => Work.forEach_reaches (fun x r => ?_) _ w, fun p => Work.forEach_reaches (fun x r => ?_) _ w,
    fun g => Work.forEach_reaches (fun x r => ?_) _ w, fun g => Work.forEach_reaches (fun x r => ?_) _ w,
    fun link line => ⟨Work.forEach_reaches (fun x r => ?_) _ w, Work.forEach_reaches (fun x r => ?_) _ w,
    Work.forEach_reaches (fun x r => ?_) _ w, Work.linkLost_reaches e link line w, fun reason => ?_⟩, fun _ _ _ => rfl,
    fun g y proven hy => ⟨fun n hn => ?_, fun hnone => ?_⟩, fun reason n x hx => ?_, ?_, fun p y hy => ?_, fun g y hy => ?_⟩
  · simp [RouteEntry.lockedSections, or_assoc]
  · exact Option.isSome_iff_ne_none
  · rw [Bool.or_eq_true, beq_iff_eq, beq_iff_eq, RouteEntry.exitSignal_iff]
  · exact beq_iff_eq
  · exact beq_iff_eq
  · rw [beq_iff_eq, RouteEntry.exitLine_iff]
  · rw [beq_iff_eq, RouteEntry.exitLine_iff]
  · exact ⟨_, Live.slotsWhere_chosen (fun x r => by simp) w.live, rfl⟩
  · simp [Work.take, hy, hn]
  · simp [Work.take, hy, hnone]
  · obtain ⟨h1, h2, h3, -⟩ := Work.refuseSlot_found (e := e) (reason := reason) hx
    exact ⟨h1, h2, h3⟩
  · exact ⟨_, ascending_rises _, fun p => mem_ascending, rfl⟩
  · exact Work.placePoint_spec hy
  · obtain ⟨hmay, hnot⟩ := Work.placeSignal_spec (e := e) hy
    refine ⟨fun h => ?_, hnot⟩
    have hordered : SignalOrdered e g .danger w (w.take e (.placeSignal g)) := by
      rw [Work.take, hmay h]
      exact Work.orderSignal_ordered hy
    obtain ⟨_, _, _, _, _, hwaits, -⟩ := id hordered
    exact ⟨hordered.ordered, hwaits⟩

end Sys2Proof.Machine
end

section
/-! PROOFS. Behind the train: the release test, and the return of a fleeting slot (Chapter 7; R115, R116, R119, R127). -/

namespace Sys2Proof.Machine

/-! ## The sections that are released in turn -/

/-- The path section of index j, from 0, is one that sectional release gives back (R115). -/
def Live.passedAt (l : Live) (n : Nat) (x : Slot) (r : RouteEntry) (j : Nat) : Prop :=
  ∃ sec, r.path[j]? = some sec ∧ l.holder sec = some (n, .path) ∧ l.isClear sec = true ∧ x.marks[j]? = some true ∧
    (j + 1 = r.path.length ∨ x.marks[j + 1]? = some true)

section
variable {e : Env} {n i j k : Nat} {x : Slot} {r : RouteEntry} {l : Live} {w : Work}

theorem List.getD_false_iff {marks : List Bool} {i : Nat} : marks.getD i false = true ↔ marks[i]? = some true := by
  rw [List.getD_eq_getElem?_getD]
  cases marks[i]? <;> simp

theorem Live.releasable_step (fuel : Nat) (h : l.passedAt n x r j) :
    Live.releasable n x r l (fuel + 1) (j + 1) = (j + 1) :: Live.releasable n x r l fuel (j + 2) := by
  obtain ⟨sec, hsec, hheld, hclear, hmark, hnext⟩ := h
  have hlast : (j + 1 == r.path.length || x.marks.getD (j + 1) false) = true := by
    rwa [Bool.or_eq_true, beq_iff_eq, List.getD_false_iff]
  simp only [Live.releasable, Nat.add_sub_cancel, hsec]
  exact if_pos (by rw [hclear, List.getD_false_iff.mpr hmark, hlast, hheld, beq_self_eq_true]; rfl)

theorem Live.releasable_stop (fuel : Nat) (h : ¬ l.passedAt n x r j) : Live.releasable n x r l fuel (j + 1) = [] := by
  cases fuel with
  | zero => rfl
  | succ fuel =>
    simp only [Live.releasable, Nat.add_sub_cancel]
    split
    · rfl
    · next sec hsec =>
      refine if_neg fun htest => h ⟨sec, hsec, ?_⟩
      simp only [Bool.and_eq_true, Bool.or_eq_true, beq_iff_eq, List.getD_false_iff] at htest
      obtain ⟨⟨⟨hclear, hmark⟩, hnext⟩, hheld⟩ := htest
      exact ⟨hheld, hclear, hmark, hnext⟩

/-- The indices from the pointer to the first section that is not passed. -/
theorem Live.releasable_run (fuel : Nat) (hjk : j ≤ k) (hrun : ∀ i, j ≤ i → i < k → l.passedAt n x r i)
    (hstop : ¬ l.passedAt n x r k) (hfuel : k - j ≤ fuel) :
    Live.releasable n x r l fuel (j + 1) = List.range' (j + 1) (k - j) := by
  induction fuel generalizing j with
  | zero =>
    obtain rfl : j = k := by omega
    simpa using Live.releasable_stop 0 hstop
  | succ fuel ih =>
    obtain rfl | hlt := Nat.eq_or_lt_of_le hjk
    · simpa using Live.releasable_stop _ hstop
    · rw [Live.releasable_step fuel (hrun j le_rfl hlt), ih hlt (fun i hi => hrun i (by omega)) (by omega),
        show k - j = (k - (j + 1)) + 1 by omega, List.range'_succ]

theorem List.filterMap_range' {path : List Nat} {m : Nat} (h : i + m ≤ path.length) :
    (List.range' (i + 1) m).filterMap (fun j => path[j - 1]?) = (path.drop i).take m := by
  induction m generalizing i with
  | zero => simp
  | succ m ih =>
    have hi : i < path.length := by omega
    rw [List.range'_succ, List.filterMap_cons, Nat.add_sub_cancel, List.getElem?_eq_getElem hi, List.drop_eq_getElem_cons hi,
      List.take_succ_cons, ih (by omega)]

/-! ## The claims of sections that are released -/

theorem Live.removeEntries_claims (hik : i ≤ k) :
    (Live.removeEntries r n (List.range' (i + 1) (k - i)) l).claims = (l.claims.map (fun c => if c.slot = n then { c with
      serves := c.serves.filter (fun y => (r.flank[y.1 - 1]?).all (fun f => f.index ≤ i || k < f.index)) } else c)).filter
        (fun c => c.slot ≠ n ∨ c.serves ≠ []) := by
  have hkept : (fun s : Nat × Nat => match r.flank[s.1 - 1]? with
      | some f => !(List.range' (i + 1) (k - i)).contains f.index
      | none => true) = fun y => (r.flank[y.1 - 1]?).all (fun f => f.index ≤ i || k < f.index) := by
    funext y
    cases r.flank[y.1 - 1]? with
    | none => rfl
    | some f =>
      rw [Bool.eq_iff_iff]
      simp only [Option.all_some, Bool.not_eq_true', ← Bool.not_eq_true, List.contains_iff_mem, List.mem_range'_1, Bool.or_eq_true,
        decide_eq_true_eq]
      omega
  show (List.filter _ (List.map _ _)) = _
  rw [← hkept]
  refine List.filter_congr fun c _ => ?_
  rw [Bool.eq_iff_iff]
  simp

/-! ## The release test -/

/-- The release of the sections up to index k, before the slot is freed where it is complete. -/
def Work.releaseTo (e : Env) (n i k : Nat) (r : RouteEntry) (w : Work) : Work :=
  ((w.on (Live.removeEntries r n (List.range' (i + 1) (k - i)))).releaseSections e n ((r.path.drop i).take (k - i))).slotTo n
    (fun x => { x with pointer := min (k + 1) r.path.length })

theorem Work.releaseTest_nothing (hx : w.live.slot n = some x) (hr : Map.find x.route e.tables.routes = some r)
    (hstate : x.state = .entered) (hfleet : x.fleet = 0) (hi : x.pointer = i + 1) (h : ¬ w.live.passedAt n x r i) :
    w.releaseTest e n = w := by
  have hnone : Live.releasable n x r w.live r.path.length x.pointer = [] := hi ▸ Live.releasable_stop _ h
  rw [Work.releaseTest, Work.withSlot_found hx hr]
  simp [hstate, hfleet, hnone]

theorem Work.releaseTest_run (hx : w.live.slot n = some x) (hr : Map.find x.route e.tables.routes = some r)
    (hstate : x.state = .entered) (hfleet : x.fleet = 0) (hi : x.pointer = i + 1) (hik : i < k)
    (hrun : ∀ j, i ≤ j → j < k → w.live.passedAt n x r j) (hstop : ¬ w.live.passedAt n x r k) :
    w.releaseTest e n = (w.releaseTo e n i k r).freeIfDone e n := by
  obtain ⟨sec, hsec, -⟩ := hrun (k - 1) (by omega) (by omega)
  have hlength : k - 1 < r.path.length := (List.getElem?_eq_some_iff.mp hsec).1
  have hrelease : Live.releasable n x r w.live r.path.length x.pointer = List.range' (i + 1) (k - i) := by
    rw [hi]
    exact Live.releasable_run _ hik.le hrun hstop (by omega)
  have hcons : List.range' (i + 1) (k - i) = (i + 1) :: List.range' (i + 2) (k - i - 1) := by
    rw [show k - i = (k - i - 1) + 1 by omega, List.range'_succ, Nat.add_sub_cancel]
  have hpointer : x.pointer + (List.range' (i + 1) (k - i)).length = k + 1 := by
    rw [List.length_range', hi]
    omega
  have htest : w.releaseTest e n = (((w.on (Live.removeEntries r n (List.range' (i + 1) (k - i)))).releaseSections e n
      ((List.range' (i + 1) (k - i)).filterMap (fun j => r.path[j - 1]?))).slotTo n (fun y => { y with
        pointer := min (x.pointer + (List.range' (i + 1) (k - i)).length) r.path.length })).freeIfDone e n := by
    rw [Work.releaseTest, Work.withSlot_found hx hr]
    simp only [hstate, hfleet, hrelease]
    rw [hcons]
    rfl
  rw [htest, hpointer, List.filterMap_range' (by omega)]
  rfl

/-! ## The return of a fleeting slot -/

theorem Work.clearTest_scan : (w.clearTest e n).scan = w.scan := by
  unfold Work.clearTest Work.withSlot
  split
  · rfl
  · split
    · rfl
    · dsimp only
      split
      · exact Work.orderEntry_reports.2
      · rfl

theorem Work.enterLocked_scan : (w.enterLocked e n).scan = w.scan := Work.clearTest_scan

/-- The slot record of a fleeting slot as it returns (R127). -/
def Slot.back (r : RouteEntry) (x : Slot) : Slot :=
  { x with marks := r.path.map (fun _ => false), pointer := 1, fleet := x.fleet - 1, origin := .fleet }

/-- Where a fleeting slot returns to (R127). -/
def Work.returnSlot (e : Env) (n : Nat) (r : RouteEntry) (w : Work) : Work :=
  match r.exitLine.filter (fun k => !w.live.lineIsOurs k.1 k.2) with
  | some (link, line) => w.enterWaitLine e n link line
  | none => if w.live.allDetected r then w.enterLocked e n
    else (w.slotTo n (fun x => { x with state := .setting })).orderPoints e n

theorem Work.fleetTest_found (hx : w.live.slot n = some x) (hr : Map.find x.route e.tables.routes = some r) :
    let passed := x.state = .entered ∧ 0 < x.fleet ∧ (∀ sec ∈ r.path, w.live.isClear sec = true) ∧ ∀ m ∈ x.marks, m = true
    (¬ passed → w.fleetTest e n = w) ∧
    (passed → w.fleetTest e n = ((w.slotTo n (Slot.back r)).scanDue).returnSlot e n r) := by
  intro passed
  have hpassed : (x.state == .entered && 0 < x.fleet && r.path.all w.live.isClear && x.marks.all (fun m => m)) = true ↔ passed := by
    simp [passed, and_assoc]
  rw [Work.fleetTest, Work.withSlot_found hx hr]
  exact ⟨fun h => if_neg (mt hpassed.mp h), fun h => if_pos (hpassed.mpr h)⟩

theorem Work.returnSlot_ours (h : ∀ link line, r.exit = .line link line → w.live.lineIsOurs link line = true) :
    w.returnSlot e n r = if w.live.allDetected r then w.enterLocked e n
      else (w.slotTo n (fun x => { x with state := .setting })).orderPoints e n := by
  have hnone : r.exitLine.filter (fun k => !w.live.lineIsOurs k.1 k.2) = none := by
    rw [Option.filter_eq_none_iff]
    rintro ⟨link, line⟩ hk
    simp [h link line (RouteEntry.exitLine_iff.mp hk)]
  simp only [Work.returnSlot, hnone]

theorem Work.returnSlot_waits {link line : Nat} (hexit : r.exit = .line link line) (h : w.live.lineIsOurs link line = false) :
    w.returnSlot e n r = w.enterWaitLine e n link line := by
  have hsome : r.exitLine.filter (fun k => !w.live.lineIsOurs k.1 k.2) = some (link, line) := by
    rw [Option.filter_eq_some_iff]
    exact ⟨RouteEntry.exitLine_iff.mpr hexit, by simp [h]⟩
  simp only [Work.returnSlot, hsome]

theorem Work.refuseSlot_scan {reason : Nat} (hx : w.live.slot n = some x) : (w.refuseSlot e reason n).scan = true := by
  have hv : (w.report e .b .lineRefused .slot n (some (1000 * reason + x.route))).live.slot n = some x :=
    (Live.slot_congr (Live.offer_slots ..) n).trans hx
  simp only [Work.refuseSlot, hx]
  rw [Work.freeSlot_found hv]
  rfl

end

/-- Settles O16: the release test runs from the pointer to the first section that is not passed; a fleeting slot returns where
its line and its points let it. -/
theorem releaseFollowsTheTrain : Obligations.ReleaseFollowsTheTrain := by
  refine ⟨fun e n i x r w hx hr hstate hfleet hi => ⟨fun h => Work.releaseTest_nothing hx hr hstate hfleet hi h,
    fun k hik hrun hstop => ?_⟩, fun e n x r w hx hr => ?_⟩
  · let u := w.on (Live.removeEntries r n (List.range' (i + 1) (k - i)))
    have hslot : (w.releaseTo e n i k r).live.slot n = some { x with pointer := min (k + 1) r.path.length } :=
      Work.slotTo_found (w := u.releaseSections e n _) hx _
    refine ⟨w.releaseTo e n i k r, hslot, fun m hm => Work.slotTo_other hm _ _, fun sec =>
      Work.releaseSections_sectionAt e n _ u sec, fun p y hy => ⟨fun hlies hlock =>
      Work.releaseSections_unlocks (w := u) hy hlock hlies, fun h => Work.releaseSections_point (w := u) hy h⟩,
      Live.removeEntries_claims hik.le, rfl, rfl, rfl, rfl, ?_⟩
    rw [Work.releaseTest_run hx hr hstate hfleet hi hik hrun hstop, Work.freeIfDone_found hslot hr hstate]
    exact ⟨fun h => if_pos h, fun h => if_neg h⟩
  · intro passed back after becomes ours detected holds
    obtain ⟨hstay, hgo⟩ := Work.fleetTest_found hx hr
    refine ⟨hstay, fun hpassed => ?_⟩
    let u := (w.slotTo n (Slot.back r)).scanDue
    have hu : u.live.slot n = some back := Work.slotTo_found hx _
    have hafter : after = u.returnSlot e n r := hgo hpassed
    have hnot (h : ¬ detected) (hours : ours) :
        after = (u.slotTo n (fun x => { x with state := .setting })).orderPoints e n :=
      hafter.trans ((Work.returnSlot_ours (w := u) hours).trans (if_neg (mt Live.allDetected_iff.mp h)))
    have hall (h : detected) (hours : ours) : after = u.enterLocked e n :=
      hafter.trans ((Work.returnSlot_ours (w := u) hours).trans (if_pos (Live.allDetected_iff.mpr h)))
    have hlocked (h : detected) (hours : ours) : EntersLocked e n back r u.live after.live := by
      rw [hall h hours]
      exact Work.enterLocked_entersLocked hu hr
    refine ⟨?_, fun hours h => ?_, fun hours h hholds => (hlocked h hours).1 hholds, fun hours h hholds hclear =>
      (hlocked h hours).2.2 hholds hclear, fun hours h hholds hclear => ((hlocked h hours).2.1 hholds hclear).1,
      fun link line hexit hnotours => ⟨fun hup => ?_, fun hdown => ?_⟩⟩
    · by_cases hours : ours
      · by_cases h : detected
        · rw [hall h hours, Work.enterLocked_scan]
          rfl
        · rw [hnot h hours, Work.orderPoints_rest]
          rfl
      · obtain ⟨link, line, hexit, hnotours⟩ : ∃ link line, r.exit = .line link line ∧ w.live.lineIsOurs link line = false := by
          by_contra hno
          exact hours fun link line hexit => by
            by_contra hfalse
            exact hno ⟨link, line, hexit, eq_false_of_ne_true hfalse⟩
        rw [hafter, Work.returnSlot_waits (w := u) hexit hnotours]
        by_cases hup : u.live.linkState link = .up
        · obtain ⟨v, hv, -, -, -, -, -, -, hscan⟩ := Work.enterWaitLine_up (e := e) (line := line) hu hr hup
          rw [hv, Work.askOnce_rest]
          exact hscan
        · rw [Work.enterWaitLine, Work.needLine_lost hup]
          exact Work.refuseSlot_scan hu
    · show after.live.slot n = _
      rw [hnot h hours, Work.orderPoints_rest]
      exact Work.slotTo_found hu (fun x => { x with state := .setting })
    · show after.live.slot n = _
      obtain ⟨v, hv, -, -, hslot, -⟩ := Work.enterWaitLine_up (e := e) (line := line) hu hr hup
      rw [hafter, Work.returnSlot_waits (w := u) hexit hnotours, hv, Work.askOnce_rest]
      exact hslot
    · have hlost : after = u.refuseSlot e 3 n := by
        rw [hafter, Work.returnSlot_waits (w := u) hexit hnotours, Work.enterWaitLine,
          Work.needLine_lost (w := u) hdown]
      obtain ⟨hfree, -, hreports, hqueue⟩ := Work.refuseSlot_found (e := e) (reason := 3) hu
      rw [hlost]
      refine ⟨hfree, hqueue, hreports.trans (Live.offer_reports_congr (Live.offer_reports_congr ?_ ..) ..)⟩
      rfl

end Sys2Proof.Machine
end

section
/-! PROOFS. The checks of a ROUTE CALL (Chapter 4; R63 to R66), and the claims that a search result makes (R101). -/

namespace Sys2Proof.Machine

/-! ## The claims that a search result makes -/

/-- What a claim or a choice is for: its element and the state required of it (R101). -/
def Claim.key (c : Claim) : Nat × Required := (c.element, c.required)
def Choice.key (c : Choice) : Nat × Required := (c.element, c.required)

/-- The claims of a slot for a search result (R101): one for each element and state, with the entries that it serves. -/
structure ClaimsServe (slot : Nat) (choices : List Choice) (cs : List Claim) : Prop where
  apart : (cs.map Claim.key).Nodup
  serves : ∀ c ∈ cs, c.slot = slot ∧ c.serves ≠ [] ∧ c.serves = (choices.filter (fun y =>
    y.element == c.element && y.required == c.required)).map (fun y => (y.entry, y.level))
  made : ∀ y ∈ choices, y.key ∈ cs.map Claim.key

section
variable {slot : Nat} {choices : List Choice} {cs : List Claim} {y : Choice}

theorem same_key_iff {c : Claim} : (y.element == c.element && y.required == c.required) = true ↔ y.key = c.key := by
  simp [Choice.key, Claim.key]

theorem any_key_iff : cs.any (fun x => x.element == y.element && x.required == y.required) = true ↔ y.key ∈ cs.map Claim.key := by
  simp only [List.any_eq_true, Bool.and_eq_true, beq_iff_eq, List.mem_map, Claim.key, Choice.key, Prod.mk.injEq]

/-- A choice for an element and state that has its claim is served by it; for any other a claim is made. -/
theorem ClaimsServe.addChoice (h : ClaimsServe slot choices cs) : ClaimsServe slot (choices ++ [y]) (addChoice slot cs y) := by
  obtain ⟨hapart, hserves, hmade⟩ := h
  have hfilter (c : Claim) : ((choices ++ [y]).filter (fun z => z.element == c.element && z.required == c.required)).map
      (fun z => (z.entry, z.level)) = (choices.filter (fun z => z.element == c.element && z.required == c.required)).map
        (fun z => (z.entry, z.level)) ++ if y.key = c.key then [(y.entry, y.level)] else [] := by
    rw [List.filter_append, List.map_append]
    congr 1
    by_cases hkey : y.key = c.key
    · simp only [List.filter_cons, same_key_iff, hkey, if_true, List.filter_nil, List.map_singleton]
    · simp only [List.filter_cons, same_key_iff, hkey, if_false, List.filter_nil, List.map_nil]
  unfold Sys2Proof.Machine.addChoice
  by_cases hin : y.key ∈ cs.map Claim.key
  · rw [if_pos (any_key_iff.mpr hin)]
    have hkeys : (cs.map (fun x => if x.element = y.element ∧ x.required = y.required then
        { x with serves := x.serves ++ [(y.entry, y.level)] } else x)).map Claim.key = cs.map Claim.key := by
      rw [List.map_map]
      refine List.map_congr_left fun x _ => ?_
      simp only [Function.comp]
      split <;> rfl
    refine ⟨by rwa [hkeys], fun c hc => ?_, fun z hz => ?_⟩
    · obtain ⟨x, hx, rfl⟩ := List.mem_map.mp hc
      obtain ⟨hslot, hsome, heq⟩ := hserves x hx
      have hkey : (x.element = y.element ∧ x.required = y.required) ↔ y.key = x.key := by
        simp only [Choice.key, Claim.key, Prod.mk.injEq]
        exact ⟨fun ⟨h1, h2⟩ => ⟨h1.symm, h2.symm⟩, fun ⟨h1, h2⟩ => ⟨h1.symm, h2.symm⟩⟩
      by_cases hsame : y.key = x.key
      · rw [if_pos (hkey.mpr hsame)]
        refine ⟨hslot, by simp, ?_⟩
        have := hfilter x
        rw [if_pos hsame] at this
        exact (congrArg (· ++ _) heq).trans this.symm
      · rw [if_neg (mt hkey.mp hsame)]
        have := hfilter x
        rw [if_neg hsame, List.append_nil] at this
        exact ⟨hslot, hsome, heq.trans this.symm⟩
    · rw [hkeys]
      obtain hz | hz := List.mem_append.mp hz
      · exact hmade z hz
      · rwa [List.mem_singleton.mp hz]
  · rw [if_neg (mt any_key_iff.mp hin)]
    refine ⟨?_, fun c hc => ?_, fun z hz => ?_⟩
    · rw [List.map_append, List.nodup_append]
      refine ⟨hapart, by simp, fun a ha b hb hab => hin ?_⟩
      rw [List.map_singleton, List.mem_singleton] at hb
      subst hb hab
      exact ha
    · obtain hc | hc := List.mem_append.mp hc
      · obtain ⟨hslot, hsome, heq⟩ := hserves c hc
        have hother : y.key ≠ c.key := fun hkey => hin (hkey ▸ List.mem_map_of_mem hc)
        have := hfilter c
        rw [if_neg hother, List.append_nil] at this
        exact ⟨hslot, hsome, heq.trans this.symm⟩
      · obtain rfl := List.mem_singleton.mp hc
        refine ⟨rfl, by simp, ?_⟩
        rw [hfilter, List.filter_eq_nil_iff.mpr fun z hz hkey => hin ?_]
        · exact (if_pos rfl).symm
        · rw [← show z.key = y.key from same_key_iff.mp hkey]
          exact hmade z hz
    · rw [List.map_append]
      obtain hz | hz := List.mem_append.mp hz
      · exact List.mem_append_left _ (hmade z hz)
      · exact List.mem_append_right _ (by rw [List.mem_singleton.mp hz]; exact List.mem_singleton.mpr rfl)

theorem claimsFor_serve (slot : Nat) (choices : List Choice) : ClaimsServe slot choices (claimsFor slot choices) := by
  induction choices using List.reverseRecOn with
  | nil => exact ⟨List.nodup_nil, fun c hc => absurd hc List.not_mem_nil, fun y hy => absurd hy List.not_mem_nil⟩
  | append_singleton choices y ih =>
    rw [claimsFor, List.foldl_concat]
    exact ih.addChoice

/-- As many claims are made as there are distinct elements and states. -/
theorem claimsFor_needed (slot : Nat) (choices : List Choice) :
    (claimsFor slot choices).length = (choices.map (fun c => (c.element, c.required))).dedup.length := by
  obtain ⟨hapart, -, hmade⟩ := claimsFor_serve slot choices
  rw [← List.length_map (f := Claim.key) (as := claimsFor slot choices)]
  refine List.Perm.length_eq ((List.perm_ext_iff_of_nodup hapart (List.nodup_dedup _)).mpr fun k => ?_)
  rw [List.mem_dedup]
  constructor
  · intro hk
    obtain ⟨c, hc, rfl⟩ := List.mem_map.mp hk
    obtain ⟨y, hy, hel, hreq⟩ := mem_claimsFor hc
    exact List.mem_map.mpr ⟨y, hy, by rw [hel, hreq]; rfl⟩
  · intro hk
    obtain ⟨y, hy, rfl⟩ := List.mem_map.mp hk
    exact hmade y hy

end

/-! ## Checks 5 to 10 -/

section
variable {t : Tables} {r : RouteEntry} {n : Nat} {l : Live}

theorem Live.checkCall_possessed (h : ∃ n ∈ r.path ++ r.overlap, (l.possessionOf n).isSome = true) :
    l.checkCall t r = .fails 5 := by
  unfold Live.checkCall
  exact if_pos (List.any_eq_true.mpr h)

theorem Live.not_possessed (h : ∀ n ∈ r.path ++ r.overlap, l.possessionOf n = none) :
    r.lockedSections.any (fun s => (l.possessionOf s).isSome) ≠ true := by
  rw [ne_eq, Bool.not_eq_true, List.any_eq_false]
  exact fun n hn => by simp [h n hn]

theorem Live.checkCall_unavailable (h : ∀ n ∈ r.path ++ r.overlap, l.possessionOf n = none)
    (hy : ∃ y ∈ r.requirements, l.available y.1 = false) : l.checkCall t r = .fails 6 := by
  unfold Live.checkCall
  rw [if_neg (Live.not_possessed h)]
  obtain ⟨y, hy, hno⟩ := hy
  refine if_pos ?_
  rw [Bool.not_eq_true', List.all_eq_false]
  exact ⟨y, hy, by simp [hno]⟩

theorem Live.all_available (h : ∀ y ∈ r.requirements, l.available y.1 = true) :
    ¬ (!r.requirements.all (fun y => l.available y.1)) = true := by
  rw [Bool.not_eq_true', Bool.not_eq_false, List.all_eq_true]
  exact h

theorem Live.checkCall_line {link line : Nat} (h : ∀ n ∈ r.path ++ r.overlap, l.possessionOf n = none)
    (hy : ∀ y ∈ r.requirements, l.available y.1 = true) (hexit : r.exit = .line link line) (hlink : l.linkState link ≠ .up) :
    l.checkCall t r = .fails 7 := by
  unfold Live.checkCall
  rw [if_neg (Live.not_possessed h), if_neg (Live.all_available hy)]
  exact if_pos (by simp [RouteEntry.exitLine_iff.mpr hexit, hlink])

/-- What stands in the way of a route, but for its flank (R65). -/
theorem Live.obstructed_iff : l.obstructed r = true ↔
    (∃ x ∈ l.slots, x.2.route ∈ r.opposing) ∨ (∃ n ∈ r.path ++ r.overlap, (l.holder n).isSome = true) ∨
    (∃ y ∈ r.requirements, ∃ p slot q, l.point y.1 = some p ∧ p.routeLock = some (slot, q) ∧ q ≠ y.2) ∨
    (∃ y ∈ r.requirements, ∃ c ∈ l.claims, c.element = y.1 ∧ c.required ≠ .position y.2) ∨
    (∃ c ∈ l.claims, c.element = r.entrySignal) := by
  have hlocked (p : PointRec) (q : Position) : p.lockedAgainst q = true ↔ ∃ slot a, p.routeLock = some (slot, a) ∧ a ≠ q := by
    rw [← Bool.not_eq_false, PointRec.lockedAgainst_eq_false]
    push Not
    rfl
  have hclaimed (p : Nat) (q : Position) : l.claimedAgainst p q = true ↔
      ∃ c ∈ l.claims, c.element = p ∧ c.required ≠ .position q := by
    rw [← Bool.not_eq_false, Live.claimedAgainst_eq_false]
    push Not
    rfl
  unfold Live.obstructed
  rw [Bool.or_eq_true, Bool.or_eq_true, Bool.or_eq_true]
  simp only [List.any_eq_true, Bool.or_eq_true, List.contains_iff_mem, Option.any_eq_true, hlocked, hclaimed, Live.claimed,
    beq_iff_eq, RouteEntry.lockedSections, and_or_left, exists_or, or_assoc, exists_and_left]

/-- The lowest-numbered free slot (R66). -/
theorem Live.freeSlotNumber_first (hn : n < 32) (hfree : l.slot n = none) (hlower : ∀ m < n, l.slot m ≠ none) :
    l.freeSlotNumber = some n := by
  have hrange : List.range Config.slotCount = List.range n ++ n :: List.range' (n + 1) (31 - n) := by
    rw [show Config.slotCount = n + ((31 - n) + 1) by simp only [Config.slotCount]; omega,
      List.range_eq_range', List.range_eq_range', ← List.range'_append_1, Nat.zero_add,
      List.range'_succ]
  unfold Live.freeSlotNumber
  rw [hrange]
  refine List.find?_first (fun m hm => ?_) ?_
  · have : Map.find m l.slots ≠ none := hlower m (List.mem_range.mp hm)
    simpa [Map.has, Option.isSome_iff_ne_none] using this
  · have : Map.find n l.slots = none := hfree
    simp [Map.has, this]

theorem Live.freeSlotNumber_none (h : ∀ n < 32, l.slot n ≠ none) : l.freeSlotNumber = none :=
  List.find?_eq_none.mpr fun n hn => by
    have : Map.find n l.slots ≠ none := h n (List.mem_range.mp hn)
    simpa [Map.has, Option.isSome_iff_ne_none] using this

/-- Checks 8 to 10, once 5 to 7 have passed (R65, R66). -/
theorem Live.checkCall_late (h : ∀ n ∈ r.path ++ r.overlap, l.possessionOf n = none)
    (hy : ∀ y ∈ r.requirements, l.available y.1 = true) (hline : ∀ link line, r.exit = .line link line → l.linkState link = .up) :
    (l.obstructed r = true ∨ l.flankSearch t r = none → l.checkCall t r = .fails 8) ∧
    ∀ choices, l.obstructed r = false → l.flankSearch t r = some choices →
      (256 < l.claims.length + (claimsFor 0 choices).length → l.checkCall t r = .fails 9) ∧
      (l.claims.length + (claimsFor 0 choices).length ≤ 256 → (l.freeSlotNumber = none → l.checkCall t r = .fails 10) ∧
        ∀ n, l.freeSlotNumber = some n → l.checkCall t r = .passes n choices) := by
  have hup : ¬ r.exitLine.any (fun k => l.linkState k.1 != .up) = true := by
    rw [Option.any_eq_true]
    rintro ⟨⟨link, line⟩, hk, hne⟩
    simp [hline link line (RouteEntry.exitLine_iff.mp hk)] at hne
  unfold Live.checkCall
  rw [if_neg (Live.not_possessed h), if_neg (Live.all_available hy), if_neg hup]
  refine ⟨fun hway => ?_, fun choices hno hflank => ⟨fun hfull => ?_, fun hroom => ⟨fun hfree => ?_, fun n hfree => ?_⟩⟩⟩
  · obtain hway | hway := hway
    · exact if_pos hway
    · simp [hway]
  all_goals simp only [hno, hflank, Bool.false_eq_true, if_false]
  · exact if_pos hfull
  · refine (if_neg (Nat.not_lt.mpr hroom)).trans ?_
    simp only [hfree]
  · refine (if_neg (Nat.not_lt.mpr hroom)).trans ?_
    simp only [hfree]

end

/-- A call that fails one of checks 5 to 7 is refused with the code of that check. -/
theorem State.calls_refused {s : State} {r : RouteEntry} {check : Nat} (route fleet patience tag : Nat)
    (hcheck : s.live.checkCall s.store.active r = .fails check) (hearly : check ≤ 7) :
    s.calls r route fleet patience tag = s.refuses (.plain (checkCode check)) := by
  simp only [State.calls, hcheck, if_pos hearly]

/-- Settles O5. -/
theorem callChecksInOrder : Obligations.CallChecksInOrder := by
  refine ⟨fun tag route fleet patience s hs => ⟨fun hm => control_refused hs (by simp [routeCall, hm]), fun hm hhold =>
    control_refused hs (by simp [routeCall, hm, hhold]), fun hm hhold => ⟨fun hr => control_refused hs
    (by simp [routeCall, hm, hhold, hr]), fun r hr => ⟨fun hactive => control_refused hs ?_, fun hslots hwaiting => ?_⟩⟩⟩,
    fun t r l hfree havailable hline => ?_⟩
  · have hfound : ((s.live.slotOf route).isSome || (s.live.requestOf route).isSome) = true := by
      rw [Bool.or_eq_true, Live.slotOf, Live.requestOf, List.find?_isSome, List.find?_isSome]
      simpa using hactive
    simp only [routeCall, hm, hhold, hr, hfound]
    rfl
  · have hslot : s.live.slotOf route = none := List.find?_eq_none.mpr fun x hx => by simpa using hslots x hx
    have hrequest : s.live.requestOf route = none := List.find?_eq_none.mpr fun q hq => by simpa using hwaiting q hq
    have hcalls := routeCall_calls tag fleet patience hm hhold hr hslot hrequest
    exact ⟨fun h => control_refused hs (hcalls.trans (State.calls_refused _ _ _ _ (Live.checkCall_possessed h) (by omega))),
      fun h => ⟨fun hy => control_refused hs (hcalls.trans
        (State.calls_refused _ _ _ _ (Live.checkCall_unavailable h hy) (by omega))), fun hy link line hexit hlink =>
        control_refused hs (hcalls.trans (State.calls_refused _ _ _ _ (Live.checkCall_line h hy hexit hlink) (by omega)))⟩⟩
  · intro inTheWay
    have hway : inTheWay ↔ l.obstructed r = true ∨ l.flankSearch t r = none := by
      rw [Live.obstructed_iff]
      simp only [inTheWay, or_assoc]
    obtain ⟨hlate, hpass⟩ := Live.checkCall_late (t := t) hfree havailable hline
    refine ⟨fun h => hlate (hway.mp h), fun choices hno hflank => ?_⟩
    have hclear : l.obstructed r = false := eq_false_of_ne_true fun h => hno (hway.mpr (.inl h))
    obtain ⟨hfull, hroom⟩ := hpass choices hclear hflank
    rw [claimsFor_needed] at hfull hroom
    exact ⟨hfull, fun h => ⟨fun hall => (hroom h).1 (Live.freeSlotNumber_none hall), fun n hn hnone hlower =>
      (hroom h).2 n (Live.freeSlotNumber_first hn hnone hlower)⟩⟩

end Sys2Proof.Machine
end

section
/-! PROOFS. What orders for one element leave of the others (Chapter 3; R52, R55, R56). -/

namespace Sys2Proof.Machine

/-- Element k has its record, and its orders waiting, as before. -/
structure Live.KeepsElement (k : Nat) (a b : Live) : Prop where
  found : Map.find k b.elements = Map.find k a.elements
  waits : ∀ o, b.waits k o ↔ a.waits k o

namespace Live.KeepsElement
variable {k : Nat} {a b c : Live}

theorem refl (k : Nat) (a : Live) : a.KeepsElement k a := ⟨rfl, fun _ => .rfl⟩

theorem trans (h : a.KeepsElement k b) (h' : b.KeepsElement k c) : a.KeepsElement k c :=
  ⟨h'.found.trans h.found, fun o => (h'.waits o).trans (h.waits o)⟩

/-- With the elements and the queue the orders stand as before. -/
theorem of_same (helements : b.elements = a.elements) (hqueue : b.queue = a.queue) : a.KeepsElement k b := by
  refine ⟨by rw [helements], fun o => ?_⟩
  unfold Live.waits Live.pendingOrder
  rw [helements, hqueue]

theorem point (h : a.KeepsElement k b) : b.point k = a.point k := Live.point_of_find h.found
theorem signal (h : a.KeepsElement k b) : b.signal k = a.signal k := Live.signal_of_find h.found

theorem waitsOther (h : a.KeepsElement k b) (q : Position) : b.waitsOther k q ↔ a.waitsOther k q := by
  have other (l : Live) : l.waitsOther k q ↔ ∃ o, l.waits k o ∧ o ≠ .position q := by
    unfold Live.waitsOther Live.waits
    constructor
    · rintro (⟨x, hx, hk, ho⟩ | ⟨o, hp, ho⟩)
      · exact ⟨x.order, .inl ⟨x, hx, hk, rfl⟩, ho⟩
      · exact ⟨o, .inr hp, ho⟩
    · rintro ⟨o, ⟨x, hx, hk, rfl⟩ | hp, ho⟩
      · exact .inl ⟨x, hx, hk, ho⟩
      · exact .inr ⟨o, hp, ho⟩
  rw [other, other]
  exact exists_congr fun o => and_congr_left fun _ => h.waits o

theorem foldl {β : Type} (op : Live → β → Live) (xs : List β) (h : ∀ x ∈ xs, ∀ l : Live, l.KeepsElement k (op l x)) (a : Live) :
    a.KeepsElement k (xs.foldl op a) := by
  induction xs generalizing a with
  | nil => exact .refl _ _
  | cons x xs ih => exact (h x List.mem_cons_self a).trans (ih (fun y hy => h y (List.mem_cons_of_mem _ hy)) _)

end Live.KeepsElement

theorem Live.waitsOther_iff {l : Live} {p : Nat} {q : Position} : l.waitsOther p q ↔ l.orderAgainst p q = true := by
  rw [Live.orderAgainst]
  simp only [Live.waitsOther, Bool.or_eq_true, List.any_eq_true, Bool.and_eq_true, beq_iff_eq, bne_iff_ne, Option.any_eq_true]

theorem Live.waitsOther_of_waits {l : Live} {p : Nat} {q : Position} {o : Order} (h : l.waits p o) (ho : o ≠ .position q) :
    l.waitsOther p q := Live.waitsOther_iff.mpr (Live.orderAgainst_iff.mpr ⟨o, h, ho⟩)

section
variable {e : Env} {t : Tables} {k n p g slot : Nat} {q : Position} {a : Aspect} {o : Order} {l : Live} {w : Work}

theorem Live.placeOrder_keeps_iff (h : k ≠ n) : l.KeepsElement k (l.placeOrder t n o) :=
  ⟨Live.placeOrder_ne h .., fun _ => ⟨fun hw => ((Live.placeOrder_waits hw).resolve_left fun hn => h hn.1).2,
    Live.placeOrder_keeps h⟩⟩

theorem Live.setElement_keepsElement (h : k ≠ n) (r : ElementRec) : l.KeepsElement k (l.setElement n r) := by
  have hfind := Live.setElement_ne h r l
  refine ⟨hfind, fun o => ?_⟩
  unfold Live.waits Live.pendingOrder
  rw [hfind]
  rfl

theorem Live.takePointOrder_keepsElement (h : k ≠ p) (r : PointRec) : l.KeepsElement k (l.takePointOrder e p q r) :=
  (Live.setElement_keepsElement h _).trans (Live.placeOrder_keeps_iff h)

theorem Live.changeOrder_keepsElement (h : k ≠ n) : l.KeepsElement k (l.changeOrder n o) := by
  refine ⟨Map.find_update_ne h (fun r : ElementRec => if r.pendingOrder.isSome then r.withPending (some o) else r) l.elements, fun c =>
    ⟨fun hw => ((Live.changeOrder_waits hw).resolve_left fun hn => h hn.1).2, ?_⟩⟩
  rintro (⟨x, hx, hk, ho⟩ | hp)
  · exact .inl ⟨x, List.mem_map.mpr ⟨x, hx, if_neg (by rw [hk]; exact h)⟩, hk, ho⟩
  · refine .inr ?_
    rw [Live.changeOrder_pending, if_neg h]
    exact hp

theorem Live.redirect_keepsElement (h : k ≠ p) : l.KeepsElement k (l.redirect e p q) := by
  unfold Live.redirect
  split
  · have hchange := Live.changeOrder_keepsElement (o := .position q) (l := l) h
    dsimp only
    split
    · exact hchange.trans (Live.setElement_keepsElement h _)
    · exact hchange
  · exact .refl _ _

theorem Live.lockPoint_keepsElement (h : k ≠ p) : l.KeepsElement k (l.lockPoint e n p q) := by
  unfold Live.lockPoint
  split
  · exact .refl _ _
  · exact (Live.setElement_keepsElement h _).trans (Live.redirect_keepsElement h)

theorem Live.setEntryOf_keepsElement (h : k ≠ g) : l.KeepsElement k (l.setEntryOf n g) := by
  unfold Live.setEntryOf
  split
  · exact .refl _ _
  · exact Live.setElement_keepsElement h _

theorem Work.orderSignal_keepsElement (h : k ≠ g) : w.live.KeepsElement k (w.orderSignal e g a).live := by
  cases hg : w.live.signal g with
  | none =>
    rw [Work.orderSignal_none hg]
    exact .refl _ _
  | some r =>
    rw [Work.orderSignal_found hg, Work.reprove_live]
    exact (Live.setElement_keepsElement h _).trans ((Live.placeOrder_keeps_iff h).trans (.of_same rfl rfl))

/-- A signal order leaves every point. -/
theorem Work.orderSignal_keepsPoint (hk : w.live.signal k = none) : w.live.KeepsElement k (w.orderSignal e g a).live := by
  by_cases h : k = g
  · subst h
    rw [Work.orderSignal_none hk]
    exact .refl _ _
  · exact Work.orderSignal_keepsElement h

theorem Work.orderRequired_keepsElement (h : k ≠ p ∨ w.live.point k = none) :
    w.live.KeepsElement k (w.orderRequired e p q).live := by
  cases hy : w.live.point p with
  | none =>
    rw [Work.orderRequired_none hy]
    exact .refl _ _
  | some y =>
    by_cases hmay : w.live.mayOrder p q y
    · rw [Work.orderRequired_moves hy hmay]
      refine Live.takePointOrder_keepsElement (h.elim id fun hnone hk => ?_) y
      rw [hk, hy] at hnone
      cases hnone
    · rw [Work.orderRequired_idle hy hmay]
      exact .refl _ _

end

end Sys2Proof.Machine
end

section
/-! PROOFS. What the taking of a route writes of its elements (Chapters 5 and 6; R56, R79, R102). -/

namespace Sys2Proof.Machine

/-! ## A point whose order is turned -/

/-- A point once a waiting order for another position is turned to q, and the movement with it (R56). -/
def Live.PointTurned (e : Env) (p : Nat) (q : Position) (y : PointRec) (lock : Option (Nat × Position)) (a b : Live) : Prop :=
  ∃ z, b.point p = some z ∧
    z = { y with routeLock := lock, movement := z.movement, pendingOrder := z.pendingOrder } ∧ ¬ b.waitsOther p q ∧
    (a.waitsOther p q → z.movement = y.movement.map (fun _ => (q, e.clock + e.tables.moveLimit p))) ∧
    (¬ a.waitsOther p q → z.movement = y.movement)

section
variable {e : Env} {p n : Nat} {q : Position} {y : PointRec} {lock : Option (Nat × Position)} {a b c l : Live}

theorem Live.PointTurned.then_keeps (h : a.PointTurned e p q y lock b) (k : b.KeepsElement p c) : a.PointTurned e p q y lock c := by
  obtain ⟨z, hz, hrest, hnone, hturn, hstay⟩ := h
  exact ⟨z, k.point.trans hz, hrest, mt (k.waitsOther q).mp hnone, hturn, hstay⟩

theorem Live.PointTurned.after_keeps (k : a.KeepsElement p b) (h : b.PointTurned e p q y lock c) : a.PointTurned e p q y lock c := by
  obtain ⟨z, hz, hrest, hnone, hturn, hstay⟩ := h
  exact ⟨z, hz, hrest, hnone, fun hw => hturn ((k.waitsOther q).mpr hw), fun hw => hstay (mt (k.waitsOther q).mp hw)⟩

/-- A second turning to the same position turns nothing. -/
theorem Live.PointTurned.again (h : a.PointTurned e p q y lock b)
    (k : ∀ z, b.point p = some z → b.PointTurned e p q z z.routeLock c) : a.PointTurned e p q y lock c := by
  obtain ⟨z, hz, hrest, hnone, hturn, hstay⟩ := h
  obtain ⟨v, hv, hvrest, hvnone, -, hvstay⟩ := k z hz
  have hmove := hvstay hnone
  refine ⟨v, hv, ?_, hvnone, fun hw => hmove.trans (hturn hw), fun hw => hmove.trans (hstay hw)⟩
  rw [hvrest, hrest]

theorem Live.redirect_turned (hy : l.point p = some y) : l.PointTurned e p q y y.routeLock (l.redirect e p q) := by
  have hnone : ¬ (l.redirect e p q).waitsOther p q := fun hw => by
    obtain ⟨o, ho, hq⟩ := Live.orderAgainst_iff.mp (Live.waitsOther_iff.mp hw)
    obtain ⟨-, hp⟩ | ⟨hp, -⟩ := Live.redirect_waits ho
    · exact hq hp
    · exact hp rfl
  by_cases hw : l.waitsOther p q
  · obtain ⟨o, ho⟩ : ∃ o, (l.changeOrder p (.position q)).point p = some { y with pendingOrder := o } := by
      have hfind : Map.find p (l.changeOrder p (.position q)).elements = (Map.find p l.elements).map
          (fun r => if r.pendingOrder.isSome then r.withPending (some (.position q)) else r) :=
        Map.find_update_self p (fun r : ElementRec => if r.pendingOrder.isSome then r.withPending (some (.position q)) else r) _
      rw [Live.point_some.mp hy, Option.map_some] at hfind
      by_cases hpending : (ElementRec.point y).pendingOrder.isSome = true
      · rw [if_pos hpending] at hfind
        exact ⟨_, Live.point_some.mpr hfind⟩
      · rw [if_neg hpending] at hfind
        exact ⟨y.pendingOrder, Live.point_some.mpr hfind⟩
    let z : PointRec := { y with
      movement := y.movement.map (fun _ => (q, e.clock + e.tables.moveLimit p)), pendingOrder := o }
    have hz : (l.redirect e p q).point p = some z := by
      rw [Live.redirect, if_pos (Live.waitsOther_iff.mp hw)]
      simp only [ho]
      exact Live.point_some.mpr (Map.find_put_self ..)
    exact ⟨z, hz, rfl, hnone, fun _ => rfl, fun h => absurd hw h⟩
  · refine ⟨y, ?_, rfl, hnone, fun h => absurd h hw, fun _ => rfl⟩
    rwa [Live.redirect, if_neg (mt Live.waitsOther_iff.mpr hw)]

theorem Live.lockPoint_turned (hy : l.point p = some y) : l.PointTurned e p q y (some (n, q)) (l.lockPoint e n p q) := by
  let locked : PointRec := { y with routeLock := some (n, q) }
  have hlocked : (l.setElement p (.point locked)).point p = some locked := Live.point_some.mpr (Map.find_put_self ..)
  have hwaits : (l.setElement p (.point locked)).waitsOther p q ↔ l.waitsOther p q := by
    unfold Live.waitsOther Live.pendingOrder
    rw [Live.setElement_elements, Map.find_put_self, Live.point_some.mp hy]
    rfl
  obtain ⟨z, hz, hrest, hnone, hturn, hstay⟩ := Live.redirect_turned (e := e) (q := q) hlocked
  simp only [Live.lockPoint, hy]
  exact ⟨z, hz, hrest, hnone, fun hw => hturn (hwaits.mpr hw), fun hw => hstay (mt hwaits.mp hw)⟩

theorem Live.lockPoints_keepsElement {ys : Map Position} (hp : p ∉ Map.ids ys) :
    l.KeepsElement p (ys.foldl (fun l y => l.lockPoint e n y.1 y.2) l) :=
  .foldl (fun l (y : Nat × Position) => l.lockPoint e n y.1 y.2) ys (fun z hz _ => Live.lockPoint_keepsElement fun hzp =>
    hp (List.mem_map.mpr ⟨z, hz, hzp.symm⟩)) l

/-- The points of a route locked in turn: each is turned once (R79). -/
theorem Live.lockPoints_turned {ys : Map Position} (hys : (Map.ids ys).Nodup) (hq : (p, q) ∈ ys) (hy : l.point p = some y) :
    l.PointTurned e p q y (some (n, q)) (ys.foldl (fun l y => l.lockPoint e n y.1 y.2) l) := by
  induction ys generalizing l with
  | nil => exact absurd hq List.not_mem_nil
  | cons x ys ih =>
    rw [Map.ids, List.map_cons, List.nodup_cons] at hys
    obtain ⟨hx, hys⟩ := hys
    obtain rfl | hq := List.mem_cons.mp hq
    · exact (Live.lockPoint_turned hy).then_keeps (Live.lockPoints_keepsElement hx)
    · have hp : p ≠ x.1 := fun hp => hx (hp ▸ List.mem_map_of_mem (f := Prod.fst) hq)
      have hkeep : l.KeepsElement p (l.lockPoint e n x.1 x.2) := Live.lockPoint_keepsElement hp
      exact .after_keeps hkeep (ih hys hq (hkeep.point.trans hy))

/-- The waiting orders of claimed elements turned in turn (R102). -/
theorem Live.redirectClaims_keepsElement {cs : List Claim} (h : ∀ c ∈ cs, c.element ≠ p) :
    l.KeepsElement p (l.redirectClaims e cs) :=
  .foldl _ cs (fun c hc l => by
    split
    · exact Live.redirect_keepsElement (h c hc).symm
    · exact .refl _ _) l

theorem Live.redirectClaims_turned {cs : List Claim} (hall : ∀ c ∈ cs, c.element = p → c.required = .position q)
    (h : ∃ c ∈ cs, c.element = p) (hy : l.point p = some y) :
    l.PointTurned e p q y y.routeLock (l.redirectClaims e cs) := by
  induction cs generalizing l y with
  | nil => simp at h
  | cons c cs ih =>
    have hrest := fun d hd => hall d (List.mem_cons_of_mem _ hd)
    by_cases hc : c.element = p
    · have hq := hall c List.mem_cons_self hc
      have hstep : l.redirectClaims e (c :: cs) = (l.redirect e p q).redirectClaims e cs := by
        simp only [Live.redirectClaims, List.foldl_cons, hq, hc]
      rw [hstep]
      by_cases hmore : ∃ d ∈ cs, d.element = p
      · exact (Live.redirect_turned hy).again fun z hz => ih hrest hmore hz
      · exact (Live.redirect_turned hy).then_keeps
          (Live.redirectClaims_keepsElement fun d hd hdp => hmore ⟨d, hd, hdp⟩)
    · have hmore : ∃ d ∈ cs, d.element = p := by
        obtain ⟨d, hd, hdp⟩ := h
        obtain rfl | hd := List.mem_cons.mp hd
        · exact absurd hdp hc
        · exact ⟨d, hd, hdp⟩
      have hkeep : l.KeepsElement p (l.redirectClaims e [c]) :=
        Live.redirectClaims_keepsElement (by simpa using hc)
      exact .after_keeps hkeep (ih hrest hmore (hkeep.point.trans hy))

end

/-! ## The taking of a route -/

section
variable {e : Env} {route fleet n p : Nat} {q : Position} {r : RouteEntry} {choices : List Choice} {y : PointRec} {l : Live}

/-- The records once the points of a route are locked, and nothing else of the taking has touched an element (R78, R79). -/
def Live.pointsLocked (e : Env) (route : Nat) (r : RouteEntry) (fleet n : Nat) (l : Live) : Live :=
  r.requirements.foldl (fun l y => l.lockPoint e n y.1 y.2) ((l.setSlot n (newSlot e l route r fleet)).lockSections n r)

/-- The rest of a taking leaves a point that no claim of its own is on. -/
theorem Live.setEntryOf_keepsPoint {g : Nat} (hy : l.point p = some y) : l.KeepsElement p (l.setEntryOf n g) := by
  by_cases h : p = g
  · subst h
    have hnone : l.signal p = none := by simp only [Live.signal, Live.point_some.mp hy]
    simp only [Live.setEntryOf, hnone]
    exact .refl _ _
  · exact Live.setEntryOf_keepsElement h

/-- The records with which the claims are made (R102). -/
def Live.routeLocked (e : Env) (route : Nat) (r : RouteEntry) (fleet n : Nat) (choices : List Choice) (l : Live) : Live :=
  let m := (l.setSlot n (newSlot e l route r fleet)).lockRoute e n r
  { m with claims := m.claims ++ (claimsFor n choices).map m.proved }

theorem Live.taking_eq : l.taking e route r fleet n choices =
    (l.routeLocked e route r fleet n choices).redirectClaims e (claimsFor n choices) := rfl

theorem Live.routeLocked_keeps (hy : (l.pointsLocked e route r fleet n).point p = some y) :
    (l.pointsLocked e route r fleet n).KeepsElement p (l.routeLocked e route r fleet n choices) :=
  (Live.setEntryOf_keepsPoint (g := r.entrySignal) hy).trans (.of_same rfl rfl)

theorem claimsFor_position (hall : ∀ d ∈ choices, d.element = p → d.required = .position q) :
    ∀ c ∈ claimsFor n choices, c.element = p → c.required = .position q := fun c hc hp => by
  obtain ⟨d, hd, hel, hreq⟩ := mem_claimsFor hc
  exact hreq.symm.trans (hall d hd (hel.trans hp))

/-- A required point is locked in its position, and its waiting order turned to it (R56, R79). -/
theorem Live.taking_required (hq : Map.find p r.requirements = some q) (hy : l.point p = some y)
    (hall : ∀ d ∈ choices, d.element = p → d.required = .position q) :
    l.PointTurned e p q y (some (n, q)) (l.taking e route r fleet n choices) := by
  have hlocked : l.PointTurned e p q y (some (n, q)) (l.pointsLocked e route r fleet n) :=
    .after_keeps (b := (l.setSlot n (newSlot e l route r fleet)).lockSections n r) (.of_same rfl rfl)
      (Live.lockPoints_turned r.requirements_nodup (Map.mem_of_find hq) hy)
  obtain ⟨z, hz, -⟩ := id hlocked
  have hbefore := hlocked.then_keeps (Live.routeLocked_keeps (choices := choices) hz)
  rw [Live.taking_eq]
  by_cases h : ∃ c ∈ claimsFor n choices, c.element = p
  · exact hbefore.again fun v hv => Live.redirectClaims_turned (claimsFor_position hall) h hv
  · exact hbefore.then_keeps (Live.redirectClaims_keepsElement fun c hc hp => h ⟨c, hc, hp⟩)

/-- A point that is claimed but not required keeps its route lock; its waiting order is turned (R102). -/
theorem Live.taking_chosen (hp : Map.find p r.requirements = none) (hy : l.point p = some y)
    (hsome : ∃ d ∈ choices, d.element = p) (hall : ∀ d ∈ choices, d.element = p → d.required = .position q) :
    l.PointTurned e p q y y.routeLock (l.taking e route r fleet n choices) := by
  have hids : p ∉ Map.ids r.requirements := fun hin => by
    obtain ⟨⟨k, a⟩, hk, (rfl : k = p)⟩ := List.mem_map.mp hin
    rw [Map.find_of_mem r.requirements_nodup hk] at hp
    cases hp
  have hkeep : l.KeepsElement p (l.pointsLocked e route r fleet n) :=
    (Live.KeepsElement.of_same (a := l) (b := (l.setSlot n (newSlot e l route r fleet)).lockSections n r) rfl rfl).trans
      (Live.lockPoints_keepsElement hids)
  have hpoint := hkeep.point.trans hy
  have hall' := hkeep.trans (Live.routeLocked_keeps (choices := choices) hpoint)
  rw [Live.taking_eq]
  refine .after_keeps hall' (Live.redirectClaims_turned (claimsFor_position hall) ?_ (hall'.point.trans hy))
  obtain ⟨d, hd, hdp⟩ := hsome
  obtain ⟨c, hc, hcel, -⟩ := claimsFor_of_mem (slot := n) hd
  exact ⟨c, hc, hcel.trans hdp⟩

/-- The route lock of a point, where the element is one. -/
def ElementRec.pointLock : ElementRec → Option (Option (Nat × Position))
  | .point r => some r.routeLock
  | _ => none

/-- Whatever is claimed, a required point is locked in its position (R79). -/
theorem Live.taking_routeLock (hq : Map.find p r.requirements = some q) (hy : l.point p = some y) :
    ∃ z, (l.taking e route r fleet n choices).point p = some z ∧ z.routeLock = some (n, q) := by
  obtain ⟨z, hz, hrest, -⟩ : l.PointTurned e p q y (some (n, q)) (l.pointsLocked e route r fleet n) :=
    .after_keeps (b := (l.setSlot n (newSlot e l route r fleet)).lockSections n r) (.of_same rfl rfl)
      (Live.lockPoints_turned r.requirements_nodup (Map.mem_of_find hq) hy)
  have hlast : Live.SamePart ElementRec.pointLock (l.pointsLocked e route r fleet n) (l.taking e route r fleet n choices) :=
    (Live.setEntryOf_part (fun _ _ => rfl) n r.entrySignal _).trans ((Live.samePart_of_elements rfl).trans
      (Live.redirectClaims_part (fun r => by cases r <;> rfl) (fun _ _ => rfl) e _ _))
  have h := hlast p
  rw [Live.point_some.mp hz] at h
  obtain ⟨x, hx, hlock⟩ := Option.map_eq_some_iff.mp h
  cases x with
  | point v => exact ⟨v, Live.point_some.mpr hx, by rw [Option.some.inj hlock, hrest]⟩
  | signal v => cases hlock
  | head v => cases hlock

/-- What a taking leaves of a signal's record: all but the entry-of-slot and a pending order (R79). -/
def ElementRec.signalling : ElementRec → Option SignalRec
  | .signal r => some { r with entryOf := none, pendingOrder := none }
  | _ => none

theorem Live.taking_signalling : Live.SamePart ElementRec.signalling l (l.taking e route r fleet n choices) :=
  Live.taking_part (fun r => by cases r <;> rfl) (fun _ _ _ => rfl) (fun _ _ => rfl) e route r fleet n choices l

theorem Live.signalling_iff {g : Nat} {y : SignalRec} (h : l.signal g = some y) :
    (Map.find g l.elements).map ElementRec.signalling = some (some { y with entryOf := none, pendingOrder := none }) := by
  rw [Live.signal_some.mp h]
  rfl

/-- A signal whose part is kept stands as it did but for its entry-of-slot and a pending order. -/
theorem Live.SamePart.signal {a b : Live} {g : Nat} {y : SignalRec} (h : Live.SamePart ElementRec.signalling a b)
    (hy : a.signal g = some y) : ∃ z, b.signal g = some z ∧ z = { y with entryOf := z.entryOf, pendingOrder := z.pendingOrder } := by
  have hg := h g
  rw [Live.signalling_iff hy] at hg
  cases hb : Map.find g b.elements with
  | none => simp [hb] at hg
  | some x =>
    cases x with
    | signal z =>
      refine ⟨z, Live.signal_some.mpr hb, ?_⟩
      simp only [hb, Option.map_some, ElementRec.signalling, Option.some.injEq] at hg
      cases z
      cases y
      simp_all
    | point z => simp [hb, ElementRec.signalling] at hg
    | head z => simp [hb, ElementRec.signalling] at hg

/-- The entry signal names the slot (R79). -/
theorem Live.taking_entrySignal {y : SignalRec} (hy : l.signal r.entrySignal = some y) :
    ∃ z, (l.taking e route r fleet n choices).signal r.entrySignal = some z ∧ z.entryOf = some n := by
  have hlocked : Live.SamePart ElementRec.signalling l (l.pointsLocked e route r fleet n) :=
    (Live.samePart_of_elements rfl).trans (Live.samePart_foldl _ (fun l (y : Nat × Position) =>
      Live.lockPoint_part (f := ElementRec.signalling) (fun r => by cases r <;> rfl) (fun _ _ _ => rfl) e n y.1 y.2 l) _ _)
  obtain ⟨v, hv, -⟩ := hlocked.signal hy
  have hentry : ((l.pointsLocked e route r fleet n).setEntryOf n r.entrySignal).signal r.entrySignal =
      some { v with entryOf := some n } := by
    simp only [Live.setEntryOf, hv]
    exact Live.signal_some.mpr (Map.find_put_self ..)
  have hlast : Live.SamePart ElementRec.entryOf ((l.pointsLocked e route r fleet n).setEntryOf n r.entrySignal)
      (l.taking e route r fleet n choices) :=
    (Live.samePart_of_elements rfl).trans
      (Live.redirectClaims_part (f := ElementRec.entryOf) ElementRec.entryOf_bare (fun _ _ => rfl) e _ _)
  obtain ⟨z, hz, -⟩ :=
    (Live.taking_signalling (e := e) (route := route) (r := r) (fleet := fleet) (n := n) (choices := choices)).signal hy
  refine ⟨z, hz, ?_⟩
  have h := hlast r.entrySignal
  rw [Live.signal_some.mp hz, Live.signal_some.mp hentry] at h
  simpa [ElementRec.entryOf] using h

end

end Sys2Proof.Machine
end

section
/-! PROOFS. The taking of a route into a slot (Chapters 4 to 6; R62, R67, R77 to R79, R101, R102). -/

namespace Sys2Proof.Machine

/-! ## The parts of a taking, one after another -/

/-- A FLANK_SUBSTITUTE for each entry that fell to a substitute (R102). -/
def Work.reportSubstitutes (e : Env) (n : Nat) (choices : List Choice) (w : Work) : Work :=
  choices.foldl (fun w c => if c.level = 0 then w
    else w.report e .c .flankSubstitute .slot n (some (1000 * c.level + c.element))) w

section
variable {e : Env} {route fleet n m k p g : Nat} {r : RouteEntry} {choices : List Choice} {x : Slot} {w v : Work}

theorem Work.takeRoute_eq : w.takeRoute e route r fleet n choices =
    ((((w.on (Live.taking e route r fleet n choices)).reportSubstitutes e n choices).orderPoints e n).placeClaims e n).begin e n :=
  rfl

theorem Work.reportSubstitutes_rest : w.reportSubstitutes e n choices = { w with live := { w.live with
    reports := (w.reportSubstitutes e n choices).live.reports, sent := (w.reportSubstitutes e n choices).live.sent } } := by
  induction choices generalizing w with
  | nil => rfl
  | cons c cs ih =>
    have hstep : w.reportSubstitutes e n (c :: cs) = (if c.level = 0 then w
        else w.report e .c .flankSubstitute .slot n (some (1000 * c.level + c.element))).reportSubstitutes e n cs := rfl
    rw [hstep]
    split
    · exact ih
    · have hrest := ih (w := w.report e .c .flankSubstitute .slot n (some (1000 * c.level + c.element)))
      refine hrest.trans ?_
      generalize Work.reportSubstitutes e n cs _ = u
      rw [Work.report_rest]

theorem Work.reportSubstitutes_reports {l : Live} (h : w.live.reports = l.reports) :
    (w.reportSubstitutes e n choices).live.reports = (choices.foldl (fun l y => if y.level = 0 then l
      else l.offer e .c .flankSubstitute .slot n (some (1000 * y.level + y.element))) l).reports := by
  induction choices generalizing w l with
  | nil => exact h
  | cons c cs ih =>
    refine ih ?_
    dsimp only
    split
    · exact h
    · exact Live.offer_reports_congr h ..

/-! ## The placing of a slot's claims -/

theorem Work.orderPoint_cases {q : Position} (e : Env) (p : Nat) (w : Work) :
    w.orderPoint e p q = w ∨ ∃ y, w.live.point p = some y ∧ w.orderPoint e p q = w.on (Live.takePointOrder e p q y) := by
  unfold Work.orderPoint
  split
  · exact .inl rfl
  · next y hy =>
    split
    · exact .inl rfl
    · exact .inr ⟨y, hy, rfl⟩

theorem Work.placePoint_cases (e : Env) (p : Nat) (w : Work) :
    w.placePoint e p = w ∨ ∃ q y, w.live.point p = some y ∧ w.placePoint e p = w.on (Live.takePointOrder e p q y) := by
  unfold Work.placePoint
  split
  · next q _ _ _ _ _ =>
    split
    · obtain h | ⟨y, hy, h⟩ := Work.orderPoint_cases (q := q) e p w
      · exact .inl h
      · exact .inr ⟨_, y, hy, h⟩
    · exact .inl rfl
  · exact .inl rfl

theorem Work.placeSignal_cases (e : Env) (g : Nat) (w : Work) :
    w.placeSignal e g = w ∨ w.placeSignal e g = w.orderSignal e g .danger := by
  unfold Work.placeSignal
  split
  · split
    · exact .inr rfl
    · exact .inl rfl
  · exact .inl rfl

/-- One claimed element placed, be it a point or a signal (R103, R104). -/
def Work.placeOne (e : Env) (k : Nat) (w : Work) : Work := (w.placePoint e k).placeSignal e k

theorem Work.placePoint_stands (m : Nat) : w.live.HoldingsStand m (w.placePoint e p).live := by
  obtain h | ⟨q, y, hy, h⟩ := Work.placePoint_cases e p w
  · rw [h]
    exact .refl ..
  · rw [h]
    exact Live.takePointOrder_stands hy

theorem Work.placeSignal_stands (m : Nat) : w.live.HoldingsStand m (w.placeSignal e g).live := by
  obtain h | h := Work.placeSignal_cases e g w
  · rw [h]
    exact .refl ..
  · rw [h]
    exact Work.orderSignal_stands m

theorem Work.placeOne_stands (m : Nat) : w.live.HoldingsStand m (w.placeOne e k).live :=
  (Work.placePoint_stands m).trans (Work.placeSignal_stands m)

theorem Work.foldl_stands (ks : List Nat) (m : Nat) :
    w.live.HoldingsStand m (ks.foldl (fun w k => w.placeOne e k) w).live := by
  induction ks generalizing w with
  | nil => exact .refl ..
  | cons k ks ih => exact (Work.placeOne_stands m).trans ih

/-- The elements that a slot claims, rising. -/
def Live.claimedBy (n : Nat) (l : Live) : List Nat := ascending ((l.claims.filter (fun c => c.slot == n)).map (fun c => c.element))

theorem Work.placeClaims_eq : w.placeClaims e n = (w.live.claimedBy n).foldl (fun w k => w.placeOne e k) w := rfl

theorem Work.placeClaims_stands (m : Nat) : w.live.HoldingsStand m (w.placeClaims e n).live := Work.foldl_stands _ m

/-- What placing leaves: reports, links and what is sent, and every slot. -/
theorem Work.placeOne_same : (w.placeOne e k).live.reports = w.live.reports ∧ (w.placeOne e k).live.links = w.live.links ∧
    (w.placeOne e k).live.sent = w.live.sent ∧ (w.placeOne e k).live.slots = w.live.slots := by
  have hpoint : (w.placePoint e k).live.reports = w.live.reports ∧ (w.placePoint e k).live.links = w.live.links ∧
      (w.placePoint e k).live.sent = w.live.sent ∧ (w.placePoint e k).live.slots = w.live.slots := by
    rw [Work.placePoint_rest]
    exact ⟨rfl, rfl, rfl, rfl⟩
  obtain h | h := Work.placeSignal_cases e k (w.placePoint e k)
  · rw [Work.placeOne, h]
    exact hpoint
  · rw [Work.placeOne, h, Work.orderSignal_rest]
    exact hpoint

theorem Work.placeClaims_same : (w.placeClaims e n).live.reports = w.live.reports ∧
    (w.placeClaims e n).live.links = w.live.links ∧ (w.placeClaims e n).live.sent = w.live.sent ∧
    (w.placeClaims e n).live.slots = w.live.slots := by
  rw [Work.placeClaims_eq]
  generalize w.live.claimedBy n = ks
  induction ks generalizing w with
  | nil => exact ⟨rfl, rfl, rfl, rfl⟩
  | cons k ks ih =>
    obtain ⟨h1, h2, h3, h4⟩ := ih (w := w.placeOne e k)
    obtain ⟨k1, k2, k3, k4⟩ := Work.placeOne_same (e := e) (k := k) (w := w)
    exact ⟨h1.trans k1, h2.trans k2, h3.trans k3, h4.trans k4⟩

/-! ## The slot's first tests -/

theorem Work.begin_locks (hx : w.live.slot n = some x) (h : x.lineWait = none) : w.begin e n = w.lockTest e n := by
  simp [Work.begin, hx, h]

theorem Work.begin_waits {link line : Nat} (hx : w.live.slot n = some x) (h : x.lineWait = some (link, line))
    (hup : w.live.linkState link = .up) : w.begin e n = w.askOnce e link line := by
  simp only [Work.begin, hx, h, Option.bind_some]
  exact Work.needLine_asks hup

theorem Work.clearTest_reports : (w.clearTest e n).live.reports = w.live.reports := by
  unfold Work.clearTest Work.withSlot
  split
  · rfl
  · split
    · rfl
    · dsimp only
      split
      · exact Work.orderEntry_reports.1
      · rfl

theorem Work.lockTest_reports : (w.lockTest e n).live.reports = w.live.reports := by
  unfold Work.lockTest Work.withSlot
  split
  · rfl
  · split
    · rfl
    · dsimp only
      split
      · exact Work.clearTest_reports
      · rfl

/-- The first tests of a slot write its state, hold and aspect. -/
theorem Work.lockTest_slot (hx : w.live.slot n = some x) (hr : Map.find x.route e.tables.routes = some r) :
    ∃ z, (w.lockTest e n).live.slot n = some z ∧ z = { x with state := z.state, held := z.held, aspect := z.aspect } := by
  by_cases h : x.state ≠ .setting ∨ x.held = some .setting ∨ w.live.allDetected r = false
  · rw [Work.lockTest_stays hx hr h]
    exact ⟨x, hx, rfl⟩
  · simp only [not_or, not_not, Bool.not_eq_false] at h
    obtain ⟨hstate, hheld, hdetected⟩ := h
    rw [Work.lockTest_enters hx hr hstate hheld hdetected]
    obtain ⟨hholds, hclears, hstays⟩ := Work.enterLocked_entersLocked (e := e) hx hr
    by_cases hh : e.mode = .commissioning ∧ (x.route, Stage.locked) ∈ e.holds
    · exact ⟨_, hholds hh, rfl⟩
    · by_cases hc : w.live.clearable n r = true
      · exact ⟨_, (hclears hh hc).1, rfl⟩
      · exact ⟨_, hstays hh (eq_false_of_ne_true hc), rfl⟩

end

/-! ## The slot that a route is taken into -/

section
variable {e : Env} {route fleet n : Nat} {r : RouteEntry} {choices : List Choice} {w : Work}

/-- The records with which a taken slot begins its tests, after its points and claims are placed. -/
def Work.placedRoute (e : Env) (route : Nat) (r : RouteEntry) (fleet n : Nat) (choices : List Choice) (w : Work) : Work :=
  (((w.on (Live.taking e route r fleet n choices)).reportSubstitutes e n choices).orderPoints e n).placeClaims e n

theorem Work.takeRoute_begins :
    w.takeRoute e route r fleet n choices = (w.placedRoute e route r fleet n choices).begin e n := rfl

theorem Live.taking_slot : (Live.taking e route r fleet n choices w.live).slot n = some (newSlot e w.live route r fleet) := by
  rw [Live.taking_rest]
  exact Map.find_put_self ..

theorem Work.placedRoute_slots : (w.placedRoute e route r fleet n choices).live.slots =
    (Live.taking e route r fleet n choices w.live).slots := by
  refine (Work.placing_slots ..).trans ?_
  rw [Work.reportSubstitutes_rest]
  rfl

theorem Work.placedRoute_slot :
    (w.placedRoute e route r fleet n choices).live.slot n = some (newSlot e w.live route r fleet) := by
  rw [Live.slot_congr Work.placedRoute_slots]
  exact Live.taking_slot

theorem Work.placedRoute_stands (m : Nat) : (Live.taking e route r fleet n choices w.live).HoldingsStand m
    (w.placedRoute e route r fleet n choices).live := by
  refine Live.HoldingsStand.trans ?_ ((Work.orderPoints_stands m).trans (Work.placeClaims_stands m))
  rw [Work.reportSubstitutes_rest]
  exact .of_slots rfl rfl rfl rfl rfl fun _ _ => rfl

theorem Work.placedRoute_links : (w.placedRoute e route r fleet n choices).live.links =
    (Live.taking e route r fleet n choices w.live).links := by
  refine Work.placeClaims_same.2.1.trans ?_
  rw [Work.orderPoints_rest, Work.reportSubstitutes_rest]
  rfl

theorem Work.placedRoute_reports : (w.placedRoute e route r fleet n choices).live.reports =
    (choices.foldl (fun l y => if y.level = 0 then l
      else l.offer e .c .flankSubstitute .slot n (some (1000 * y.level + y.element))) w.live).reports := by
  refine Work.placeClaims_same.1.trans ?_
  rw [Work.orderPoints_rest]
  refine Work.reportSubstitutes_reports ?_
  show (Live.taking e route r fleet n choices w.live).reports = _
  rw [Live.taking_rest]
  rfl

theorem Live.linkState_formLineFlags (t : Tables) (link : Nat) (l : Live) :
    (Live.formLineFlags t l).linkState link = l.linkState link := by
  let g (k : Nat) (x : LinkRec) : LinkRec := { x with
    lines := x.lines.map (fun y => (y.1, { y.2 with lineClear := l.lineClearNow t k y.1 })) }
  have hl : (l.formLineFlags t).links = l.links.map (fun x => (x.1, g x.1 x.2)) := rfl
  unfold Live.linkState
  rw [hl, Map.find_mapped g]
  cases Map.find link l.links <;> rfl

/-- The line that a new slot waits for is of a link that is UP. -/
theorem Live.CallPasses.waits_up {link line : Nat} {t : Tables} {l : Live} (h : l.CallPasses t r n choices)
    (hwait : (newSlot e l route r fleet).lineWait = some (link, line)) : l.linkState link = .up := by
  have hexit : r.exitLine = some (link, line) := (Option.filter_eq_some_iff.mp hwait).1
  have hline := h.line
  rw [hexit] at hline
  simpa using hline

/-- The slot begins: it asks for its line, or tests for LOCKED. -/
theorem Work.takeRoute_cases (h : w.live.CallPasses e.tables r n choices) :
    ((newSlot e w.live route r fleet).lineWait = none ∧ w.takeRoute e route r fleet n choices =
      (w.placedRoute e route r fleet n choices).lockTest e n) ∨
    ∃ link line, (newSlot e w.live route r fleet).lineWait = some (link, line) ∧ w.takeRoute e route r fleet n choices =
      (w.placedRoute e route r fleet n choices).askOnce e link line := by
  cases hwait : (newSlot e w.live route r fleet).lineWait with
  | none => exact .inl ⟨rfl, Work.begin_locks Work.placedRoute_slot hwait⟩
  | some k =>
    obtain ⟨link, line⟩ := k
    refine .inr ⟨link, line, rfl, Work.begin_waits Work.placedRoute_slot hwait ?_⟩
    have hup := h.waits_up hwait
    show (w.placedRoute e route r fleet n choices).live.linkState link = .up
    unfold Live.linkState
    rw [Work.placedRoute_links, Live.taking_rest]
    exact (Live.linkState_formLineFlags e.tables link (w.live.lockSections n r)).trans hup

/-- What the first tests leave of the records: the holdings, and the reports. -/
theorem Work.takeRoute_stands (h : w.live.CallPasses e.tables r n choices) :
    (Live.taking e route r fleet n choices w.live).HoldingsStand n (w.takeRoute e route r fleet n choices).live ∧
    (w.takeRoute e route r fleet n choices).live.reports = (w.placedRoute e route r fleet n choices).live.reports := by
  obtain ⟨-, hbegin⟩ | ⟨link, line, -, hbegin⟩ := Work.takeRoute_cases (route := route) (fleet := fleet) h
  · rw [hbegin]
    exact ⟨(Work.placedRoute_stands n).trans Work.lockTest_stands, Work.lockTest_reports⟩
  · refine ⟨?_, ?_⟩
    · rw [hbegin]
      exact (Work.placedRoute_stands n).trans Work.askOnce_stands
    · rw [hbegin, Work.askOnce_rest]

theorem Work.takeRoute_slot (h : w.live.CallPasses e.tables r n choices) (hr : Map.find route e.tables.routes = some r) :
    ∃ z, (w.takeRoute e route r fleet n choices).live.slot n = some z ∧
      z = { newSlot e w.live route r fleet with state := z.state, held := z.held, aspect := z.aspect } := by
  obtain ⟨-, hbegin⟩ | ⟨link, line, -, hbegin⟩ := Work.takeRoute_cases (route := route) (fleet := fleet) h
  · rw [hbegin]
    exact Work.lockTest_slot Work.placedRoute_slot hr
  · rw [hbegin, Work.askOnce_rest]
    exact ⟨_, Work.placedRoute_slot, rfl⟩

end

/-- A route is written into its sections, PATH before OVERLAP (R78). -/
theorem Live.lockSections_sectionAt (n sec : Nat) (r : RouteEntry) (l : Live) : (l.lockSections n r).sectionAt sec =
    (l.sectionAt sec).map (fun y => if sec ∈ r.path then { y with lock := some (n, .path) }
      else if sec ∈ r.overlap then { y with lock := some (n, .overlap) } else y) := by
  rw [Live.sectionAt_lockSections]
  refine congrArg (fun f => Option.map f _) (funext fun y => ?_)
  simp only [SectionRec.lockedFor, List.contains_iff_mem]

/-- Settles O9: the locks and claims are made in the taking, and what it places and tests lets them stand. -/
theorem callTaken : Obligations.CallTaken := by
  intro tag route fleet patience n choices r s hs hm hhold hr hslot hrequest hcheck
  have hpasses : s.work.live.CallPasses s.env.tables r n choices := Live.checkCall_passes.mp hcheck
  let w := s.work.takeRoute s.env route r (r.fleetTaken fleet) n choices
  obtain ⟨z, hz, hrest⟩ := Work.takeRoute_slot (fleet := r.fleetTaken fleet) hpasses hr
  obtain ⟨⟨hsections, hclaims, hpoints, hsignals, hwaiting, -, hslots⟩, hreports⟩ :=
    Work.takeRoute_stands (route := route) (fleet := r.fleetTaken fleet) hpasses
  let taken := Live.taking s.env route r (r.fleetTaken fleet) n choices s.live
  have htaken : taken = _ := Live.taking_rest s.env route r (r.fleetTaken fleet) n choices s.live
  obtain ⟨hapart, hserves, hmade⟩ := claimsFor_serve n choices
  refine ⟨w, control_answered_with hs ?_, ⟨z, hz, ?_⟩, fun m hm => ?_, fun sec => ?_, fun p q y hq hy => ?_, fun y hy => ?_,
    ⟨?_, hapart, hserves, fun y hy => ?_⟩, hreports.trans Work.placedRoute_reports, hwaiting.trans ?_⟩
  · rw [routeCall_calls tag fleet patience hm hhold hr hslot hrequest]
    simp only [State.calls, hcheck]
    rfl
  · rw [hrest]
    refine ⟨rfl, rfl, rfl, rfl, rfl, rfl, ?_⟩
    simp only [newSlot, List.isEmpty_iff]
  · refine (hslots m hm).trans ?_
    show taken.slot m = _
    rw [htaken]
    exact Map.find_put_ne hm ..
  · rw [Live.sectionAt, hsections]
    show taken.sectionAt sec = _
    rw [htaken]
    exact Live.lockSections_sectionAt n sec r s.live
  · obtain ⟨v, hv, hlock⟩ := Live.taking_routeLock (e := s.env) (route := route) (fleet := r.fleetTaken fleet) (n := n)
      (choices := choices) hq hy
    have hkept := hpoints p
    rw [show (Live.taking s.env route r (r.fleetTaken fleet) n choices s.work.live).point p = some v from hv,
      Option.map_some, Option.map_eq_some_iff] at hkept
    obtain ⟨u, hu, heq⟩ := hkept
    exact ⟨u, hu, heq.trans hlock⟩
  · obtain ⟨v, hv, hentry⟩ := Live.taking_entrySignal (e := s.env) (route := route) (fleet := r.fleetTaken fleet) (n := n)
      (choices := choices) hy
    have hkept := hsignals r.entrySignal
    rw [show (Live.taking s.env route r (r.fleetTaken fleet) n choices s.work.live).signal r.entrySignal = some v from hv,
      Option.map_some, Option.map_eq_some_iff] at hkept
    obtain ⟨u, hu, heq⟩ := hkept
    exact ⟨u, hu, heq.trans hentry⟩
  · rw [hclaims, Live.taking_claims, List.map_append, List.map_map]
    rfl
  · obtain ⟨c, hc, hkey⟩ := List.mem_map.mp (hmade y hy)
    simp only [Claim.key, Choice.key, Prod.mk.injEq] at hkey
    exact ⟨c, hc, hkey.1, hkey.2⟩
  · show taken.waiting = _
    rw [htaken]
    rfl

end Sys2Proof.Machine
end

section
/-! PROOFS. A route's points and claimed elements, placed one after another (Chapters 5 and 6; R80, R102 to R104). -/

namespace Sys2Proof.Machine

/-! ## What waits after a point's order -/

section
variable {e : Env} {t : Tables} {k m p g n : Nat} {q : Position} {a : Aspect} {c : Order} {y : PointRec} {l : Live} {w : Work}

theorem Live.takePointOrder_waits (h : (l.takePointOrder e p q y).waits m c) :
    l.waits m c ∨ (m = p ∧ c = .position q) := by
  obtain hp | ⟨hm, hw⟩ := Live.placeOrder_waits h
  · exact .inr hp
  · exact .inl ((Live.setElement_keepsElement hm _).waits c |>.mp hw)

theorem Live.takePointOrder_settled : ¬ (l.takePointOrder e p q y).waitsOther p q := fun hw => by
  obtain ⟨o, ho, hne⟩ := Live.orderAgainst_iff.mp (Live.waitsOther_iff.mp hw)
  obtain ⟨-, rfl⟩ | ⟨hp, -⟩ := Live.placeOrder_waits ho
  · exact hne rfl
  · exact hp rfl

/-- An element's order takes one place of the queue, at its end, or none. -/
theorem Live.placeOrder_queueElements (t : Tables) (n : Nat) (o : Order) (l : Live) :
    (l.placeOrder t n o).queueElements = l.queueElements ∨ (l.placeOrder t n o).queueElements = l.queueElements ++ [n] := by
  unfold Live.placeOrder
  split
  · exact .inl (Live.changeOrder_queueElements ..)
  · split
    · exact .inl rfl
    · exact .inr (by simp [Live.queueElements])

theorem Live.takePointOrder_queueElements : (l.takePointOrder e p q y).queueElements = l.queueElements ∨
    (l.takePointOrder e p q y).queueElements = l.queueElements ++ [p] := Live.placeOrder_queueElements ..

theorem Work.orderSignal_queueElements : (w.orderSignal e g a).live.queueElements = w.live.queueElements ∨
    (w.orderSignal e g a).live.queueElements = w.live.queueElements ++ [g] := by
  cases hg : w.live.signal g with
  | none => exact .inl (by rw [Work.orderSignal_none hg])
  | some r =>
    rw [Work.orderSignal_found hg, Work.reprove_live]
    exact Live.placeOrder_queueElements e.tables g (.aspect a) _

theorem Work.orderRequired_queueElements : (w.orderRequired e p q).live.queueElements = w.live.queueElements ∨
    (w.orderRequired e p q).live.queueElements = w.live.queueElements ++ [p] := by
  cases hy : w.live.point p with
  | none => exact .inl (by rw [Work.orderRequired_none hy])
  | some y =>
    by_cases hmay : w.live.mayOrder p q y
    · rw [Work.orderRequired_moves hy hmay]
      exact Live.takePointOrder_queueElements
    · exact .inl (by rw [Work.orderRequired_idle hy hmay])

theorem Work.orderRequired_waits (h : (w.orderRequired e p q).live.waits m c) :
    w.live.waits m c ∨ (m = p ∧ c = .position q) := by
  cases hy : w.live.point p with
  | none => exact .inl (by rwa [Work.orderRequired_none hy] at h)
  | some y =>
    by_cases hmay : w.live.mayOrder p q y
    · rw [Work.orderRequired_moves hy hmay] at h
      exact Live.takePointOrder_waits h
    · exact .inl (by rwa [Work.orderRequired_idle hy hmay] at h)

/-! ## The required points -/

theorem Work.orderAll_waits {ys : Map Position} (h : (w.orderAll e ys).live.waits m c) :
    w.live.waits m c ∨ ∃ y ∈ ys, y.1 = m ∧ c = .position y.2 := by
  induction ys generalizing w with
  | nil => exact .inl h
  | cons z ys ih =>
    obtain hw | ⟨y, hy, hspec⟩ := ih h
    · obtain hw | ⟨hm, hc⟩ := Work.orderRequired_waits hw
      · exact .inl hw
      · exact .inr ⟨z, List.mem_cons_self, hm.symm, hc⟩
    · exact .inr ⟨y, List.mem_cons_of_mem _ hy, hspec⟩

/-- A required point with no order for another position has none after the orders. -/
theorem Work.orderAll_settled {ys : Map Position} (hys : (Map.ids ys).Nodup) (hq : (p, q) ∈ ys)
    (h : ¬ w.live.waitsOther p q) : ¬ (w.orderAll e ys).live.waitsOther p q := fun hw => by
  obtain ⟨o, ho, hne⟩ := Live.orderAgainst_iff.mp (Live.waitsOther_iff.mp hw)
  obtain ho | ⟨⟨k, b⟩, hy, (rfl : k = p), rfl⟩ := Work.orderAll_waits ho
  · exact h (Live.waitsOther_of_waits ho hne)
  · have hb : b = q := Option.some.inj ((Map.find_of_mem hys hy).symm.trans (Map.find_of_mem hys hq))
    exact hne (by rw [hb])

theorem Work.orderAll_keepsElement {ys : Map Position} (h : k ∉ Map.ids ys ∨ w.live.point k = none) :
    w.live.KeepsElement k (w.orderAll e ys).live := by
  induction ys generalizing w with
  | nil => exact .refl _ _
  | cons z ys ih =>
    rw [Map.ids, List.map_cons, List.mem_cons, not_or] at h
    have hstep : w.live.KeepsElement k (w.orderRequired e z.1 z.2).live := Work.orderRequired_keepsElement (h.imp_left And.left)
    exact hstep.trans (ih (h.imp And.right fun hnone => hstep.point.trans hnone))

theorem Work.orderAll_queueElements {ys : Map Position} : ∃ ps, ps.Sublist (Map.ids ys) ∧
    (w.orderAll e ys).live.queueElements = w.live.queueElements ++ ps := by
  induction ys generalizing w with
  | nil => exact ⟨[], List.Sublist.refl _, (List.append_nil _).symm⟩
  | cons z ys ih =>
    obtain ⟨ps, hps, hqueue⟩ := ih (w := w.orderRequired e z.1 z.2)
    obtain hz | hz := Work.orderRequired_queueElements (e := e) (p := z.1) (q := z.2) (w := w)
    · exact ⟨ps, hps.cons _, hqueue.trans (by rw [hz])⟩
    · exact ⟨z.1 :: ps, hps.cons_cons _, hqueue.trans (by rw [hz, List.append_assoc]; rfl)⟩

/-! ## The claimed elements -/

theorem Work.placePoint_keepsElement (h : k ≠ p ∨ w.live.point k = none) : w.live.KeepsElement k (w.placePoint e p).live := by
  obtain hp | ⟨q, y, hy, hp⟩ := Work.placePoint_cases e p w
  · rw [hp]
    exact .refl _ _
  · rw [hp]
    refine Live.takePointOrder_keepsElement (h.elim id fun hnone hk => ?_) y
    rw [hk, hy] at hnone
    cases hnone

theorem Work.placeSignal_keepsElement (h : k ≠ g ∨ w.live.signal k = none) : w.live.KeepsElement k (w.placeSignal e g).live := by
  obtain hp | hp := Work.placeSignal_cases e g w
  · rw [hp]
    exact .refl _ _
  · rw [hp]
    exact h.elim Work.orderSignal_keepsElement Work.orderSignal_keepsPoint

theorem Work.placeOne_keepsElement (h : k ≠ m) : w.live.KeepsElement k (w.placeOne e m).live :=
  (Work.placePoint_keepsElement (.inl h)).trans (Work.placeSignal_keepsElement (.inl h))

theorem Live.point_no_signal {l : Live} (hy : l.point p = some y) : l.signal p = none := by
  simp only [Live.signal, Live.point_some.mp hy]

theorem Live.signal_no_point {l : Live} {z : SignalRec} (hz : l.signal g = some z) : l.point g = none := by
  simp only [Live.point, Live.signal_some.mp hz]

end

/-- Claimed elements placed in turn. -/
def Work.placing (e : Env) (ks : List Nat) (w : Work) : Work := ks.foldl (fun w k => w.placeOne e k) w

section
variable {e : Env} {k m p g n : Nat} {q : Position} {ks : List Nat} {y : PointRec} {z : SignalRec} {w : Work}

theorem Work.placing_keepsElement (h : k ∉ ks) : w.live.KeepsElement k (w.placing e ks).live := by
  induction ks generalizing w with
  | nil => exact .refl _ _
  | cons j ks ih =>
    rw [List.mem_cons, not_or] at h
    exact (Work.placeOne_keepsElement h.1).trans (ih h.2)

theorem Work.placing_keepsSlots : (w.placing e ks).live.slots = w.live.slots := by
  induction ks generalizing w with
  | nil => rfl
  | cons j ks ih => exact (ih (w := w.placeOne e j)).trans Work.placeOne_same.2.2.2

/-- An element is placed once: what others leave of it stands before and after. -/
theorem Work.placing_once (hks : ks.Nodup) (h : k ∈ ks) : ∃ v : Work, w.live.KeepsElement k v.live ∧
    w.live.HoldingsStand n v.live ∧ v.live.slots = w.live.slots ∧ (v.placeOne e k).live.KeepsElement k (w.placing e ks).live := by
  obtain ⟨as, bs, rfl⟩ := List.append_of_mem h
  rw [List.nodup_append, List.nodup_cons] at hks
  obtain ⟨-, ⟨hb, -⟩, hdisjoint⟩ := hks
  have ha : k ∉ as := fun hk => hdisjoint k hk k List.mem_cons_self rfl
  refine ⟨w.placing e as, Work.placing_keepsElement ha, Work.foldl_stands as n, Work.placing_keepsSlots, ?_⟩
  rw [show w.placing e (as ++ k :: bs) = ((w.placing e as).placeOne e k).placing e bs by
    simp only [Work.placing, List.foldl_append, List.foldl_cons]]
  exact Work.placing_keepsElement hb

/-- A claimed point with a route lock is not placed (R103). -/
theorem Work.placing_locked (hks : ks.Nodup) (hy : w.live.point p = some y) (hlock : y.routeLock ≠ none) :
    w.live.KeepsElement p (w.placing e ks).live := by
  by_cases h : p ∈ ks
  · obtain ⟨v, hv, -, -, hafter⟩ := Work.placing_once (e := e) (n := 0) (w := w) hks h
    have hvy := hv.point.trans hy
    rw [Work.placeOne, Work.placePoint_locked hvy hlock] at hafter
    exact hv.trans ((Work.placeSignal_keepsElement (.inr (Live.point_no_signal hvy))).trans hafter)
  · exact Work.placing_keepsElement h

/-- The claims required of an element, as the placing leaves them. -/
theorem Live.HoldingsStand.claims_iff {a b : Live} (h : a.HoldingsStand n b) (P : Nat → Nat → Required → Prop) :
    (∀ c ∈ b.claims, P c.slot c.element c.required) ↔ ∀ c ∈ a.claims, P c.slot c.element c.required := by
  have hall (cs : List Claim) : (∀ c ∈ cs, P c.slot c.element c.required) ↔
      ∀ c ∈ cs.map Claim.unproved, P c.slot c.element c.required := by
    simp only [List.mem_map, forall_exists_index, and_imp, forall_apply_eq_imp_iff₂]
    rfl
  rw [hall b.claims, hall a.claims, h.2.1]

/-- A claimed point is placed where R103 lets it be, and stands otherwise. -/
theorem Work.placing_point (hks : ks.Nodup) (hp : p ∈ ks) (hy : w.live.point p = some y) (hlock : y.routeLock = none)
    (hclaimed : ∃ c ∈ w.live.claims, c.element = p)
    (hall : ∀ c ∈ w.live.claims, c.element = p → c.required = .position q) :
    let orders := y.evaluated ≠ some q ∧ y.supervised = true ∧ y.movement = none ∧ y.moveFailed = false
    (orders → (w.placing e ks).live.movesTo e p q y ∧ ¬ (w.placing e ks).live.waitsOther p q) ∧
    (¬ orders → w.live.KeepsElement p (w.placing e ks).live) := by
  intro orders
  obtain ⟨v, hv, hstands, -, hafter⟩ := Work.placing_once (e := e) (n := 0) (w := w) hks hp
  have hvy := hv.point.trans hy
  have hvall : ∀ c ∈ v.live.claims, c.element = p → c.required = .position q :=
    (hstands.claims_iff (fun _ a b => a = p → b = .position q)).mpr hall
  have hvsome : ∃ c ∈ v.live.claims, c.element = p := by
    by_contra hnone
    have hno : ∀ c ∈ v.live.claims, c.element ≠ p := fun c hc he => hnone ⟨c, hc, he⟩
    obtain ⟨c, hc, he⟩ := hclaimed
    exact (hstands.claims_iff (fun _ a _ => a ≠ p)).mp hno c hc he
  have hsignal : (v.placePoint e p).live.KeepsElement p ((v.placePoint e p).placeSignal e p).live := by
    refine Work.placeSignal_keepsElement (.inr ?_)
    obtain h | ⟨b, x, hx, h⟩ := Work.placePoint_cases e p v
    · rw [h]
      exact Live.point_no_signal hvy
    · rw [h]
      obtain ⟨-, u, hu, -⟩ := Live.takePointOrder_moves (e := e) (p := p) (q := b) (y := x) (l := v.live)
      exact Live.point_no_signal hu
  have hend : (v.placePoint e p).live.KeepsElement p (w.placing e ks).live := hsignal.trans hafter
  refine ⟨fun ⟨heval, hsup, hmove, hfail⟩ => ?_, fun hno => ?_⟩
  · obtain ⟨c, hc, hcp⟩ := hvsome
    cases hfind : v.live.claims.find? (fun c => c.element == p) with
    | none => exact absurd hcp (by simpa using List.find?_eq_none.mp hfind c hc)
    | some d =>
      have hd := hvall d (List.mem_of_find?_eq_some hfind) (by simpa using List.find?_some hfind)
      have hmay : v.live.mayOrder p q y := ⟨heval, hsup, hmove, hfail, by simp [hlock], hvall⟩
      rw [Work.placePoint_orders hvy hlock hfind hd, Work.orderRequired_moves hvy hmay] at hend
      obtain ⟨hwaits, u, hu, hrest⟩ := Live.takePointOrder_moves (e := e) (p := p) (q := q) (y := y) (l := v.live)
      exact ⟨⟨(hend.waits _).mpr hwaits, u, hend.point.trans hu, hrest⟩,
        mt (hend.waitsOther q).mp Live.takePointOrder_settled⟩
  · have hidle : v.placePoint e p = v := by
      refine (Work.placePoint_spec hvy).2 fun b ⟨⟨c, hc, hcp⟩, hb, heval, _, hsup, hmove, hfail⟩ => hno ?_
      have hbq : Required.position b = .position q := (hb c hc hcp).symm.trans (hvall c hc hcp)
      cases hbq
      exact ⟨heval, hsup, hmove, hfail⟩
    rw [hidle] at hend
    exact hv.trans hend

/-- A claimed signal over which no slot clears stands commanded DANGER after the placing (R104). -/
theorem Work.placing_signal (hks : ks.Nodup) (hg : g ∈ ks) (hz : w.live.signal g = some z)
    (hclaimed : ∃ c ∈ w.live.claims, c.element = g)
    (hfree : ¬ ∃ x ∈ w.live.slots, (x.2.state = .clearing ∨ x.2.state = .clear) ∧ e.tables.entryOf x.2 = some g) :
    ∃ v, (w.placing e ks).live.signal g = some v ∧ v.commanded = .danger ∧
      v.proving = if z.commanded = .danger then z.proving else some (e.clock + e.tables.provingTime g) := by
  obtain ⟨v, hv, hstands, hslots, hafter⟩ := Work.placing_once (e := e) (n := 0) (w := w) hks hg
  have hvz := hv.signal.trans hz
  have hvsome : ∃ c ∈ v.live.claims, c.element = g := by
    by_contra hnone
    have hno : ∀ c ∈ v.live.claims, c.element ≠ g := fun c hc he => hnone ⟨c, hc, he⟩
    obtain ⟨c, hc, he⟩ := hclaimed
    exact (hstands.claims_iff (fun _ a _ => a ≠ g)).mp hno c hc he
  have hidle : v.placePoint e g = v := by
    obtain h | ⟨b, x, hx, -⟩ := Work.placePoint_cases e g v
    · exact h
    · rw [Live.signal_no_point hvz] at hx
      cases hx
  rw [Work.placeOne, hidle] at hafter
  obtain ⟨hgoes, hstays⟩ := Work.placeSignal_spec (e := e) hvz
  by_cases hdanger : z.commanded = .danger
  · rw [hstays fun h => h.2.1 hdanger] at hafter
    exact ⟨z, hafter.signal.trans hvz, hdanger, (if_pos hdanger).symm⟩
  · have hnone : ¬ ∃ x ∈ v.live.slots, (x.2.state = .clearing ∨ x.2.state = .clear) ∧ e.tables.entryOf x.2 = some g := by
      rwa [hslots]
    rw [hgoes ⟨hvsome, hdanger, hnone⟩] at hafter
    obtain ⟨u, hu, hcommanded, hproving⟩ := (Work.orderSignal_ordered (e := e) (a := .danger) hvz).ordered
    exact ⟨u, hafter.signal.trans hu, hcommanded, by rw [if_neg hdanger]; exact hproving⟩

/-- Each claimed element takes one place of the queue at most, in turn. -/
theorem Work.placeOne_queueElements : (w.placeOne e k).live.queueElements = w.live.queueElements ∨
    (w.placeOne e k).live.queueElements = w.live.queueElements ++ [k] := by
  obtain hp | ⟨q, y, hy, hp⟩ := Work.placePoint_cases e k w
  · rw [Work.placeOne, hp]
    obtain hs | hs := Work.placeSignal_cases e k w
    · exact .inl (by rw [hs])
    · rw [hs]
      exact Work.orderSignal_queueElements
  · obtain ⟨-, u, hu, -⟩ := Live.takePointOrder_moves (e := e) (p := k) (q := q) (y := y) (l := w.live)
    have hnone : (w.on (Live.takePointOrder e k q y)).live.signal k = none := Live.point_no_signal hu
    have hidle : (w.on (Live.takePointOrder e k q y)).placeSignal e k = w.on (Live.takePointOrder e k q y) := by
      simp only [Work.placeSignal, hnone]
    rw [Work.placeOne, hp, hidle]
    exact Live.takePointOrder_queueElements

theorem Work.placing_queueElements : ∃ bs, bs.Sublist ks ∧
    (w.placing e ks).live.queueElements = w.live.queueElements ++ bs := by
  induction ks generalizing w with
  | nil => exact ⟨[], List.Sublist.refl _, (List.append_nil _).symm⟩
  | cons j ks ih =>
    obtain ⟨bs, hbs, hqueue⟩ := ih (w := w.placeOne e j)
    obtain hj | hj := Work.placeOne_queueElements (e := e) (k := j) (w := w)
    · exact ⟨bs, hbs.cons _, hqueue.trans (by rw [hj])⟩
    · exact ⟨j :: bs, hbs.cons_cons _, hqueue.trans (by rw [hj, List.append_assoc]; rfl)⟩

/-! ## The claims of the slot stay proven as their elements show -/

/-- The claims of a slot say what their elements show (R106). -/
def Live.claimsTold (n : Nat) (l : Live) : Prop := ∀ c ∈ l.claims, c.slot = n → c.proven = l.shows c.element c.required

theorem Live.claimsTold_same {a b : Live} (h : a.claimsTold n) (hclaims : b.claims = a.claims)
    (hshows : ∀ k q, b.shows k q = a.shows k q) : b.claimsTold n := fun c hc hslot => by
  rw [hshows]
  exact h c (hclaims ▸ hc) hslot

theorem Live.takePointOrder_told {l : Live} (h : l.claimsTold n) (hy : l.point p = some y) :
    (l.takePointOrder e p q y).claimsTold n :=
  Live.claimsTold_same h (by rw [Live.takePointOrder_rest])
    (Live.shows_same (Live.takePointOrder_reported e q hy) (Live.takePointOrder_commanded e q hy))

theorem Work.orderSignal_told {a : Aspect} (h : w.live.claimsTold n) : (w.orderSignal e g a).live.claimsTold n := by
  cases hg : w.live.signal g with
  | none => rwa [Work.orderSignal_none hg]
  | some r =>
    obtain ⟨_, z, -, hz, -, -, ⟨-, hclaims, -⟩, -, -, -, hother, -⟩ := Work.orderSignal_ordered (e := e) (a := a) hg
    intro c hc hslot
    rw [hclaims trivial] at hc
    obtain ⟨d, hd, rfl⟩ := List.mem_map.mp hc
    by_cases hdg : d.element = g
    · rw [if_pos hdg]
      show z.showing d.required = (w.orderSignal e g a).live.shows d.element d.required
      rw [hdg, Live.shows_eq, Live.signal_some.mp hz]
      cases d.required <;> rfl
    · rw [if_neg hdg] at hslot ⊢
      rw [h d hd hslot, Live.shows_eq, Live.shows_eq, hother d.element hdg]

theorem Work.orderAll_told {ys : Map Position} (h : w.live.claimsTold n) : (w.orderAll e ys).live.claimsTold n := by
  induction ys generalizing w with
  | nil => exact h
  | cons z ys ih =>
    refine ih (w := w.orderRequired e z.1 z.2) ?_
    cases hy : w.live.point z.1 with
    | none => rwa [Work.orderRequired_none hy]
    | some y =>
      by_cases hmay : w.live.mayOrder z.1 z.2 y
      · rw [Work.orderRequired_moves hy hmay]
        exact Live.takePointOrder_told h hy
      · rwa [Work.orderRequired_idle hy hmay]

theorem Work.placing_told (h : w.live.claimsTold n) : (w.placing e ks).live.claimsTold n := by
  induction ks generalizing w with
  | nil => exact h
  | cons k ks ih =>
    refine ih (w := w.placeOne e k) ?_
    have hpoint : (w.placePoint e k).live.claimsTold n := by
      obtain hp | ⟨q, y, hy, hp⟩ := Work.placePoint_cases e k w
      · rwa [hp]
      · rw [hp]
        exact Live.takePointOrder_told h hy
    obtain hs | hs := Work.placeSignal_cases e k (w.placePoint e k)
    · rwa [Work.placeOne, hs]
    · rw [Work.placeOne, hs]
      exact Work.orderSignal_told hpoint

end

end Sys2Proof.Machine
end

section
/-! PROOFS. The beginning of a slot with its taking (Chapters 4 to 6; R56, R67, R80 to R88, R95, R103, R104). -/

namespace Sys2Proof.Machine

/-! ## What nothing measures stays -/

section
variable {a b : Live} {p g sec : Nat} {q : Position} {y : PointRec} {z : SignalRec}

theorem Live.Unmeasured.isClear (h : a.Unmeasured b) (sec : Nat) : b.isClear sec = a.isClear sec := by
  have hsec := h.counts sec
  unfold Live.isClear
  cases ha : a.sectionAt sec with
  | none =>
    rw [ha] at hsec
    rw [Option.map_eq_none_iff.mp hsec]
  | some x =>
    rw [ha] at hsec
    obtain ⟨v, hv, hsame⟩ := Option.map_eq_some_iff.mp hsec
    have hstate : v.state = x.state := by
      have hstates := congrArg SectionRec.state hsame
      exact hstates
    rw [hv]
    simp only [hstate]

/-- A point shows, and is, what it was. -/
theorem Live.Unmeasured.point (h : a.Unmeasured b) (hy : a.point p = some y) : ∃ z, b.point p = some z ∧
    z.evaluated = y.evaluated ∧ z.supervised = y.supervised ∧ z.moveFailed = y.moveFailed := by
  have hp := h.reported p
  rw [Live.point_some.mp hy] at hp
  obtain ⟨x, hx, hsame⟩ := Option.map_eq_some_iff.mp hp
  cases x with
  | point v =>
    simp only [ElementRec.reported, ElementRec.point.injEq, PointRec.mk.injEq] at hsame
    exact ⟨v, Live.point_some.mpr hx, by tauto⟩
  | signal v => cases hsame
  | head v => cases hsame

theorem Live.Unmeasured.signal (h : a.Unmeasured b) (hz : a.signal g = some z) :
    ∃ v, b.signal g = some v ∧ v.supervised = z.supervised ∧ v.proven = z.proven := by
  have hg := h.reported g
  rw [Live.signal_some.mp hz] at hg
  obtain ⟨x, hx, hsame⟩ := Option.map_eq_some_iff.mp hg
  cases x with
  | signal v =>
    simp only [ElementRec.reported, ElementRec.signal.injEq, SignalRec.mk.injEq] at hsame
    exact ⟨v, Live.signal_some.mpr hx, by tauto⟩
  | point v => cases hsame
  | head v => cases hsame

theorem Live.Unmeasured.symm (h : a.Unmeasured b) : b.Unmeasured a :=
  ⟨fun n => (h.counts n).symm, fun n => (h.reported n).symm, fun n => (h.agreed n).symm⟩

theorem Live.Unmeasured.detected (h : a.Unmeasured b) (p : Nat) (q : Position) : b.detected p q = a.detected p q := by
  rw [Bool.eq_iff_iff, Live.detected_iff, Live.detected_iff]
  constructor
  · rintro ⟨r, hr, heval⟩
    obtain ⟨z, hz, hsame, -⟩ := h.symm.point hr
    exact ⟨z, hz, hsame.trans heval⟩
  · rintro ⟨r, hr, heval⟩
    obtain ⟨z, hz, hsame, -⟩ := h.point hr
    exact ⟨z, hz, hsame.trans heval⟩

theorem Live.Unmeasured.chosenAspect (h : a.Unmeasured b) (r : RouteEntry) : b.chosenAspect r = a.chosenAspect r := by
  unfold Live.chosenAspect
  split
  · rfl
  · next g hg =>
    have hproven : (b.signal g).bind (fun x => x.proven) = (a.signal g).bind (fun x => x.proven) := by
      cases ha : a.signal g with
      | some z =>
        obtain ⟨v, hv, -, hv'⟩ := h.signal ha
        rw [hv]
        exact hv'
      | none =>
        cases hb : b.signal g with
        | none => rfl
        | some v =>
          obtain ⟨z, hz, -⟩ := h.symm.signal hb
          rw [ha] at hz
          cases hz
    rw [hproven]

theorem Live.Unmeasured.supervised (h : a.Unmeasured b) :
    (∃ z, b.signal g = some z ∧ z.supervised = true) ↔ ∃ z, a.signal g = some z ∧ z.supervised = true := by
  constructor
  · rintro ⟨z, hz, hs⟩
    obtain ⟨v, hv, hsame, -⟩ := h.symm.signal hz
    exact ⟨v, hv, hsame.trans hs⟩
  · rintro ⟨z, hz, hs⟩
    obtain ⟨v, hv, hsame, -⟩ := h.signal hz
    exact ⟨v, hv, hsame.trans hs⟩

end

/-! ## The placed route -/

section
variable {e : Env} {route fleet n p g : Nat} {q : Position} {r : RouteEntry} {choices : List Choice} {c : Choice}
variable {y : PointRec} {z : SignalRec} {w : Work}

/-- A choice of a position is of a point that may be ordered there (R99). -/
theorem Live.obtainable_position {t : Tables} {chosen : List Choice} {l : Live} (h : l.obtainable t chosen p (.position q) = true)
    (hy : l.point p = some y) : y.supervised = true ∧ y.moveFailed = false ∧
      (∀ m a, y.routeLock = some (m, a) → a = q) ∧ ∀ c ∈ l.claims, c.element = p → c.required = .position q := by
  rw [Live.obtainable_point t chosen q (Live.point_some.mp hy)] at h
  simp only [Bool.and_eq_true, Bool.not_eq_true', PointRec.lockedAgainst_eq_false, Live.claimedAgainst_eq_false] at h
  obtain ⟨⟨⟨⟨⟨hsup, hfail⟩, -⟩, hlock⟩, hclaim⟩, -⟩ := h
  exact ⟨hsup, hfail, hlock, hclaim⟩

/-- A choice of DANGER is of a signal over which no slot clears (R99). -/
theorem Live.obtainable_danger {t : Tables} {chosen : List Choice} {l : Live} (h : l.obtainable t chosen g .danger = true)
    (hz : l.signal g = some z) :
    ¬ ∃ x ∈ l.slots, (x.2.state = .clearing ∨ x.2.state = .clear) ∧ t.entryOf x.2 = some g := by
  rw [Live.obtainable_signal t chosen (Live.signal_some.mp hz), Bool.and_eq_true, Bool.not_eq_true'] at h
  rintro ⟨x, hx, hstate, hentry⟩
  have hno := h.2
  simp only [Live.entryIn, List.any_eq_false] at hno
  exact hno x hx (by rcases hstate with hs | hs <;> simp [hs, hentry])

theorem Live.CallPasses.chosen {t : Tables} {l : Live} (h : l.CallPasses t r n choices) (hc : c ∈ choices) :
    ∃ chosen, l.obtainable t chosen c.element c.required = true := by
  obtain ⟨-, -, -, -, -, -, hobtainable⟩ := (Live.flankSearch_spec h.flank).2 c hc
  exact hobtainable

/-- The choices on a point require one position of it (R100). -/
theorem Live.CallPasses.one_position {t : Tables} {l : Live} (h : l.CallPasses t r n choices) (hc : c ∈ choices)
    (hq : c.required = .position q) : ∀ d ∈ choices, d.element = c.element → d.required = .position q := by
  intro d hd hel
  obtain ⟨chosen, hobt⟩ := h.chosen hc
  obtain ⟨_, hobt'⟩ := h.chosen hd
  cases hreq : d.required with
  | position b => rw [Choice.position_unique (Live.flankSearch_spec h.flank).1 hd hc hel hreq hq]
  | danger =>
    rw [hel, hreq] at hobt'
    rw [hq] at hobt
    unfold Live.obtainable at hobt hobt'
    cases hfind : Map.find c.element l.elements with
    | none => simp [hfind] at hobt
    | some x => cases x <;> simp [hfind] at hobt hobt'

/-- The work on which the points of a taken route are ordered. -/
def Work.takenRoute (e : Env) (route : Nat) (r : RouteEntry) (fleet n : Nat) (choices : List Choice) (w : Work) : Work :=
  (w.on (Live.taking e route r fleet n choices)).reportSubstitutes e n choices

theorem Work.takenRoute_rest : w.takenRoute e route r fleet n choices = { w with live := {
    Live.taking e route r fleet n choices w.live with
    reports := (w.takenRoute e route r fleet n choices).live.reports
    sent := (w.takenRoute e route r fleet n choices).live.sent } } := Work.reportSubstitutes_rest

theorem Work.takenRoute_slot : (w.takenRoute e route r fleet n choices).live.slot n = some (newSlot e w.live route r fleet) := by
  rw [Work.takenRoute_rest]
  exact Live.taking_slot

theorem newSlot_state {l : Live} : (newSlot e l route r fleet).state = .setting ∨ (newSlot e l route r fleet).state = .waitLine := by
  unfold newSlot
  dsimp only
  split
  · exact .inr rfl
  · exact .inl rfl

theorem newSlot_held {l : Live} : (newSlot e l route r fleet).held =
    if e.mode = .commissioning ∧ (route, Stage.setting) ∈ e.holds then some .setting else none := by
  simp only [newSlot, Env.holdsAt_iff]

/-- A slot that is not held at SETTING has its points ordered; one that is held has none ordered (R80, R95). -/
theorem Work.takenRoute_orders (hr : Map.find route e.tables.routes = some r) :
    let holds := e.mode = .commissioning ∧ (route, Stage.setting) ∈ e.holds
    let v := w.takenRoute e route r fleet n choices
    (holds → v.orderPoints e n = v) ∧ (¬ holds → v.orderPoints e n = v.orderAll e r.requirements) := by
  intro holds v
  refine ⟨fun h => Work.orderPoints_idle Work.takenRoute_slot (.inl ?_), fun h =>
    Work.orderPoints_found Work.takenRoute_slot hr newSlot_state ?_⟩
  · rw [newSlot_held, if_pos h]
  · rw [newSlot_held, if_neg h]
    nofun

/-- The elements that a new slot claims: those of its choices. -/
theorem Work.claimedBy_iff {v : Work} (hfree : ∀ d ∈ w.live.claims, d.slot ≠ n)
    (hv : (Live.taking e route r fleet n choices w.live).HoldingsStand n v.live) :
    p ∈ v.live.claimedBy n ↔ ∃ c ∈ choices, c.element = p := by
  have hnone : (∀ d ∈ v.live.claims, d.slot = n → d.element ≠ p) ↔ ∀ c ∈ choices, c.element ≠ p := by
    rw [hv.claims_iff (fun slot k _ => slot = n → k ≠ p), Live.taking_claims]
    constructor
    · intro h c hc hel
      obtain ⟨d, hd, hdel, -⟩ := claimsFor_of_mem (slot := n) hc
      exact h _ (List.mem_append_right _ (List.mem_map_of_mem hd)) ((claimsFor_serve n choices).serves d hd).1 (hdel.trans hel)
    · intro h d hd hslot hel
      obtain hd | hd := List.mem_append.mp hd
      · exact hfree d hd hslot
      · obtain ⟨x, hx, rfl⟩ := List.mem_map.mp hd
        obtain ⟨c, hc, hcel, -⟩ := mem_claimsFor hx
        exact h c hc (hcel.trans hel)
  have hmem : p ∈ v.live.claimedBy n ↔ ∃ d ∈ v.live.claims, d.slot = n ∧ d.element = p := by
    simp [Live.claimedBy, mem_ascending, and_assoc]
  rw [hmem]
  constructor
  · rintro ⟨d, hd, hslot, hel⟩
    by_contra hno
    exact hnone.mpr (fun c hc hel => hno ⟨c, hc, hel⟩) d hd hslot hel
  · rintro ⟨c, hc, hel⟩
    by_contra hno
    exact hnone.mp (fun d hd hslot hel => hno ⟨d, hd, hslot, hel⟩) c hc hel

end

/-! ## What comes of a point -/

section
variable {s : State} {p : Nat} {q : Position} {y : PointRec} {lock : Option (Nat × Position)} {may : Prop} {a b : Live}

theorem PointPlaced.then_keeps (h : PointPlaced s a p q may) (k : a.KeepsElement p b) : PointPlaced s b p q may := by
  intro y hy
  obtain ⟨z, hz, heval, hsup, hfail, hsettled, hmoving, hstill⟩ := h y hy
  refine ⟨z, k.point.trans hz, heval, hsup, hfail, mt (k.waitsOther q).mp hsettled, hmoving, fun hnone => ⟨fun hmay hother => ?_,
    (hstill hnone).2⟩⟩
  obtain ⟨hmove, hpersistence, hwaits⟩ := (hstill hnone).1 hmay hother
  exact ⟨hmove, hpersistence, (k.waits _).mpr hwaits⟩

/-- A point whose waiting order has been turned is ordered where it may be, and stands otherwise. -/
theorem PointPlaced.of_turned (hy : s.live.point p = some y) (h : s.live.PointTurned s.env p q y lock a)
    (hplaced : ∀ z, a.point p = some z → z.supervised = y.supervised → z.moveFailed = y.moveFailed → z.routeLock = lock →
      let orders := may ∧ z.evaluated ≠ some q ∧ z.movement = none
      (orders → b.movesTo s.env p q z ∧ ¬ b.waitsOther p q) ∧
      (¬ orders → b.point p = some z ∧ ¬ b.waitsOther p q)) : PointPlaced s b p q may := by
  intro x hx
  obtain rfl : y = x := Option.some.inj (hy.symm.trans hx)
  obtain ⟨z, hz, hrest, -, hturn, hstay⟩ := h
  have hevaluated : z.evaluated = y.evaluated := by rw [hrest]
  have hsupervised : z.supervised = y.supervised := by rw [hrest]
  have hfailed : z.moveFailed = y.moveFailed := by rw [hrest]
  obtain ⟨hmoves, hstands⟩ := hplaced z hz hsupervised hfailed (by rw [hrest])
  have hstill : z.movement = none ↔ y.movement = none := by
    by_cases hw : s.live.waitsOther p q
    · rw [hturn hw, Option.map_eq_none_iff]
    · rw [hstay hw]
  by_cases horders : may ∧ z.evaluated ≠ some q ∧ z.movement = none
  · obtain ⟨⟨hwaits, u, hu, hurest⟩, hsettled⟩ := hmoves horders
    obtain ⟨hmay, hother, hnone⟩ := horders
    refine ⟨u, hu, by rw [hurest]; exact hevaluated, by rw [hurest]; exact hsupervised, by rw [hurest]; exact hfailed, hsettled,
      fun hmoving => absurd (hstill.mp hnone) hmoving, fun _ => ⟨fun _ _ => ⟨by rw [hurest]; rfl, by rw [hurest], hwaits⟩, ?_⟩⟩
    rintro (hno | hat)
    · exact absurd hmay hno
    · exact absurd (hevaluated.trans hat) hother
  · obtain ⟨hu, hsettled⟩ := hstands horders
    refine ⟨z, hu, hevaluated, hsupervised, hfailed, hsettled, fun hmoving => ⟨fun hw => ?_, hstay⟩, fun hnone =>
      ⟨fun hmay hother => absurd ⟨hmay, by rwa [hevaluated], hstill.mpr hnone⟩ horders, fun _ => hstill.mpr hnone⟩⟩
    obtain ⟨m, hm⟩ := Option.ne_none_iff_exists'.mp hmoving
    rw [hturn hw, hm]
    rfl

end

/-! ## The points and signals of a placed route -/

section
variable {s : State} {route fleet n p g : Nat} {q : Position} {r : RouteEntry} {choices : List Choice} {c : Choice}
variable {y : PointRec} {z : SignalRec}

/-- The work once the points of a taken route are ordered. -/
def State.orderedRoute (s : State) (route : Nat) (r : RouteEntry) (fleet n : Nat) (choices : List Choice) : Work :=
  (s.work.takenRoute s.env route r fleet n choices).orderPoints s.env n

theorem State.placedRoute_eq : s.work.placedRoute s.env route r fleet n choices =
    (s.orderedRoute route r fleet n choices).placing s.env ((s.orderedRoute route r fleet n choices).live.claimedBy n) := rfl

theorem State.takenRoute_keeps (k : Nat) : (Live.taking s.env route r fleet n choices s.live).KeepsElement k
    (s.work.takenRoute s.env route r fleet n choices).live := by
  rw [Work.takenRoute_rest]
  exact .of_same rfl rfl

theorem State.takenRoute_stands : (Live.taking s.env route r fleet n choices s.live).HoldingsStand n
    (s.work.takenRoute s.env route r fleet n choices).live := by
  rw [Work.takenRoute_rest]
  exact .of_slots rfl rfl rfl rfl rfl fun _ _ => rfl

theorem State.orderedRoute_stands : (Live.taking s.env route r fleet n choices s.live).HoldingsStand n
    (s.orderedRoute route r fleet n choices).live := State.takenRoute_stands.trans (Work.orderPoints_stands n)

theorem State.claimedBy_nodup (l : Live) : (l.claimedBy n).Nodup := (ascending_rises _).imp Nat.ne_of_lt

/-- The claims on a point, those of the new slot with those before, require one position. -/
theorem Live.taking_claims_require {e : Env} {l : Live} (hold : ∀ d ∈ l.claims, d.element = p → d.required = .position q)
    (hnew : ∀ d ∈ choices, d.element = p → d.required = .position q) :
    ∀ d ∈ (Live.taking e route r fleet n choices l).claims, d.element = p → d.required = .position q := by
  intro d hd hel
  rw [Live.taking_claims] at hd
  obtain hd | hd := List.mem_append.mp hd
  · exact hold d hd hel
  · obtain ⟨x, hx, rfl⟩ := List.mem_map.mp hd
    exact claimsFor_position hnew x hx hel

/-- A required point of a route that passes may be ordered (R65). -/
theorem Live.CallPasses.required {t : Tables} {l : Live} (h : l.CallPasses t r n choices) (hq : Map.find p r.requirements = some q)
    (hy : l.point p = some y) : y.supervised = true ∧ y.moveFailed = false ∧
      ∀ d ∈ l.claims, d.element = p → d.required = .position q := by
  have hmem := Map.mem_of_find hq
  have havailable := h.available _ hmem
  simp only [Live.available, hy, Option.any_some, Bool.and_eq_true, Bool.not_eq_true'] at havailable
  refine ⟨havailable.1, havailable.2, fun d hd hel => ?_⟩
  by_contra hne
  have hobstructed := Live.obstructed_iff.mpr (.inr (.inr (.inr (.inl ⟨_, hmem, d, hd, hel, hne⟩))))
  rw [h.clear] at hobstructed
  cases hobstructed

/-- A required point is ordered unless the slot is held at SETTING (R80, R95). -/
theorem State.placedRoute_required (h : s.live.CallPasses s.store.active r n choices)
    (hr : Map.find route s.store.active.routes = some r) (hq : Map.find p r.requirements = some q)
    (hall : ∀ d ∈ choices, d.element = p → d.required = .position q) :
    PointPlaced s (s.work.placedRoute s.env route r fleet n choices).live p q
      (¬ (s.mode = .commissioning ∧ (route, Stage.setting) ∈ s.stageHolds)) := by
  by_cases hno : s.live.point p = none
  · intro y hy
    rw [hno] at hy
    cases hy
  obtain ⟨y, hy⟩ := Option.ne_none_iff_exists'.mp hno
  obtain ⟨hsup, hfail, hclaims⟩ := h.required hq hy
  have hturned : s.live.PointTurned s.env p q y (some (n, q)) (s.work.takenRoute s.env route r fleet n choices).live :=
    (Live.taking_required hq hy hall).then_keeps (State.takenRoute_keeps p)
  refine PointPlaced.of_turned hy hturned fun z hz hzsup hzfail hzlock => ?_
  obtain ⟨_, -, -, hsettled, -⟩ := hturned
  obtain ⟨hheld, horders⟩ := Work.takenRoute_orders (e := s.env) (fleet := fleet) (n := n) (choices := choices) (w := s.work) hr
  by_cases hholds : s.mode = .commissioning ∧ (route, Stage.setting) ∈ s.stageHolds
  · have hkeep : (s.work.takenRoute s.env route r fleet n choices).live.KeepsElement p
        (s.work.placedRoute s.env route r fleet n choices).live := by
      rw [State.placedRoute_eq, State.orderedRoute, hheld hholds]
      exact Work.placing_locked (State.claimedBy_nodup _) hz (by simp [hzlock])
    exact ⟨fun horder => absurd hholds horder.1, fun _ => ⟨hkeep.point.trans hz, mt (hkeep.waitsOther q).mp hsettled⟩⟩
  · have hordered : s.orderedRoute route r fleet n choices =
        (s.work.takenRoute s.env route r fleet n choices).orderAll s.env r.requirements := horders hholds
    have hwaits : ¬ (s.orderedRoute route r fleet n choices).live.waitsOther p q := by
      rw [hordered]
      exact Work.orderAll_settled r.requirements_nodup (Map.mem_of_find hq) hsettled
    obtain ⟨hstays, hmoves⟩ := Work.orderAll_at (e := s.env) r.requirements_nodup (Map.mem_of_find hq) hz
    rw [← hordered] at hstays hmoves
    have hkeep {v : PointRec} (hv : (s.orderedRoute route r fleet n choices).live.point p = some v) (hlock : v.routeLock ≠ none) :
        (s.orderedRoute route r fleet n choices).live.KeepsElement p (s.work.placedRoute s.env route r fleet n choices).live :=
      Work.placing_locked (State.claimedBy_nodup _) hv hlock
    constructor
    · rintro ⟨-, hother, hnone⟩
      obtain ⟨hw, u, hu, hurest⟩ := hmoves ⟨hother, hzsup.trans hsup, hnone, hzfail.trans hfail,
        fun m a hma => by rw [hzlock] at hma; cases hma; rfl, by
          rw [Work.takenRoute_rest]
          exact Live.taking_claims_require hclaims hall⟩
      have hk := hkeep hu (by rw [hurest]; simp [hzlock])
      exact ⟨⟨(hk.waits _).mpr hw, u, hk.point.trans hu, hurest⟩, mt (hk.waitsOther q).mp hwaits⟩
    · intro hno
      have hu := hstays fun hmay => hno ⟨hholds, hmay.1, hmay.2.2.1⟩
      have hk := hkeep hu (by simp [hzlock])
      exact ⟨hk.point.trans hu, mt (hk.waitsOther q).mp hwaits⟩

/-- What ordering the required points leaves of another element. -/
theorem State.orderedRoute_keeps (hr : Map.find route s.store.active.routes = some r)
    (hk : p ∉ Map.ids r.requirements ∨ (Live.taking s.env route r fleet n choices s.live).point p = none) :
    (Live.taking s.env route r fleet n choices s.live).KeepsElement p (s.orderedRoute route r fleet n choices).live := by
  have htaken := State.takenRoute_keeps (s := s) (route := route) (r := r) (fleet := fleet) (n := n) (choices := choices) p
  obtain ⟨hheld, horders⟩ := Work.takenRoute_orders (e := s.env) (fleet := fleet) (n := n) (choices := choices) (w := s.work) hr
  by_cases hholds : s.mode = .commissioning ∧ (route, Stage.setting) ∈ s.stageHolds
  · rw [State.orderedRoute, hheld hholds]
    exact htaken
  · rw [State.orderedRoute, horders hholds]
    exact htaken.trans (Work.orderAll_keepsElement (hk.imp_right htaken.point.trans))

/-- A flank point that is no required point is ordered where it holds no route lock (R103). -/
theorem State.placedRoute_flank (h : s.live.CallPasses s.store.active r n choices) (hfree : ∀ d ∈ s.live.claims, d.slot ≠ n)
    (hr : Map.find route s.store.active.routes = some r) (hc : c ∈ choices) (hq : c.required = .position q)
    (hnot : Map.find c.element r.requirements = none) :
    PointPlaced s (s.work.placedRoute s.env route r fleet n choices).live c.element q
      ((s.live.point c.element).bind (fun y => y.routeLock) = none) := by
  by_cases hno : s.live.point c.element = none
  · intro y hy
    rw [hno] at hy
    cases hy
  obtain ⟨y, hy⟩ := Option.ne_none_iff_exists'.mp hno
  have hall := h.one_position hc hq
  obtain ⟨chosen, hobtainable⟩ := h.chosen hc
  rw [hq] at hobtainable
  obtain ⟨hsup, hfail, -, hclaims⟩ := Live.obtainable_position hobtainable hy
  have hids : c.element ∉ Map.ids r.requirements := fun hin => by
    obtain ⟨⟨k, a⟩, hk, (rfl : k = c.element)⟩ := List.mem_map.mp hin
    rw [Map.find_of_mem r.requirements_nodup hk] at hnot
    cases hnot
  have hturned : s.live.PointTurned s.env c.element q y y.routeLock (s.orderedRoute route r fleet n choices).live :=
    (Live.taking_chosen hnot hy ⟨c, hc, rfl⟩ hall).then_keeps (State.orderedRoute_keeps hr (.inl hids))
  refine PointPlaced.of_turned hy hturned fun z hz hzsup hzfail hzlock => ?_
  obtain ⟨_, -, -, hsettled, -⟩ := hturned
  rw [hy, Option.bind_some]
  have hks := (Work.claimedBy_iff (e := s.env) (route := route) (r := r) (fleet := fleet) hfree State.orderedRoute_stands
    (w := s.work)).mpr ⟨c, hc, rfl⟩
  by_cases hlock : y.routeLock = none
  · have hrequire := (State.orderedRoute_stands.claims_iff (fun _ a b => a = c.element → b = .position q)).mpr
      (Live.taking_claims_require (e := s.env) (route := route) (r := r) (fleet := fleet) (n := n) hclaims hall)
    have hsome : ∃ d ∈ (s.orderedRoute route r fleet n choices).live.claims, d.element = c.element := by
      simp only [Live.claimedBy, mem_ascending, List.mem_map, List.mem_filter] at hks
      obtain ⟨d, ⟨hd, -⟩, hel⟩ := hks
      exact ⟨d, hd, hel⟩
    obtain ⟨hmoves, hstays⟩ := Work.placing_point (e := s.env) (State.claimedBy_nodup _) hks hz (hzlock.trans hlock) hsome hrequire
    refine ⟨fun ⟨_, hother, hnone⟩ => hmoves ⟨hother, hzsup.trans hsup, hnone, hzfail.trans hfail⟩, fun hno => ?_⟩
    have hk := hstays fun ⟨hother, _, hnone, _⟩ => hno ⟨hlock, hother, hnone⟩
    exact ⟨hk.point.trans hz, mt (hk.waitsOther q).mp hsettled⟩
  · have hk : (s.orderedRoute route r fleet n choices).live.KeepsElement c.element
        (s.work.placedRoute s.env route r fleet n choices).live :=
      Work.placing_locked (State.claimedBy_nodup _) hz (by rwa [hzlock])
    exact ⟨fun horder => absurd horder.1 hlock, fun _ => ⟨hk.point.trans hz, mt (hk.waitsOther q).mp hsettled⟩⟩

/-- A flank signal stands commanded DANGER once the claims are placed (R104). -/
theorem State.placedRoute_signal (h : s.live.CallPasses s.store.active r n choices) (hfree : ∀ d ∈ s.live.claims, d.slot ≠ n)
    (hr : Map.find route s.store.active.routes = some r) (hc : c ∈ choices) (hq : c.required = .danger)
    (hz : s.live.signal c.element = some z) :
    ∃ v, (s.work.placedRoute s.env route r fleet n choices).live.signal c.element = some v ∧ v.commanded = .danger ∧
      v.proving = if z.commanded = .danger then z.proving else some (s.clock + s.store.active.provingTime c.element) := by
  obtain ⟨v, hv, hvrest⟩ := (Live.taking_signalling (e := s.env) (route := route) (r := r) (fleet := fleet) (n := n)
    (choices := choices)).signal hz
  have hkeep := State.orderedRoute_keeps (p := c.element) (fleet := fleet) (n := n) (choices := choices) hr
    (.inr (Live.signal_no_point hv))
  have hks := (Work.claimedBy_iff (e := s.env) (route := route) (r := r) (fleet := fleet) hfree State.orderedRoute_stands
    (w := s.work)).mpr ⟨c, hc, rfl⟩
  have hsome : ∃ d ∈ (s.orderedRoute route r fleet n choices).live.claims, d.element = c.element := by
    simp only [Live.claimedBy, mem_ascending, List.mem_map, List.mem_filter] at hks
    obtain ⟨d, ⟨hd, -⟩, hel⟩ := hks
    exact ⟨d, hd, hel⟩
  obtain ⟨chosen, hobtainable⟩ := h.chosen hc
  rw [hq] at hobtainable
  have hslots : (s.orderedRoute route r fleet n choices).live.slots =
      Map.put n (newSlot s.env s.live route r fleet) s.live.slots := by
    rw [State.orderedRoute, Work.orderPoints_rest, Work.takenRoute_rest]
    exact congrArg Live.slots (Live.taking_rest s.env route r fleet n choices s.live)
  obtain ⟨u, hu, hdanger, hproving⟩ := Work.placing_signal (e := s.env) (State.claimedBy_nodup _) hks (hkeep.signal.trans hv) hsome (by
    rw [hslots]
    rintro ⟨x, hx, hstate, hentry⟩
    obtain rfl | hx := Map.mem_put hx
    · obtain hs | hs := newSlot_state (e := s.env) (route := route) (r := r) (fleet := fleet) (l := s.live)
      all_goals rw [hs] at hstate; simp at hstate
    · exact Live.obtainable_danger hobtainable hz ⟨x, hx, hstate, hentry⟩)
  refine ⟨u, hu, hdanger, hproving.trans ?_⟩
  rw [hvrest]
  rfl

end

end Sys2Proof.Machine
end

section
/-! PROOFS. The first tests of a taken slot (Chapters 4 and 5; R67, R80 to R88, R95, R140). -/

namespace Sys2Proof.Machine

section
variable {e : Env} {n k link line : Nat} {x : Slot} {r : RouteEntry} {w : Work}

theorem Work.clearTest_keepsElement (hx : w.live.slot n = some x) (hr : Map.find x.route e.tables.routes = some r)
    (hk : k ≠ r.entrySignal ∨ w.live.signal k = none) : w.live.KeepsElement k (w.clearTest e n).live := by
  by_cases h : x.state = .locked ∧ x.held ≠ some .locked ∧ w.live.clearable n r = true
  · rw [Work.clearTest_clears hx hr h]
    let v := (w.slotTo n (fun x => { x with state := .clearing })).slotTo n (fun y => { y with aspect := some (w.live.chosenAspect r) })
    have hordered : v.live.KeepsElement k (v.orderSignal e r.entrySignal (w.live.chosenAspect r)).live :=
      hk.elim Work.orderSignal_keepsElement fun hnone => Work.orderSignal_keepsPoint hnone
    exact (Live.KeepsElement.of_same (a := w.live) (b := v.live) rfl rfl).trans hordered
  · rw [Work.clearTest_stays hx hr h]
    exact .refl _ _

theorem Work.clearTest_queueElements (hx : w.live.slot n = some x) (hr : Map.find x.route e.tables.routes = some r) :
    (w.clearTest e n).live.queueElements = w.live.queueElements ∨
    (w.clearTest e n).live.queueElements = w.live.queueElements ++ [r.entrySignal] := by
  by_cases h : x.state = .locked ∧ x.held ≠ some .locked ∧ w.live.clearable n r = true
  · rw [Work.clearTest_clears hx hr h]
    exact Work.orderSignal_queueElements (e := e)
      (w := (w.slotTo n (fun x => { x with state := .clearing })).slotTo n (fun y => { y with aspect := some (w.live.chosenAspect r) }))
  · rw [Work.clearTest_stays hx hr h]
    exact .inl rfl

/-- A slot that enters LOCKED writes its entry signal alone of the elements. -/
theorem Work.lockTest_elements (hx : w.live.slot n = some x) (hr : Map.find x.route e.tables.routes = some r) :
    (∀ k, k ≠ r.entrySignal ∨ w.live.signal k = none → w.live.KeepsElement k (w.lockTest e n).live) ∧
    ((w.lockTest e n).live.queueElements = w.live.queueElements ∨
      (w.lockTest e n).live.queueElements = w.live.queueElements ++ [r.entrySignal]) := by
  by_cases h : x.state ≠ .setting ∨ x.held = some .setting ∨ w.live.allDetected r = false
  · rw [Work.lockTest_stays hx hr h]
    exact ⟨fun k _ => .refl _ _, .inl rfl⟩
  · simp only [not_or, not_not, Bool.not_eq_false] at h
    obtain ⟨hstate, hheld, hdetected⟩ := h
    rw [Work.lockTest_enters hx hr hstate hheld hdetected]
    let v := w.slotTo n (fun x => { x with
      state := .locked
      held := if e.holdsAt x.route .locked then some .locked else none })
    have hv : v.live.slot n = _ := Work.slotTo_found hx _
    exact ⟨fun k hk => (Live.KeepsElement.of_same (a := w.live) (b := v.live) rfl rfl).trans (Work.clearTest_keepsElement hv hr hk),
      Work.clearTest_queueElements hv hr⟩

end

section
variable {s : State} {route fleet n : Nat} {r : RouteEntry} {choices : List Choice}

theorem State.placedRoute_unmeasured (hr : Map.find route s.store.active.routes = some r)
    (hcheck : s.live.checkCall s.store.active r = .passes n choices) :
    s.live.Unmeasured (s.work.placedRoute s.env route r fleet n choices).live := by
  have htaken : s.live.Unmeasured (Live.taking s.env route r fleet n choices s.live) :=
    Evolves.unmeasured (e := s.env) (LiveStep.taken route r fleet n choices trivial hr hcheck).evolves
  have hreported : (Live.taking s.env route r fleet n choices s.live).Unmeasured
      (s.work.takenRoute s.env route r fleet n choices).live := by
    rw [Work.takenRoute_rest]
    exact .of_eq rfl rfl rfl
  exact (htaken.trans hreported).trans (Evolves.unmeasured (e := s.env)
    ((Work.orderPoints_evolves n _).trans (Work.placeClaims_evolves n _)))

/-- The claims of a slot that is placed say what their elements show (R106). -/
theorem State.placedRoute_told (hfree : ∀ d ∈ s.live.claims, d.slot ≠ n) (hr : Map.find route s.store.active.routes = some r) :
    (s.work.placedRoute s.env route r fleet n choices).live.claimsTold n := by
  have hshows (k : Nat) (q : Required) : ((s.live.setSlot n (newSlot s.env s.live route r fleet)).lockRoute s.env n r).shows k q =
      s.live.shows k q := Live.taking_shows s.env route r fleet n [] s.live k q
  have htaking : (Live.taking s.env route r fleet n choices s.live).claimsTold n := by
    intro c hc hslot
    rw [Live.taking_claims] at hc
    rw [Live.taking_shows]
    obtain hc | hc := List.mem_append.mp hc
    · exact absurd hslot (hfree c hc)
    · obtain ⟨d, -, rfl⟩ := List.mem_map.mp hc
      exact hshows _ _
  have htaken : (s.work.takenRoute s.env route r fleet n choices).live.claimsTold n := by
    rw [Work.takenRoute_rest]
    exact htaking
  rw [State.placedRoute_eq]
  refine Work.placing_told ?_
  obtain ⟨hheld, horders⟩ := Work.takenRoute_orders (e := s.env) (fleet := fleet) (n := n) (choices := choices) (w := s.work) hr
  by_cases hholds : s.mode = .commissioning ∧ (route, Stage.setting) ∈ s.stageHolds
  · rw [State.orderedRoute, hheld hholds]
    exact htaken
  · rw [State.orderedRoute, horders hholds]
    exact Work.orderAll_told htaken

theorem State.placedRoute_line (link line : Nat) : ∃ f : LineRec → Bool,
    (s.work.placedRoute s.env route r fleet n choices).live.line link line =
      (s.live.line link line).map (fun y => { y with lineClear := f y }) := by
  refine ⟨fun _ => (s.live.lockSections n r).lineClearNow s.store.active link line, ?_⟩
  have hlinks : (s.work.placedRoute s.env route r fleet n choices).live.links =
      (Live.formLineFlags s.store.active (s.live.lockSections n r)).links := by
    rw [Work.placedRoute_links, Live.taking_rest]
    rfl
  have hline := Live.line_formLineFlags s.store.active link line (s.live.lockSections n r)
  unfold Live.line at hline ⊢
  rw [hlinks]
  exact hline

theorem State.placedRoute_linkState (link : Nat) :
    (s.work.placedRoute s.env route r fleet n choices).live.linkState link = s.live.linkState link := by
  have hstate := Live.linkState_formLineFlags s.store.active link (s.live.lockSections n r)
  unfold Live.linkState at hstate ⊢
  rw [Work.placedRoute_links, Live.taking_rest]
  exact hstate

/-- The claims of a placed slot are proven exactly when its choices show what is required of them. -/
theorem State.placedRoute_proven (h : s.live.CallPasses s.store.active r n choices) (hfree : ∀ d ∈ s.live.claims, d.slot ≠ n)
    (hr : Map.find route s.store.active.routes = some r)
    (hcheck : s.live.checkCall s.store.active r = .passes n choices) :
    (∀ c ∈ (s.work.placedRoute s.env route r fleet n choices).live.claims, c.slot = n → c.proven = true) ↔
    ∀ c ∈ choices, (∀ q, c.required = .position q → s.live.detected c.element q = true) ∧
      (c.required = .danger → ∃ y, s.live.signal c.element = some y ∧ y.proven = some .danger) := by
  let p := s.work.placedRoute s.env route r fleet n choices
  have htold : p.live.claimsTold n := State.placedRoute_told hfree hr
  have hunmeasured : s.live.Unmeasured p.live := State.placedRoute_unmeasured hr hcheck
  have hstands : (Live.taking s.env route r fleet n choices s.live).HoldingsStand n p.live := Work.placedRoute_stands (w := s.work) n
  have hshown : (∀ c ∈ p.live.claims, c.slot = n → c.proven = true) ↔ ∀ c ∈ choices, p.live.shows c.element c.required = true := by
    have hclaims : (∀ c ∈ p.live.claims, c.slot = n → c.proven = true) ↔
        ∀ c ∈ p.live.claims, c.slot = n → p.live.shows c.element c.required = true :=
      forall₂_congr fun c hc => forall_congr' fun hslot => by rw [htold c hc hslot]
    rw [hclaims, hstands.claims_iff (fun slot k q => slot = n → p.live.shows k q = true), Live.taking_claims]
    constructor
    · intro hall c hc
      obtain ⟨d, hd, hel, hreq⟩ := claimsFor_of_mem (slot := n) hc
      have hd' := hall _ (List.mem_append_right _ (List.mem_map_of_mem hd)) ((claimsFor_serve n choices).serves d hd).1
      rw [← hel, ← hreq]
      exact hd'
    · intro hall d hd hslot
      obtain hd | hd := List.mem_append.mp hd
      · exact absurd hslot (hfree d hd)
      · obtain ⟨y, hy, rfl⟩ := List.mem_map.mp hd
        obtain ⟨c, hc, hel, hreq⟩ := mem_claimsFor hy
        have hc' := hall c hc
        rwa [hel, hreq] at hc'
  rw [hshown]
  refine forall₂_congr fun c hc => ?_
  obtain ⟨chosen, hobtainable⟩ := h.chosen hc
  cases hreq : c.required with
  | position q =>
    rw [hreq] at hobtainable
    simp only [Required.position.injEq, reduceCtorEq, false_imp_iff, and_true, forall_eq']
    rw [← hunmeasured.detected]
    rw [Live.shows_eq, Live.detected, Live.point]
    cases Map.find c.element p.live.elements with
    | none => rfl
    | some y => cases y <;> rfl
  | danger =>
    simp only [reduceCtorEq, false_imp_iff, implies_true, true_and, true_imp_iff]
    rw [hreq] at hobtainable
    obtain ⟨z, hz⟩ : ∃ z, s.live.signal c.element = some z := by
      unfold Live.obtainable at hobtainable
      unfold Live.signal
      cases hfind : Map.find c.element s.live.elements with
      | none => simp [hfind] at hobtainable
      | some y => cases y <;> simp [hfind] at hobtainable ⊢
    obtain ⟨v, hv, hdanger, -⟩ := State.placedRoute_signal (fleet := fleet) h hfree hr hc hreq hz
    obtain ⟨u, hu, -, hproven⟩ := hunmeasured.signal hz
    obtain rfl : v = u := Option.some.inj (hv.symm.trans hu)
    have hshow : p.live.shows c.element .danger = (v.proven == some .danger && v.commanded == .danger) := by
      rw [Live.shows_eq, Live.signal_some.mp hv]
      rfl
    rw [hshow, hdanger, hproven]
    simp [hz]

/-- The slot of a placed route clears at once when the conditions of R87 hold (log 23). -/
theorem State.placedRoute_clearable (h : s.live.CallPasses s.store.active r n choices) (hfree : ∀ d ∈ s.live.claims, d.slot ≠ n)
    (hr : Map.find route s.store.active.routes = some r)
    (hcheck : s.live.checkCall s.store.active r = .passes n choices)
    (hours : ∀ link line, r.exit = .line link line → s.live.lineIsOurs link line = true)
    (hdetected : ∀ y ∈ r.requirements, s.live.detected y.1 y.2 = true) :
    (s.work.placedRoute s.env route r fleet n choices).live.clearable n r = true ↔
      (∀ sec ∈ r.path ++ r.overlap, s.live.isClear sec = true) ∧
      (∀ c ∈ choices, (∀ q, c.required = .position q → s.live.detected c.element q = true) ∧
        (c.required = .danger → ∃ y, s.live.signal c.element = some y ∧ y.proven = some .danger)) ∧
      (∃ y, s.live.signal r.entrySignal = some y ∧ y.supervised = true) ∧
      (∀ link line, r.exit = .line link line → ∃ y p, s.live.line link line = some y ∧ y.last = some p ∧
        p.lineClear = true) := by
  let p := s.work.placedRoute s.env route r fleet n choices
  have hunmeasured : s.live.Unmeasured p.live := State.placedRoute_unmeasured hr hcheck
  have hline : p.live.lineReady r = true ↔ ∀ link line, r.exit = .line link line →
      ∃ y b, s.live.line link line = some y ∧ y.last = some b ∧ b.lineClear = true := by
    rw [Live.lineReady_iff]
    refine forall₂_congr fun link line => forall_congr' fun hexit => ?_
    obtain ⟨f, hf⟩ := State.placedRoute_line (s := s) (route := route) (r := r) (fleet := fleet) (n := n) (choices := choices) link line
    have hown := hours link line hexit
    have hup : s.live.linkState link = .up := by
      have hcall := h.line
      rw [RouteEntry.exitLine_iff.mpr hexit] at hcall
      simpa using hcall
    show p.live.linkState link = .up ∧ _ ↔ _
    rw [show p.live.linkState link = _ from State.placedRoute_linkState link,
      show p.live.line link line = _ from hf]
    cases hy : s.live.line link line with
    | none => simp
    | some y =>
      simp only [Live.lineIsOurs, hy, Option.any_some, beq_iff_eq] at hown
      simp [hup, hown]
  have hall : p.live.allDetected r = true := Live.allDetected_iff.mpr fun y hy => by
    rw [hunmeasured.detected]
    exact hdetected y hy
  have hproven := State.placedRoute_proven (fleet := fleet) h hfree hr hcheck
  have hclaims : p.live.claims.all (fun c => c.slot != n || c.proven) = true ↔ ∀ c ∈ p.live.claims, c.slot = n → c.proven = true := by
    simp only [List.all_eq_true, Bool.or_eq_true, bne_iff_ne, ne_eq, imp_iff_not_or]
  have hsections : r.lockedSections.all p.live.isClear = true ↔ ∀ sec ∈ r.path ++ r.overlap, s.live.isClear sec = true := by
    simp only [List.all_eq_true, hunmeasured.isClear]
    rfl
  have hsignal : (p.live.signal r.entrySignal).any (fun g => g.supervised) = true ↔
      ∃ y, s.live.signal r.entrySignal = some y ∧ y.supervised = true := by
    rw [Option.any_eq_true, hunmeasured.supervised]
  show p.live.clearable n r = true ↔ _
  rw [Live.clearable, Bool.and_eq_true, Bool.and_eq_true, Bool.and_eq_true, Bool.and_eq_true, hsections, hclaims, hproven, hsignal,
    hline, and_iff_left hall, and_assoc, and_assoc]

end

section
variable {s : State} {route fleet n link line : Nat} {r : RouteEntry} {choices : List Choice}

/-- The elements of a taken route, and the queue, once the slot has begun. -/
theorem State.takeRoute_elements (h : s.live.CallPasses s.store.active r n choices)
    (hr : Map.find route s.store.active.routes = some r) :
    let p := (s.work.placedRoute s.env route r fleet n choices).live
    let w := s.work.takeRoute s.env route r fleet n choices
    (∀ k, k ≠ r.entrySignal ∨ p.signal k = none → p.KeepsElement k w.live) ∧
    (w.live.queueElements = p.queueElements ∨ w.live.queueElements = p.queueElements ++ [r.entrySignal]) := by
  intro p w
  obtain ⟨-, hbegin⟩ | ⟨link, line, -, hbegin⟩ :=
    Work.takeRoute_cases (e := s.env) (w := s.work) (route := route) (fleet := fleet) h
  · have hw : w = _ := hbegin
    rw [hw]
    exact Work.lockTest_elements Work.placedRoute_slot hr
  · have hw : w = _ := hbegin
    rw [hw, Work.askOnce_rest]
    exact ⟨fun k _ => .of_same rfl rfl, .inl rfl⟩

theorem PointPlaced.taken {p : Nat} {q : Position} {may : Prop} (h : s.live.CallPasses s.store.active r n choices)
    (hr : Map.find route s.store.active.routes = some r)
    (hplaced : PointPlaced s (s.work.placedRoute s.env route r fleet n choices).live p q may) :
    PointPlaced s (s.work.takeRoute s.env route r fleet n choices).live p q may := by
  intro y hy
  obtain ⟨z, hz, -⟩ := hplaced y hy
  exact hplaced.then_keeps ((State.takeRoute_elements (fleet := fleet) h hr).1 p (.inr (Live.point_no_signal hz))) y hy

/-- The orders of a taken route join the queue: required points, claimed elements, entry signal (R67). -/
theorem State.takeRoute_queue (h : s.live.CallPasses s.store.active r n choices) (hfree : ∀ d ∈ s.live.claims, d.slot ≠ n)
    (hr : Map.find route s.store.active.routes = some r) :
    ∃ a b c, (s.work.takeRoute s.env route r fleet n choices).live.queueElements = s.live.queueElements ++ a ++ b ++ c ∧
      a.Pairwise (fun u v => u < v) ∧ (∀ p ∈ a, p ∈ Map.ids r.requirements) ∧
      b.Pairwise (fun u v => u < v) ∧ (∀ p ∈ b, ∃ y ∈ choices, y.element = p) ∧ (c = [] ∨ c = [r.entrySignal]) := by
  have htaken : (s.work.takenRoute s.env route r fleet n choices).live.queueElements = s.live.queueElements := by
    refine Eq.trans ?_ (Live.taking_queueElements s.env route r fleet n choices s.live)
    rw [Work.takenRoute_rest]
    rfl
  obtain ⟨a, ha, hordered⟩ : ∃ a, a.Sublist (Map.ids r.requirements) ∧
      (s.orderedRoute route r fleet n choices).live.queueElements = s.live.queueElements ++ a := by
    obtain ⟨hheld, horders⟩ := Work.takenRoute_orders (e := s.env) (fleet := fleet) (n := n) (choices := choices) (w := s.work) hr
    by_cases hholds : s.mode = .commissioning ∧ (route, Stage.setting) ∈ s.stageHolds
    · refine ⟨[], List.nil_sublist _, ?_⟩
      rw [State.orderedRoute, hheld hholds, List.append_nil]
      exact htaken
    · rw [State.orderedRoute, horders hholds, ← htaken]
      exact Work.orderAll_queueElements
  obtain ⟨b, hb, hplaced⟩ := Work.placing_queueElements (e := s.env) (w := s.orderedRoute route r fleet n choices)
    (ks := (s.orderedRoute route r fleet n choices).live.claimedBy n)
  rw [← State.placedRoute_eq, hordered] at hplaced
  have hmem (p : Nat) (hp : p ∈ b) : ∃ y ∈ choices, y.element = p :=
    (Work.claimedBy_iff (e := s.env) (w := s.work) hfree State.orderedRoute_stands).mp (hb.subset hp)
  have harises : a.Pairwise (fun u v => u < v) := r.requirements_rise.sublist ha
  have hbrises : b.Pairwise (fun u v => u < v) := (ascending_rises _).sublist hb
  obtain ⟨-, hend⟩ := State.takeRoute_elements (fleet := fleet) (choices := choices) h hr
  obtain hend | hend := hend
  · exact ⟨a, b, [], by rw [hend, hplaced, List.append_nil], harises, ha.subset, hbrises, hmem, .inl rfl⟩
  · exact ⟨a, b, [r.entrySignal], by rw [hend, hplaced], harises, ha.subset, hbrises, hmem, .inr rfl⟩

/-- With its exit line not ours a slot stands in WAIT_LINE, and our ask is out (R83, R140). -/
theorem State.takeRoute_waits (h : s.live.CallPasses s.store.active r n choices) (hexit : r.exit = .line link line)
    (hours : s.live.lineIsOurs link line = false) :
    let x := newSlot s.env s.live route r fleet
    let p := s.work.placedRoute s.env route r fleet n choices
    x.lineWait = some (link, line) ∧ x.state = .waitLine ∧
      s.work.takeRoute s.env route r fleet n choices = p.askOnce s.env link line := by
  intro x p
  have hwait : x.lineWait = some (link, line) := by
    simp only [x, newSlot, RouteEntry.exitLine_iff.mpr hexit, hours, Option.filter_some, Bool.not_false, if_true]
  refine ⟨hwait, ?_, ?_⟩
  · have hsome : ((r.exitLine.filter (fun k => !s.live.lineIsOurs k.1 k.2)).isSome) = true := by
      rw [show r.exitLine.filter (fun k => !s.live.lineIsOurs k.1 k.2) = some (link, line) from hwait]
      rfl
    simp only [x, newSlot, hsome, if_true]
  · obtain ⟨hno, -⟩ | ⟨k, m, hsame, hbegin⟩ :=
      Work.takeRoute_cases (e := s.env) (w := s.work) (route := route) (fleet := fleet) h
    · cases hno.symm.trans hwait
    · cases hsame.symm.trans hwait
      exact hbegin

/-- With its exit line ours, or no line, a slot stands in SETTING and tests for LOCKED (R81, R82). -/
theorem State.takeRoute_locks (h : s.live.CallPasses s.store.active r n choices)
    (hours : ∀ link line, r.exit = .line link line → s.live.lineIsOurs link line = true) :
    let x := newSlot s.env s.live route r fleet
    x.lineWait = none ∧ x.state = .setting ∧ s.work.takeRoute s.env route r fleet n choices =
      (s.work.placedRoute s.env route r fleet n choices).lockTest s.env n := by
  intro x
  have hnone : r.exitLine.filter (fun k => !s.live.lineIsOurs k.1 k.2) = none := by
    rw [Option.filter_eq_none_iff]
    rintro ⟨link, line⟩ hexit
    simp [hours link line (RouteEntry.exitLine_iff.mp hexit)]
  have hwait : x.lineWait = none := hnone
  refine ⟨hwait, by simp only [x, newSlot, hnone]; rfl, ?_⟩
  obtain ⟨-, hbegin⟩ | ⟨k, m, hsome, -⟩ :=
    Work.takeRoute_cases (e := s.env) (w := s.work) (route := route) (fleet := fleet) h
  · exact hbegin
  · cases hsome.symm.trans hwait

end

end Sys2Proof.Machine
end

section
/-! PROOFS. A slot begins with its taking (Chapters 4 to 6; R67). -/

namespace Sys2Proof.Machine

section
variable {s : State} {route fleet n link line : Nat} {r : RouteEntry} {choices : List Choice}

/-- Our ask is out for the line that a taken slot waits for, unless one was (R83, R140). -/
theorem State.takeRoute_asks {y : LineRec} {b : BoundaryEntry} (h : s.live.CallPasses s.store.active r n choices)
    (hexit : r.exit = .line link line) (hours : s.live.lineIsOurs link line = false) (hy : s.live.line link line = some y)
    (hb : Map.find link s.store.active.boundary = some b) :
    let w := s.work.takeRoute s.env route r fleet n choices
    ∃ v, w.live.line link line = some v ∧ v = { y with lineClear := v.lineClear, ask := v.ask, nextAsk := v.nextAsk } ∧
      (y.ask ≠ none → v.ask = y.ask ∧ v.nextAsk = y.nextAsk) ∧
      (y.ask = none → v.ask = some (y.nextAsk, s.clock + b.replyTimeout * 10) ∧ v.nextAsk = y.nextAsk + 1 ∧
        w.live.sent.getLast? = some (.directionAsk link line y.nextAsk)) := by
  intro w
  obtain ⟨-, -, hbegin⟩ := State.takeRoute_waits (route := route) (fleet := fleet) h hexit hours
  have hw : w = _ := hbegin
  obtain ⟨f, hf⟩ := State.placedRoute_line (s := s) (route := route) (r := r) (fleet := fleet) (n := n) (choices := choices) link line
  rw [hy, Option.map_some] at hf
  obtain ⟨hout, hnew⟩ := Work.askOnce_spec (e := s.env) hf hb
  by_cases hask : y.ask = none
  · obtain ⟨hline, hsent⟩ := hnew hask
    rw [hw]
    exact ⟨_, hline, rfl, fun hsome => absurd hask hsome, fun _ => ⟨rfl, rfl, by rw [hsent, List.getLast?_concat]⟩⟩
  · obtain ⟨hlinks, -⟩ := hout hask
    have hline : w.live.line link line = some { y with lineClear := f y } := by
      rw [hw]
      unfold Live.line at hf ⊢
      rw [hlinks]
      exact hf
    exact ⟨_, hline, rfl, fun _ => ⟨rfl, rfl⟩, fun hnone => absurd hnone hask⟩

/-- Where a slot stands that is taken with its exit line ours (R81, R82, R87, R88, R95). -/
theorem State.takeRoute_stage (h : s.live.CallPasses s.store.active r n choices)
    (hr : Map.find route s.store.active.routes = some r)
    (hcheck : s.live.checkCall s.store.active r = .passes n choices)
    (hours : ∀ link line, r.exit = .line link line → s.live.lineIsOurs link line = true) :
    let w := s.work.takeRoute s.env route r fleet n choices
    let x := newSlot s.env s.live route r fleet
    let p := (s.work.placedRoute s.env route r fleet n choices).live
    let detected := ∀ y ∈ r.requirements, s.live.detected y.1 y.2 = true
    let holds := s.mode = .commissioning ∧ (route, Stage.setting) ∈ s.stageHolds
    ((holds ∨ ¬ detected) → w.live.slot n = some x) ∧
    (¬ holds → detected → EntersLocked s.env n x r p w.live) := by
  intro w x p detected holds
  obtain ⟨-, hstate, hbegin⟩ := State.takeRoute_locks (route := route) (fleet := fleet) h hours
  have hw : w = _ := hbegin
  have hslot : (s.work.placedRoute s.env route r fleet n choices).live.slot n = some x := Work.placedRoute_slot
  have hentry : Map.find x.route s.env.tables.routes = some r := hr
  have hall : p.allDetected r = true ↔ detected := by
    rw [Live.allDetected_iff]
    refine forall₂_congr fun y _ => ?_
    rw [(State.placedRoute_unmeasured hr hcheck).detected]
  rw [hw]
  refine ⟨fun hstays => ?_, fun hheld hdetected => ?_⟩
  · rw [Work.lockTest_stays hslot hentry ?_]
    · exact hslot
    · refine .inr (hstays.imp (fun hheld => ?_) fun hno => eq_false_of_ne_true (mt hall.mp hno))
      rw [newSlot_held]
      exact if_pos hheld
  · rw [Work.lockTest_enters hslot hentry hstate ?_ (hall.mpr hdetected)]
    · exact Work.enterLocked_entersLocked hslot hentry
    · rw [newSlot_held, if_neg]
      · nofun
      · exact hheld

end

/-- Settles O10: the placed points and claims decide where the slot's first tests leave it. -/
theorem takenSlotBegins : Obligations.TakenSlotBegins := by
  intro tag route fleet patience n choices r s hs hm hhold hr hslot hrequest hcheck hfree
  have h : s.live.CallPasses s.store.active r n choices := Live.checkCall_passes.mp hcheck
  let w := s.work.takeRoute s.env route r (r.fleetTaken fleet) n choices
  let x₀ := newSlot s.env s.live route r (r.fleetTaken fleet)
  obtain ⟨x, hx, hrest⟩ := Work.takeRoute_slot (e := s.env) (w := s.work) (route := route) (fleet := r.fleetTaken fleet) h hr
  have hheld : x₀.held = _ := newSlot_held
  refine ⟨w, x, control_answered_with hs ?_, hx, fun link line hexit hno => ?_, fun hours => ?_, fun p q hq hall => ?_,
    fun c hc q hq hnone => ?_, fun c hc hq hne y hy => ?_, State.takeRoute_queue h hfree hr⟩
  · rw [routeCall_calls tag fleet patience hm hhold hr hslot hrequest]
    simp only [State.calls, hcheck]
    rfl
  · obtain ⟨hwait, hstate, hbegin⟩ := State.takeRoute_waits (route := route) (fleet := r.fleetTaken fleet) h hexit hno
    have hnew : x = x₀ := by
      have hslots : w.live.slot n = some x₀ := by
        show (s.work.takeRoute s.env route r (r.fleetTaken fleet) n choices).live.slot n = _
        rw [hbegin, Work.askOnce_rest]
        exact Work.placedRoute_slot
      exact Option.some.inj (hx.symm.trans hslots)
    rw [hnew]
    exact ⟨hwait, rfl, fun hholds => ⟨hstate, hheld.trans (if_pos hholds)⟩, fun hholds => ⟨hstate, hheld.trans (if_neg hholds)⟩,
      fun y b hy hb => State.takeRoute_asks h hexit hno hy hb⟩
  · obtain ⟨hwait, hstate, -⟩ := State.takeRoute_locks (route := route) (fleet := r.fleetTaken fleet) h hours
    obtain ⟨hstays, henters⟩ := State.takeRoute_stage (route := route) (fleet := r.fleetTaken fleet) h hr hcheck hours
    have hclearable (hdetected : ∀ y ∈ r.requirements, s.live.detected y.1 y.2 = true) :=
      State.placedRoute_clearable (fleet := r.fleetTaken fleet) h hfree hr hcheck hours hdetected
    have is {y : Slot} (hy : w.live.slot n = some y) : x = y := Option.some.inj (hx.symm.trans hy)
    refine ⟨by rw [hrest]; exact hwait, fun hnot => ?_, fun hholds => ?_, fun hholds hno => ?_, fun hholds hall hlocked => ?_,
      fun hholds hall hlocked hno => ?_, fun hholds hall hlocked hclears => ?_⟩
    · by_cases hbegun : (s.mode = .commissioning ∧ (route, Stage.setting) ∈ s.stageHolds) ∨
          ¬ ∀ y ∈ r.requirements, s.live.detected y.1 y.2 = true
      · rw [is (hstays hbegun)]
        rfl
      · obtain ⟨hholds, hall⟩ := not_or.mp hbegun
        obtain ⟨hlocked, hclears, hwaits⟩ := henters hholds (not_not.mp hall)
        by_cases hlocks : s.mode = .commissioning ∧ (route, Stage.locked) ∈ s.stageHolds
        · rw [is (hlocked hlocks)]
          rfl
        · cases hclear : (s.work.placedRoute s.env route r (r.fleetTaken fleet) n choices).live.clearable n r with
          | true => exact absurd (congrArg Slot.state (is (hclears hlocks hclear).1)) hnot
          | false =>
            rw [is (hwaits hlocks hclear)]
            rfl
    · rw [is (hstays (.inl hholds))]
      exact ⟨hstate, hheld.trans (if_pos hholds)⟩
    · rw [is (hstays (.inr hno))]
      exact ⟨hstate, hheld.trans (if_neg hholds)⟩
    · rw [is ((henters hholds hall).1 hlocked)]
      exact ⟨rfl, rfl⟩
    · rw [is ((henters hholds hall).2.2 hlocked (eq_false_of_ne_true (mt (hclearable hall).mp hno)))]
      exact ⟨rfl, rfl⟩
    · obtain ⟨hcleared, hordered⟩ := (henters hholds hall).2.1 hlocked ((hclearable hall).mpr hclears)
      have hunmeasured := State.placedRoute_unmeasured (fleet := r.fleetTaken fleet) hr hcheck
      rw [hunmeasured.chosenAspect] at hcleared hordered
      obtain ⟨-, -, ⟨z, hz, -⟩, -⟩ := hclears
      obtain ⟨v, hv, -⟩ := hunmeasured.signal hz
      rw [is hcleared]
      exact ⟨⟨rfl, rfl⟩, rfl, hordered v hv⟩
  · exact (State.placedRoute_required h hr hq hall).taken h hr
  · exact (State.placedRoute_flank h hfree hr hc hq hnone).taken h hr
  · obtain ⟨z, hz, hspec⟩ := State.placedRoute_signal (fleet := r.fleetTaken fleet) h hfree hr hc hq hy
    exact ⟨z, ((State.takeRoute_elements h hr).1 c.element (.inl hne)).signal.trans hz, hspec⟩

end Sys2Proof.Machine
end

section
/-! PROOFS. How a waiting request leaves the list (Chapter 4; R69 to R73). -/

namespace Sys2Proof.Machine

section
variable {e : Env} {q : Request} {r : RouteEntry} {k n : Nat} {choices : List Choice} {w : Work}

/-- A request that fails a check leaves for checks 5 to 7 and stays for the others (R71). -/
theorem Work.examine_fails (hr : Map.find q.route e.tables.routes = some r) (h : w.live.checkCall e.tables r = .fails k) :
    w.examine e q = if k ≤ 7 then w.on (fun l => Live.offer e .c .requestRefused .route q.route (some (256 * k + q.tag))
      (l.dropRequest q.route)) else w := by
  simp only [Work.examine, hr, h]
  rfl

/-- A request that passes is taken, and reported, before what the taking hands over is settled (R71; log 42). -/
theorem Work.examine_passes (hr : Map.find q.route e.tables.routes = some r) (h : w.live.checkCall e.tables r = .passes n choices) :
    w.examine e q = (((w.on (Live.dropRequest q.route)).takeRoute e q.route r q.fleet n choices).report e .c .requestTaken .route
      q.route (some (256 * n + q.tag))).settled e := by
  simp only [Work.examine, hr, h]

/-- The slot that a request is taken into, and the requests that are left (R71). -/
theorem Work.takeRequest_spec (hr : Map.find q.route e.tables.routes = some r)
    (h : w.live.checkCall e.tables r = .passes n choices) :
    let v := (w.on (Live.dropRequest q.route)).takeRoute e q.route r q.fleet n choices
    v.live.waiting = w.live.waiting.filter (fun x => x.route != q.route) ∧
    ∃ x, v.live.slot n = some x ∧ x.route = q.route ∧ x.fleet = q.fleet ∧ x.origin = .call := by
  intro v
  have hpasses : (w.on (Live.dropRequest q.route)).live.CallPasses e.tables r n choices :=
    Live.checkCall_passes.mp ((Live.checkCall_waiting _ _ _ w.live).trans h)
  obtain ⟨x, hx, hrest⟩ := Work.takeRoute_slot (route := q.route) (fleet := q.fleet) hpasses hr
  obtain ⟨⟨-, -, -, -, hwaiting, -⟩, -⟩ := Work.takeRoute_stands (route := q.route) (fleet := q.fleet) hpasses
  refine ⟨hwaiting.trans ?_, x, hx, by rw [hrest]; exact ⟨rfl, rfl, rfl⟩⟩
  rw [Live.taking_rest]
  rfl

theorem Work.takes_request {left : List Request} {x : Slot} {u v : Work} (hu : u = (v.report e .c .requestTaken .route q.route
      (some (256 * n + q.tag))).settled e) (hwaiting : v.live.waiting = left) (hx : v.live.slot n = some x)
    (hspec : x.route = q.route ∧ x.fleet = q.fleet ∧ x.origin = .call) : ∃ (v : Work) (l : Live), u = v.settled e ∧
      v.live = Live.offer e .c .requestTaken .route q.route (some (256 * n + q.tag)) l ∧ v.live.waiting = left ∧
      ∃ x, v.live.slot n = some x ∧ x.route = q.route ∧ x.fleet = q.fleet ∧ x.origin = .call := by
  refine ⟨_, v.live, hu, Work.report_live .., ?_, x, ?_, hspec⟩
  · rw [Work.report_rest]
    exact hwaiting
  · rw [Work.report_rest]
    exact hx

/-- A scan is due: an event has asked for it, a request waits, and no alarm holds (R70). -/
def Work.due (w : Work) : Prop := w.scan = true ∧ w.live.waiting ≠ [] ∧ w.live.reports.hold = false

theorem Work.scans_due (h : w.due) : w.scans e (k + 1) = (w.scanOnce e).scans e k := by
  obtain ⟨hscan, hwaiting, hhold⟩ := h
  rw [Work.scans]
  exact if_pos (by simp [hscan, hwaiting, hhold])

theorem Work.scans_not_due (h : ¬ w.due) : (w.scans e k).live = w.live := by
  cases k with
  | zero => rfl
  | succ k =>
    rw [Work.scans]
    split
    · next htest =>
      refine absurd ?_ h
      simpa [Work.due, and_assoc] using htest
    · rfl

theorem Work.scanOnce_held (h : w.live.reports.hold = true) : (w.scanOnce e).live = w.live := by
  have hfold (qs : List Request) : ∀ v : Work, v.live.reports.hold = true →
      qs.foldl (fun w q => if w.live.reports.hold then w else w.examine e q) v = v := by
    induction qs with
    | nil => exact fun v _ => rfl
    | cons q qs ih => exact fun v hv => by rw [List.foldl_cons, if_pos hv, ih v hv]
  rw [Work.scanOnce, hfold]
  exact h

theorem Work.scanOnce_cons {rest : List Request} (h : w.live.reports.hold = false) (hwaiting : w.live.waiting = q :: rest) :
    w.scanOnce e = rest.foldl (fun v x => if v.live.reports.hold then v else v.examine e x)
      (Work.examine e q { w with scan := false }) := by
  rw [Work.scanOnce, hwaiting, List.foldl_cons, if_neg (by simp [h])]

end

/-- The expiry of a request's patience (R72). -/
theorem patienceExpired_found {route : Nat} {q : Request} {s : State} (h : s.live.requestOf route = some q) :
    patienceExpired route s = s.expire (some q.expiry) (State.expiresRequest q) := by
  simp only [patienceExpired, h]

/-- Settles O11: a request that is examined stays, is refused or is taken, and a scan examines them in turn. -/
theorem waitingRequestLeaves : Obligations.WaitingRequestLeaves := by
  refine ⟨fun s route hp => ⟨fun q a b hq hother hwaiting hmoment => ?_, fun hearly => ?_⟩, fun e q r w hr => ⟨fun k hk =>
    ⟨fun hlate => ?_, fun hearly => ?_⟩, fun n choices hpasses => ?_⟩, fun e w => ⟨Work.scanOnce_held, fun hhold q rest hwaiting =>
    Work.scanOnce_cons hhold hwaiting, ?_⟩⟩
  · have hfound : s.live.requestOf route = some q := by
      rw [Live.requestOf, hwaiting]
      have ha : a.find? (fun q => q.route == route) = none :=
        List.find?_eq_none.mpr fun x hx => by simpa using hother x (List.mem_append_left _ hx)
      rw [List.find?_append, ha, Option.none_or]
      exact List.find?_cons_of_pos (by simpa using hq)
    have hdrop : s.live.dropRequest q.route = { s.live with waiting := a ++ b } := by
      rw [Live.dropRequest, hwaiting, hq, filter_request hq hother]
    show event (patienceExpired route) s = _
    rw [event, if_pos hp, patienceExpired_found hfound, State.expire_reached _ hmoment, State.expiresRequest, hdrop, hq]
    rfl
  · show event (patienceExpired route) s = _
    rw [event, if_pos hp]
    cases hfound : s.live.requestOf route with
    | none => simp only [patienceExpired, hfound]
    | some q =>
      have hq : q.route = route := by simpa using List.find?_some hfound
      rw [patienceExpired_found hfound, State.expire_early]
      rintro _ ⟨⟩
      exact hearly q (List.mem_of_find?_eq_some hfound) hq
  · rw [Work.examine_fails hr hk, if_neg (Nat.not_le_of_lt hlate)]
  · rw [Work.examine_fails hr hk, if_pos hearly]
    rfl
  · obtain ⟨hwaiting, x, hx, hspec⟩ := Work.takeRequest_spec hr hpasses
    exact Work.takes_request (Work.examine_passes hr hpasses) hwaiting hx hspec
  · intro due v
    have hscan : due v → w.event e = (v.scanOnce e).scans e v.live.waiting.length := fun h => Work.scans_due h
    refine ⟨fun h => Work.scans_not_due h, fun h hno => ?_, hscan, fun k => ⟨fun h => Work.scans_due h, fun h => Work.scans_not_due h⟩⟩
    rw [hscan h]
    exact Work.scans_not_due hno

end Sys2Proof.Machine
end

section
/-! PROOFS. What a PRESENCE reports and hands on (Chapter 8; R131 to R133, R136, R137). -/

namespace Sys2Proof.Machine

/-! ## A PRESENCE heard -/

/-- A link's record once a PRESENCE is heard: the identity and the version are written (R131, R132). -/
def LinkRec.presented (moment : Nat) (identity : Identity) (version : Word16) (k : LinkRec) : LinkRec :=
  { k.hear moment with identity := some identity, version := some version }

/-- The work that a PRESENCE begins with, its link heard. -/
def State.presented (port : Nat) (identity : Identity) (version : Word16) (s : State) : Work :=
  s.work.updateLink port (LinkRec.presented (s.clock + s.store.active.linkSupervision port) identity version)

section
variable {port link line : Nat} {identity : Identity} {version : Word16} {lines : List PresenceLine} {k : LinkRec} {s : State}
variable {e : Env} {w : Work} {moment : Nat}

theorem Work.updateLink_updateLink (n : Nat) (f g : LinkRec → LinkRec) (w : Work) :
    (w.updateLink n f).updateLink n g = w.updateLink n (fun k => g (f k)) :=
  congrArg (fun m => { w with live := { w.live with links := m } }) (Map.update_update n f g w.live.links)

theorem Work.find_updateLink {n : Nat} {f : LinkRec → LinkRec} {k : LinkRec} (hk : Map.find n w.live.links = some k) :
    Map.find n (w.updateLink n f).live.links = some (f k) := by
  show Map.find n (Map.update n f w.live.links) = _
  rw [Map.find_update_self, hk, Option.map_some]

theorem State.presented_link (hk : Map.find port s.live.links = some k) : Map.find port (s.presented port identity version).live.links =
    some (k.presented (s.clock + s.store.active.linkSupervision port) identity version) := Work.find_updateLink (w := s.work) hk

/-- A PRESENCE whose lines have a meaning is taken by the state that its link had (R132). -/
theorem exec_presence (hp : s.power = true) (hk : Map.find port s.live.links = some k)
    (hlines : ∀ x ∈ lines, presenceLineMeaningful x = true) :
    exec (.presence port identity version lines) s = .next (s.ending
      (let v := s.presented port identity version
      if k.state = .up then
        if identity = s.store.active.expected port then v.applyPresence s.env port lines false k
        else (((v.updateLink port (fun k => { k with state := .aligning, mismatch := false })).leaveUp s.env port k).handedOn
          s.env).mismatched s.env port identity
      else if identity ≠ s.store.active.expected port then v.mismatched s.env port identity
      else if s.nv.identity = 0 then v
      else (v.updateLink port (fun k => { k with state := .up })).applyPresence s.env port lines true k)) := by
  refine (event_on _ _ hp).trans (congrArg _ ?_)
  have hall : lines.all presenceLineMeaningful = true := List.all_eq_true.mpr hlines
  rw [presenceTaken, hall, State.heard_found hk]
  refine congrArg (fun w => s.ending w) ?_
  unfold Work.takePresence
  rw [Work.updateLink_updateLink]
  by_cases hexpected : identity = s.store.active.expected port
  · subst hexpected
    simp only [State.env_tables, beq_self_eq_true, ne_eq, not_true, Bool.not_true, Bool.false_eq_true, if_true, if_false]
    rfl
  · have hne : (identity == s.store.active.expected port) = false := beq_eq_false_iff_ne.mpr hexpected
    simp only [State.env_tables, hne, hexpected, ne_eq, not_false_eq_true, Bool.not_false, Bool.false_eq_true, if_true, if_false]
    rfl

theorem LinkRec.presented_up (h : k.state = .up) : k.presented moment identity version =
    { k with lastHeard := some moment, identity := some identity, version := some version } := by
  rw [LinkRec.presented, LinkRec.hear, if_neg (by simp [h])]

theorem LinkRec.presented_eq : k.presented moment identity version =
    { k with
      state := if k.state = .down then .aligning else k.state
      lastHeard := some moment
      mismatch := if k.state = .down then false else k.mismatch
      identity := some identity
      version := some version } := by
  unfold LinkRec.presented LinkRec.hear
  split <;> rfl

/-- An identity that is not the expected one is reported once (R132). -/
theorem Work.mismatched_found (hk : Map.find link w.live.links = some k) : w.mismatched e link identity =
    if k.mismatch then w else (w.updateLink link (fun k => { k with mismatch := true })).report e .b .identityMismatch .link link
      (some (identity.toNat % 65536)) := by
  simp only [Work.mismatched, hk]

theorem Work.handedOn_mismatch (hk : Map.find link w.live.links = some k) :
    ∃ z, Map.find link (w.handedOn e).live.links = some z ∧ z.mismatch = k.mismatch := by
  have hsame : w.live.Unmeasured (w.handedOn e).live := Evolves.unmeasured (e := e) (Work.handedOn_evolves w)
  have hlink := hsame.agreed link
  rw [hk] at hlink
  obtain ⟨z, hz, hagreed⟩ := Option.map_eq_some_iff.mp hlink
  have hmismatch := congrArg LinkRec.mismatch hagreed
  exact ⟨z, hz, hmismatch⟩

end

/-! ## One line -/

section
variable {e : Env} {link line : Nat} {theirs : LineReport} {y : LineRec} {w : Work}

/-- An ask of either side passes the agreement check over (R137). -/
theorem Work.agree_asking (hy : w.live.line link line = some y) (h : ¬ (y.ask = none ∧ theirs.askOutstanding = false)) :
    w.agree e link line theirs = w := by
  simp only [Work.agree, hy]
  refine if_pos ?_
  rw [Bool.or_eq_true, Option.isSome_iff_ne_none]
  by_cases hask : y.ask = none
  · exact .inr (Bool.not_eq_false _ ▸ fun hno => h ⟨hask, hno⟩)
  · exact .inl hask

theorem Work.agree_accord (hy : w.live.line link line = some y) (h : disagreement y.owner theirs.owner = none) :
    w.agree e link line theirs = w := by
  simp only [Work.agree, hy, h, ite_self]

/-- Owners that disagree leave ours UNKNOWN, with DIRECTION_CONFLICT; the slots are told when it was US (R137). -/
theorem Work.agree_conflict {detail : Nat} (hy : w.live.line link line = some y) (hask : y.ask = none)
    (htheirs : theirs.askOutstanding = false) (h : disagreement y.owner theirs.owner = some detail) :
    let v := (w.lineTo link line (fun y => { y with owner := .unknown })).report e .a .directionConflict .line (10 * link + line)
      (some detail)
    w.agree e link line theirs = if y.owner = .us then v.hand [.lineLost link line] else v := by
  simp only [Work.agree, hy, hask, htheirs, h, Option.isSome_none, Bool.or_false, Bool.false_eq_true, if_false]
  rfl

theorem disagreement_none {a b : Owner} (h : ¬ ((a = .us ∧ b = .us) ∨ (a = .neighbour ∧ b = .neighbour))) :
    disagreement a b = none := by
  cases a <;> cases b <;> simp [disagreement] at h ⊢

/-- What a conflict writes: our owner, and the report; the rest stands. -/
theorem Work.conflict_spec {detail : Nat} (hy : w.live.line link line = some y) :
    let v := (w.lineTo link line (fun y => { y with owner := .unknown })).report e .a .directionConflict .line (10 * link + line)
      (some detail)
    (v.live.line link line = some { y with owner := .unknown } ∧
      v.live.reports = (w.live.offer e .a .directionConflict .line (10 * link + line) (some detail)).reports ∧
      v.live.sections = w.live.sections ∧ v.live.slots = w.live.slots ∧ v.live.elements = w.live.elements) ∧ v.todo = w.todo := by
  intro v
  have hreports : v.live.reports = _ := Live.offer_reports_congr (a := (w.lineTo link line (fun y => { y with owner := .unknown })).live)
    (b := w.live) rfl e .a .directionConflict .line (10 * link + line) (some detail)
  refine ⟨⟨?_, hreports, Live.offer_sections .., Live.offer_slots .., Live.offer_elements ..⟩, rfl⟩
  exact (Live.line_offer ..).trans (Live.line_updateLine_self hy)

/-- A section that is changed: of links and slots only the flags are formed anew, and a change of the section alone is handed on
(R28). -/
theorem Work.section_line {sec : Nat} {f : SectionRec → SectionRec × Option Cause} (hy : w.live.line link line = some y) :
    let v := w.section_ e sec f
    (∃ z, v.live.line link line = some z ∧ z = { y with lineClear := z.lineClear }) ∧ v.live.slots = w.live.slots ∧
      v.live.elements = w.live.elements ∧ ∃ cs, v.todo = w.todo ++ cs ∧ ∀ c ∈ cs, ∃ sec, c = .sectionState sec := by
  intro v
  cases hold : w.live.sectionAt sec with
  | none =>
    rw [show v = w from Work.section_absent hold]
    exact ⟨⟨y, hy, rfl⟩, rfl, rfl, [], (List.append_nil _).symm, by simp⟩
  | some old =>
    have hfound : v = _ := Work.section_found (e := e) (f := f) hold
    rw [hfound]
    refine ⟨?_, ?_, ?_, _, rfl, fun c hc => ?_⟩
    · unfold Live.line
      dsimp only
      split
      · exact ⟨y, hy, rfl⟩
      · have hline := Live.line_formLineFlags e.tables link line (w.live.setSection sec ((f old).1.leaveClear old.state))
        rw [show (w.live.setSection sec ((f old).1.leaveClear old.state)).line link line = some y from hy] at hline
        exact ⟨_, hline, rfl⟩
    · rw [Live.reportCause_rest]
    · rw [Live.reportCause_rest]
    · split at hc
      · exact ⟨sec, List.mem_singleton.mp hc⟩
      · exact absurd hc List.not_mem_nil

/-- The shared section of a line is compared (R37, R136). -/
theorem Work.compareShared_spec {reported : Option LineReport} (hy : w.live.line link line = some y) :
    let v := w.compareShared e link line reported
    (∃ z, v.live.line link line = some z ∧ z = { y with lineClear := z.lineClear }) ∧ v.live.slots = w.live.slots ∧
      v.live.elements = w.live.elements ∧ ∃ cs, v.todo = w.todo ++ cs ∧ ∀ c ∈ cs, ∃ sec, c = .sectionState sec := by
  intro v
  have hv : v = w.compareShared e link line reported := rfl
  unfold Work.compareShared at hv
  split at hv
  · rw [hv]
    exact Work.section_line hy
  · rw [hv]
    exact ⟨⟨y, hy, rfl⟩, rfl, rfl, [], (List.append_nil _).symm, by simp⟩

/-- One line takes its presence: what it hands on is taken before the owners are compared (R136, R137; logs 4, 29, 56). -/
theorem Work.applyLine_found {lines : List PresenceLine} {broughtUp : Bool} (hy : w.live.line link line = some y) :
    let theirs := (lineReport lines line).getD LineReport.absent
    let handed := broughtUp = true ∨ y.last.map (fun p => p.lineClear) ≠ some theirs.lineClear
    let v := (w.lineTo link line (fun y => { y with last := some theirs })).compareShared e link line (lineReport lines line)
    w.applyLine e link lines broughtUp line =
      ((if handed then v.hand [.lineFlag link line] else v).handedOn e).agree e link line theirs := by
  intro theirs handed v
  have hhanded : (broughtUp || (y.last.map (fun x => x.lineClear)) != some theirs.lineClear) = true ↔ handed := by
    simp [handed]
  simp only [Work.applyLine, hy]
  by_cases h : handed
  · rw [if_pos h, if_pos (hhanded.mpr h)]
  · rw [if_neg h, if_neg (mt hhanded.mp h)]

end

/-- Settles O39: the link's state decides what a PRESENCE is taken as, and one line what is told of it. -/
theorem presenceReported : Obligations.PresenceReported := by
  refine ⟨fun port identity version lines k s hp hk hlines => ?_, fun e link line y w hy => ⟨fun lines broughtUp => ?_,
    fun theirs => ?_⟩⟩
  · intro expected heard mismatch taken
    have hexec := exec_presence (identity := identity) (version := version) hp hk hlines
    dsimp only at hexec
    let v := s.presented port identity version
    have hlink : Map.find port v.live.links = _ := State.presented_link hk
    have hidle (w : Work) (hw : w = v ∨ w = (v.updateLink port (fun y => { y with mismatch := true })).on mismatch) :
        s.ending w = { s with live := w.live } ∧ w.live.sections = s.live.sections ∧ w.live.slots = s.live.slots ∧
        w.live.elements = s.live.elements := by
      obtain rfl | rfl := hw
      · exact ⟨State.ending_idle _ _ rfl rfl rfl rfl, rfl, rfl, rfl⟩
      · exact ⟨State.ending_idle _ _ rfl rfl rfl rfl, Live.offer_sections .., Live.offer_slots .., Live.offer_elements ..⟩
    have hmismatched := Work.mismatched_found (e := s.env) (identity := identity) (w := v) hlink
    refine ⟨fun hexpected hup => ?_, fun hexpected hdown hown => ?_, fun hexpected hdown => ⟨fun hsome hreported => ?_, fun hnew => ?_⟩,
      fun hexpected hup => ?_⟩
    · by_cases hstate : k.state = .up
      · rw [if_pos hstate, if_pos hexpected] at hexec
        refine ⟨v, _, ?_, rfl, hlink, ?_, fun link hne => Map.find_update_ne hne _ _⟩
        · rw [hexec, hstate]
          rfl
        · rw [LinkRec.presented_up hstate]
          simp [heard, hstate]
      · rw [if_neg hstate, if_neg (not_not_intro hexpected), if_neg (hup.resolve_left hstate)] at hexec
        refine ⟨v.updateLink port (fun k => { k with state := .up }), _, ?_, ?_, Work.find_updateLink hlink, ?_, fun link hne => ?_⟩
        · rw [hexec, show (k.state != .up) = true from bne_iff_ne.mpr hstate]
          rfl
        · rfl
        · rw [LinkRec.presented_eq]
        · show Map.find link (Map.update port (fun k => { k with state := .up }) v.live.links) = _
          rw [Map.find_update_ne hne]
          exact Map.find_update_ne hne _ _
    · rw [if_neg hdown, if_neg (not_not_intro hexpected), if_pos hown] at hexec
      obtain ⟨hending, hrest⟩ := hidle v (.inl rfl)
      exact ⟨_, hexec.trans (congrArg _ hending), rfl, hrest⟩
    · rw [if_neg hdown, if_pos hexpected, hmismatched, LinkRec.presented_eq, if_pos (by simp [hsome, hreported])] at hexec
      obtain ⟨hending, hrest⟩ := hidle v (.inl rfl)
      exact ⟨_, hexec.trans (congrArg _ hending), rfl, hrest⟩
    · rw [if_neg hdown, if_pos hexpected, hmismatched, LinkRec.presented_eq, if_neg (by
        obtain h | h := hnew <;> simp [h])] at hexec
      obtain ⟨hending, hrest⟩ := hidle _ (.inr rfl)
      refine ⟨_, hexec.trans (congrArg _ hending), ?_, hrest⟩
      exact Live.offer_reports_congr (a := (v.updateLink port (fun y => { y with mismatch := true })).live) (b := s.live) rfl ..
    · rw [if_pos hup, if_neg hexpected] at hexec
      let u := v.updateLink port (fun k => { k with state := .aligning, mismatch := false })
      have hu : Map.find port u.live.links = _ := Work.find_updateLink hlink
      have hleft : Map.find port (u.leaveUp s.env port k).live.links = _ := Work.leaveUp_lines hu (by rw [LinkRec.presented_eq])
      obtain ⟨z, hz, hnone⟩ := Work.handedOn_mismatch (e := s.env) hleft
      have heq := Work.leaveUp_eq (e := s.env) (link := port) (k := k) (w := u)
      refine ⟨u.leaveUp s.env port k, _, ?_, hleft, ?_, rfl, ?_, fun sec => ?_, ?_, ?_, ?_⟩
      · rw [hexec, Work.mismatched_found hz, if_neg (by simp [hnone])]
        rfl
      · rw [LinkRec.presented_up hup]
      · rw [heq]
        rfl
      · rw [heq]
        exact Live.sectionAt_agreeShared ..
      · rw [heq]
        rfl
      · rw [heq]
        rfl
      · rw [heq]
        rfl
  · intro theirs handed
    let u := w.lineTo link line (fun y => { y with last := some theirs })
    have hu : u.live.line link line = some { y with last := some theirs } := Live.line_updateLine_self hy
    obtain ⟨⟨z, hz, hrest⟩, hslots, helements, cs, htodo, hcs⟩ := Work.compareShared_spec (e := e) (reported := lineReport lines line) hu
    have happly := Work.applyLine_found (e := e) (lines := lines) (broughtUp := broughtUp) hy
    by_cases h : handed
    · refine ⟨_, z, happly, ?_, hrest, ?_⟩
      all_goals rw [if_pos h]
      · exact hz
      · exact ⟨hslots, helements, fun _ => List.getLast?_concat, fun hno => absurd h hno⟩
    · refine ⟨_, z, happly, ?_, hrest, ?_⟩
      all_goals rw [if_neg h]
      · exact hz
      · refine ⟨hslots, helements, fun hyes => absurd hyes h, fun _ c hc => ?_⟩
        rw [htodo] at hc
        exact (List.mem_append.mp hc).imp_right (hcs c)
  · intro v quiet conflict
    refine ⟨fun ⟨hask, htheirs⟩ hours hthem => ?_, fun ⟨hask, htheirs⟩ hours hthem => ?_, fun h => ?_⟩
    · have hv : v = _ := Work.agree_conflict (detail := 1) hy hask htheirs (by rw [hours, hthem]; rfl)
      obtain ⟨hspec, htodo⟩ := Work.conflict_spec (e := e) (detail := 1) hy
      rw [if_pos hours] at hv
      refine ⟨?_, ?_⟩
      · show conflict 1
        simp only [conflict]
        rw [hv]
        exact hspec
      · rw [hv]
        exact congrArg (· ++ [Change.lineLost link line]) htodo
    · have hv : v = _ := Work.agree_conflict (detail := 2) hy hask htheirs (by rw [hours, hthem]; rfl)
      obtain ⟨hspec, htodo⟩ := Work.conflict_spec (e := e) (detail := 2) hy
      rw [if_neg (by simp [hours])] at hv
      refine ⟨?_, ?_⟩
      · show conflict 2
        simp only [conflict]
        rw [hv]
        exact hspec
      · rw [hv]
        exact htodo
    · obtain h | h := h
      · exact Work.agree_asking hy h
      · exact Work.agree_accord hy (disagreement_none h)

end Sys2Proof.Machine
end

section
/-! PROOFS. A slot asks for its own exit line alone, and only when that line is lost or its train has gone: no other change handed
over touches an ask of ours (Chapter 5; R83, R127, R140). -/

namespace Sys2Proof.Machine

/-- A change that may be handed over without an ask for line n of the link: a slot asks for it when its loss, or a section that is
CLEAR, is handed over. -/
def Change.quietFor (link n : Nat) (l : Live) (c : Change) : Prop :=
  (∃ slot m v, c = .claimChanged slot m v) ∨ (∃ k m, c = .lineFlag k m) ∨ (∃ k m, c = .lineLost k m ∧ (k, m) ≠ (link, n)) ∨
    ∃ sec, c = .sectionState sec ∧ l.isClear sec = false

/-- A piece of work that leaves the ask of line n of the link, and hands on claim changes alone. -/
structure Work.QuietTo (link n : Nat) (v w : Work) : Prop where
  ask : (w.live.line link n).map (fun y => y.ask) = (v.live.line link n).map (fun y => y.ask)
  todo : ∀ c ∈ w.todo, c ∈ v.todo ∨ ∃ slot m b, c = .claimChanged slot m b

namespace Work.QuietTo
variable {link n : Nat} {u v w : Work}

theorem refl (v : Work) : v.QuietTo link n v := ⟨rfl, fun _ => .inl⟩

theorem trans (h : u.QuietTo link n v) (k : v.QuietTo link n w) : u.QuietTo link n w :=
  ⟨k.ask.trans h.ask, fun c hc => (k.todo c hc).elim (h.todo c) .inr⟩

theorem of_same (hlinks : w.live.links = v.live.links) (htodo : w.todo = v.todo) : v.QuietTo link n w := by
  refine ⟨?_, fun c hc => .inl (htodo ▸ hc)⟩
  unfold Live.line
  rw [hlinks]

/-- Forming the flags anew writes no ask. -/
theorem of_formed {t : Tables} {l : Live} (hl : l.links = v.live.links) (hlinks : w.live.links = (l.formLineFlags t).links)
    (htodo : w.todo = v.todo) : v.QuietTo link n w := by
  refine ⟨?_, fun c hc => .inl (htodo ▸ hc)⟩
  have hline := Live.line_formLineFlags t link n l
  unfold Live.line at hline ⊢
  rw [hlinks, hline, hl, Option.map_map]
  rfl

theorem foldl {α : Type} (f : Work → α → Work) (xs : List α) (h : ∀ x ∈ xs, ∀ w : Work, w.QuietTo link n (f w x)) (v : Work) :
    v.QuietTo link n (xs.foldl f v) := by
  induction xs generalizing v with
  | nil => exact .refl v
  | cons x xs ih => exact (h x List.mem_cons_self v).trans (ih (fun y hy => h y (List.mem_cons_of_mem _ hy)) _)

end Work.QuietTo

section
variable {e : Env} {link n m k p g sec : Nat} {a : Aspect} {r : RouteEntry} {w : Work}

theorem Work.orderSignal_quiet : w.QuietTo link n (w.orderSignal e g a) := by
  cases hg : w.live.signal g with
  | none => rw [Work.orderSignal_none hg]; exact .refl w
  | some z =>
    obtain ⟨_, _, -, -, -, -, -, htodo, -, -, -, -, hlinks, -⟩ := Work.orderSignal_ordered (e := e) (a := a) hg
    refine ⟨by unfold Live.line; rw [hlinks], fun c hc => (htodo c hc).imp_right ?_⟩
    rintro ⟨slot, v, rfl⟩
    exact ⟨slot, g, v, rfl⟩

theorem Work.slotTo_quiet {f : Slot → Slot} : w.QuietTo link n (w.slotTo m f) := .of_same rfl rfl

theorem Work.orderEntry_quiet : w.QuietTo link n (w.orderEntry e m r a) := Work.slotTo_quiet.trans Work.orderSignal_quiet

theorem Work.report_quiet {cls : ReportClass} {code : ReportCode} {kind : SubjectKind} {number : Nat} {detail : Option Nat} :
    w.QuietTo link n (w.report e cls code kind number detail) := .of_same (Live.offer_links ..) rfl

theorem Work.withSlot_quiet {f : Slot → RouteEntry → Work → Work} (h : ∀ x r, w.QuietTo link n (f x r w)) :
    w.QuietTo link n (w.withSlot e m f) := by
  unfold Work.withSlot
  split
  · exact .refl w
  · split
    · exact .refl w
    · exact h _ _

theorem Work.clearTest_quiet : w.QuietTo link n (w.clearTest e m) :=
  Work.withSlot_quiet fun _ _ => by
    split
    · exact Work.slotTo_quiet.trans Work.orderEntry_quiet
    · exact .refl w

theorem Work.replace_quiet {cause number : Nat} : w.QuietTo link n (w.replace e m cause number) :=
  Work.withSlot_quiet fun _ r => by
    split
    · dsimp only
      refine .trans (v := ((if cause = 6 then _ else _ : Work).report e _ _ _ _ _)) (.trans ?_ Work.report_quiet) (.of_same rfl rfl)
      split
      · exact Work.slotTo_quiet
      · exact Work.slotTo_quiet.trans Work.orderSignal_quiet
    · exact .refl w

theorem Live.emptySlot_formed (t : Tables) (m : Nat) (l : Live) :
    ∃ l' : Live, l'.links = l.links ∧ l.emptySlot t m = l'.formLineFlags t := by
  refine ⟨_, ?_, (rfl : l.emptySlot t m = Live.formLineFlags t _)⟩
  rfl

theorem Work.freeSlot_quiet : w.QuietTo link n (w.freeSlot e m) := by
  unfold Work.freeSlot
  split
  · exact .refl w
  · next x hx =>
    obtain ⟨l, hlinks, hl⟩ := Live.emptySlot_formed e.tables m w.live
    have hempty : w.QuietTo link n (w.on (Live.emptySlot e.tables m)) := .of_formed hlinks (congrArg Live.links hl) rfl
    exact (hempty.trans Work.report_quiet).trans (.of_same rfl rfl)

theorem Work.refuseSlot_quiet {reason : Nat} : w.QuietTo link n (w.refuseSlot e reason m) := by
  unfold Work.refuseSlot
  split
  · exact .refl w
  · exact Work.report_quiet.trans Work.freeSlot_quiet

theorem Work.freeIfDone_quiet : w.QuietTo link n (w.freeIfDone e m) :=
  Work.withSlot_quiet fun _ _ => by
    split
    · exact Work.freeSlot_quiet
    · exact .refl w

theorem Work.releaseSections_quiet {secs : List Nat} : w.QuietTo link n (w.releaseSections e m secs) :=
  .of_formed (t := e.tables) (l := (w.live.unlockSections m secs).unlockPoints m (w.live.releasedPoints e m secs)) rfl rfl rfl

theorem Work.releaseOverlap_quiet {secs : List Nat} : w.QuietTo link n (w.releaseOverlap e m secs) :=
  Work.releaseSections_quiet.trans (Work.withSlot_quiet fun _ _ => by
    refine .trans ?_ Work.freeIfDone_quiet
    split
    · exact Work.slotTo_quiet
    · exact .refl _)

theorem Work.overlapExpire_quiet : w.QuietTo link n (w.overlapExpire e m) :=
  Work.withSlot_quiet fun _ _ => by
    split
    · exact Work.slotTo_quiet.trans Work.releaseOverlap_quiet
    · exact .refl w

theorem Work.startOverlap_quiet : w.QuietTo link n (w.startOverlap e m) :=
  Work.withSlot_quiet fun _ r => by
    split
    · dsimp only
      split
      · exact Work.slotTo_quiet.trans Work.overlapExpire_quiet
      · exact Work.slotTo_quiet
    · exact .refl w

theorem Work.releaseTest_quiet : w.QuietTo link n (w.releaseTest e m) :=
  Work.withSlot_quiet fun _ r => by
    split
    · split
      · exact .refl w
      · have hentries (is : List Nat) : w.QuietTo link n (w.on (Live.removeEntries r m is)) := .of_same rfl rfl
        dsimp only
        exact .trans (.trans ((hentries _).trans Work.releaseSections_quiet) Work.slotTo_quiet) Work.freeIfDone_quiet
    · exact .refl w

theorem Work.enterTrain_quiet : w.QuietTo link n (w.enterTrain e m r sec) :=
  (Work.slotTo_quiet.trans Work.orderEntry_quiet).trans Work.startOverlap_quiet

theorem Work.passedAfterCancel_quiet : w.QuietTo link n (w.passedAfterCancel e m r sec) := by
  unfold Work.passedAfterCancel
  split
  · exact .refl w
  · exact (Work.slotTo_quiet.trans Work.report_quiet).trans Work.startOverlap_quiet

theorem Work.orderPoints_quiet : w.QuietTo link n (w.orderPoints e m) :=
  .of_same (by rw [Work.orderPoints_rest]) (by rw [Work.orderPoints_rest])

theorem Work.sendAsk_quiet (h : (k, p) ≠ (link, n)) : w.QuietTo link n (w.sendAsk e k p) := by
  unfold Work.sendAsk
  split
  · exact .refl w
  · next y hy =>
    refine ⟨?_, fun c hc => .inl hc⟩
    have hline := Live.line_updateLine link n k p (fun y => { y with
      ask := some (y.nextAsk, e.clock + ((Map.find k e.tables.boundary).map (fun b => b.replyTimeout * 10)).getD 0)
      nextAsk := y.nextAsk + 1 }) w.live
    have hne : ¬ (link = k ∧ n = p) := fun ⟨hk, hp⟩ => h (by rw [hk, hp])
    simp only [if_neg hne, Option.map_id'] at hline
    exact congrArg _ hline

/-- A slot that enters WAIT_LINE asks for its exit line (R83). -/
theorem Work.enterWaitLine_quiet (h : (k, p) ≠ (link, n)) : w.QuietTo link n (w.enterWaitLine e m k p) := by
  unfold Work.enterWaitLine Work.needLine
  split
  · have hwaits := (Work.slotTo_quiet (link := link) (n := n) (m := m) (w := w) (f := fun x => { x with
      state := .waitLine
      lineWait := some (k, p)
      held := if x.held = some .locked then none else x.held })).trans (Work.orderPoints_quiet (e := e) (m := m))
    dsimp only
    split
    · exact hwaits
    · exact hwaits.trans (Work.sendAsk_quiet h)
  · exact Work.refuseSlot_quiet

/-- A section that is not CLEAR ends no train of a fleeting slot (R127). -/
theorem Work.fleetTest_idle (hclear : w.live.isClear sec = false)
    (hpath : ∀ x r, w.live.slot m = some x → Map.find x.route e.tables.routes = some r → sec ∈ r.path) :
    w.fleetTest e m = w := by
  unfold Work.fleetTest
  cases hx : w.live.slot m with
  | none => simp [Work.withSlot, hx]
  | some x =>
    cases hr : Map.find x.route e.tables.routes with
    | none => simp [Work.withSlot, hx, hr]
    | some r =>
      rw [Work.withSlot_found hx hr]
      refine if_neg fun htest => ?_
      simp only [Bool.and_eq_true, List.all_eq_true] at htest
      obtain ⟨⟨-, hall⟩, -⟩ := htest
      rw [hall sec (hpath x r hx hr)] at hclear
      cases hclear

/-- A slot in use keeps its route while no route is taken. -/
theorem LiveStep.slotRoute {σ : Scope} {a b : Live} {route : Nat} (s : LiveStep e σ a b) (hσ : ¬ σ.takes)
    (h : ∀ x, a.slot m = some x → x.route = route) : ∀ x, b.slot m = some x → x.route = route := by
  have same (hslots : b.slots = a.slots) : ∀ x, b.slot m = some x → x.route = route := fun x hx =>
    h x ((Live.slot_congr hslots m).symm.trans hx)
  cases s with
  | slot k f hroute =>
    intro x hx
    obtain ⟨y, hy, rfl⟩ := Option.map_eq_some_iff.mp ((Work.slot_slotTo m k f ⟨a, [], [], false, []⟩).symm.trans hx)
    split
    · exact (hroute y).trans (h y hy)
    · exact h y hy
  | empty k x =>
    intro y hy
    refine h y ?_
    have hdrop : Map.find m (Map.drop k a.slots) = some y := hy
    by_cases hk : m = k
    · rw [hk, Map.find_drop_self] at hdrop
      cases hdrop
    · rwa [Map.find_drop_ne hk] at hdrop
  | taken => exact absurd ‹σ.takes› hσ
  | orderPoint p q r hp => exact same (by rw [Live.takePointOrder_rest])
  | orderSignal g c r hg => exact same (by rw [Live.takeSignalOrder, Live.placeOrder_rest]; rfl)
  | admitted => exact same (by rw [Live.admitPending_rest])
  | offer => exact same (Live.offer_slots ..)
  | _ => exact same rfl

theorem Evolves.slotRoute {a b : Live} {route : Nat}
    (h : Evolves e { founded := False, takes := False, measures := False, rests := fun _ => True } a b)
    (hroute : ∀ x, a.slot m = some x → x.route = route) : ∀ x, b.slot m = some x → x.route = route :=
  h.keeps (P := fun l => ∀ x, l.slot m = some x → x.route = route) (fun _ _ s hx => s.slotRoute id hx) False.elim hroute

/-! ## The changes of a section, a claim, a flag and another line -/

theorem Work.sectionInEntered_quiet (hclear : w.live.isClear sec = false) : w.QuietTo link n (w.sectionInEntered e sec m) := by
  unfold Work.sectionInEntered
  cases hx : w.live.slot m with
  | none =>
    simp only [Work.withSlot, hx]
    exact .refl w
  | some x =>
    cases hr : Map.find x.route e.tables.routes with
    | none =>
      simp only [Work.withSlot, hx, hr]
      exact .refl w
    | some r =>
      rw [Work.withSlot_found hx hr]
      dsimp only
      split
      · next hpath =>
        let u := if (w.live.sectionAt sec).any (fun y => y.state == .occupied) then (w.slotTo m (Slot.mark r sec)).startOverlap e m
          else w
        have hmarked : w.QuietTo link n u := by
          simp only [u]
          split
          · exact Work.slotTo_quiet.trans Work.startOverlap_quiet
          · exact .refl w
        have hevolves {σ : Scope} : Evolves e σ w.live (u.releaseTest e m).live := by
          refine .trans ?_ (Work.releaseTest_evolves m u)
          simp only [u]
          split
          · exact (Work.slotTo_keepsState_evolves m (Slot.mark r sec) w (fun _ => rfl) (fun _ => rfl)).trans
              (Work.startOverlap_evolves m _)
          · exact .refl _
        have hidle : (u.releaseTest e m).fleetTest e m = u.releaseTest e m := by
          refine Work.fleetTest_idle (sec := sec) (((Evolves.unmeasured hevolves).isClear sec).trans hclear) fun z c hz hc => ?_
          have hroute : z.route = x.route := Evolves.slotRoute (m := m) hevolves
            (fun y hy => by rw [Option.some.inj (hy.symm.trans hx)]) z hz
          rw [hroute, hr] at hc
          cases hc
          simpa using hpath
        show w.QuietTo link n ((u.releaseTest e m).fleetTest e m)
        rw [hidle]
        exact hmarked.trans Work.releaseTest_quiet
      · split
        · exact Work.releaseOverlap_quiet
        · exact .refl w

theorem Work.onSection_quiet (hclear : w.live.isClear sec = false) : w.QuietTo link n (w.onSection e sec m) :=
  Work.withSlot_quiet fun x r => by
    dsimp only
    split
    · split
      · exact Work.clearTest_quiet
      · exact .refl w
    · split
      · exact Work.enterTrain_quiet
      · split
        · exact Work.replace_quiet
        · exact .refl w
    · split
      · exact Work.enterTrain_quiet
      · split
        · exact Work.replace_quiet
        · exact .refl w
    · exact Work.sectionInEntered_quiet hclear
    · split
      · exact Work.passedAfterCancel_quiet
      · exact .refl w
    all_goals exact .refl w

theorem Work.onLineFlag_quiet : w.QuietTo link n (w.onLineFlag e k p m) := by
  unfold Work.onLineFlag
  refine Work.withSlot_quiet fun x r => ?_
  have hdropped (b : Bool) : w.QuietTo link n (if b then w else w.replace e m 5 (10 * k + p)) := by
    split
    · exact .refl w
    · exact Work.replace_quiet
  split
  · exact Work.clearTest_quiet
  · exact hdropped _
  · exact hdropped _
  all_goals exact .refl w

theorem Work.onLineLost_quiet (h : (k, p) ≠ (link, n)) : w.QuietTo link n (w.onLineLost e k p m) :=
  Work.withSlot_quiet fun x r => by
    split
    · exact Work.enterWaitLine_quiet h
    · exact Work.enterWaitLine_quiet h
    · exact Work.replace_quiet
    · exact Work.replace_quiet
    all_goals exact .refl w

theorem Work.onClaim_quiet {proven : Bool} : w.QuietTo link n (w.onClaim e m g proven) := by
  unfold Work.onClaim
  split
  · exact Work.clearTest_quiet
  · exact Work.replace_quiet

/-- Several slots that take one change. -/
theorem Work.forEach_quiet {xs : List Nat} {f : Nat → Work → Work} {P : Work → Prop} (hP : P w)
    (hchoices : ∀ v cs, P v → P (v.on (fun l => { l with choices := cs }))) (hkeep : ∀ x v, P v → P (f x v))
    (hf : ∀ x v, P v → v.QuietTo link n (f x v)) : w.QuietTo link n (w.forEach xs f) := by
  obtain ⟨ys, cs, -, heq⟩ := Work.forEach_perm xs f w
  rw [heq]
  have hfold : ∀ (zs : List Nat) (v : Work), P v → v.QuietTo link n (zs.foldl (fun v x => f x v) v) := by
    intro zs
    induction zs with
    | nil => exact fun v _ => .refl v
    | cons z zs ih => exact fun v hv => (hf z v hv).trans (ih _ (hkeep z v hv))
  exact (QuietTo.of_same (v := w) (w := w.on (fun l => { l with choices := cs })) rfl rfl).trans (hfold ys _ (hchoices w cs hP))

/-- A change that is quiet for a line leaves its ask (R83, R127). -/
theorem Work.take_quiet {c : Change} (h : c.quietFor link n w.live) : w.QuietTo link n (w.take e c) := by
  obtain ⟨slot, m, v, rfl⟩ | ⟨k, m, rfl⟩ | ⟨k, m, rfl, hne⟩ | ⟨sec, rfl, hclear⟩ := h
  · exact Work.onClaim_quiet
  · exact Work.forEach_quiet (P := fun _ => True) trivial (fun _ _ => id) (fun _ _ => id) fun _ _ _ => Work.onLineFlag_quiet
  · exact Work.forEach_quiet (P := fun _ => True) trivial (fun _ _ => id) (fun _ _ => id) fun _ _ _ => Work.onLineLost_quiet hne
  · exact Work.forEach_quiet (P := fun v => v.live.isClear sec = false) hclear (fun _ _ => id)
      (fun x v hv => ((Evolves.unmeasured (e := e) (Work.onSection_evolves sec x v)).isClear sec).trans hv)
      fun _ _ hv => Work.onSection_quiet hv

theorem Change.quietFor_same {a b : Live} {c : Change} (h : c.quietFor link n a) (hclear : ∀ sec, b.isClear sec = a.isClear sec) :
    c.quietFor link n b :=
  h.imp_right fun h => h.imp_right fun h => h.imp_right fun ⟨sec, hc, hno⟩ => ⟨sec, hc, (hclear sec).trans hno⟩

/-- Settling changes that are all quiet for a line leaves its ask, and what is left over is quiet for it (log 4). -/
theorem Work.settle_quiet (bound : Nat) (h : ∀ c ∈ w.todo, c.quietFor link n w.live) :
    ((w.settle e bound).live.line link n).map (fun y => y.ask) = (w.live.line link n).map (fun y => y.ask) ∧
    ∀ c ∈ (w.settle e bound).todo, c.quietFor link n (w.settle e bound).live := by
  induction bound generalizing w with
  | zero => exact ⟨rfl, h⟩
  | succ bound ih =>
    cases htodo : w.todo with
    | nil =>
      have hidle : w.settle e (bound + 1) = w := by simp only [Work.settle, htodo]
      rw [hidle]
      exact ⟨rfl, h⟩
    | cons c rest =>
      rw [htodo] at h
      let v := Work.take e c { w with todo := [] }
      have htake : Work.QuietTo link n { w with todo := [] } v := Work.take_quiet (h c List.mem_cons_self)
      have hclear := (Evolves.unmeasured (e := e) (Work.take_evolves c { w with todo := [] })).isClear
      have hstep : w.settle e (bound + 1) = Work.settle e bound { v with todo := v.todo ++ rest } := by
        simp only [Work.settle, htodo]
        rfl
      rw [hstep]
      obtain ⟨hask, hleft⟩ := ih (w := { v with todo := v.todo ++ rest }) fun d hd => by
        obtain hd | hd := List.mem_append.mp hd
        · obtain hno | ⟨slot, m, b, rfl⟩ := htake.todo d hd
          · exact absurd hno List.not_mem_nil
          · exact .inl ⟨slot, m, b, rfl⟩
        · exact Change.quietFor_same (h d (List.mem_cons_of_mem _ hd)) hclear
      exact ⟨hask.trans htake.ask, hleft⟩

end

end Sys2Proof.Machine
end

section
/-! PROOFS. What a PRESENCE writes of the link and its lines (Chapter 8; R131, R132, R136, R137). -/

namespace Sys2Proof.Machine

/-! ## What stays of a link and of its lines -/

/-- A link's record without its lines. -/
def LinkRec.bare (k : LinkRec) : LinkRec := { k with lines := [] }

section
variable {a b : Live} {port n : Nat} {k : LinkRec} {u y : LineRec}

theorem sameAgreed.bare (h : sameAgreed a.links b.links) (port : Nat) :
    (Map.find port b.links).map LinkRec.bare = (Map.find port a.links).map LinkRec.bare := by
  have hport := congrArg (Option.map LinkRec.bare) (h port)
  rw [Option.map_map, Option.map_map] at hport
  exact hport

theorem sameAgreed.line (h : sameAgreed a.links b.links) (port n : Nat) :
    (b.line port n).map LineRec.agreed = (a.line port n).map LineRec.agreed := by
  have hlines (l : Live) : (l.line port n).map LineRec.agreed =
      ((Map.find port l.links).map LinkRec.agreed).bind (fun k => Map.find n k.lines) := by
    unfold Live.line
    cases Map.find port l.links with
    | none => rfl
    | some k => exact (Map.find_each LineRec.agreed n k.lines).symm
  rw [hlines, hlines, h port]

theorem LineRec.agreed_spec (h : u.agreed = y.agreed) : u.owner = y.owner ∧ u.last = y.last :=
  ⟨by have hsame := congrArg LineRec.owner h; exact hsame, by have hsame := congrArg LineRec.last h; exact hsame⟩

theorem Live.line_of_find (hk : Map.find port a.links = some k) (n : Nat) : a.line port n = Map.find n k.lines := by
  rw [Live.line, hk, Option.bind_some]

/-- The record of a link at the end of the step is the one that the work leaves, but for our flags and asks. -/
theorem State.ending_link {s : State} {w : Work} (hk : Map.find port w.live.links = some k) :
    ∃ z, Map.find port (s.ending w).live.links = some z ∧ z.bare = k.bare ∧
      ∀ n u, Map.find n k.lines = some u → ∃ v, Map.find n z.lines = some v ∧ v.owner = u.owner ∧ v.last = u.last := by
  have hsame : sameAgreed w.live.links (s.ending w).live.links := (Work.finish_unmeasured s.env w).agreed
  have hbare := hsame.bare port
  rw [hk, Option.map_some] at hbare
  obtain ⟨z, hz, hzbare⟩ := Option.map_eq_some_iff.mp hbare
  refine ⟨z, hz, hzbare, fun n u hu => ?_⟩
  have hline := hsame.line port n
  rw [Live.line_of_find hz, Live.line_of_find hk, hu, Option.map_some] at hline
  obtain ⟨v, hv, hagreed⟩ := Option.map_eq_some_iff.mp hline
  exact ⟨v, hv, LineRec.agreed_spec hagreed⟩

end

/-! ## One line through the presence of all -/

/-- The owners of a line disagree while no ask of either side is outstanding (R137). -/
def LineRec.conflict (y : LineRec) (theirs : LineReport) : Prop :=
  y.ask = none ∧ theirs.askOutstanding = false ∧
    ((y.owner = .us ∧ theirs.owner = .us) ∨ (y.owner = .neighbour ∧ theirs.owner = .neighbour))

/-- How far a line y has come in taking a presence: its last presence is written once it is heard; its owner and its ask stand, with
nothing handed over that could send an ask, until the agreement check has found a conflict. -/
def Work.Taking (port n : Nat) (y : LineRec) (theirs : LineReport) (heard checked : Prop) (v : Work) : Prop :=
  ∃ u, v.live.line port n = some u ∧ (heard → u.last = some theirs) ∧
    ((u.owner = y.owner ∧ (u.ask = none ↔ y.ask = none) ∧ (checked → ¬ y.conflict theirs) ∧
      ∀ c ∈ v.todo, c.quietFor port n v.live) ∨ (y.conflict theirs ∧ u.owner = .unknown))

section
variable {e : Env} {port n m sec : Nat} {y : LineRec} {theirs : LineReport} {heard checked : Prop} {v w : Work}
variable {lines : List PresenceLine} {broughtUp : Bool}

/-- Work that leaves what a neighbour writes of the line, and while all is quiet its ask. -/
theorem Work.Taking.step (h : v.Taking port n y theirs heard checked)
    (hagreed : (w.live.line port n).map LineRec.agreed = (v.live.line port n).map LineRec.agreed)
    (hquiet : (∀ c ∈ v.todo, c.quietFor port n v.live) →
      (w.live.line port n).map (fun y => y.ask) = (v.live.line port n).map (fun y => y.ask) ∧
        ∀ c ∈ w.todo, c.quietFor port n w.live) : w.Taking port n y theirs heard checked := by
  obtain ⟨u, hu, hheard, hspec⟩ := h
  rw [hu, Option.map_some] at hagreed
  obtain ⟨z, hz, hsame⟩ := Option.map_eq_some_iff.mp hagreed
  obtain ⟨howner, hlast⟩ := LineRec.agreed_spec hsame
  refine ⟨z, hz, fun hh => hlast.trans (hheard hh), ?_⟩
  obtain ⟨hown, hask, hno, htodo⟩ | ⟨hconflict, hown⟩ := hspec
  · obtain ⟨hasks, hleft⟩ := hquiet htodo
    rw [hu, hz, Option.map_some, Option.map_some, Option.some.injEq] at hasks
    exact .inl ⟨howner.trans hown, by rw [hasks]; exact hask, hno, hleft⟩
  · exact .inr ⟨hconflict, howner.trans hown⟩

theorem Work.Taking.handedOn (h : v.Taking port n y theirs heard checked) : (v.handedOn e).Taking port n y theirs heard checked :=
  h.step ((Evolves.unmeasured (e := e) (Work.handedOn_evolves v)).agreed.line port n) (Work.settle_quiet settleBound)

theorem Work.Taking.flag (h : v.Taking port n y theirs heard checked) :
    (v.hand [.lineFlag port m]).Taking port n y theirs heard checked :=
  h.step rfl fun htodo => ⟨rfl, fun c hc => by
    obtain hc | hc := List.mem_append.mp hc
    · exact htodo c hc
    · exact .inr (.inl ⟨port, m, List.mem_singleton.mp hc⟩)⟩

/-- A line keeps its record where another line is changed. -/
theorem Live.line_updateLine_other {f : LineRec → LineRec} (h : m ≠ n) (l : Live) :
    (l.updateLine port m f).line port n = l.line port n := by
  rw [Live.line_updateLine]
  simp only [true_and, if_neg h.symm, Option.map_id']

theorem Work.Taking.lineTo {f : LineRec → LineRec} (h : v.Taking port n y theirs heard checked) (hm : m ≠ n) :
    (v.lineTo port m f).Taking port n y theirs heard checked := by
  have hline : (v.lineTo port m f).live.line port n = v.live.line port n := Live.line_updateLine_other hm v.live
  exact h.step (by rw [hline]) fun htodo => ⟨by rw [hline], htodo⟩

/-- The line itself takes its last presence. -/
theorem Work.Taking.last (h : v.Taking port n y theirs heard checked) :
    (v.lineTo port n (fun y => { y with last := some theirs })).Taking port n y theirs True checked := by
  obtain ⟨u, hu, -, hspec⟩ := h
  exact ⟨{ u with last := some theirs }, Live.line_updateLine_self hu, fun _ => rfl, hspec⟩

/-- A compared section keeps its state, or is DISTURBED (R37). -/
theorem SectionRec.compare_state (s : SectionState) (r : SectionRec) :
    (SectionRec.compare s r).1.state = r.state ∨ (SectionRec.compare s r).1.state = .disturbed := by
  unfold SectionRec.compare
  dsimp only
  split
  · split
    · exact .inl rfl
    · exact .inr rfl
  · exact .inl rfl

theorem Work.compared_clear {s : SectionState} (h : v.live.isClear sec = false) :
    (v.section_ e m (SectionRec.compare s)).live.isClear sec = false := by
  refine eq_false_of_ne_true fun hc => ?_
  obtain ⟨z, hz, hclear⟩ := Live.isClear_iff.mp hc
  rw [Work.sectionAt_section] at hz
  obtain ⟨r, hr, rfl⟩ := Option.map_eq_some_iff.mp hz
  have hstate : r.state = .clear := by
    split at hclear
    · rw [SectionRec.leaveClear_state] at hclear
      obtain hs | hs := SectionRec.compare_state s r
      · rw [← hs, hclear]
      · rw [hclear] at hs
        cases hs
    · exact hclear
  rw [Live.isClear_iff.mpr ⟨r, hr, hstate⟩] at h
  cases h

theorem Work.Taking.compared {s : SectionState} (h : v.Taking port n y theirs heard checked) :
    (v.section_ e m (SectionRec.compare s)).Taking port n y theirs heard checked := by
  refine h.step ((Work.section_sameAgreed e m _ v).line port n) fun htodo => ⟨?_, fun c hc => ?_⟩
  · obtain ⟨u, hu, -⟩ := h
    obtain ⟨⟨z, hz, hsame⟩, -⟩ := Work.section_line (e := e) (sec := m) (f := SectionRec.compare s) hu
    rw [hz, hu, Option.map_some, Option.map_some, hsame]
  · have hold (c : Change) (hc : c ∈ v.todo) : c.quietFor port n (v.section_ e m (SectionRec.compare s)).live :=
      (htodo c hc).imp_right fun h => h.imp_right fun h => h.imp_right fun ⟨sec, hc, hno⟩ => ⟨sec, hc, Work.compared_clear hno⟩
    cases hr : v.live.sectionAt m with
    | none =>
      rw [Work.section_absent hr] at hc
      exact hold c hc
    | some r =>
      have hfound := Work.section_found (e := e) (f := SectionRec.compare s) hr
      dsimp only at hfound
      rw [hfound] at hc
      obtain hc | hc := List.mem_append.mp hc
      · exact hold c hc
      · split at hc
        · next hne =>
          refine .inr (.inr (.inr ⟨m, List.mem_singleton.mp hc, eq_false_of_ne_true fun hclear => ?_⟩))
          obtain ⟨z, hz, hstate⟩ := Live.isClear_iff.mp hclear
          rw [Work.sectionAt_section, hr, Option.map_some, if_pos rfl] at hz
          obtain rfl := Option.some.inj hz
          rw [SectionRec.leaveClear_state] at hstate hne
          obtain hs | hs := SectionRec.compare_state s r
          · exact hne hs
          · rw [hstate] at hs
            cases hs
        · exact absurd hc List.not_mem_nil

theorem Work.Taking.compareShared {reported : Option LineReport} (h : v.Taking port n y theirs heard checked) :
    (v.compareShared e port m reported).Taking port n y theirs heard checked := by
  unfold Work.compareShared
  split
  · exact h.compared
  · exact h

theorem Live.isClear_offer (e : Env) (cls : ReportClass) (code : ReportCode) (kind : SubjectKind) (number : Nat)
    (detail : Option Nat) (sec : Nat) (l : Live) : (l.offer e cls code kind number detail).isClear sec = l.isClear sec := by
  unfold Live.isClear Live.sectionAt
  rw [Live.offer_sections]

/-- Another line's agreement check. -/
theorem Work.Taking.agreeOther {other : LineReport} (h : v.Taking port n y theirs heard checked) (hm : m ≠ n) :
    (v.agree e port m other).Taking port n y theirs heard checked := by
  unfold Work.agree
  split
  · exact h
  · split
    · exact h
    · split
      · exact h
      · dsimp only
        have hreported {code : ReportCode} {number : Nat} {detail : Option Nat} :
            ((v.lineTo port m (fun y => { y with owner := .unknown })).report e .a code .line number detail).Taking
              port n y theirs heard checked := by
          have hline := Live.line_offer e .a code .line number detail port n
            (v.lineTo port m (fun y => { y with owner := .unknown })).live
          refine (h.lineTo hm).step (congrArg _ hline) fun htodo => ⟨congrArg _ hline, fun c hc => ?_⟩
          exact Change.quietFor_same (htodo c hc) fun sec => Live.isClear_offer ..
        split
        · refine hreported.step rfl fun htodo => ⟨rfl, fun c hc => ?_⟩
          obtain hc | hc := List.mem_append.mp hc
          · exact htodo c hc
          · exact .inr (.inr (.inl ⟨port, m, List.mem_singleton.mp hc, fun heq => hm (Prod.mk.inj heq).2⟩))
        · exact hreported

/-- The line's own agreement check (R137). -/
theorem Work.Taking.agree (h : v.Taking port n y theirs heard checked) :
    (v.agree e port n theirs).Taking port n y theirs heard True := by
  obtain ⟨u, hu, hheard, ⟨hown, hask, hno, htodo⟩ | ⟨hconflict, hown⟩⟩ := h
  · by_cases hconflict : y.conflict theirs
    · obtain ⟨hnone, hquiet, howners⟩ := hconflict
      have hdetail : ∃ d, disagreement u.owner theirs.owner = some d := by
        rw [hown]
        obtain ⟨ho, ht⟩ | ⟨ho, ht⟩ := howners <;> exact ⟨_, by rw [ho, ht]; rfl⟩
      obtain ⟨d, hd⟩ := hdetail
      have hagree := Work.agree_conflict (e := e) hu (hask.mpr hnone) hquiet hd
      obtain ⟨⟨hline, -⟩, -⟩ := Work.conflict_spec (e := e) (detail := d) hu
      refine ⟨{ u with owner := .unknown }, ?_, hheard, .inr ⟨⟨hnone, hquiet, howners⟩, rfl⟩⟩
      rw [hagree]
      split
      · exact hline
      · exact hline
    · have hsame : v.agree e port n theirs = v := by
        by_cases hquiet : u.ask = none ∧ theirs.askOutstanding = false
        · refine Work.agree_accord hu (disagreement_none fun howners => hconflict ⟨hask.mp hquiet.1, hquiet.2, ?_⟩)
          rwa [hown] at howners
        · exact Work.agree_asking hu hquiet
      rw [hsame]
      exact ⟨u, hu, hheard, .inl ⟨hown, hask, fun _ => hconflict, htodo⟩⟩
  · rw [Work.agree_accord hu (disagreement_none (by simp [hown]))]
    exact ⟨u, hu, hheard, .inr ⟨hconflict, hown⟩⟩

/-- One line of a PRESENCE is taken. -/
theorem Work.Taking.applyLine (h : v.Taking port n y ((lineReport lines n).getD LineReport.absent) heard heard) :
    (v.applyLine e port lines broughtUp m).Taking port n y ((lineReport lines n).getD LineReport.absent) (heard ∨ m = n)
      (heard ∨ m = n) := by
  cases hline : v.live.line port m with
  | none =>
    have hidle : v.applyLine e port lines broughtUp m = v := by simp only [Work.applyLine, hline]
    rw [hidle]
    obtain ⟨u, hu, hspec⟩ := h
    have hne : m ≠ n := fun hmn => by rw [hmn, hu] at hline; cases hline
    simp only [hne, or_false]
    exact ⟨u, hu, hspec⟩
  | some x =>
    rw [Work.applyLine_found hline]
    have hflag {w : Work} {theirs : LineReport} {heard checked p : Prop} [Decidable p] (h : w.Taking port n y theirs heard checked) :
        (if p then w.hand [.lineFlag port m] else w).Taking port n y theirs heard checked := by
      split
      · exact h.flag
      · exact h
    by_cases hmn : m = n
    · subst hmn
      simp only [or_true]
      exact (hflag h.last.compareShared).handedOn.agree
    · simp only [hmn, or_false]
      exact (hflag (h.lineTo hmn).compareShared).handedOn.agreeOther hmn

theorem Work.Taking.all {ms : List Nat} (h : v.Taking port n y ((lineReport lines n).getD LineReport.absent) heard heard) :
    (ms.foldl (fun v m => v.applyLine e port lines broughtUp m) v).Taking port n y ((lineReport lines n).getD LineReport.absent)
      (heard ∨ n ∈ ms) (heard ∨ n ∈ ms) := by
  induction ms generalizing v heard with
  | nil => simpa using h
  | cons m ms ih =>
    have hnext := ih (h.applyLine (e := e) (m := m) (broughtUp := broughtUp))
    have hiff : ((heard ∨ m = n) ∨ n ∈ ms) ↔ (heard ∨ n ∈ m :: ms) := by
      rw [List.mem_cons, or_assoc, eq_comm (a := m)]
    rwa [propext hiff] at hnext

end

end Sys2Proof.Machine
end

section
/-! PROOFS. The alignment of a link by its PRESENCE, and the shared sections it compares (Chapters 2 and 8; R37, R131 to R137). -/

namespace Sys2Proof.Machine

/-- A section's record as counting wrote it. -/
def Live.countedAt (l : Live) (sec : Nat) : Option SectionRec := (l.sectionAt sec).map SectionRec.counted

/-- A shared section's record once a reported state is compared, as counting writes it (R37). -/
def SectionRec.comparedWith (s : SectionState) (r : SectionRec) : SectionRec :=
  ((SectionRec.compare s r).1.leaveClear r.state).counted

section
variable {e : Env} {port n m sec : Nat} {v w : Work} {lines : List PresenceLine} {broughtUp : Bool} {theirs : LineReport}

theorem Work.agree_counted : (v.agree e port m theirs).live.countedAt sec = v.live.countedAt sec ∧
    (Map.find port (v.agree e port m theirs).live.links).map LinkRec.bare = (Map.find port v.live.links).map LinkRec.bare := by
  have hwritten {f : LineRec → LineRec} : (Map.find port (v.lineTo port m f).live.links).map LinkRec.bare =
      (Map.find port v.live.links).map LinkRec.bare := by
    show (Map.find port (Map.update port (fun k => { k with lines := Map.update m f k.lines }) v.live.links)).map _ = _
    rw [Map.find_update_self, Option.map_map]
    rfl
  unfold Work.agree
  split
  · exact ⟨rfl, rfl⟩
  · split
    · exact ⟨rfl, rfl⟩
    · split
      · exact ⟨rfl, rfl⟩
      · next d _ =>
        let u := (v.lineTo port m (fun y => { y with owner := .unknown })).report e .a .directionConflict .line (lineSubject port m)
          (some d)
        have hu : u.live.countedAt sec = v.live.countedAt sec ∧
            (Map.find port u.live.links).map LinkRec.bare = (Map.find port v.live.links).map LinkRec.bare := by
          refine ⟨?_, ?_⟩
          · unfold Live.countedAt Live.sectionAt
            rw [show u.live.sections = v.live.sections from Live.offer_sections ..]
          · rw [show u.live.links = _ from Live.offer_links ..]
            exact hwritten
        dsimp only
        split
        · exact hu
        · exact hu

/-- One line leaves of its link all but the lines, and of the sections every one that it is not compared with. -/
theorem Work.applyLine_counted : (Map.find port (v.applyLine e port lines broughtUp m).live.links).map LinkRec.bare =
      (Map.find port v.live.links).map LinkRec.bare ∧
    (¬ ((e.tables.lineEntry port m).bind (fun x => x.shared) = some sec ∧
        ((lineReport lines m).bind (fun x => x.shared)).isSome = true) →
      (v.applyLine e port lines broughtUp m).live.countedAt sec = v.live.countedAt sec) ∧
    ∀ s y, v.live.line port m = some y → (e.tables.lineEntry port m).bind (fun x => x.shared) = some sec →
      (lineReport lines m).bind (fun x => x.shared) = some s → ∀ r, v.live.sectionAt sec = some r →
      (v.applyLine e port lines broughtUp m).live.countedAt sec = some (r.comparedWith s) := by
  cases hline : v.live.line port m with
  | none =>
    have hidle : v.applyLine e port lines broughtUp m = v := by simp only [Work.applyLine, hline]
    rw [hidle]
    exact ⟨rfl, fun _ => rfl, fun _ _ h => by cases h⟩
  | some x =>
    rw [Work.applyLine_found hline]
    let theirs := (lineReport lines m).getD LineReport.absent
    let u := v.lineTo port m (fun y => { y with last := some theirs })
    let c := u.compareShared e port m (lineReport lines m)
    have hu : (Map.find port u.live.links).map LinkRec.bare = (Map.find port v.live.links).map LinkRec.bare := by
      show (Map.find port (Map.update port (fun k => { k with lines := Map.update m (fun y => { y with last := some theirs }) k.lines })
        v.live.links)).map _ = _
      rw [Map.find_update_self, Option.map_map]
      rfl
    have hlinks : (Map.find port c.live.links).map LinkRec.bare = (Map.find port v.live.links).map LinkRec.bare := by
      refine Eq.trans ?_ hu
      show (Map.find port (u.compareShared e port m (lineReport lines m)).live.links).map _ = _
      unfold Work.compareShared
      split
      · exact (Work.section_sameAgreed e _ _ u).bare port
      · rfl
    have hend (w : Work) (hlive : w.live = c.live) :
        (Map.find port ((w.handedOn e).agree e port m theirs).live.links).map LinkRec.bare =
          (Map.find port v.live.links).map LinkRec.bare ∧
        ((w.handedOn e).agree e port m theirs).live.countedAt sec = c.live.countedAt sec := by
      obtain ⟨hcounted, hbare⟩ := Work.agree_counted (e := e) (port := port) (m := m) (sec := sec) (v := w.handedOn e) (theirs := theirs)
      have hsame := Evolves.unmeasured (e := e) (Work.handedOn_evolves w)
      refine ⟨(hbare.trans (hsame.agreed.bare port)).trans ?_, (hcounted.trans (hsame.counts sec)).trans ?_⟩
      · rw [hlive]
        exact hlinks
      · rw [hlive]
        rfl
    have hflagged : (if broughtUp = true ∨ x.last.map (fun p => p.lineClear) ≠ some theirs.lineClear then
        c.hand [.lineFlag port m] else c).live = c.live := by
      split <;> rfl
    obtain ⟨hbare, hcounted⟩ := hend _ hflagged
    refine ⟨hbare, fun hnot => hcounted.trans ?_, fun s y hy hshared hreported r hr => hcounted.trans ?_⟩
    · show (u.compareShared e port m (lineReport lines m)).live.countedAt sec = _
      unfold Work.compareShared
      split
      · next sec' s hshared hreported =>
        have hne : sec ≠ sec' := fun h => hnot ⟨h ▸ hshared, by rw [hreported]; rfl⟩
        exact congrArg _ (Work.sectionAt_section_ne (w := u) hne)
      · rfl
    · show (u.compareShared e port m (lineReport lines m)).live.countedAt sec = _
      rw [Work.compareShared, hshared, hreported]
      dsimp only
      rw [Live.countedAt, Work.sectionAt_section, show u.live.sectionAt sec = some r from hr, Option.map_some, if_pos rfl]
      rfl

theorem Work.applyLines_counted {ms : List Nat} (h : ∀ m ∈ ms, ¬ ((e.tables.lineEntry port m).bind (fun x => x.shared) = some sec ∧
    ((lineReport lines m).bind (fun x => x.shared)).isSome = true)) :
    (ms.foldl (fun v m => v.applyLine e port lines broughtUp m) v).live.countedAt sec = v.live.countedAt sec := by
  induction ms generalizing v with
  | nil => rfl
  | cons m ms ih =>
    exact (ih fun k hk => h k (List.mem_cons_of_mem _ hk)).trans (Work.applyLine_counted.2.1 (h m List.mem_cons_self))

theorem Work.applyLines_bare {ms : List Nat} :
    (Map.find port (ms.foldl (fun v m => v.applyLine e port lines broughtUp m) v).live.links).map LinkRec.bare =
      (Map.find port v.live.links).map LinkRec.bare := by
  induction ms generalizing v with
  | nil => rfl
  | cons m ms ih => exact ih.trans (Work.applyLine_counted (sec := 0)).1

/-- The fields of a section that counting writes decide what a comparison writes. -/
theorem SectionRec.comparedWith_congr {s : SectionState} {a b : SectionRec} (h : a.counted = b.counted) :
    a.comparedWith s = b.comparedWith s := by
  have hlock : a = { b with lock := a.lock } := by
    cases a
    cases b
    simp only [SectionRec.counted, SectionRec.mk.injEq] at h
    simp [h]
  rw [hlock]
  unfold SectionRec.comparedWith SectionRec.compare SectionRec.addCause SectionRec.leaveClear SectionRec.counted
  dsimp only
  by_cases hc : b.state = .clear ∧ s ≠ .clear
  · simp only [if_pos hc]
    by_cases hd : b.disagreement + 1 < 3
    · simp only [if_pos hd]
      split <;> rfl
    · simp only [if_neg hd]
      split <;> rfl
  · simp only [if_neg hc]
    split <;> rfl

/-- What a comparison writes (R37). -/
theorem SectionRec.comparedWith_spec (s : SectionState) (r : SectionRec) :
    let v := r.comparedWith s
    v.neighbourState = some s ∧ v.balance = r.balance ∧ v.possession = r.possession ∧
      (r.state = .clear → s ≠ .clear → r.disagreement + 1 < 3 →
        v.state = .clear ∧ v.disagreement = r.disagreement + 1 ∧ v.causes = r.causes) ∧
      (r.state = .clear → s ≠ .clear → 3 ≤ r.disagreement + 1 →
        v.state = .disturbed ∧ v.disagreement = 0 ∧ v.axleSeen = false ∧ ∀ c, c ∈ v.causes ↔ c = .disagree ∨ c ∈ r.causes) ∧
      (r.state ≠ .clear ∨ s = .clear → v.state = r.state ∧ v.disagreement = 0 ∧ v.causes = r.causes) := by
  intro v
  have hv : v = ((SectionRec.compare s r).1.leaveClear r.state).counted := rfl
  by_cases hc : r.state = .clear ∧ s ≠ .clear
  · by_cases hd : r.disagreement + 1 < 3
    · rw [SectionRec.compare, if_pos hc, if_pos hd, SectionRec.leaveClear, if_neg (by simp [hc.1])] at hv
      rw [hv]
      exact ⟨rfl, rfl, rfl, fun h _ _ => ⟨h, rfl, rfl⟩, fun _ _ h => absurd hd (Nat.not_lt.mpr h), fun h =>
        (h.elim (absurd hc.1) (absurd · hc.2))⟩
    · rw [SectionRec.compare, if_pos hc, if_neg hd, SectionRec.leaveClear, if_pos ⟨hc.1, by simp [SectionRec.addCause]⟩] at hv
      rw [hv]
      exact ⟨rfl, rfl, rfl, fun _ _ h => absurd h hd, fun _ _ _ => ⟨rfl, rfl, rfl, fun c => mem_insertCause .disagree c r.causes⟩,
        fun h => (h.elim (absurd hc.1) (absurd · hc.2))⟩
  · have hstay : v = { r with neighbourState := some s, disagreement := 0, lock := none } := by
      rw [hv, SectionRec.compare, if_neg hc, SectionRec.leaveClear]
      split <;> rfl
    rw [hstay]
    exact ⟨rfl, rfl, rfl, fun h hs => absurd ⟨h, hs⟩ hc, fun h hs => absurd ⟨h, hs⟩ hc, fun _ => ⟨rfl, rfl, rfl⟩⟩

end

end Sys2Proof.Machine
end

section
/-! PROOFS. A PRESENCE and its link (Chapter 8; R131, R132, R136, R137). -/

namespace Sys2Proof.Machine

section
variable {port sec : Nat} {identity : Identity} {version : Word16} {lines : List PresenceLine} {broughtUp : Bool} {k kk : LinkRec}
variable {s : State} {v : Work}

/-- The lines of a link before they take a presence. -/
theorem Work.Taking.start {n : Nat} {y : LineRec} {theirs : LineReport} (hv : Map.find port v.live.links = some kk)
    (hlines : kk.lines = k.lines) (htodo : v.todo = []) (hy : Map.find n k.lines = some y) :
    v.Taking port n y theirs False False := by
  refine ⟨y, ?_, False.elim, .inl ⟨rfl, .rfl, False.elim, fun c hc => ?_⟩⟩
  · rw [Live.line_of_find hv, hlines]
    exact hy
  · rw [htodo] at hc
    exact absurd hc List.not_mem_nil

/-- A PRESENCE taken in UP: what it leaves of the link and of its lines (R136, R137). -/
theorem State.presence_link (hv : Map.find port v.live.links = some kk) (hlines : kk.lines = k.lines) (htodo : v.todo = []) :
    let t := s.ending (v.applyPresence s.env port lines broughtUp k)
    ∃ z, Map.find port t.live.links = some z ∧ z.bare = kk.bare ∧ ∀ n y, Map.find n k.lines = some y →
      ∃ u, Map.find n z.lines = some u ∧ u.last = some ((lineReport lines n).getD LineReport.absent) ∧
        (y.conflict ((lineReport lines n).getD LineReport.absent) → u.owner = .unknown) ∧
        (¬ y.conflict ((lineReport lines n).getD LineReport.absent) → u.owner = y.owner) := by
  intro t
  obtain ⟨ms, cs, hperm, heq⟩ := Work.forEach_perm (Map.ids k.lines) (Work.applyLine s.env port lines broughtUp) v
  have hbare := Work.applyLines_bare (e := s.env) (port := port) (lines := lines) (broughtUp := broughtUp) (ms := ms)
    (v := v.on (fun l => { l with choices := cs }))
  rw [show Map.find port (v.on (fun l => { l with choices := cs })).live.links = some kk from hv] at hbare
  obtain ⟨z', hz', hsame'⟩ := Option.map_eq_some_iff.mp hbare
  rw [← heq] at hz'
  obtain ⟨z, hz, hsame, hlines'⟩ := State.ending_link (s := s) hz'
  refine ⟨z, hz, hsame.trans hsame', fun n y hy => ?_⟩
  have hbegin : (v.on (fun l => { l with choices := cs })).Taking port n y ((lineReport lines n).getD LineReport.absent) False
      False := .start (v := v.on (fun l => { l with choices := cs })) hv hlines htodo hy
  have hin : n ∈ ms := hperm.mem_iff.mpr (List.mem_map_of_mem (f := Prod.fst) (Map.mem_of_find hy))
  obtain ⟨u, hu, hheard, hspec⟩ := hbegin.all (e := s.env) (ms := ms) (broughtUp := broughtUp)
  rw [← heq] at hu
  obtain ⟨w, hw, howner, hlast⟩ := hlines' n u ((Live.line_of_find hz' n).symm.trans hu)
  refine ⟨w, hw, hlast.trans (hheard (.inr hin)), fun hconflict => ?_, fun hno => ?_⟩
  · obtain ⟨-, -, hnone, -⟩ | ⟨-, hunknown⟩ := hspec
    · exact absurd hconflict (hnone (.inr hin))
    · exact howner.trans hunknown
  · obtain ⟨hown, -⟩ | ⟨hconflict, -⟩ := hspec
    · exact howner.trans hown
    · exact absurd hconflict hno

/-- A PRESENCE taken in UP: what it leaves of a section (R37). -/
theorem State.presence_section (hv : Map.find port v.live.links = some kk) (hlines : kk.lines = k.lines) (htodo : v.todo = [])
    (hsections : v.live.sections = s.live.sections) :
    let t := s.ending (v.applyPresence s.env port lines broughtUp k)
    let sharedBy := fun (n sec : Nat) => (s.store.active.lineEntry port n).bind (fun x => x.shared) = some sec
    let theirs := fun (n : Nat) => (lineReport lines n).bind (fun x => x.shared)
    ((∀ n ∈ Map.ids k.lines, ¬ sharedBy n sec ∨ theirs n = none) → t.live.countedAt sec = s.live.countedAt sec) ∧
    ∀ r n y state, s.live.sectionAt sec = some r → Map.find n k.lines = some y → (Map.ids k.lines).Nodup → sharedBy n sec →
      (∀ m ∈ Map.ids k.lines, sharedBy m sec → m = n) → theirs n = some state →
      t.live.countedAt sec = some (r.comparedWith state) := by
  intro t sharedBy theirs
  obtain ⟨ms, cs, hperm, heq⟩ := Work.forEach_perm (Map.ids k.lines) (Work.applyLine s.env port lines broughtUp) v
  let v' := v.on (fun l => { l with choices := cs })
  have hcounted : v'.live.countedAt sec = s.live.countedAt sec := by
    unfold Live.countedAt Live.sectionAt
    rw [show v'.live.sections = s.live.sections from hsections]
  have hend : t.live.countedAt sec = (v.applyPresence s.env port lines broughtUp k).live.countedAt sec :=
    (Work.finish_unmeasured s.env (v.applyPresence s.env port lines broughtUp k)).counts sec
  rw [hend, show v.applyPresence s.env port lines broughtUp k = _ from heq]
  refine ⟨fun hnone => ?_, fun r n y state hr hy hnodup hshared hunique hreported => ?_⟩
  · refine (Work.applyLines_counted fun m hm => ?_).trans hcounted
    rintro ⟨hshared, hreported⟩
    obtain hno | hno := hnone m (hperm.mem_iff.mp hm)
    · exact hno hshared
    · rw [show (lineReport lines m).bind (fun x => x.shared) = none from hno] at hreported
      cases hreported
  · have hin : n ∈ ms := hperm.mem_iff.mpr (List.mem_map_of_mem (f := Prod.fst) (Map.mem_of_find hy))
    obtain ⟨as, bs, hms⟩ := List.append_of_mem hin
    have hms' : ms.Nodup := hperm.nodup_iff.mpr hnodup
    rw [hms, List.nodup_append, List.nodup_cons] at hms'
    obtain ⟨-, ⟨hb, -⟩, hdisjoint⟩ := hms'
    have hother (m : Nat) (hm : m ∈ ms) (hne : m ≠ n) : ¬ ((s.env.tables.lineEntry port m).bind (fun x => x.shared) = some sec ∧
        ((lineReport lines m).bind (fun x => x.shared)).isSome = true) := fun h =>
      hne (hunique m (hperm.mem_iff.mp hm) h.1)
    let u := as.foldl (fun v m => v.applyLine s.env port lines broughtUp m) v'
    have hu : u.live.countedAt sec = s.live.countedAt sec :=
      (Work.applyLines_counted fun m hm => hother m (hms ▸ List.mem_append_left _ hm)
        fun hmn => hdisjoint m hm n List.mem_cons_self hmn).trans hcounted
    have hline : ∃ x, u.live.line port n = some x := by
      have hbegin : v'.Taking port n y ((lineReport lines n).getD LineReport.absent) False False :=
        .start (v := v') hv hlines htodo hy
      obtain ⟨x, hx, -⟩ := hbegin.all (e := s.env) (ms := as) (broughtUp := broughtUp)
      exact ⟨x, hx⟩
    obtain ⟨x, hx⟩ := hline
    rw [Live.countedAt, Live.countedAt, hr, Option.map_some] at hu
    obtain ⟨r', hr', hsame⟩ := Option.map_eq_some_iff.mp hu
    rw [hms, List.foldl_append, List.foldl_cons]
    refine (Work.applyLines_counted fun m hm => hother m (hms ▸ List.mem_append_right _ (List.mem_cons_of_mem _ hm))
      fun hmn => hb (hmn ▸ hm)).trans ?_
    rw [Work.applyLine_counted.2.2 state x hx hshared hreported r' hr']
    exact congrArg some (SectionRec.comparedWith_congr hsame)

end

theorem LinkRec.bare_spec {a b : LinkRec} (h : a.bare = b.bare) : a.state = b.state ∧ a.lastHeard = b.lastHeard ∧
    a.identity = b.identity ∧ a.version = b.version ∧ a.mismatch = b.mismatch ∧ a.exported = b.exported ∧
    a.unknownSeen = b.unknownSeen := by
  simp only [LinkRec.bare, LinkRec.mk.injEq] at h
  tauto

/-- Settles O38: a PRESENCE in UP is followed line by line, and otherwise writes its link alone. -/
theorem presenceAligns : Obligations.PresenceAligns := by
  intro port identity version lines s hp
  refine ⟨fun hnone => ?_, fun ⟨x, hx, hno⟩ => ?_, fun k hk hlines => ?_⟩
  · refine (event_on _ _ hp).trans (congrArg _ ?_)
    simp only [presenceTaken, State.heard, hnone]
  · refine (event_on _ _ hp).trans (congrArg _ ?_)
    have hall : lines.all presenceLineMeaningful = false := by
      rw [List.all_eq_false]
      exact ⟨x, hx, by simp [hno]⟩
    simp only [presenceTaken, hall, State.heard, Bool.false_eq_true, if_false]
    split <;> rfl
  · intro expected up sharedBy theirs
    have hexec := exec_presence (identity := identity) (version := version) hp hk hlines
    dsimp only at hexec
    let v := s.presented port identity version
    have hlink : Map.find port v.live.links = _ := State.presented_link hk
    have hpresented : k.presented (s.clock + s.store.active.linkSupervision port) identity version = _ := LinkRec.presented_eq
    have hmismatched := Work.mismatched_found (e := s.env) (identity := identity) (w := v) hlink
    let heard (state : LinkState) (mismatch : Bool) : LinkRec := { k with
      state := state, lastHeard := some (s.clock + s.store.active.linkSupervision port), mismatch := mismatch
      identity := some identity, version := some version }
    let aligned : Prop := ∃ (t : State) (z : LinkRec) (state : LinkState) (mismatch : Bool),
        exec (.presence port identity version lines) s = .next t ∧ Map.find port t.live.links = some z ∧
        z.bare = (heard state mismatch).bare ∧ (up → state = .up) ∧ (¬ up → state = .aligning) ∧
        (expected → mismatch = if k.state = .down then false else k.mismatch) ∧ (¬ expected → mismatch = true) ∧
        (∀ n y, Map.find n k.lines = some y → ∃ u, Map.find n z.lines = some u ∧
          (¬ up → u.owner = y.owner ∧ u.last = y.last) ∧
          (up → u.last = some ((lineReport lines n).getD LineReport.absent) ∧
            (y.conflict ((lineReport lines n).getD LineReport.absent) → u.owner = .unknown) ∧
            (¬ y.conflict ((lineReport lines n).getD LineReport.absent) → u.owner = y.owner))) ∧
        (up → ∀ sec,
          ((∀ n ∈ Map.ids k.lines, ¬ sharedBy n sec ∨ theirs n = none) → t.live.countedAt sec = s.live.countedAt sec) ∧
          ∀ r n y state, s.live.sectionAt sec = some r → Map.find n k.lines = some y → (Map.ids k.lines).Nodup →
            sharedBy n sec → (∀ m ∈ Map.ids k.lines, sharedBy m sec → m = n) → theirs n = some state →
            t.live.countedAt sec = some (r.comparedWith state))
    suffices h : aligned by
      obtain ⟨t, z, state, mismatch, ht, hz, hbare, hup, hdown, hexpected, hother, hines, hsections⟩ := h
      obtain ⟨hzstate, hzheard, hzid, hzversion, hzmismatch, hzexported, hzunknown⟩ := LinkRec.bare_spec hbare
      refine ⟨t, z, ht, hz, hzheard, hzid, hzversion, hzexported, hzunknown, fun h => hzstate.trans (hup h),
        fun h => hzstate.trans (hdown h), fun h => hzmismatch.trans (hexpected h), fun h => hzmismatch.trans (hother h), hines,
        fun h sec r hr => ⟨(hsections h sec).1, fun n y state hy hnodup hshared hunique hreported => ?_⟩⟩
      exact ⟨_, (hsections h sec).2 r n y state hr hy hnodup hshared hunique hreported, SectionRec.comparedWith_spec state r⟩
    have inUp (w : Work) (kk : LinkRec) (broughtUp : Bool) (hexpected : expected) (hup : up)
        (hw : Map.find port w.live.links = some kk)
        (hkk : kk = heard .up (if k.state = .down then false else k.mismatch)) (htodo : w.todo = [])
        (hsections : w.live.sections = s.live.sections) (hrun : exec (.presence port identity version lines) s =
          .next (s.ending (w.applyPresence s.env port lines broughtUp k))) : aligned := by
      have hklines : kk.lines = k.lines := by rw [hkk]
      obtain ⟨z, hz, hbare, hzlines⟩ := State.presence_link (s := s) (lines := lines) (broughtUp := broughtUp) hw hklines htodo
      exact ⟨_, z, .up, (if k.state = .down then false else k.mismatch), hrun, hz, hkk ▸ hbare, fun _ => rfl, fun h => absurd hup h,
        fun _ => rfl, fun h => absurd hexpected h, fun n y hy => by
          obtain ⟨u, hu, hspec⟩ := hzlines n y hy
          exact ⟨u, hu, fun h => absurd hup h, fun _ => hspec⟩,
        fun _ sec => State.presence_section (s := s) (lines := lines) (broughtUp := broughtUp) hw hklines htodo hsections⟩
    have apart (w : Work) (kk : LinkRec) (mismatch : Bool) (hnot : ¬ up)
        (hw : Map.find port w.live.links = some kk) (hkk : kk.bare = (heard .aligning mismatch).bare)
        (hexpected : expected → mismatch = if k.state = .down then false else k.mismatch) (hother : ¬ expected → mismatch = true)
        (hkept : ∀ n y, Map.find n k.lines = some y → ∃ u, Map.find n kk.lines = some u ∧ u.owner = y.owner ∧ u.last = y.last)
        (hrun : exec (.presence port identity version lines) s = .next (s.ending w)) : aligned := by
      obtain ⟨z, hz, hbare, hzlines⟩ := State.ending_link (s := s) hw
      refine ⟨_, z, .aligning, mismatch, hrun, hz, hbare.trans hkk, fun h => absurd h hnot, fun _ => rfl, hexpected, hother,
        fun n y hy => ?_, fun h => absurd h hnot⟩
      obtain ⟨u, hu, howner, hlast⟩ := hkept n y hy
      obtain ⟨x, hx, hxowner, hxlast⟩ := hzlines n u hu
      exact ⟨x, hx, fun _ => ⟨hxowner.trans howner, hxlast.trans hlast⟩, fun h => absurd h hnot⟩
    by_cases hstate : k.state = .up
    · rw [if_pos hstate] at hexec
      by_cases hexpected : expected
      · rw [if_pos hexpected] at hexec
        refine inUp v _ false hexpected ⟨hexpected, .inl hstate⟩ hlink ?_ rfl rfl hexec
        rw [hpresented, hstate]
        rfl
      · rw [if_neg hexpected] at hexec
        let u := v.updateLink port (fun k => { k with state := .aligning, mismatch := false })
        have hu : Map.find port u.live.links = _ := Work.find_updateLink hlink
        have hleft : Map.find port (u.leaveUp s.env port k).live.links = _ := Work.leaveUp_lines hu (by rw [hpresented])
        have hhanded : sameAgreed (u.leaveUp s.env port k).live.links ((u.leaveUp s.env port k).handedOn s.env).live.links :=
          (Evolves.unmeasured (e := s.env) (Work.handedOn_evolves _)).agreed
        have hbare := hhanded.bare port
        rw [hleft, Option.map_some] at hbare
        obtain ⟨z, hz, hzbare⟩ := Option.map_eq_some_iff.mp hbare
        have hzmismatch : z.mismatch = false := (LinkRec.bare_spec hzbare).2.2.2.2.1
        rw [Work.mismatched_found hz, if_neg (by simp [hzmismatch])] at hexec
        let x := ((u.leaveUp s.env port k).handedOn s.env).updateLink port (fun k => { k with mismatch := true })
        have hx : Map.find port x.live.links = _ := Work.find_updateLink hz
        refine apart _ { z with mismatch := true } true (fun h => hexpected h.1)
          ((congrArg (Map.find port) (Live.offer_links ..)).trans hx)
          ?_ (fun h => absurd h hexpected) (fun _ => rfl) (fun n y hy => ?_) hexec
        · have hsame : LinkRec.bare { z with mismatch := true } = { z.bare with mismatch := true } := rfl
          rw [hsame, hzbare, LinkRec.presented_up hstate]
          rfl
        · have hline := hhanded.line port n
          have hdropped : Map.find n (Map.each LineRec.dropped k.lines) = some y.dropped := by
            rw [Map.find_each, hy]
            rfl
          rw [Live.line_of_find hz, Live.line_of_find hleft, hdropped] at hline
          obtain ⟨a, ha, hagreed⟩ := Option.map_eq_some_iff.mp hline
          obtain ⟨howner, hlast⟩ := LineRec.agreed_spec hagreed
          exact ⟨a, ha, howner, hlast⟩
    · rw [if_neg hstate] at hexec
      have haligning : (if k.state = .down then LinkState.aligning else k.state) = .aligning := by
        cases hk : k.state with
        | down => rfl
        | aligning => rfl
        | up => exact absurd hk hstate
      have hkept : ∀ n y, Map.find n k.lines = some y → ∃ u, Map.find n k.lines = some u ∧ u.owner = y.owner ∧ u.last = y.last :=
        fun n y hy => ⟨y, hy, rfl, rfl⟩
      rw [hpresented, haligning] at hlink hmismatched
      by_cases hexpected : expected
      · rw [if_neg (not_not_intro hexpected)] at hexec
        by_cases hown : s.nv.identity = 0
        · rw [if_pos hown] at hexec
          exact apart v _ (if k.state = .down then false else k.mismatch) (fun h => h.2.elim hstate (absurd hown)) hlink rfl
            (fun _ => rfl) (fun h => absurd hexpected h) hkept hexec
        · rw [if_neg hown] at hexec
          exact inUp (v.updateLink port (fun k => { k with state := .up })) _ true hexpected ⟨hexpected, .inr hown⟩
            (Work.find_updateLink hlink) rfl rfl rfl hexec
      · rw [if_pos hexpected] at hexec
        have hnot : ¬ up := fun h => hexpected h.1
        by_cases hreported : (if k.state = .down then false else k.mismatch) = true
        · rw [hmismatched, if_pos hreported] at hexec
          exact apart v _ true hnot hlink (by rw [hreported]) (fun h => absurd h hexpected) (fun _ => rfl) hkept hexec
        · rw [hmismatched, if_neg hreported] at hexec
          have hx : Map.find port (v.updateLink port (fun k => { k with mismatch := true })).live.links = _ :=
            Work.find_updateLink hlink
          exact apart _ _ true hnot ((congrArg (Map.find port) (Live.offer_links ..)).trans hx) rfl (fun h => absurd h hexpected)
            (fun _ => rfl) hkept hexec

end Sys2Proof.Machine
end

section
/-! PROOFS. Octets: numbers, fields and lists read back as they were written (12.2 to 12.4; R181 to R183). -/

namespace Sys2Proof.Machine

/-! ## Numbers -/

@[simp] theorem one_toNat (a : Octet) : one a.toNat = [a] := by simp [one]

theorem toNat_ofNat_of_fits1 {n : Nat} (h : fits1 n = true) : (BitVec.ofNat 8 n).toNat = n := by
  have hn : n < 256 := by simpa [fits1] using h
  simpa using hn

@[simp] theorem two_number2 (a b : Octet) : two (number2 a b) = [a, b] := by
  have ha : a.toNat < 256 := a.isLt
  have hb : b.toNat < 256 := b.isLt
  have hhigh : (number2 a b / 256) % 256 = a.toNat := by unfold number2; omega
  have hlow : number2 a b % 256 = b.toNat := by unfold number2; omega
  rw [two, List.cons.injEq, List.cons.injEq]
  exact ⟨BitVec.eq_of_toNat_eq (by simpa using hhigh), BitVec.eq_of_toNat_eq (by simpa using hlow), rfl⟩

theorem number2_of_fits2 {n : Nat} (h : fits2 n = true) :
    number2 (BitVec.ofNat 8 (n / 256)) (BitVec.ofNat 8 n) = n := by
  have hn : n < 65536 := by simpa [fits2] using h
  simp only [number2, BitVec.toNat_ofNat]
  omega

theorem fits2_number2 (a b : Octet) : fits2 (number2 a b) = true := by
  have ha : a.toNat < 256 := a.isLt
  have hb : b.toNat < 256 := b.isLt
  have hlow : number2 a b < 65536 := by unfold number2; omega
  exact decide_eq_true hlow

theorem fits1_toNat (a : Octet) : fits1 a.toNat = true := by
  have ha : a.toNat < 256 := a.isLt
  simpa [fits1] using ha

theorem two_toNat (c : Word16) : two c.toNat = [c.extractLsb' 8 8, c.extractLsb' 0 8] := by
  rw [two, List.cons.injEq, List.cons.injEq]
  refine ⟨BitVec.eq_of_toNat_eq ?_, BitVec.eq_of_toNat_eq ?_, rfl⟩ <;>
    simp [BitVec.extractLsb'_toNat, Nat.shiftRight_eq_div_pow]

theorem four_toNat (c : BitVec 32) :
    four c.toNat = [c.extractLsb' 24 8, c.extractLsb' 16 8, c.extractLsb' 8 8, c.extractLsb' 0 8] := by
  rw [four, List.cons.injEq, List.cons.injEq, List.cons.injEq, List.cons.injEq]
  refine ⟨BitVec.eq_of_toNat_eq ?_, BitVec.eq_of_toNat_eq ?_, BitVec.eq_of_toNat_eq ?_, BitVec.eq_of_toNat_eq ?_, rfl⟩ <;>
    simp [BitVec.extractLsb'_toNat, Nat.shiftRight_eq_div_pow]

theorem number2_toNat (c : Word16) :
    BitVec.ofNat 16 (number2 (BitVec.ofNat 8 (c.toNat / 256)) (BitVec.ofNat 8 c.toNat)) = c := by
  rw [number2_of_fits2 (by simpa [fits2] using c.isLt)]
  simp

theorem number4_toNat (c : BitVec 32) :
    BitVec.ofNat 32 (number4 (BitVec.ofNat 8 (c.toNat / 16777216)) (BitVec.ofNat 8 (c.toNat / 65536))
      (BitVec.ofNat 8 (c.toNat / 256)) (BitVec.ofNat 8 c.toNat)) = c := by
  have hc : c.toNat < 4294967296 := c.isLt
  refine BitVec.eq_of_toNat_eq ?_
  simp only [number4, BitVec.toNat_ofNat]
  omega

@[simp] theorem four_number4 (a b c d : Octet) : four (BitVec.ofNat 32 (number4 a b c d)).toNat = [a, b, c, d] := by
  have ha : a.toNat < 256 := a.isLt
  have hb : b.toNat < 256 := b.isLt
  have hc : c.toNat < 256 := c.isLt
  have hd : d.toNat < 256 := d.isLt
  rw [four, List.cons.injEq, List.cons.injEq, List.cons.injEq, List.cons.injEq]
  refine ⟨BitVec.eq_of_toNat_eq ?_, BitVec.eq_of_toNat_eq ?_, BitVec.eq_of_toNat_eq ?_, BitVec.eq_of_toNat_eq ?_, rfl⟩ <;>
    simp only [number4, BitVec.toNat_ofNat] <;> omega

/-! ## Frames -/

/-- A telegram whose kind and length fit their octets is read back (R181). -/
theorem readFrame_frame {kind : Nat} {tag : Octet} {body : List Octet} (hkind : kind ≤ 255) (hlength : body.length ≤ 255) :
    readFrame (frame kind tag body) = some (kind, tag.toNat, body) := by
  have hk : (BitVec.ofNat 8 kind).toNat = kind := by
    rw [BitVec.toNat_ofNat]; omega
  have hn : (BitVec.ofNat 8 body.length).toNat = body.length := by
    rw [BitVec.toNat_ofNat]; omega
  simp [frame, readFrame, hk, hn, two]

/-! ## Items, fields and lists -/

/-- The items that a writer writes are those that a reader reads, whatever follows them, for the values that fit. -/
structure Layout {α : Type} (read : List Octet → Option (α × List Octet)) (write : α → List Octet) (fits : α → Bool) :
    Prop where
  readBack : ∀ a rest, fits a = true → read (write a ++ rest) = some (a, rest)
  written : ∀ xs a rest, read xs = some (a, rest) → write a ++ rest = xs ∧ fits a = true

theorem whole_eq_some {α : Type} {x : Option (α × List Octet)} {a : α} : whole x = some a ↔ x = some (a, []) := by
  rcases x with _ | ⟨b, _ | ⟨c, rest⟩⟩ <;> simp [whole]

theorem Layout.whole_eq_some {α : Type} {read : List Octet → Option (α × List Octet)} {write : α → List Octet}
    {fits : α → Bool} (h : Layout read write fits) {xs : List Octet} {a : α} :
    whole (read xs) = some a ↔ write a = xs ∧ fits a = true := by
  rw [Machine.whole_eq_some]
  constructor
  · intro hread
    simpa using h.written _ _ _ hread
  · rintro ⟨rfl, hfits⟩
    simpa using h.readBack a [] hfits

theorem layout_one : Layout readOne one fits1 where
  readBack n rest hn := by simp [one, readOne, fits1] at hn ⊢; omega
  written xs n rest h := by
    rcases xs with _ | ⟨a, xs⟩ <;> simp [readOne] at h
    obtain ⟨rfl, rfl⟩ := h
    simp [fits1_toNat]

theorem layout_two : Layout readTwo two fits2 where
  readBack n rest hn := by simp [two, readTwo, number2_of_fits2 hn]
  written xs n rest h := by
    rcases xs with _ | ⟨a, _ | ⟨b, xs⟩⟩ <;> simp [readTwo] at h
    obtain ⟨rfl, rfl⟩ := h
    simp [fits2_number2]

section
variable {α : Type} {read : List Octet → Option (α × List Octet)} {write : α → List Octet} {fits : α → Bool}

theorem Layout.readMany (h : Layout read write fits) :
    ∀ (as : List α) (rest : List Octet), as.all fits = true →
      Machine.readMany read as.length (as.flatMap write ++ rest) = some (as, rest)
  | [], rest, _ => rfl
  | a :: as, rest, hall => by
    rw [List.all_cons, Bool.and_eq_true] at hall
    simp [Machine.readMany, h.readBack a _ hall.1, h.readMany as rest hall.2]

theorem Layout.written_readMany (h : Layout read write fits) :
    ∀ (n : Nat) (xs : List Octet) (as : List α) (rest : List Octet), Machine.readMany read n xs = some (as, rest) →
      as.flatMap write ++ rest = xs ∧ as.length = n ∧ as.all fits = true
  | 0, xs, as, rest, hread => by
    simp only [Machine.readMany, Option.some.injEq, Prod.mk.injEq] at hread
    obtain ⟨rfl, rfl⟩ := hread
    simp
  | n + 1, xs, as, rest, hread => by
    rw [Machine.readMany] at hread
    rcases hfirst : read xs with _ | ⟨a, tail⟩ <;> rw [hfirst] at hread <;> simp at hread
    obtain ⟨bs, hmany, rfl⟩ := hread
    obtain ⟨hxs, hfits⟩ := h.written _ _ _ hfirst
    obtain ⟨htail, hlength, hall⟩ := h.written_readMany n tail bs rest hmany
    exact ⟨by simp [htail, hxs], by simp [hlength], by simp [hfits, hall]⟩

/-- A list with a count octet (R182). -/
theorem Layout.counted (h : Layout read write fits) :
    Layout (readCounted read) (Machine.counted write) (listFits fits) where
  readBack as rest hall := by
    simp only [listFits, Bool.and_eq_true, decide_eq_true_eq] at hall
    have hn : (BitVec.ofNat 8 as.length).toNat = as.length := by
      rw [BitVec.toNat_ofNat]; omega
    simp [Machine.counted, readCounted, hn, h.readMany as rest hall.2]
  written xs as rest hread := by
    rcases xs with _ | ⟨n, xs⟩ <;> simp only [readCounted, reduceCtorEq] at hread
    obtain ⟨hxs, hlength, hall⟩ := h.written_readMany _ _ _ _ hread
    have hn := n.isLt
    refine ⟨by simp [Machine.counted, hlength, hxs], ?_⟩
    simp only [listFits, Bool.and_eq_true, decide_eq_true_eq]
    exact ⟨by omega, hall⟩

/-- A field with a presence octet (R182). -/
theorem Layout.optional (h : Layout read write fits) :
    Layout (readOptional read) (Machine.optional write) (fun x => x.all fits) where
  readBack x rest hfits := by
    cases x with
    | none => simp [Machine.optional, readOptional]
    | some a => simp [Machine.optional, readOptional, h.readBack a rest (by simpa using hfits)]
  written xs x rest hread := by
    rcases xs with _ | ⟨p, xs⟩ <;> simp only [readOptional, reduceCtorEq] at hread
    split at hread
    next hp =>
      simp only [Option.some.injEq, Prod.mk.injEq] at hread
      obtain ⟨rfl, rfl⟩ := hread
      simp [Machine.optional, hp]
    split at hread
    next hp =>
      simp only [Option.map_eq_some_iff, Prod.mk.injEq] at hread
      obtain ⟨⟨a, tail⟩, hfirst, rfl, rfl⟩ := hread
      obtain ⟨hxs, hfits⟩ := h.written _ _ _ hfirst
      simp [Machine.optional, hp, hxs, hfits]
    · exact absurd hread nofun

end

end Sys2Proof.Machine
end

section
/-! PROOFS. Table entries read back as they were written (R183; O59). -/

namespace Sys2Proof.Machine

theorem one_cons (n : Nat) (rest : List Octet) : one n ++ rest = BitVec.ofNat 8 n :: rest := rfl

/-- An item of two fields of one octet each. -/
theorem layout_pair : Layout readPair (fun y => one y.1 ++ one y.2) (fun y => fits1 y.1 && fits1 y.2) where
  readBack y rest hy := by
    rw [Bool.and_eq_true] at hy
    simp only [one, readPair, List.cons_append, List.nil_append, toNat_ofNat_of_fits1 hy.1, toNat_ofNat_of_fits1 hy.2]
  written xs y rest h := by
    rcases xs with _ | ⟨a, _ | ⟨b, xs⟩⟩ <;> simp [readPair] at h
    obtain ⟨rfl, rfl⟩ := h
    simp [fits1_toNat]

theorem layout_location : Layout readLocation Location.octets Location.fits where
  readBack l rest h := by
    cases l with
    | field a => simp [Location.octets, readLocation, two, number2_of_fits2 (n := a) h]
    | remote link n =>
      rw [Location.fits, Bool.and_eq_true] at h
      simp only [Location.octets, readLocation, one, List.cons_append, List.nil_append, toNat_ofNat_of_fits1 h.1,
        toNat_ofNat_of_fits1 h.2]
      rfl
  written xs l rest h := by
    rcases xs with _ | ⟨form, _ | ⟨a, _ | ⟨b, xs⟩⟩⟩ <;> simp only [readLocation, reduceCtorEq] at h
    split at h
    next hform =>
      simp only [Option.some.injEq, Prod.mk.injEq] at h
      obtain ⟨rfl, rfl⟩ := h
      simp [Location.octets, Location.fits, fits2_number2, hform]
    split at h
    next hform =>
      simp only [Option.some.injEq, Prod.mk.injEq] at h
      obtain ⟨rfl, rfl⟩ := h
      simp [Location.octets, Location.fits, fits1_toNat, hform]
    · exact absurd h nofun

/-! ## ELEMENTS and SECTIONS -/

theorem readElementBody_octets (b : ElementBody) (rest : List Octet) (h : b.fits = true) :
    readElementBody b.kind (b.octets ++ rest) = some (b, rest) := by
  cases b with
  | point sec limit p =>
    simp only [ElementBody.fits, Bool.and_eq_true] at h
    obtain ⟨⟨hsec, hlimit⟩, hp⟩ := h
    simp only [ElementBody.kind, ElementBody.octets, one, List.cons_append, List.nil_append, readElementBody,
      toNat_ofNat_of_fits1 hsec, toNat_ofNat_of_fits1 hlimit, toNat_ofNat_of_fits1 hp]
  | signal time =>
    simp only [ElementBody.kind, ElementBody.octets, one, List.cons_append, List.nil_append, readElementBody,
      toNat_ofNat_of_fits1 (n := time) h]
  | head limit x =>
    simp only [ElementBody.fits, Bool.and_eq_true] at h
    simp only [ElementBody.kind, ElementBody.octets, one, List.cons_append, List.nil_append, readElementBody,
      toNat_ofNat_of_fits1 h.1]
    rw [show optional (fun y => BitVec.ofNat 8 y.1 :: [BitVec.ofNat 8 y.2]) x ++ rest =
      optional (fun y => one y.1 ++ one y.2) x ++ rest from rfl, layout_pair.optional.readBack x rest h.2]
    rfl
  | other k =>
    simp only [ElementBody.fits, Bool.and_eq_true, Bool.or_eq_true, beq_iff_eq, decide_eq_true_eq] at h
    rw [ElementBody.kind, ElementBody.octets, List.nil_append, readElementBody.eq_def]
    split <;> simp_all

theorem written_elementBody {kind : Octet} {xs rest : List Octet} {b : ElementBody}
    (h : readElementBody kind.toNat xs = some (b, rest)) :
    one b.kind = [kind] ∧ b.octets ++ rest = xs ∧ b.fits = true := by
  have hkind : ∀ n, kind.toNat = n → one n = [kind] := fun n hn => hn ▸ one_toNat kind
  rw [readElementBody.eq_def] at h
  split at h
  next heq =>
    simp only [Option.some.injEq, Prod.mk.injEq] at h
    obtain ⟨rfl, rfl⟩ := h
    simp [ElementBody.kind, ElementBody.octets, ElementBody.fits, fits1_toNat, hkind 1 heq]
  · exact absurd h nofun
  next heq =>
    simp only [Option.some.injEq, Prod.mk.injEq] at h
    obtain ⟨rfl, rfl⟩ := h
    simp [ElementBody.kind, ElementBody.octets, ElementBody.fits, fits1_toNat, hkind 2 heq]
  · exact absurd h nofun
  next heq =>
    simp only [Option.map_eq_some_iff, Prod.mk.injEq] at h
    obtain ⟨⟨x, tail⟩, hread, rfl, rfl⟩ := h
    obtain ⟨hxs, hfits⟩ := layout_pair.optional.written _ _ _ hread
    refine ⟨hkind 3 heq, ?_, ?_⟩
    · rw [ElementBody.octets, one_toNat, ← hxs]
      rfl
    · rw [ElementBody.fits, fits1_toNat, Bool.true_and]
      exact hfits
  · exact absurd h nofun
  next _ _ _ hone htwo hthree _ _ _ =>
    simp only [Option.some.injEq, Prod.mk.injEq] at h
    obtain ⟨rfl, rfl⟩ := h
    refine ⟨hkind _ rfl, rfl, ?_⟩
    have hne : kind.toNat ≠ 1 ∧ kind.toNat ≠ 2 ∧ kind.toNat ≠ 3 := ⟨hone, htwo, hthree⟩
    simp only [ElementBody.fits, fits1_toNat, Bool.true_and, Bool.or_eq_true, beq_iff_eq, decide_eq_true_eq]
    omega

theorem layout_element : Layout readElement ElementEntry.octets
    (fun e => e.location.fits && fits1 e.supervision && e.body.fits) where
  readBack e rest h := by
    simp only [Bool.and_eq_true] at h
    obtain ⟨⟨hlocation, hsupervision⟩, hbody⟩ := h
    have hkind : (BitVec.ofNat 8 e.body.kind).toNat = e.body.kind := by
      refine toNat_ofNat_of_fits1 ?_
      cases hb : e.body with
      | other k =>
        rw [hb, ElementBody.fits, Bool.and_eq_true] at hbody
        exact hbody.1
      | _ => rfl
    rw [ElementEntry.octets, one, List.append_assoc, List.append_assoc, List.append_assoc, List.cons_append, List.nil_append,
      readElement, layout_location.readBack _ _ hlocation, one, List.cons_append, List.nil_append]
    simp only [hkind, readElementBody_octets _ _ hbody, toNat_ofNat_of_fits1 hsupervision, Option.map_some]
  written xs e rest h := by
    rcases xs with _ | ⟨kind, xs⟩ <;> simp only [readElement, reduceCtorEq] at h
    split at h
    next place supervision tail hplace =>
      simp only [Option.map_eq_some_iff, Prod.mk.injEq] at h
      obtain ⟨⟨b, rest'⟩, hread, rfl, rfl⟩ := h
      obtain ⟨hkind, htail, hfits⟩ := written_elementBody hread
      obtain ⟨hxs, hlocation⟩ := layout_location.written _ _ _ hplace
      refine ⟨?_, by simp [hlocation, hfits, fits1_toNat]⟩
      simp only [ElementEntry.octets, hkind, one_toNat, List.append_assoc, List.cons_append, List.nil_append]
      rw [htail, hxs]
    · exact absurd h nofun

theorem layout_headItem : Layout readHeadItem HeadItem.octets (fun i => fits2 i.head && fits1 i.direction) where
  readBack i rest h := by
    rw [Bool.and_eq_true] at h
    simp only [HeadItem.octets, two, one, List.cons_append, List.nil_append, readHeadItem, number2_of_fits2 h.1,
      toNat_ofNat_of_fits1 h.2]
  written xs i rest h := by
    rcases xs with _ | ⟨a, _ | ⟨b, _ | ⟨d, xs⟩⟩⟩ <;> simp [readHeadItem] at h
    obtain ⟨rfl, rfl⟩ := h
    simp [HeadItem.octets, fits1_toNat, fits2_number2]

theorem layout_section : Layout readSection SectionEntry.octets
    (fun e => listFits (fun i => fits2 i.head && fits1 i.direction) e.heads) where
  readBack e rest h := by simp [readSection, SectionEntry.octets, layout_headItem.counted.readBack _ _ h]
  written xs e rest h := by
    simp only [readSection, Option.map_eq_some_iff, Prod.mk.injEq] at h
    obtain ⟨⟨heads, tail⟩, hread, rfl, rfl⟩ := h
    exact layout_headItem.counted.written _ _ _ hread

/-! ## ROUTES -/

theorem layout_exit : Layout readExit Exit.octets (fun
    | .signal g => fits2 g
    | .line link n => fits1 link && fits1 n) where
  readBack x rest h := by
    cases x with
    | signal g => simp [Exit.octets, readExit, two, number2_of_fits2 (n := g) h]
    | line link n =>
      simp only [Bool.and_eq_true] at h
      simp only [Exit.octets, readExit, one, List.cons_append, List.nil_append, toNat_ofNat_of_fits1 h.1,
        toNat_ofNat_of_fits1 h.2]
      rfl
  written xs x rest h := by
    rcases xs with _ | ⟨form, _ | ⟨a, _ | ⟨b, xs⟩⟩⟩ <;> simp only [readExit, reduceCtorEq] at h
    split at h
    next hform =>
      simp only [Option.some.injEq, Prod.mk.injEq] at h
      obtain ⟨rfl, rfl⟩ := h
      simp [Exit.octets, fits2_number2, hform]
    split at h
    next hform =>
      simp only [Option.some.injEq, Prod.mk.injEq] at h
      obtain ⟨rfl, rfl⟩ := h
      simp [Exit.octets, fits1_toNat, hform]
    · exact absurd h nofun

theorem layout_pointItem : Layout readPointItem PointItem.octets (fun x => fits2 x.element && fits1 x.position) where
  readBack i rest h := by
    rw [Bool.and_eq_true] at h
    simp only [PointItem.octets, two, one, List.cons_append, List.nil_append, readPointItem, number2_of_fits2 h.1,
      toNat_ofNat_of_fits1 h.2]
  written xs i rest h := by
    rcases xs with _ | ⟨a, _ | ⟨b, _ | ⟨d, xs⟩⟩⟩ <;> simp [readPointItem] at h
    obtain ⟨rfl, rfl⟩ := h
    simp [PointItem.octets, fits1_toNat, fits2_number2]

theorem layout_candidate : Layout readCandidate Candidate.octets (fun c => fits2 c.element && fits1 c.state) where
  readBack i rest h := by
    rw [Bool.and_eq_true] at h
    simp only [Candidate.octets, two, one, List.cons_append, List.nil_append, readCandidate, number2_of_fits2 h.1,
      toNat_ofNat_of_fits1 h.2]
  written xs i rest h := by
    rcases xs with _ | ⟨a, _ | ⟨b, _ | ⟨d, xs⟩⟩⟩ <;> simp [readCandidate] at h
    obtain ⟨rfl, rfl⟩ := h
    simp [Candidate.octets, fits1_toNat, fits2_number2]

theorem layout_flank : Layout readFlank FlankEntry.octets FlankEntry.fits where
  readBack f rest h := by
    simp only [FlankEntry.fits, Bool.and_eq_true, decide_eq_true_eq] at h
    obtain ⟨⟨⟨hindex, hleast⟩, hmost⟩, hall⟩ := h
    have hlist : listFits (fun c => fits2 c.element && fits1 c.state) f.candidates = true := by
      simp only [listFits, Bool.and_eq_true, decide_eq_true_eq]
      exact ⟨by omega, hall⟩
    simp only [FlankEntry.octets, one, List.cons_append, List.nil_append, readFlank,
      layout_candidate.counted.readBack _ _ hlist, hleast, hmost, and_self, if_true, toNat_ofNat_of_fits1 hindex]
  written xs f rest h := by
    rcases xs with _ | ⟨i, xs⟩ <;> simp only [readFlank, reduceCtorEq] at h
    split at h
    next cs tail hread =>
      split at h
      next hlength =>
        simp only [Option.some.injEq, Prod.mk.injEq] at h
        obtain ⟨rfl, rfl⟩ := h
        obtain ⟨hxs, hlist⟩ := layout_candidate.counted.written _ _ _ hread
        simp only [listFits, Bool.and_eq_true] at hlist
        refine ⟨by simp [FlankEntry.octets, hxs], ?_⟩
        simp [FlankEntry.fits, fits1_toNat, hlength.1, hlength.2, hlist.2]
      · exact absurd h nofun
    · exact absurd h nofun

theorem layout_route : Layout readRoute RouteEntry.octets RouteEntry.fits where
  readBack r rest h := by
    simp only [RouteEntry.fits, Bool.and_eq_true] at h
    obtain ⟨⟨⟨⟨⟨⟨⟨⟨⟨⟨hsignal, hexit⟩, happroachTime⟩, hoverlapTime⟩, hfleeting⟩, hpath⟩, hpoints⟩, hoverlap⟩, happroach⟩,
      hflank⟩, hopposing⟩ := h
    simp only [RouteEntry.octets, two, one, List.append_assoc, List.cons_append, List.nil_append, readRoute,
      layout_exit.readBack _ _ hexit, number2_of_fits2 hsignal, toNat_ofNat_of_fits1 happroachTime,
      toNat_ofNat_of_fits1 hoverlapTime, toNat_ofNat_of_fits1 hfleeting]
    simp only [readRouteLists, layout_one.counted.readBack _ _ hpath, layout_pointItem.counted.readBack _ _ hpoints,
      layout_one.counted.readBack _ _ hoverlap, layout_one.counted.readBack _ _ happroach,
      layout_flank.counted.readBack _ _ hflank, layout_two.counted.readBack _ _ hopposing, Option.bind_eq_bind,
      Option.bind_some]
  written xs r rest h := by
    rcases xs with _ | ⟨a, _ | ⟨b, xs⟩⟩ <;> simp only [readRoute, reduceCtorEq] at h
    split at h
    next x approachTime overlapTime fleeting tail hexit =>
      simp only [readRouteLists, Option.bind_eq_bind, Option.bind_eq_some_iff, Prod.exists, Option.some.injEq,
        Prod.mk.injEq] at h
      obtain ⟨path, xs1, hpath, points, xs2, hpoints, overlap, xs3, hoverlap, approach, xs4, happroach, flank, xs5, hflank,
        opposing, xs6, hopposing, rfl, rfl⟩ := h
      obtain ⟨hx, hexitFits⟩ := layout_exit.written _ _ _ hexit
      obtain ⟨h1, hpath⟩ := layout_one.counted.written _ _ _ hpath
      obtain ⟨h2, hpoints⟩ := layout_pointItem.counted.written _ _ _ hpoints
      obtain ⟨h3, hoverlap⟩ := layout_one.counted.written _ _ _ hoverlap
      obtain ⟨h4, happroach⟩ := layout_one.counted.written _ _ _ happroach
      obtain ⟨h5, hflank⟩ := layout_flank.counted.written _ _ _ hflank
      obtain ⟨h6, hopposing⟩ := layout_two.counted.written _ _ _ hopposing
      refine ⟨?_, ?_⟩
      · simp only [RouteEntry.octets, two_number2, one_toNat, List.append_assoc, List.cons_append, List.nil_append, h6, h5,
          h4, h3, h2, h1, hx]
      · simp only [RouteEntry.fits, fits1_toNat, fits2_number2, hpath, hpoints, hoverlap, happroach, hflank, hopposing,
          Bool.and_true, Bool.true_and]
        exact hexitFits
    · exact absurd h nofun

/-! ## BOUNDARY and OPTIONS -/

theorem layout_line : Layout readLine LineEntry.octets LineEntry.fits where
  readBack x rest h := by
    simp only [LineEntry.fits, Bool.and_eq_true] at h
    obtain ⟨⟨⟨hnumber, hsenior⟩, hsections⟩, hshared⟩ := h
    rw [LineEntry.octets, List.append_assoc, List.append_assoc, List.append_assoc]
    simp only [one_cons, readLine, layout_one.counted.readBack _ _ hsections, layout_one.optional.readBack _ _ hshared,
      Option.map_some, toNat_ofNat_of_fits1 hnumber, toNat_ofNat_of_fits1 hsenior]
  written xs x rest h := by
    rcases xs with _ | ⟨n, _ | ⟨s, xs⟩⟩ <;> simp only [readLine, reduceCtorEq] at h
    split at h
    next secs tail hread =>
      simp only [Option.map_eq_some_iff, Prod.mk.injEq] at h
      obtain ⟨⟨shared, rest'⟩, hoptional, rfl, rfl⟩ := h
      obtain ⟨hxs, hsections⟩ := layout_one.counted.written _ _ _ hread
      obtain ⟨htail, hshared⟩ := layout_one.optional.written _ _ _ hoptional
      refine ⟨?_, ?_⟩
      · simp only [LineEntry.octets, one_toNat, List.append_assoc, List.cons_append, List.nil_append, htail, hxs]
      · simp only [LineEntry.fits, fits1_toNat, hsections, hshared, Bool.and_true]
    · exact absurd h nofun

theorem layout_boundary : Layout readBoundary BoundaryEntry.octets
    (fun b => fits1 b.supervision && fits1 b.replyTimeout && listFits LineEntry.fits b.lines) where
  readBack b rest h := by
    simp only [Bool.and_eq_true] at h
    obtain ⟨⟨hsupervision, htimeout⟩, hlines⟩ := h
    rw [BoundaryEntry.octets, List.append_assoc, List.append_assoc, List.append_assoc]
    simp only [one_cons, four, List.cons_append, List.nil_append, readBoundary, layout_line.counted.readBack _ _ hlines,
      Option.map_some, number4_toNat, toNat_ofNat_of_fits1 hsupervision, toNat_ofNat_of_fits1 htimeout]
  written xs b rest h := by
    rcases xs with _ | ⟨a, _ | ⟨b, _ | ⟨c, _ | ⟨d, _ | ⟨s, _ | ⟨t, xs⟩⟩⟩⟩⟩⟩ <;> simp only [readBoundary, reduceCtorEq] at h
    simp only [Option.map_eq_some_iff, Prod.mk.injEq] at h
    obtain ⟨⟨ls, tail⟩, hread, rfl, rfl⟩ := h
    obtain ⟨hxs, hlines⟩ := layout_line.counted.written _ _ _ hread
    refine ⟨?_, by simp only [fits1_toNat, hlines, Bool.and_self]⟩
    simp only [BoundaryEntry.octets, four_number4, one_toNat, List.cons_append, List.nil_append, hxs]

theorem layout_options : Layout readOptions OptionsEntry.octets
    (fun o => fits1 o.stopOnAlarm && fits1 o.watermark && fits1 o.stateNotices) where
  readBack o rest h := by
    simp only [Bool.and_eq_true] at h
    simp only [OptionsEntry.octets, one, List.cons_append, List.nil_append, readOptions, toNat_ofNat_of_fits1 h.1.1,
      toNat_ofNat_of_fits1 h.1.2, toNat_ofNat_of_fits1 h.2]
  written xs o rest h := by
    rcases xs with _ | ⟨a, _ | ⟨w, _ | ⟨n, xs⟩⟩⟩ <;> simp [readOptions] at h
    obtain ⟨rfl, rfl⟩ := h
    simp [OptionsEntry.octets, fits1_toNat]

/-! ## An entry of any table -/

/-- An entry is what its octets are read as, and the other way about, when its fields fit (R169, R183). -/
theorem readEntry_eq_some {table : Nat} {content : List Octet} {x : Staged} :
    readEntry table content = some x ↔ x.octets = content ∧ x.table = table ∧ x.fits = true := by
  have hread : readEntry x.table content = some x ↔ x.octets = content ∧ x.fits = true := by
    cases x with
    | element e => exact (by simp [readEntry, Staged.table] : _ ↔ whole _ = some _).trans layout_element.whole_eq_some
    | trackSection e => exact (by simp [readEntry, Staged.table] : _ ↔ whole _ = some _).trans layout_section.whole_eq_some
    | route r => exact (by simp [readEntry, Staged.table] : _ ↔ whole _ = some _).trans layout_route.whole_eq_some
    | boundary b => exact (by simp [readEntry, Staged.table] : _ ↔ whole _ = some _).trans layout_boundary.whole_eq_some
    | options o => exact (by simp [readEntry, Staged.table] : _ ↔ whole _ = some _).trans layout_options.whole_eq_some
  have htable : readEntry table content = some x → x.table = table := by
    intro h
    unfold readEntry at h
    split at h <;> simp only [Option.map_eq_some_iff, reduceCtorEq] at h <;> obtain ⟨_, _, rfl⟩ := h <;> rfl
  constructor
  · intro h
    have ht := htable h
    subst ht
    obtain ⟨hoctets, hfits⟩ := hread.mp h
    exact ⟨hoctets, rfl, hfits⟩
  · rintro ⟨hoctets, rfl, hfits⟩
    exact hread.mpr ⟨hoctets, hfits⟩

end Sys2Proof.Machine
end

section
/-! PROOFS. Telegrams read back as they were written (R181, R183; O59). -/

namespace Sys2Proof.Machine

theorem readTelegram_control {kind : Nat} {tag : Octet} {body : List Octet} (hkind : kind ≤ 255)
    (hlength : body.length ≤ 240) :
    readTelegram .control (frame kind tag body) =
      some ((readControl kind tag.toNat body).getD (.controlBadForm tag.toNat kind)) := by
  simp [readTelegram, readFrame_frame hkind (by omega : body.length ≤ 255), hlength]

theorem readTelegram_field {kind : Nat} {tag : Octet} {body : List Octet} (hkind : kind ≤ 255)
    (hlength : body.length ≤ 240) : readTelegram .field (frame kind tag body) = readField kind body := by
  simp [readTelegram, readFrame_frame hkind (by omega : body.length ≤ 255), hlength]

theorem readTelegram_boundary {port kind : Nat} {tag : Octet} {body : List Octet} (hkind : kind ≤ 255)
    (hlength : body.length ≤ 240) :
    readTelegram (.boundary port) (frame kind tag body) = readBoundaryTelegram port kind body := by
  simp [readTelegram, readFrame_frame hkind (by omega : body.length ≤ 255), hlength]

theorem length_counted_one (ns : List Nat) : (counted one ns).length = ns.length + 1 := by
  simp [counted, one]

/-- A control telegram of a well-formed command is read as that command (R183). -/
theorem readControl_controlParts {i : Instr} {kind tag : Nat} {body : List Octet} (hwf : i.wf = true)
    (hparts : controlParts i = some (kind, tag, body)) :
    fits1 tag = true ∧ kind ≤ 24 ∧ body.length ≤ 240 ∧ readControl kind tag body = some i := by
  cases i <;> simp only [controlParts, reduceCtorEq, Option.some.injEq, Prod.mk.injEq] at hparts <;>
    obtain ⟨rfl, rfl, rfl⟩ := hparts <;> simp only [Instr.wf, Bool.and_eq_true, decide_eq_true_eq] at hwf
  case routeCall route fleet patience =>
    obtain ⟨⟨⟨htag, hroute⟩, hfleet⟩, hpatience⟩ := hwf
    refine ⟨htag, by decide, by simp [two, one], ?_⟩
    change some (Instr.routeCall _ (number2 _ _) (BitVec.toNat _) (BitVec.toNat _)) = _
    rw [number2_of_fits2 hroute, toNat_ofNat_of_fits1 hfleet, toNat_ofNat_of_fits1 hpatience]
  case routeCancel route =>
    obtain ⟨htag, hroute⟩ := hwf
    refine ⟨htag, by decide, by simp [two], ?_⟩
    change some (Instr.routeCancel _ (number2 _ _)) = _
    rw [number2_of_fits2 hroute]
  case fleetStop route =>
    obtain ⟨htag, hroute⟩ := hwf
    refine ⟨htag, by decide, by simp [two], ?_⟩
    change some (Instr.fleetStop _ (number2 _ _)) = _
    rw [number2_of_fits2 hroute]
  case releaseArm slot =>
    obtain ⟨htag, hslot⟩ := hwf
    refine ⟨htag, by decide, by simp [one], ?_⟩
    change some (Instr.releaseArm _ (BitVec.toNat _)) = _
    rw [toNat_ofNat_of_fits1 hslot]
  case releaseConfirm slot =>
    obtain ⟨htag, hslot⟩ := hwf
    refine ⟨htag, by decide, by simp [one], ?_⟩
    change some (Instr.releaseConfirm _ (BitVec.toNat _)) = _
    rw [toNat_ofNat_of_fits1 hslot]
  case stageHold route stage action =>
    obtain ⟨⟨⟨htag, hroute⟩, hstage⟩, haction⟩ := hwf
    refine ⟨htag, by decide, by simp [two, one], ?_⟩
    change some (Instr.stageHold _ (number2 _ _) (BitVec.toNat _) (BitVec.toNat _)) = _
    rw [number2_of_fits2 hroute, toNat_ofNat_of_fits1 hstage, toNat_ofNat_of_fits1 haction]
  case stageStep route =>
    obtain ⟨htag, hroute⟩ := hwf
    refine ⟨htag, by decide, by simp [two], ?_⟩
    change some (Instr.stageStep _ (number2 _ _)) = _
    rw [number2_of_fits2 hroute]
  case elementOrder element order =>
    obtain ⟨⟨htag, helement⟩, horder⟩ := hwf
    refine ⟨htag, by decide, by simp [two, one], ?_⟩
    change some (Instr.elementOrder _ (number2 _ _) (BitVec.toNat _)) = _
    rw [number2_of_fits2 helement, toNat_ofNat_of_fits1 horder]
  case sectionReset number =>
    obtain ⟨htag, hnumber⟩ := hwf
    refine ⟨htag, by decide, by simp [one], ?_⟩
    change some (Instr.sectionReset _ (BitVec.toNat _)) = _
    rw [toNat_ofNat_of_fits1 hnumber]
  case possessionGive possession =>
    obtain ⟨htag, hpossession⟩ := hwf
    refine ⟨htag, by decide, by simp [one], ?_⟩
    change some (Instr.possessionGive _ (BitVec.toNat _)) = _
    rw [toNat_ofNat_of_fits1 hpossession]
  case modeSet mode =>
    obtain ⟨htag, hmode⟩ := hwf
    refine ⟨htag, by decide, by simp [one], ?_⟩
    change some (Instr.modeSet _ (BitVec.toNat _)) = _
    rw [toNat_ofNat_of_fits1 hmode]
  case tableFresh table =>
    obtain ⟨htag, htable⟩ := hwf
    refine ⟨htag, by decide, by simp [one], ?_⟩
    change some (Instr.tableFresh _ (BitVec.toNat _)) = _
    rw [toNat_ofNat_of_fits1 htable]
  case tableAmend table =>
    obtain ⟨htag, htable⟩ := hwf
    refine ⟨htag, by decide, by simp [one], ?_⟩
    change some (Instr.tableAmend _ (BitVec.toNat _)) = _
    rw [toNat_ofNat_of_fits1 htable]
  case reportFetch count =>
    obtain ⟨htag, hcount⟩ := hwf
    refine ⟨htag, by decide, by simp [one], ?_⟩
    change some (Instr.reportFetch _ (BitVec.toNat _)) = _
    rw [toNat_ofNat_of_fits1 hcount]
  case statusClear flags =>
    obtain ⟨htag, hflags⟩ := hwf
    refine ⟨htag, by decide, by simp [one], ?_⟩
    change some (Instr.statusClear _ (BitVec.toNat _)) = _
    rw [toNat_ofNat_of_fits1 hflags]
  case possessionTake possession sections =>
    obtain ⟨⟨⟨htag, hpossession⟩, hlength⟩, hall⟩ := hwf
    have hlist : listFits fits1 sections = true := by
      simp only [listFits, Bool.and_eq_true, decide_eq_true_eq]
      exact ⟨by omega, hall⟩
    have hread : whole (readCounted readOne (counted one sections)) = some sections :=
      layout_one.counted.whole_eq_some.mpr ⟨rfl, hlist⟩
    refine ⟨htag, by decide, by simp [one, length_counted_one]; omega, ?_⟩
    change (whole (readCounted readOne (counted one sections))).map (fun secs =>
      Instr.possessionTake _ (BitVec.toNat _) secs) = _
    rw [hread, toNat_ofNat_of_fits1 hpossession, Option.map_some]
  case restart => exact ⟨hwf, by decide, by simp, rfl⟩
  case tableFreeze => exact ⟨hwf, by decide, by simp, rfl⟩
  case statusRead => exact ⟨hwf, by decide, by simp, rfl⟩
  case tableEntry table id content =>
    obtain ⟨⟨⟨htag, htable⟩, hid⟩, hlength⟩ := hwf
    refine ⟨htag, by decide, by simp [one, two]; omega, ?_⟩
    change some (Instr.tableEntry _ (BitVec.toNat _) (number2 _ _) content) = _
    rw [toNat_ofNat_of_fits1 htable, number2_of_fits2 hid]
  case tableCommit word =>
    refine ⟨hwf, by decide, by simp [two], ?_⟩
    change some (Instr.tableCommit _ (BitVec.ofNat 16 (number2 _ _))) = _
    rw [number2_toNat]
  case areaIdentity identity =>
    refine ⟨hwf, by decide, by simp [four], ?_⟩
    change some (Instr.areaIdentity _ (BitVec.ofNat 32 (number4 _ _ _ _))) = _
    rw [number4_toNat]
  case alarmAck sequence =>
    refine ⟨hwf, by decide, by simp [two], ?_⟩
    change some (Instr.alarmAck _ (BitVec.ofNat 16 (number2 _ _))) = _
    rw [number2_toNat]
  case query kind number id =>
    obtain ⟨⟨⟨⟨htag, hkind⟩, hnumber⟩, hid⟩, hform⟩ := hwf
    simp only [Bool.or_eq_true, beq_iff_eq] at hform
    by_cases hentry : kind = 8
    · subst hentry
      refine ⟨htag, by decide, by simp [one, two], ?_⟩
      rw [if_pos rfl]
      change some (Instr.query _ 8 (number2 _ _) (number2 _ _)) = _
      rw [number2_of_fits2 hnumber, number2_of_fits2 hid]
    · refine ⟨htag, by decide, by simp [one, two, hentry], ?_⟩
      rw [if_neg hentry]
      change (if BitVec.toNat _ = 8 then none else some (Instr.query _ (BitVec.toNat _) (number2 _ _) 0)) = _
      rw [toNat_ofNat_of_fits1 hkind, if_neg hentry, number2_of_fits2 hnumber, hform.resolve_left hentry]

/-! ## The field port and the boundary ports -/

theorem readContent_contentOctets {c : StatusContent} (hwf : c.wf = true) : readContent (contentOctets c) = some c := by
  cases c with
  | position code => simp [contentOctets, one, readContent, toNat_ofNat_of_fits1 (n := code) hwf]
  | aspect code => simp [contentOctets, one, readContent, toNat_ofNat_of_fits1 (n := code) hwf]
  | counts nA nB => simp [contentOctets, readContent]
  | other kind =>
    simp only [StatusContent.wf, Bool.and_eq_true, Bool.or_eq_true, beq_iff_eq, decide_eq_true_eq] at hwf
    have hk := toNat_ofNat_of_fits1 hwf.1
    have hne : ∀ n : Octet, BitVec.ofNat 8 kind = n → kind = n.toNat := fun n hn => by rw [← hn, hk]
    have hnot : BitVec.ofNat 8 kind ≠ 1#8 ∧ BitVec.ofNat 8 kind ≠ 2#8 ∧ BitVec.ofNat 8 kind ≠ 3#8 := by
      refine ⟨fun h => ?_, fun h => ?_, fun h => ?_⟩ <;> have := hne _ h <;> simp at this <;> omega
    simp [contentOctets, one, readContent, hnot, hk]

theorem layout_presenceLine : Layout readPresenceLine presenceLineOctets PresenceLine.wf where
  readBack x rest h := by
    simp only [PresenceLine.wf, Bool.and_eq_true] at h
    obtain ⟨⟨⟨hnumber, howner⟩, hflags⟩, hshared⟩ := h
    simp only [presenceLineOctets, one, List.cons_append, List.nil_append, readPresenceLine, toNat_ofNat_of_fits1 hnumber,
      toNat_ofNat_of_fits1 howner, toNat_ofNat_of_fits1 hflags, toNat_ofNat_of_fits1 hshared]
  written xs x rest h := by
    rcases xs with _ | ⟨n, _ | ⟨o, _ | ⟨f, _ | ⟨s, xs⟩⟩⟩⟩ <;> simp [readPresenceLine] at h
    obtain ⟨rfl, rfl⟩ := h
    simp [presenceLineOctets, PresenceLine.wf, fits1_toNat]

theorem layout_countsEntry : Layout readCountsEntry countsEntryOctets (fun x => fits1 x.number) where
  readBack x rest h := by
    simp only [countsEntryOctets, one, List.cons_append, List.nil_append, readCountsEntry, toNat_ofNat_of_fits1 h]
  written xs x rest h := by
    rcases xs with _ | ⟨n, _ | ⟨a, _ | ⟨b, xs⟩⟩⟩ <;> simp [readCountsEntry] at h
    obtain ⟨rfl, rfl⟩ := h
    simp [countsEntryOctets, fits1_toNat]

theorem length_counted {α : Type} {f : α → List Octet} {k : Nat} (hf : ∀ x, (f x).length = k) (xs : List α) :
    (counted f xs).length = xs.length * k + 1 := by
  simp [counted, List.length_flatMap, hf]

/-- A PRESENCE whose lines fit is read as it was written (R183). -/
theorem readTelegram_presence {port : Nat} {tag : Octet} {identity : Identity} {version : Word16}
    {lines : List PresenceLine} (hlength : lines.length ≤ 58) (hall : lines.all PresenceLine.wf = true) :
    readTelegram (.boundary port) (frame 48 tag
      (four identity.toNat ++ two version.toNat ++ counted presenceLineOctets lines)) =
      some (.presence port identity version lines) := by
  have hlist : listFits PresenceLine.wf lines = true := by
    simp only [listFits, Bool.and_eq_true, decide_eq_true_eq]
    exact ⟨by omega, hall⟩
  have hread : whole (readCounted readPresenceLine (counted presenceLineOctets lines)) = some lines :=
    layout_presenceLine.counted.whole_eq_some.mpr ⟨rfl, hlist⟩
  have hoctets := length_counted (f := presenceLineOctets) (k := 4) (fun _ => rfl) lines
  rw [readTelegram_boundary (by decide) (by simp [four, two, hoctets]; omega)]
  change (whole (readCounted readPresenceLine (counted presenceLineOctets lines))).map (fun ls =>
    Instr.presence port (BitVec.ofNat 32 (number4 _ _ _ _)) (BitVec.ofNat 16 (number2 _ _)) ls) = _
  rw [hread, Option.map_some, number4_toNat, number2_toNat]

/-- A COUNTS whose entries fit is read as it was written (R183). -/
theorem readTelegram_counts {port : Nat} {tag : Octet} {entries : List CountsEntry} (hlength : entries.length ≤ 79)
    (hall : entries.all (fun x => fits1 x.number) = true) :
    readTelegram (.boundary port) (frame 49 tag (counted countsEntryOctets entries)) = some (.counts port entries) := by
  have hlist : listFits (fun x => fits1 x.number) entries = true := by
    simp only [listFits, Bool.and_eq_true, decide_eq_true_eq]
    exact ⟨by omega, hall⟩
  have hread : whole (readCounted readCountsEntry (counted countsEntryOctets entries)) = some entries :=
    layout_countsEntry.counted.whole_eq_some.mpr ⟨rfl, hlist⟩
  have hoctets := length_counted (f := countsEntryOctets) (k := 3) (fun _ => rfl) entries
  rw [readTelegram_boundary (by decide) (by rw [hoctets]; omega)]
  change (whole (readCounted readCountsEntry (counted countsEntryOctets entries))).map (fun es =>
    Instr.counts port es) = _
  rw [hread, Option.map_some]

theorem readTelegram_directionAsk {port line : Nat} {tag number : Octet} (hline : fits1 line = true) :
    readTelegram (.boundary port) (frame 50 tag (one line ++ [number])) = some (.directionAsk port line number) := by
  rw [readTelegram_boundary (by decide) (by simp [one])]
  change some (Instr.directionAsk port (BitVec.toNat _) number) = _
  rw [toNat_ofNat_of_fits1 hline]

theorem readTelegram_directionReply {port line verdict : Nat} {tag number : Octet} (hline : fits1 line = true)
    (hverdict : fits1 verdict = true) :
    readTelegram (.boundary port) (frame 51 tag (one line ++ [number] ++ one verdict)) =
      some (.directionReply port line number verdict) := by
  rw [readTelegram_boundary (by decide) (by simp [one])]
  change some (Instr.directionReply port (BitVec.toNat _) number (BitVec.toNat _)) = _
  rw [toNat_ofNat_of_fits1 hline, toNat_ofNat_of_fits1 hverdict]

theorem readTelegram_status {address : Nat} {content : StatusContent} {tag : Octet} (haddress : fits2 address = true)
    (hwf : content.wf = true) :
    readTelegram .field (frame 41 tag (two address ++ contentOctets content)) = some (.status address content) := by
  have hlength : (contentOctets content).length ≤ 3 := by cases content <;> simp [contentOctets, one]
  rw [readTelegram_field (by decide) (by simp [two]; omega)]
  change (readContent (contentOctets content)).map (fun x => Instr.status (number2 _ _) x) = _
  rw [readContent_contentOctets hwf, Option.map_some, number2_of_fits2 haddress]

theorem readTelegram_controlParts {i : Instr} {port : Port} {octets : List Octet} (hwf : i.wf = true)
    (hi : (controlParts i).map (fun y => (Port.control, frame y.1 (BitVec.ofNat 8 y.2.1) y.2.2)) = some (port, octets)) :
    readTelegram port octets = some i := by
  simp only [Option.map_eq_some_iff, Prod.mk.injEq] at hi
  obtain ⟨⟨kind, tag, body⟩, hparts, rfl, rfl⟩ := hi
  obtain ⟨htag, hkind, hlength, hread⟩ := readControl_controlParts hwf hparts
  rw [readTelegram_control (by omega) hlength, toNat_ofNat_of_fits1 htag, hread, Option.getD_some]

/-- The octets of a well-formed command that is a telegram are read as that command, on its port (R181, R183). -/
theorem readTelegram_telegramOf {i : Instr} {port : Port} {octets : List Octet} (hwf : i.wf = true)
    (hi : telegramOf i = some (port, octets)) : readTelegram port octets = some i := by
  cases i
  case status address content =>
    simp only [telegramOf, telegramParts, Option.map_some, Option.some.injEq, Prod.mk.injEq] at hi
    obtain ⟨rfl, rfl⟩ := hi
    simp only [Instr.wf, Bool.and_eq_true] at hwf
    exact readTelegram_status hwf.1 hwf.2
  case presence n identity version lines =>
    simp only [telegramOf, telegramParts, Option.map_some, Option.some.injEq, Prod.mk.injEq] at hi
    obtain ⟨rfl, rfl⟩ := hi
    simp only [Instr.wf, Bool.and_eq_true, decide_eq_true_eq] at hwf
    exact readTelegram_presence hwf.1.2 hwf.2
  case counts n entries =>
    simp only [telegramOf, telegramParts, Option.map_some, Option.some.injEq, Prod.mk.injEq] at hi
    obtain ⟨rfl, rfl⟩ := hi
    simp only [Instr.wf, Bool.and_eq_true, decide_eq_true_eq] at hwf
    exact readTelegram_counts hwf.1.2 hwf.2
  case directionAsk n line number =>
    simp only [telegramOf, telegramParts, Option.map_some, Option.some.injEq, Prod.mk.injEq] at hi
    obtain ⟨rfl, rfl⟩ := hi
    simp only [Instr.wf, Bool.and_eq_true] at hwf
    exact readTelegram_directionAsk hwf.2
  case directionReply n line number verdict =>
    simp only [telegramOf, telegramParts, Option.map_some, Option.some.injEq, Prod.mk.injEq] at hi
    obtain ⟨rfl, rfl⟩ := hi
    simp only [Instr.wf, Bool.and_eq_true] at hwf
    exact readTelegram_directionReply hwf.1.2 hwf.2
  all_goals exact readTelegram_controlParts hwf hi

/-- Settles O59: every telegram by its port and kind, every entry by its layout, item by item. -/
theorem telegramsReadBack : Obligations.TelegramsReadBack := by
  refine ⟨fun i port octets hwf hi => readTelegram_telegramOf hwf hi, fun x => ⟨fun hfits => ?_, fun table content hread => ?_⟩⟩
  · exact readEntry_eq_some.mpr ⟨rfl, rfl, hfits⟩
  · exact readEntry_eq_some.mp hread

end Sys2Proof.Machine
end

section
/-! PROOFS. The layouts of what the part sends (R181 to R183; O60). -/

namespace Sys2Proof.Machine

/-! ## Codes -/

theorem Cause.code_sub_one_inj {c d : Cause} : c.code - 1 = d.code - 1 ↔ c = d := by
  cases c <;> cases d <;> decide

theorem testBit_causes (cs : List Cause) (n i : Nat) :
    (cs.foldl (fun m c => m ||| (1 <<< (c.code - 1))) n).testBit i = (n.testBit i || cs.any (fun c => c.code - 1 == i)) := by
  induction cs generalizing n with
  | nil => simp
  | cons c cs ih =>
    rw [List.foldl_cons, ih, Nat.testBit_or, Nat.one_shiftLeft, Nat.testBit_two_pow, List.any_cons, Bool.or_assoc]
    rfl

theorem testBit_causeOctet (cs : List Cause) (c : Cause) : (causeOctet cs).testBit (c.code - 1) = cs.contains c := by
  rw [causeOctet, testBit_causes, Nat.zero_testBit, Bool.false_or, ← List.any_beq']
  refine congrArg _ (funext fun d => ?_)
  rw [Bool.eq_iff_iff, beq_iff_eq, beq_iff_eq, Cause.code_sub_one_inj]

theorem causeOctet_lt (cs : List Cause) : causeOctet cs < 64 := by
  have hlt : ∀ n < 2 ^ 6, cs.foldl (fun m c => m ||| (1 <<< (c.code - 1))) n < 2 ^ 6 := by
    induction cs with
    | nil => exact fun n hn => hn
    | cons c cs ih =>
      intro n hn
      refine ih _ (Nat.or_lt_two_pow hn ?_)
      cases c <;> decide
  exact hlt 0 (by decide)

@[simp] theorem Owner.ofCode_code (o : Owner) : Owner.ofCode o.code = some o := by cases o <;> rfl

@[simp] theorem sharedState_code (x : Option SectionState) :
    sharedState ((x.map SectionState.code).getD 0) = some x := by
  rcases x with _ | x
  · rfl
  · cases x <;> rfl

/-! ## What a neighbour reads of a PRESENCE -/

/-- A line of a PRESENCE sent, as its octets are read. -/
def PresenceOut.read (x : PresenceOut) : PresenceLine :=
  { number := x.number, owner := x.owner.code, flags := bitIf x.askOutstanding 1 + bitIf x.lineClear 2,
    shared := (x.shared.map SectionState.code).getD 0 }

theorem PresenceOut.counted_octets (xs : List PresenceOut) :
    counted PresenceOut.octets xs = counted presenceLineOctets (xs.map PresenceOut.read) := by
  rw [counted, counted, List.length_map, List.flatMap_map]
  rfl

theorem PresenceOut.flags_lt (x : PresenceOut) : x.read.flags < 4 := by
  have hbits : ∀ ask clear, bitIf ask 1 + bitIf clear 2 < 4 := by decide
  exact hbits _ _

theorem PresenceOut.read_wf {x : PresenceOut} (h : x.number ≤ 255) : x.read.wf = true := by
  have howner : fits1 x.owner.code = true := by cases x.owner <;> decide
  have hshared : fits1 ((x.shared.map SectionState.code).getD 0) = true := by
    rcases x.shared with _ | y
    · decide
    · cases y <;> decide
  have hflags := x.flags_lt
  simp only [PresenceLine.wf, Bool.and_eq_true]
  exact ⟨⟨⟨decide_eq_true (by simp only [PresenceOut.read]; omega), howner⟩, decide_eq_true (by omega)⟩, hshared⟩

theorem PresenceOut.read_meaningful (x : PresenceOut) : presenceLineMeaningful x.read = true := by
  simp only [presenceLineMeaningful, x.flags_lt, decide_true]
  simp [PresenceOut.read]

/-- A line reported is the line as it was meant (R134, R136). -/
theorem PresenceOut.lineReport_read (xs : List PresenceOut) (number : Nat) :
    lineReport (xs.map PresenceOut.read) number = (xs.find? (fun x => x.number == number)).map (fun x =>
      { owner := x.owner, askOutstanding := x.askOutstanding, lineClear := x.lineClear, shared := x.shared }) := by
  rw [lineReport, List.find?_map, Option.map_map]
  refine congrArg₂ Option.map (funext fun x => ?_) rfl
  rcases x with ⟨n, owner, ask, clear, shared⟩
  have hbits : (bitIf ask 1 + bitIf clear 2).testBit 0 = ask ∧ (bitIf ask 1 + bitIf clear 2).testBit 1 = clear := by
    cases ask <;> cases clear <;> decide
  simp only [Function.comp_apply, PresenceOut.read, hbits, Owner.ofCode_code, sharedState_code, Option.getD_some]

/-! ## The telegrams sent -/

/-- The frame of a telegram sent, from its kind, tag and body (R181). -/
theorem Sent.laidOut {x : Sent} {kind : Nat} {tag : Octet} {body : List Octet} (h : x.parts = (kind, tag, body)) :
    let xs := (BitVec.ofNat 8 kind : Octet) :: tag :: (BitVec.ofNat 8 body.length : Octet) :: body
    x.octets = xs ++ [(check xs).extractLsb' 8 8, (check xs).extractLsb' 0 8] ∧
    (kind ≤ 255 → body.length ≤ 255 → readFrame x.octets = some (kind, tag.toNat, body)) := by
  rw [Sent.octets, h]
  exact ⟨by rw [frame, two_toNat], readFrame_frame⟩

/-- A list of items of one octet each. -/
theorem counted_singletons {α : Type} (f : α → Octet) (xs : List α) :
    counted (fun x => [f x]) xs = BitVec.ofNat 8 xs.length :: xs.map f := by
  rw [counted, List.map_eq_flatMap]

/-- Settles O60: layout by layout, and back by the reading of each telegram of the boundary ports. -/
theorem sentTelegramsLaidOut : Obligations.SentTelegramsLaidOut := by
  unfold Obligations.SentTelegramsLaidOut
  intro lo hi flag opt left standing mark laidOut
  have hlaid : ∀ {x : Sent} {port kind tag body}, x.port = port → x.parts = (kind, tag, body) →
      laidOut x port kind tag body := fun hport hparts => ⟨hport, Sent.laidOut hparts⟩
  have hopt : ∀ {α : Type} (f : α → List Octet) (x : Option α), opt (x.map f) = optional f x := by
    intro α f x
    cases x <;> rfl
  have hstanding : ∀ claims required, standing claims required =
      one claims ++ optional (fun x : Required => one x.code) required :=
    fun claims required => congrArg (lo claims :: ·) (hopt _ required)
  have hmarks : ∀ ms : List Bool, counted flagOctet ms = lo ms.length :: ms.map flag := counted_singletons flag
  have hnumbers : ∀ ns : List Nat, counted one ns = lo ns.length :: ns.map lo := counted_singletons lo
  have hmark : ∀ m, Mark.octets m = [mark m] := fun m => by cases m <;> rfl
  refine ⟨fun address p => hlaid rfl rfl, fun address a => hlaid rfl rfl, fun port identity version lines => hlaid rfl ?_,
    fun port entries => hlaid rfl rfl, fun port line number => hlaid rfl rfl,
    fun port line number yields => hlaid rfl ?_, fun tag kind code detail data => hlaid rfl ?_, rfl, fun rs => ?_,
    fun d => ?_, fun now r claims required => ?_, fun now r claims required => ?_, fun now r claims required => ?_,
    fun shared r => ?_, fun now number x claims => ?_, fun now k exports => ?_, fun secs => ?_, fun m x => ?_,
    fun ms amendment => ?_, fun n supervised evaluated lastReported moveFailed moving lockSlot => hlaid rfl ?_,
    fun n supervised commanded proven proving => hlaid rfl rfl, fun n supervised => hlaid rfl rfl,
    fun n state balance causes => hlaid rfl rfl, fun n => hlaid rfl rfl,
    fun causes => ⟨causeOctet_lt causes, testBit_causeOctet causes⟩, by decide, fun port => ⟨?_, ?_, ?_, ?_⟩⟩
  · rw [Sent.parts, four_toNat, two_toNat]
    rfl
  · cases yields <;> rfl
  · cases detail with
    | some d => rfl
    | none =>
      rw [Sent.parts, detailOctets, two_toNat]
      rfl
  · rw [Payload.octets, counted]
    refine congrArg _ (congrArg (List.flatMap · rs) (funext fun r => ?_))
    rw [Report.octets, two_toNat, hopt]
    rfl
  · rw [Payload.octets, StatusData.octets, two_toNat, hopt]
    simp only [← two_toNat]
    rfl
  · rw [Payload.octets, ElementRec.octets, hstanding, hopt, hopt, hopt, hopt, List.append_assoc]
    rfl
  · rw [Payload.octets, ElementRec.octets, SignalRec.octets, hstanding, hopt, hopt, hopt]
    simp only [List.append_assoc]
    rfl
  · rw [Payload.octets, ElementRec.octets, hstanding, hopt, hopt, hopt, List.append_assoc]
    rfl
  · simp only [hopt]
    cases shared <;> rfl
  · simp only [hopt]
    rw [Payload.octets, List.cons_append]
    refine congrArg (lo number :: optional · x ++ _) (funext fun x => ?_)
    rw [Slot.octets, hmarks]
    rcases x.overlap with _ | o
    · rfl
    · cases o <;> rfl
  · simp only [hopt]
    rw [Payload.octets, LinkRec.octets, hnumbers]
    simp only [four_toNat, two_toNat]
    rfl
  · rw [Payload.octets, hnumbers]
  · rw [Payload.octets, hmark]
    cases x <;> rfl
  · rw [Payload.octets, show Mark.octets = fun m => [mark m] from funext hmark, ← List.map_eq_flatMap]
    rfl
  · rw [Sent.parts, hopt, hopt]
    simp only [List.append_assoc]
    rfl
  · intro q identity version lines hlength hnumbers
    refine ⟨lines.map PresenceOut.read, ?_, ?_, PresenceOut.lineReport_read lines⟩
    · rw [Sent.octets, Sent.parts, PresenceOut.counted_octets]
      refine readTelegram_presence (by rwa [List.length_map]) ?_
      rw [List.all_map, List.all_eq_true]
      exact fun x hx => PresenceOut.read_wf (hnumbers x hx)
    · intro x hx
      obtain ⟨y, -, rfl⟩ := List.mem_map.mp hx
      exact y.read_meaningful
  · intro q entries hlength hnumbers
    refine readTelegram_counts hlength (List.all_eq_true.mpr fun x hx => decide_eq_true ?_)
    have hx := hnumbers x hx
    omega
  · exact fun q line number hline => readTelegram_directionAsk (decide_eq_true (by omega))
  · intro q line number yields hline
    have hverdict : fits1 (if yields then 1 else 2) = true := by cases yields <;> rfl
    exact readTelegram_directionReply (decide_eq_true (by omega)) hverdict

end Sys2Proof.Machine
end

section
/-! PROOFS. The cyclic check, and the first constraint that an image fails (1.7, 11.4; R17, R170; O46). -/

namespace Sys2Proof.Machine

/-! ## The cyclic check (R170) -/

theorem check_append (xs ys : List Octet) : check (xs ++ ys) = ys.foldl checkOctet (check xs) := by
  rw [check, List.foldl_append, check]

theorem checkBit_not (c : Word16) (b : Bool) : checkBit c (!b) = checkBit c b ^^^ 0x1021#16 := by
  unfold checkBit
  by_cases hb : c.msb = b
  · simp [hb]
  · have hnot : c.msb = !b := by
      revert hb
      cases c.msb <;> cases b <;> simp
    simp [hnot]

/-- The check without the feedback of its generator, while the bits fed to it are its own. -/
theorem checkBit_own (c : Word16) {i : Nat} (hi : i < 16) : checkBit (c <<< i) (c.getLsbD (15 - i)) = c <<< (i + 1) := by
  have hmsb : (c <<< i).msb = c.getLsbD (15 - i) := by
    rw [BitVec.msb_eq_getLsbD_last, BitVec.getLsbD_shiftLeft]
    simp [show ¬ (15 < i) by omega]
  rw [checkBit, hmsb, BitVec.shiftLeft_add]
  simp

theorem check_lastBit (xs : List Octet) (x : Octet) :
    check (xs ++ [x ^^^ 1]) = check (xs ++ [x]) ^^^ 0x1021#16 := by
  have hbits : ∀ i, (x ^^^ 1).getLsbD (i + 1) = x.getLsbD (i + 1) := fun i => by
    rw [BitVec.getLsbD_xor, show (1 : Octet) = 1#8 from rfl, BitVec.getLsbD_one]
    simp
  have hlast : (x ^^^ 1).getLsbD 0 = !(x.getLsbD 0) := by
    rw [BitVec.getLsbD_xor, show (1 : Octet) = 1#8 from rfl, BitVec.getLsbD_one]
    simp
  simp only [check_append, List.foldl_cons, List.foldl_nil, checkOctet, hbits, hlast, checkBit_not]

theorem check_own (xs : List Octet) :
    check (xs ++ [(check xs).extractLsb' 8 8, (check xs).extractLsb' 0 8]) = 0 := by
  rw [check_append]
  generalize check xs = c
  have hbits : ∀ start, start = 0 ∨ start = 8 → ∀ k ≤ 8, (List.range k).foldl (fun d i =>
      checkBit d ((c.extractLsb' start 8).getLsbD (7 - i))) (c <<< (8 - start)) = c <<< (8 - start + k) := by
    intro start hstart k
    induction k with
    | zero => exact fun _ => rfl
    | succ k ih =>
      intro hk
      have hbit : (c.extractLsb' start 8).getLsbD (7 - k) = c.getLsbD (15 - (8 - start + k)) := by
        rw [BitVec.getLsbD_extractLsb', decide_eq_true (by omega : 7 - k < 8), Bool.true_and]
        exact congrArg _ (by omega)
      rw [List.range_succ, List.foldl_append, ih (by omega), List.foldl_cons, List.foldl_nil, hbit,
        checkBit_own c (by omega)]
      rfl
  rw [List.foldl_cons, List.foldl_cons, List.foldl_nil]
  have hfirst : checkOctet c (c.extractLsb' 8 8) = c <<< 8 := by
    have h := hbits 8 (.inr rfl) 8 (by decide)
    rwa [Nat.sub_self, BitVec.shiftLeft_zero] at h
  have hsecond : checkOctet (c <<< 8) (c.extractLsb' 0 8) = c <<< 16 := hbits 0 (.inl rfl) 8 (by decide)
  rw [hfirst, hsecond]
  exact BitVec.shiftLeft_eq_zero (by decide)

/-! ## The first rule that is broken -/

/-- The subject and constraint number that a report of a broken rule names. -/
def TableRule.subject (x : TableRule) : SubjectKind × Nat × Nat := (x.kind, x.number, x.constraint)

open Classical in
/-- The first rule of a list that does not hold. -/
noncomputable def brokenRule (rs : List TableRule) : Option TableRule := rs.find? (fun x => decide (¬ x.holds))

theorem brokenRule_append (a b : List TableRule) : brokenRule (a ++ b) = (brokenRule a).or (brokenRule b) :=
  List.find?_append

theorem brokenRule_eq_none {rs : List TableRule} : brokenRule rs = none ↔ ∀ x ∈ rs, x.holds := by
  simp [brokenRule]

theorem brokenRule_eq_some {rs : List TableRule} {x : TableRule} :
    brokenRule rs = some x ↔ ∃ a b, rs = a ++ x :: b ∧ (∀ y ∈ a, y.holds) ∧ ¬ x.holds := by
  rw [brokenRule, List.find?_eq_some_iff_append]
  constructor
  · rintro ⟨hx, a, b, hsplit, ha⟩
    exact ⟨a, b, hsplit, fun y hy => by simpa using ha y hy, by simpa using hx⟩
  · rintro ⟨a, b, hsplit, ha, hx⟩
    exact ⟨by simpa using hx, a, b, hsplit, fun y hy => by simpa using ha y hy⟩

/-- The checks of an entry are its rules, in the same order. -/
def Checks (cs : List (Nat × Bool)) (rs : List (Nat × Prop)) : Prop :=
  List.Forall₂ (fun c r => c.1 = r.1 ∧ (c.2 = true ↔ r.2)) cs rs

theorem checks_nil : Checks [] [] := .nil

theorem checks_cons {n : Nat} {b : Bool} {p : Prop} {cs : List (Nat × Bool)} {rs : List (Nat × Prop)}
    (h : b = true ↔ p) (hs : Checks cs rs) : Checks ((n, b) :: cs) ((n, p) :: rs) := .cons ⟨rfl, h⟩ hs

theorem Checks.append {cs ds : List (Nat × Bool)} {rs qs : List (Nat × Prop)} (h : Checks cs rs) (hs : Checks ds qs) :
    Checks (cs ++ ds) (rs ++ qs) := List.rel_append h hs

theorem brokenRule_rulesOf (kind : SubjectKind) (number : Nat) {cs : List (Nat × Bool)} {rs : List (Nat × Prop)}
    (h : Checks cs rs) :
    (brokenRule (rulesOf kind number rs)).map TableRule.subject = (firstFailed cs).map (fun c => (kind, number, c)) := by
  induction h with
  | nil => rfl
  | @cons c r cs rs hcr _ ih =>
    obtain ⟨hnumber, hholds⟩ := hcr
    rw [firstFailed, rulesOf, List.map_cons, ← rulesOf, brokenRule, List.find?_cons]
    by_cases hr : r.2
    · simp only [hr, not_true_eq_false, decide_false, hholds.mpr hr, if_true]
      exact ih
    · have hc : c.2 = false := Bool.eq_false_iff.mpr (fun hc => hr (hholds.mp hc))
      simp [hr, hc, TableRule.subject, hnumber]

theorem brokenRule_flatMap {α : Type} (kind : SubjectKind) {f : Nat → α → List (Nat × Bool)}
    {g : Nat → α → List (Nat × Prop)} (h : ∀ n a, Checks (f n a) (g n a)) (m : Map α) :
    (brokenRule (m.flatMap (fun x => rulesOf kind x.1 (g x.1 x.2)))).map TableRule.subject = firstInvalid kind f m := by
  induction m with
  | nil => rfl
  | cons x m ih =>
    rw [List.flatMap_cons, brokenRule_append, Option.map_or, brokenRule_rulesOf kind x.1 (h x.1 x.2), ih, firstInvalid]
    cases firstFailed (f x.1 x.2) <;> rfl

/-! ## The parts of the rules -/

theorem within_iff {lo hi n : Nat} : within lo hi n = true ↔ lo ≤ n ∧ n ≤ hi := by simp [within]

theorem within_one_two {n : Nat} : within 1 2 n = true ↔ n = 1 ∨ n = 2 := by
  rw [within_iff]; omega

theorem noRepeats_iff {ns : List Nat} : noRepeats ns = true ↔ ns.Nodup := by simp [noRepeats]

theorem Map.has_iff_find {α : Type} {k : Nat} {m : Map α} : Map.has k m = true ↔ ∃ a, Map.find k m = some a := by
  rw [Map.has, Option.isSome_iff_exists]

theorem Tables.localSignal_iff {t : Tables} {g : Nat} : t.localSignal g = true ↔ t.LocalSignal g := by
  rw [Tables.localSignal.eq_def, Tables.LocalSignal]
  split
  next heq => simp [heq]
  next hnot =>
    simp only [Bool.false_eq_true, false_iff]
    rintro ⟨⟨location, supervision, body⟩, a, time, hfind, rfl, rfl⟩
    exact hnot _ _ _ hfind

theorem Tables.localPoint_iff {t : Tables} {p : Nat} : t.localPoint p = true ↔ t.LocalPoint p := by
  rw [Tables.localPoint.eq_def, Tables.LocalPoint]
  split
  next heq => simp [heq]
  next hnot =>
    simp only [Bool.false_eq_true, false_iff]
    rintro ⟨⟨location, supervision, body⟩, a, sec, limit, persistence, hfind, rfl, rfl⟩
    exact hnot _ _ _ _ _ hfind

theorem Tables.isHead_iff {t : Tables} {n : Nat} :
    t.isHead n = true ↔ ∃ x limit out, Map.find n t.elements = some x ∧ x.body = .head limit out := by
  rw [Tables.isHead.eq_def]
  split
  next heq => simp [heq]
  next hnot =>
    simp only [Bool.false_eq_true, false_iff]
    rintro ⟨⟨location, supervision, body⟩, limit, out, hfind, rfl⟩
    exact hnot _ _ _ _ hfind

end Sys2Proof.Machine
end

section
/-! PROOFS. Each check of an entry is the rule of Chapter 1 that it stands for (1.2 to 1.6; R3 to R16; O46). -/

namespace Sys2Proof.Machine

/-! ## ELEMENTS -/

/-- The first item of a head in each section that lists it gives the in-directions (133). -/
theorem Tables.directions_listing (t : Tables) (id : Nat) :
    (t.sections.filterMap (fun s => (s.2.heads.find? (fun i => i.head == id)).map (fun i => i.direction))).map some =
      (t.sections.filter (fun s => s.2.heads.any (fun i => i.head == id))).map (fun s =>
        (s.2.heads.find? (fun i => i.head == id)).map (fun i => i.direction)) := by
  induction t.sections with
  | nil => rfl
  | cons s rest ih =>
    cases hfind : s.2.heads.find? (fun i => i.head == id) with
    | none =>
      have hany : s.2.heads.any (fun i => i.head == id) = false := by
        simpa using hfind
      simp [hfind, hany, ih]
    | some i =>
      have hany : s.2.heads.any (fun i => i.head == id) = true :=
        List.any_eq_true.mpr ⟨i, List.mem_of_find?_eq_some hfind, List.find?_some (p := fun j : HeadItem => j.head == id) hfind⟩
      simp [hfind, hany, ih]

theorem Tables.checks_head (t : Tables) (id : Nat) (e : ElementEntry) (limit : Nat) (x : Option (Nat × Nat)) :
    Checks (t.headConstraints id e limit x) (t.headRules id e limit x) := by
  have hdirections := t.directions_listing id
  have hlength := congrArg List.length hdirections
  rw [List.length_map, List.length_map] at hlength
  refine checks_cons within_iff <| checks_cons ?_ <| checks_cons ?_ <| checks_cons ?_ <| checks_cons ?_ checks_nil
  · rw [within_one_two, hlength]
  · generalize t.sections.filterMap _ = ds at hdirections hlength
    generalize t.sections.filter _ = listing at hdirections hlength
    rcases listing with _ | ⟨a, _ | ⟨b, _ | ⟨c, listing⟩⟩⟩
    · simp [hlength]
    · simp [hlength]
    · obtain ⟨m, n, rfl⟩ := List.length_eq_two.mp hlength
      simp only [List.map_cons, List.map_nil, List.cons.injEq, and_true] at hdirections
      obtain ⟨hm, hn⟩ := hdirections
      have hdir : ∀ k l : Nat × SectionEntry, [a, b] = [k, l] ↔ k = a ∧ l = b := fun k l => by simp [eq_comm]
      simp only [hdir, and_imp, forall_eq_apply_imp_iff, forall_eq, ← hm, ← hn]
      simp
    · simp [hlength]
  · rcases e with ⟨location, supervision, body⟩
    rcases x with _ | ⟨link, n⟩
    · simp
    · cases location <;> simp [Map.has_iff_find]
  · cases x with
    | none => simp
    | some target => simp

theorem Tables.checks_element (t : Tables) (id : Nat) (e : ElementEntry) :
    Checks (t.elementConstraints id e) (t.elementRules id e) := by
  refine Checks.append ?_ ?_
  · rcases e with ⟨location, supervision, body⟩
    refine checks_cons ?_ <| checks_cons within_iff <| checks_cons ?_ <| checks_cons ?_ <| checks_cons ?_ <|
      checks_cons ?_ checks_nil
    · cases body <;> simp
    · cases location <;> cases body <;> simp
    · cases location <;> simp
    · cases location <;> simp [Map.has_iff_find, and_assoc]
    · cases location <;> simp
  · rcases e with ⟨location, supervision, body⟩
    cases body with
    | point sec limit p =>
      exact checks_cons Map.has_iff_find <| checks_cons within_iff <| checks_cons within_iff checks_nil
    | signal time => exact checks_cons within_iff checks_nil
    | head limit x => exact t.checks_head id _ limit x
    | other k => exact checks_nil

/-! ## SECTIONS -/

theorem Tables.checks_section (t : Tables) (id : Nat) (e : SectionEntry) :
    Checks (t.sectionConstraints id e) (t.sectionRules id e) := by
  refine checks_cons within_iff <| checks_cons ?_ <| checks_cons noRepeats_iff <| checks_cons ?_ <| checks_cons ?_ checks_nil
  · simp only [List.all_eq_true, Tables.isHead_iff]
  · simp only [List.all_eq_true, within_one_two]
  · have hlinks : ∀ link, (∃ i ∈ e.heads, t.remoteLink i.head = some link) ↔
        link ∈ e.heads.filterMap (fun i => t.remoteLink i.head) := fun link => List.mem_filterMap.symm
    have hrule : (∀ i ∈ e.heads, ∀ link, t.remoteLink i.head = some link →
        (∀ j ∈ e.heads, ∀ other, t.remoteLink j.head = some other → other = link) ∧
        ∃ b, Map.find link t.boundary = some b ∧ ∃ x ∈ b.lines, x.shared = some id) ↔
        ∀ link ∈ e.heads.filterMap (fun i => t.remoteLink i.head),
          (∀ other ∈ e.heads.filterMap (fun i => t.remoteLink i.head), other = link) ∧
          ∃ b, Map.find link t.boundary = some b ∧ ∃ x ∈ b.lines, x.shared = some id := by
      simp only [← hlinks]
      exact ⟨fun h link ⟨i, hi, hlink⟩ => ⟨fun other ⟨j, hj, hother⟩ => (h i hi link hlink).1 j hj other hother,
        (h i hi link hlink).2⟩, fun h i hi link hlink => ⟨fun j hj other hother => (h link ⟨i, hi, hlink⟩).1 other
        ⟨j, hj, hother⟩, (h link ⟨i, hi, hlink⟩).2⟩⟩
    rw [hrule]
    cases hl : e.heads.filterMap (fun i => t.remoteLink i.head) with
    | nil => simp
    | cons k ks =>
      have hshared : ((Map.find k t.boundary).map (fun b => b.lines.any (fun x => x.shared == some id))).getD false = true ↔
          ∃ b, Map.find k t.boundary = some b ∧ ∃ x ∈ b.lines, x.shared = some id := by
        cases Map.find k t.boundary <;> simp
      simp only
      rw [Bool.and_eq_true, hshared, List.all_eq_true]
      constructor
      · rintro ⟨hall, hb⟩ link hlink
        have heq : ∀ j ∈ k :: ks, j = k := fun j hj => (List.mem_cons.mp hj).elim (fun h => h) (fun hj => by simpa using hall j hj)
        rw [heq link hlink]
        exact ⟨heq, hb⟩
      · intro h
        obtain ⟨heq, hb⟩ := h k List.mem_cons_self
        exact ⟨fun j hj => by simpa using heq j (List.mem_cons_of_mem _ hj), hb⟩

/-! ## ROUTES -/

theorem Tables.presentOnce_iff {t : Tables} {ns : List Nat} :
    ns.all (fun n => Map.has n t.sections) = true ∧ ns.Nodup ↔ t.PresentOnce ns := by
  rw [List.all_eq_true]
  simp only [Map.has_iff_find]
  rfl

theorem Tables.lineEntry_isSome {t : Tables} {link n : Nat} :
    (t.lineEntry link n).isSome = true ↔ ∃ b, Map.find link t.boundary = some b ∧ ∃ x ∈ b.lines, x.number = n := by
  rw [Tables.lineEntry]
  cases Map.find link t.boundary <;> simp

theorem Tables.checks_layout (t : Tables) (id : Nat) (r : RouteEntry) :
    Checks (t.signalConstraints id r ++ t.pathConstraints r) (t.layoutRules id r) := by
  refine checks_cons Tables.localSignal_iff <| checks_cons ?_ <| checks_cons ?_ <| checks_cons ?_ <| checks_cons ?_ <|
    checks_cons ?_ <| checks_cons ?_ checks_nil
  · rcases r.exit with g | ⟨link, n⟩
    · simp [Tables.localSignal_iff]
    · simp [Tables.lineEntry_isSome]
  · simp [or_iff_not_imp_left]
  · simp only [Bool.and_eq_true, within_iff, noRepeats_iff, and_assoc, Tables.presentOnce_iff]
  · simp only [Bool.and_eq_true, decide_eq_true_eq, noRepeats_iff, and_assoc]
    rw [← and_assoc (a := List.all _ _ = true), Tables.presentOnce_iff]
    simp
  · simp only [Bool.and_eq_true, decide_eq_true_eq, noRepeats_iff, and_assoc]
    rw [← and_assoc (a := List.all _ _ = true), Tables.presentOnce_iff]
    simp [RouteEntry.lockedSections]
  · rcases r.exit with g | ⟨link, n⟩
    · simp
    · cases hx : t.lineEntry link n <;> cases r.path.getLast? <;> simp [hx]

/-- A point lies in a path or overlap section of the route (322, 323). -/
theorem Tables.inRoute_iff {t : Tables} {r : RouteEntry} {p : Nat} :
    (t.pointSection p).any (fun n => r.lockedSections.contains n) = true ↔
      ∃ sec ∈ r.path ++ r.overlap, t.pointSection p = some sec := by
  cases t.pointSection p <;> simp [RouteEntry.lockedSections]

theorem Tables.checks_protection (t : Tables) (r : RouteEntry) :
    Checks (t.protectionConstraints r) (t.protectionRules r) := by
  refine checks_cons ?_ <| checks_cons ?_ <| checks_cons ?_ <| checks_cons ?_ <| checks_cons ?_ <| checks_cons ?_ <|
    checks_cons ?_ <| checks_cons ?_ checks_nil
  · simp only [Bool.and_eq_true, decide_eq_true_eq, noRepeats_iff, List.all_map, List.all_eq_true, Function.comp_apply,
      Tables.localPoint_iff, within_one_two]
    exact ⟨fun ⟨⟨⟨hlength, hpoints⟩, hnodup⟩, hpositions⟩ => ⟨hlength, fun x hx => ⟨hpoints x hx, hpositions x hx⟩, hnodup⟩,
      fun ⟨hlength, hpoints, hnodup⟩ => ⟨⟨⟨hlength, fun x hx => (hpoints x hx).1⟩, hnodup⟩, fun x hx => (hpoints x hx).2⟩⟩
  · simp only [List.all_map, List.all_eq_true, Function.comp_apply, Tables.inRoute_iff]
  · simp only [List.all_eq_true, Bool.or_eq_true, Bool.not_eq_true', ← Bool.not_eq_true, Tables.inRoute_iff,
      ← imp_iff_not_or, List.contains_iff_mem, List.mem_map]
  · simp
  · simp only [List.all_eq_true, within_iff]
  · simp only [List.all_eq_true, Bool.or_eq_true, Bool.and_eq_true, Tables.localPoint_iff, Tables.localSignal_iff,
      within_one_two, beq_iff_eq, List.mem_flatMap, forall_exists_index, and_imp]
    exact ⟨fun h f hf c hc => h c f hf hc, fun h c f hf hc => h f hf c hc⟩
  · simp only [List.all_eq_true, noRepeats_iff]
  · have hexit : ∀ g, r.exitSignal ≠ some g ↔ r.exit ≠ .signal g := fun g => by
      rw [RouteEntry.exitSignal]
      cases r.exit <;> simp
    simp only [List.all_eq_true, Bool.and_eq_true, bne_iff_ne, hexit, Bool.not_eq_true', List.contains_eq_mem,
      decide_eq_false_iff_not, List.mem_map, not_exists, not_and, List.mem_flatMap, forall_exists_index, and_imp, and_assoc]
    exact ⟨fun h f hf c hc => h c f hf hc, fun h c f hf hc => h f hf c hc⟩

theorem Tables.checks_conduct (t : Tables) (id : Nat) (r : RouteEntry) :
    Checks (t.timingConstraints id r) (t.conductRules id r) := by
  refine checks_cons ?_ <| checks_cons ?_ <| checks_cons ?_ <| checks_cons ?_ <| checks_cons ?_ checks_nil
  · simp [Map.has_iff_find, noRepeats_iff, and_assoc]
  · simp only [List.all_eq_true]
    refine forall₂_congr fun o _ => ?_
    cases Map.find o t.routes <;> simp
  · simp
  · simp [imp_iff_not_or]
  · simp
    omega

/-! ## BOUNDARY and OPTIONS -/

theorem Tables.mem_earlierLineSections {t : Tables} {link n sec : Nat} :
    sec ∈ t.earlierLineSections link n ↔ ∃ y ∈ t.boundary, ∃ z ∈ y.2.lines,
      (y.1 < link ∨ (y.1 = link ∧ n = 2 ∧ z.number = 1)) ∧ sec ∈ z.sections := by
  simp only [Tables.earlierLineSections, List.mem_flatMap]
  refine exists_congr fun y => and_congr_right fun _ => exists_congr fun z => and_congr_right fun _ => ?_
  split
  next h =>
    simp only [Bool.or_eq_true, Bool.and_eq_true, decide_eq_true_eq, beq_iff_eq, and_assoc] at h
    exact (and_iff_right h).symm
  next h =>
    simp only [Bool.or_eq_true, Bool.and_eq_true, decide_eq_true_eq, beq_iff_eq, and_assoc] at h
    exact iff_of_false List.not_mem_nil (fun hz => h hz.1)

theorem Tables.checks_boundary (t : Tables) (id : Nat) (b : BoundaryEntry) :
    Checks (t.boundaryConstraints id b) (t.boundaryRules id b) := by
  refine checks_cons ?_ <| checks_cons within_iff <| checks_cons within_iff <| checks_cons ?_ <| checks_cons ?_ <|
    checks_cons ?_ <| checks_cons ?_ <| checks_cons ?_ <| checks_cons ?_ checks_nil
  · simp
  · simp [noRepeats_iff]
  · simp
  · have htarget : ∀ x : Option (Nat × Nat), (x.map (fun y => y.1) == some id) = x.any (fun y => y.1 == id) := by
      rintro (_ | x) <;> rfl
    simp [htarget]
  · simp only [List.all_eq_true, Bool.and_eq_true, within_one_two]
  · simp only [List.all_eq_true, Bool.and_eq_true, within_iff, noRepeats_iff, Bool.not_eq_true', List.contains_eq_mem,
      decide_eq_false_iff_not, Tables.mem_earlierLineSections, ← Tables.presentOnce_iff, not_exists, not_and, and_assoc]
  · simp only [List.all_eq_true]
    refine forall₂_congr fun x _ => ?_
    cases x.shared with
    | none => simp
    | some n => cases hs : Map.find n t.sections <;> simp [hs]

/-! ## An image -/

/-- The entry 0 of the OPTIONS table (R16). -/
theorem Tables.brokenRule_options (t : Tables) :
    (brokenRule (rulesOf .table 5 t.optionsRules)).map TableRule.subject = t.invalidOptions := by
  rw [Tables.invalidOptions]
  cases ho : Map.find 0 t.options with
  | none =>
    have hbroken : ¬ ∃ o, Map.find 0 t.options = some o := by simp [ho]
    simp [Tables.optionsRules, rulesOf, brokenRule, hbroken, TableRule.subject]
  | some o =>
    have hchecks : Checks ((501, true) :: optionsConstraints o) t.optionsRules := by
      refine checks_cons (by simp [ho]) <| checks_cons ?_ <| checks_cons ?_ checks_nil
      · simp [ho]
      · simp [ho, within_iff]
    rw [brokenRule_rulesOf .table 5 hchecks]
    rfl

/-- Validation finds the first rule that is broken (R17). -/
theorem Tables.firstInvalid_eq (t : Tables) : t.firstInvalid = (brokenRule t.rules).map TableRule.subject := by
  have hroute : ∀ n r, Checks (t.routeConstraints n r)
      (t.layoutRules n r ++ t.protectionRules r ++ t.conductRules n r) := fun n r =>
    ((t.checks_layout n r).append (t.checks_protection r)).append (t.checks_conduct n r)
  rw [Tables.rules, brokenRule_append, brokenRule_append, brokenRule_append, brokenRule_append]
  simp only [Option.map_or]
  rw [brokenRule_flatMap .element t.checks_element, brokenRule_flatMap .trackSection t.checks_section,
    brokenRule_flatMap .route hroute, brokenRule_flatMap .link t.checks_boundary, t.brokenRule_options, Tables.firstInvalid,
    Option.or_assoc, Option.or_assoc, Option.or_assoc]

/-- Settles O46: the first broken rule of the image, the check word table by table, and the check bit by bit. -/
theorem validationFindsTheFirstFailure : Obligations.ValidationFindsTheFirstFailure := by
  refine ⟨fun t => ⟨?_, fun kind n constraint => ?_⟩, fun t => rfl, by decide, fun xs x => ⟨check_lastBit xs x, check_own xs⟩⟩
  · rw [t.firstInvalid_eq, Option.map_eq_none_iff, brokenRule_eq_none]
  · rw [t.firstInvalid_eq, Option.map_eq_some_iff]
    constructor
    · rintro ⟨x, hx, hsubject⟩
      obtain ⟨a, b, hsplit, ha, hbroken⟩ := brokenRule_eq_some.mp hx
      simp only [TableRule.subject, Prod.mk.injEq] at hsubject
      exact ⟨a, x, b, hsplit, ha, hbroken, hsubject⟩
    · rintro ⟨a, x, b, hsplit, ha, hbroken, rfl, rfl, rfl⟩
      exact ⟨x, brokenRule_eq_some.mpr ⟨a, b, hsplit, ha, hbroken⟩, rfl⟩

end Sys2Proof.Machine
end

section
/-! PROOFS. A signal at DANGER that is not supervised stays there while claim changes and the waiting list are dealt with
(Chapters 3 to 6; R52, R59, R61, R87). -/

namespace Sys2Proof.Machine

/-- A flank candidate that is a signal is required at DANGER (R11). -/
theorem Tables.requiredState_signal {t : Tables} {g : Nat} {c : Candidate} {q : Required} (hg : t.isSignal g = true)
    (hc : c.element = g) (hq : t.requiredState c = some q) : q = .danger := by
  have hfields : t.pointFields c.element = none := by
    rw [hc]
    unfold Tables.pointFields
    unfold Tables.isSignal at hg
    split at hg
    next hfind => rw [hfind]
    · cases hg
  rw [Tables.requiredState, hfields, hc, hg] at hq
  exact (Option.some.inj hq).symm

/-- A signal is ordered DANGER and proving, and has shown nothing yet (R59, R61). -/
structure Live.Dark (e : Env) (g : Nat) (l : Live) : Prop where
  record : ∃ z, l.signal g = some z ∧ z.supervised = false ∧ z.proven = none ∧ z.commanded = .danger ∧
    z.proving = some (e.clock + e.tables.provingTime g)
  waits : l.waits g (.aspect .danger)

/-- A dark signal, in a piece of work that hands on claim changes alone. -/
structure Work.Dark (e : Env) (g : Nat) (w : Work) : Prop where
  live : w.live.Dark e g
  todo : ∀ c ∈ w.todo, ∃ slot m b, c = .claimChanged slot m b

section
variable {e : Env} {g k n m p link line : Nat} {a : Aspect} {r : RouteEntry} {q : Position} {l b : Live} {v w : Work}

theorem Live.Dark.no_point (h : l.Dark e g) : l.point g = none := by
  obtain ⟨z, hz, -⟩ := h.record
  exact Live.signal_no_point hz

theorem Live.Dark.keeps (h : l.Dark e g) (hk : l.KeepsElement g b) : b.Dark e g := by
  refine ⟨?_, (hk.waits _).mpr h.waits⟩
  rw [hk.signal]
  exact h.record

/-- A dark signal is dark whatever the slot that it names (R79, R119). -/
theorem Live.Dark.entered {z y : SignalRec} (h : l.Dark e g) (hz : l.signal g = some z) (hy : b.signal g = some y)
    (hentry : y = { z with entryOf := y.entryOf }) (hwaits : b.waits g (.aspect .danger)) : b.Dark e g := by
  obtain ⟨x, hx, hspec⟩ := h.record
  obtain rfl := Option.some.inj (hz.symm.trans hx)
  refine ⟨⟨y, hy, ?_⟩, hwaits⟩
  rw [hentry]
  exact hspec

theorem Live.Dark.emptySlot (h : l.Dark e g) : (l.emptySlot e.tables n).Dark e g := by
  obtain ⟨z, hz, -⟩ := h.record
  have hfind := Live.emptySlot_find e.tables n l g
  rw [Live.signal_some.mp hz, Option.map_some] at hfind
  have hwaits := (Live.waits_same (a := l) (b := l.emptySlot e.tables n) rfl (Live.emptySlot_pending e.tables n l) g
    (.aspect .danger)).mpr h.waits
  simp only [ElementRec.unlocked, ElementRec.left] at hfind
  split at hfind
  · exact h.entered hz (Live.signal_some.mpr hfind) rfl hwaits
  · exact h.entered hz (Live.signal_some.mpr hfind) rfl hwaits

theorem Live.Dark.setEntryOf (h : l.Dark e g) : (l.setEntryOf n k).Dark e g := by
  by_cases hk : g = k
  · subst hk
    obtain ⟨z, hz, -⟩ := h.record
    have hset : l.setEntryOf n g = l.setElement g (.signal { z with entryOf := some n }) := by
      rw [Live.setEntryOf, hz]
    have hpart : Live.SamePart ElementRec.pendingOrder l (l.setElement g (.signal { z with entryOf := some n })) :=
      Live.samePart_setElement (Live.signal_some.mp hz) rfl
    rw [hset]
    exact h.entered hz (Live.signal_some.mpr (Map.find_put_self ..)) rfl
      ((Live.waits_same (a := l) (b := l.setElement g _) rfl hpart g (.aspect .danger)).mpr h.waits)
  · exact h.keeps (Live.setEntryOf_keepsElement hk)

/-- The taking of a route asks for no position of a signal (R79, R100). -/
theorem Live.Dark.taking {route fleet : Nat} {choices : List Choice} (h : l.Dark e g)
    (hchoices : ∀ c ∈ choices, c.element = g → c.required = .danger) :
    (Live.taking e route r fleet n choices l).Dark e g := by
  have hlocked : (l.pointsLocked e route r fleet n).Dark e g := by
    have hstart : Live.Dark e g ((l.setSlot n (newSlot e l route r fleet)).lockSections n r) := h.keeps (.of_same rfl rfl)
    refine List.foldlRecOn r.requirements (fun l y => l.lockPoint e n y.1 y.2) (motive := Live.Dark e g) hstart
      fun l hl y _ => ?_
    by_cases hy : g = y.1
    · rw [Live.lockPoint, ← hy, hl.no_point]
      exact hl
    · exact hl.keeps (Live.lockPoint_keepsElement hy)
  have hentered : ((l.pointsLocked e route r fleet n).setEntryOf n r.entrySignal).Dark e g := hlocked.setEntryOf
  refine (hentered.keeps (b := l.routeLocked e route r fleet n choices) (.of_same rfl rfl)).keeps ?_
  refine .foldl _ (claimsFor n choices) (fun c hc l => ?_) _
  split
  · next q hq =>
    refine Live.redirect_keepsElement fun hg => ?_
    obtain ⟨d, hd, hel, hreq⟩ := mem_claimsFor hc
    have hdanger := hchoices d hd (hel.trans hg.symm)
    rw [hreq, hq] at hdanger
    cases hdanger
  · exact .refl _ _

namespace Work.Dark

theorem keeps (h : w.Dark e g) (hk : w.live.KeepsElement g v.live)
    (htodo : ∀ c ∈ v.todo, c ∈ w.todo ∨ ∃ slot m b, c = .claimChanged slot m b) : v.Dark e g :=
  ⟨h.live.keeps hk, fun c hc => (htodo c hc).elim (h.todo c) id⟩

theorem same (h : w.Dark e g) (helements : v.live.elements = w.live.elements) (hqueue : v.live.queue = w.live.queue)
    (htodo : v.todo = w.todo) : v.Dark e g :=
  h.keeps (.of_same helements hqueue) fun _ hc => .inl (htodo ▸ hc)

theorem foldl {α : Type} (f : Work → α → Work) (xs : List α) (hf : ∀ x ∈ xs, ∀ v : Work, v.Dark e g → (f v x).Dark e g)
    (h : w.Dark e g) : (xs.foldl f w).Dark e g := by
  induction xs generalizing w with
  | nil => exact h
  | cons x xs ih => exact ih (fun y hy => hf y (List.mem_cons_of_mem _ hy)) (hf x List.mem_cons_self w h)

/-! ## Orders -/

theorem orderSignal (h : w.Dark e g) (ha : k = g → a = .danger) : (w.orderSignal e k a).Dark e g := by
  cases hk : w.live.signal k with
  | none => rwa [Work.orderSignal_none hk]
  | some y =>
    obtain ⟨r, z, hr, hz, heq, hwaits, -, htodo, -⟩ := Work.orderSignal_ordered (e := e) (a := a) hk
    have hclaims : ∀ c ∈ (w.orderSignal e k a).todo, c ∈ w.todo ∨ ∃ slot m b, c = .claimChanged slot m b := fun c hc =>
      (htodo c hc).imp_right fun ⟨slot, v, hc⟩ => ⟨slot, k, v, hc⟩
    by_cases hg : g = k
    · subst hg
      obtain rfl := ha rfl
      obtain ⟨x, hx, hsupervised, hproven, -⟩ := h.live.record
      obtain rfl := Option.some.inj (hr.symm.trans hx)
      refine ⟨⟨⟨z, hz, ?_⟩, hwaits⟩, fun c hc => (hclaims c hc).elim (h.todo c) id⟩
      rw [heq]
      exact ⟨hsupervised, hproven, rfl, rfl⟩
    · exact h.keeps (Work.orderSignal_keepsElement hg) hclaims

theorem slotTo {f : Slot → Slot} (h : w.Dark e g) : (w.slotTo n f).Dark e g := h.same rfl rfl rfl

theorem report {cls : ReportClass} {code : ReportCode} {kind : SubjectKind} {number : Nat} {detail : Option Nat}
    (h : w.Dark e g) : (w.report e cls code kind number detail).Dark e g :=
  h.same (by rw [Work.report_rest]) (by rw [Work.report_rest]) rfl

theorem withSlot {f : Slot → RouteEntry → Work → Work} (h : w.Dark e g)
    (hf : ∀ x r, w.live.slot n = some x → Map.find x.route e.tables.routes = some r → (f x r w).Dark e g) :
    (w.withSlot e n f).Dark e g := by
  cases hx : w.live.slot n with
  | none => simpa only [Work.withSlot, hx] using h
  | some x =>
    cases hr : Map.find x.route e.tables.routes with
    | none => simpa only [Work.withSlot, hx, hr] using h
    | some r =>
      rw [Work.withSlot_found hx hr]
      exact hf x r hx hr

/-- A slot clears only over a supervised signal (R87). -/
theorem clearTest (h : w.Dark e g) : (w.clearTest e n).Dark e g :=
  h.withSlot fun x r _ _ => by
    split
    · next hclear =>
      simp only [Bool.and_eq_true, Live.clearable] at hclear
      obtain ⟨-, ⟨⟨⟨-, -⟩, hsupervised⟩, -⟩, -⟩ := hclear
      obtain ⟨y, hy, hyes⟩ := Option.any_eq_true _ _ |>.mp hsupervised
      refine (h.slotTo.slotTo).orderSignal fun hg => ?_
      obtain ⟨z, hz, hno, -⟩ := h.live.record
      rw [hg, hz] at hy
      cases hy
      rw [hno] at hyes
      cases hyes
    · exact h

theorem replace {cause number : Nat} (h : w.Dark e g) : (w.replace e n cause number).Dark e g :=
  h.withSlot fun x r _ _ => by
    split
    · dsimp only
      refine Work.Dark.same (w := (if cause = 6 then _ else _ : Work).report e _ _ _ _ _) ?_ rfl rfl rfl
      refine Work.Dark.report ?_
      split
      · exact h.slotTo
      · exact h.slotTo.orderSignal fun _ => rfl
    · exact h

theorem freeSlot (h : w.Dark e g) : (w.freeSlot e n).Dark e g := by
  unfold Work.freeSlot
  split
  · exact h
  · have hempty : (w.on (Live.emptySlot e.tables n)).Dark e g := ⟨h.live.emptySlot, h.todo⟩
    exact hempty.report.same rfl rfl rfl

theorem refuseSlot {reason : Nat} (h : w.Dark e g) : (w.refuseSlot e reason n).Dark e g := by
  unfold Work.refuseSlot
  split
  · exact h
  · exact h.report.freeSlot

theorem orderRequired (h : w.Dark e g) : (w.orderRequired e p q).Dark e g :=
  h.keeps (Work.orderRequired_keepsElement (.inr h.live.no_point)) fun c hc => .inl (by rwa [Work.orderRequired_rest] at hc)

theorem orderPoints (h : w.Dark e g) : (w.orderPoints e n).Dark e g :=
  h.withSlot fun x r _ _ => by
    split
    · exact foldl _ _ (fun _ _ _ hv => hv.orderRequired) h
    · exact h

theorem placePoint (h : w.Dark e g) : (w.placePoint e p).Dark e g :=
  h.keeps (Work.placePoint_keepsElement (.inr h.live.no_point)) fun c hc => .inl (by rwa [Work.placePoint_rest] at hc)

theorem placeSignal (h : w.Dark e g) : (w.placeSignal e k).Dark e g := by
  obtain hw | hw := Work.placeSignal_cases e k w
  · rwa [hw]
  · rw [hw]
    exact h.orderSignal fun _ => rfl

theorem placeClaims (h : w.Dark e g) : (w.placeClaims e n).Dark e g :=
  foldl (fun w n => (w.placePoint e n).placeSignal e n) _ (fun _ _ _ hv => hv.placePoint.placeSignal) h

/-! ## The first tests of a slot -/

theorem sendAsk (h : w.Dark e g) : (w.sendAsk e link line).Dark e g := by
  unfold Work.sendAsk
  split
  · exact h
  · exact h.same rfl rfl rfl

theorem begin (h : w.Dark e g) : (w.begin e n).Dark e g := by
  unfold Work.begin
  split
  · unfold Work.needLine
    split
    · dsimp only [id]
      split
      · exact h
      · exact h.sendAsk
    · exact h.refuseSlot
  · exact h.withSlot fun x r _ _ => by
      split
      · exact h.slotTo.clearTest
      · exact h

theorem reportSubstitutes {choices : List Choice} (h : w.Dark e g) : (w.reportSubstitutes e n choices).Dark e g :=
  h.same (by rw [Work.reportSubstitutes_rest]) (by rw [Work.reportSubstitutes_rest]) (by rw [Work.reportSubstitutes_rest])

theorem takeRoute {route fleet : Nat} {choices : List Choice} (h : w.Dark e g)
    (hchoices : ∀ c ∈ choices, c.element = g → c.required = .danger) :
    (w.takeRoute e route r fleet n choices).Dark e g := by
  have htaken : (w.on (Live.taking e route r fleet n choices)).Dark e g := ⟨h.live.taking hchoices, h.todo⟩
  rw [Work.takeRoute_eq]
  exact htaken.reportSubstitutes.orderPoints.placeClaims.begin

/-! ## The end of an event -/

theorem settle (bound : Nat) (h : w.Dark e g) : (w.settle e bound).Dark e g := by
  induction bound generalizing w with
  | zero => exact h
  | succ bound ih =>
    cases htodo : w.todo with
    | nil =>
      have hidle : w.settle e (bound + 1) = w := by simp only [Work.settle, htodo]
      rwa [hidle]
    | cons c rest =>
      have hrest := h.todo
      rw [htodo] at hrest
      obtain ⟨slot, m, b, rfl⟩ := hrest c List.mem_cons_self
      have hempty : Work.Dark e g { w with todo := [] } := ⟨h.live, fun c hc => absurd hc List.not_mem_nil⟩
      have htaken : (Work.onClaim e slot m b { w with todo := [] }).Dark e g := by
        unfold Work.onClaim
        split
        · exact hempty.clearTest
        · exact hempty.replace
      have hstep : w.settle e (bound + 1) = Work.settle e bound { Work.onClaim e slot m b { w with todo := [] } with
          todo := (Work.onClaim e slot m b { w with todo := [] }).todo ++ rest } := by
        simp only [Work.settle, htodo]
        rfl
      rw [hstep]
      exact ih ⟨htaken.live, fun c hc => (List.mem_append.mp hc).elim (htaken.todo c)
        (fun hc => hrest c (List.mem_cons_of_mem _ hc))⟩

theorem settled (h : w.Dark e g) : (w.settled e).Dark e g := by
  have hhanded : (w.handedOn e).Dark e g := h.settle _
  exact foldl (fun w p => w.placePoint e p) _ (fun _ _ _ hv => hv.placePoint) (hhanded.same rfl rfl rfl)

theorem examine {request : Request} (hg : e.tables.isSignal g = true) (h : w.Dark e g) : (w.examine e request).Dark e g := by
  unfold Work.examine
  split
  · exact h
  · split
    · next r _ n choices hcheck =>
      have hchoices : ∀ c ∈ choices, c.element = g → c.required = .danger := fun c hc hel => by
        obtain ⟨_, hchosen⟩ := Live.flankSearch_spec (Live.checkCall_passes.mp hcheck).flank
        obtain ⟨_, _, j, _, hj, hreq, _⟩ := hchosen c hc
        exact Tables.requiredState_signal hg (hj.trans hel) hreq
      have hdropped : (w.on (Live.dropRequest request.route)).Dark e g := h.same rfl rfl rfl
      exact (hdropped.takeRoute hchoices).report.settled
    · split
      · have hdropped : (w.on (Live.dropRequest request.route)).Dark e g := h.same rfl rfl rfl
        exact hdropped.report
      · exact h

theorem scans (hg : e.tables.isSignal g = true) (k : Nat) (h : w.Dark e g) : (w.scans e k).Dark e g := by
  induction k generalizing w with
  | zero => exact h
  | succ k ih =>
    have hstart : Work.Dark e g { w with scan := false } := h.same rfl rfl rfl
    unfold Work.scans
    split
    · refine ih (foldl _ _ (fun request _ v hv => ?_) hstart)
      split
      · exact hv
      · exact hv.examine hg
    · exact hstart

/-- A dark signal is dark at the end of the event (R59, R61). -/
theorem finish (hg : e.tables.isSignal g = true) (h : w.Dark e g) : Live.Dark e g (w.finish e) := by
  have hevent : (w.event e).Dark e g := h.settled.scans hg _
  exact Live.sendNotices_keeps (P := Live.Dark e g) (fun _ _ hl => hl.keeps (.of_same rfl rfl)) _ _ hevent.live

end Work.Dark

end

end Sys2Proof.Machine
end

section
/-! PROOFS. Signals ordered DANGER in turn, at a load, a commit and a restart (R55, R59, R61, R165). -/

namespace Sys2Proof.Machine

section
variable {e : Env} {g k m n : Nat} {a : Aspect} {gs : List Nat} {w : Work}

theorem Work.orderDanger_append (gs hs : List Nat) :
    w.orderDanger e (gs ++ hs) = (w.orderDanger e gs).orderDanger e hs := List.foldl_append

/-- Signal orders write the elements, the queue and the claims alone (R52, R55, R106). -/
theorem Work.orderDanger_rest : w.orderDanger e gs = { w with
    live := { w.live with
      elements := (w.orderDanger e gs).live.elements, queue := (w.orderDanger e gs).live.queue
      claims := (w.orderDanger e gs).live.claims, choices := (w.orderDanger e gs).live.choices }
    todo := (w.orderDanger e gs).todo } := by
  induction gs generalizing w with
  | nil => rfl
  | cons g gs ih =>
    have hsame : ∀ v : Work, v = { w with
        live := { w.live with
          elements := v.live.elements, queue := v.live.queue, claims := v.live.claims, choices := v.live.choices }
        todo := v.todo } → ∀ u : Work, u = { v with
        live := { v.live with
          elements := u.live.elements, queue := u.live.queue, claims := u.live.claims, choices := u.live.choices }
        todo := u.todo } → u = { w with
        live := { w.live with
          elements := u.live.elements, queue := u.live.queue, claims := u.live.claims, choices := u.live.choices }
        todo := u.todo } := by
      intro v hv u hu
      rw [hv] at hu
      exact hu
    exact hsame _ (Work.orderSignal_rest e g .danger w) _ (ih (w := w.orderSignal e g .danger))

/-- Signal orders hand on claim changes alone (R106). -/
theorem Work.orderDanger_todo (h : ∀ c ∈ w.todo, ∃ slot m b, c = .claimChanged slot m b) :
    ∀ c ∈ (w.orderDanger e gs).todo, ∃ slot m b, c = .claimChanged slot m b := by
  induction gs generalizing w with
  | nil => exact h
  | cons g gs ih =>
    refine ih (w := w.orderSignal e g .danger) fun c hc => ?_
    cases hg : w.live.signal g with
    | none => exact h c (by rwa [Work.orderSignal_none hg] at hc)
    | some r =>
      obtain ⟨-, -, -, -, -, -, -, htodo, -⟩ := Work.orderSignal_ordered (e := e) (a := .danger) hg
      exact (htodo c hc).elim (h c) fun ⟨slot, v, hc⟩ => ⟨slot, g, v, hc⟩

theorem Work.orderDanger_unmeasured : w.live.Unmeasured (w.orderDanger e gs).live :=
  Evolves.unmeasured (e := e) (Work.orderDanger_evolves gs w)

/-- A signal that is not supervised and has shown nothing is dark once it is among those ordered DANGER (R59, R61). -/
theorem Work.orderDanger_dark {z : SignalRec} (hg : g ∈ gs) (hz : w.live.signal g = some z) (hsupervised : z.supervised = false)
    (hproven : z.proven = none) (htodo : ∀ c ∈ w.todo, ∃ slot m b, c = .claimChanged slot m b) :
    (w.orderDanger e gs).Dark e g := by
  obtain ⟨before, after, rfl⟩ := List.append_of_mem hg
  rw [Work.orderDanger_append]
  let v := w.orderDanger e before
  obtain ⟨x, hx, hsame, hshown⟩ := (Work.orderDanger_unmeasured (e := e) (gs := before)).signal hz
  have hdark : (v.orderSignal e g .danger).Dark e g := by
    obtain ⟨r, y, hr, hy, heq, hwaits, -⟩ := Work.orderSignal_ordered (e := e) (a := .danger) (w := v) hx
    obtain rfl := Option.some.inj (hr.symm.trans hx)
    refine ⟨⟨⟨y, hy, ?_⟩, hwaits⟩, Work.orderDanger_todo (w := v) (gs := [g]) (Work.orderDanger_todo htodo)⟩
    rw [heq]
    exact ⟨hsame.trans hsupervised, hshown.trans hproven, rfl, rfl⟩
  exact Work.Dark.foldl (fun w g => w.orderSignal e g .danger) after (fun _ _ _ hv => hv.orderSignal fun _ => rfl) hdark

/-! ## Claim changes that no slot takes -/

theorem Work.withSlot_free {f : Slot → RouteEntry → Work → Work} (h : w.live.slot n = none) : w.withSlot e n f = w := by
  simp only [Work.withSlot, h]

/-- A slot behind a train or timed takes no claim change (R93, R106). -/
theorem Work.onClaim_calm {proven : Bool} (hcalm : ∀ x, w.live.slot n = some x → x.state = .timedRelease ∨ x.state = .entered) :
    w.onClaim e n m proven = w := by
  cases hx : w.live.slot n with
  | none =>
    unfold Work.onClaim Work.clearTest Work.replace
    rw [Work.withSlot_free hx, Work.withSlot_free hx, ite_self]
  | some x =>
    have hstate := hcalm x hx
    have hlocked : x.state ≠ .locked := fun h => by simp [h] at hstate
    have hclearing : x.state ≠ .clearing := fun h => by simp [h] at hstate
    have hclear : x.state ≠ .clear := fun h => by simp [h] at hstate
    rw [Work.onClaim, Work.clearTest_idle hx hlocked, Work.replace_idle hx hclearing hclear, ite_self]

theorem Work.settle_calm (bound : Nat)
    (hcalm : ∀ n x, w.live.slot n = some x → x.state = .timedRelease ∨ x.state = .entered)
    (htodo : ∀ c ∈ w.todo, ∃ slot m b, c = .claimChanged slot m b) : ∃ left, w.settle e bound = { w with todo := left } := by
  induction bound generalizing w with
  | zero => exact ⟨w.todo, rfl⟩
  | succ bound ih =>
    cases hw : w.todo with
    | nil => exact ⟨w.todo, Work.settle_idle e _ w hw⟩
    | cons c rest =>
      rw [hw] at htodo
      obtain ⟨slot, m, b, rfl⟩ := htodo c List.mem_cons_self
      have htake : Work.onClaim e slot m b { w with todo := [] } = { w with todo := [] } := Work.onClaim_calm (hcalm slot)
      have hstep : w.settle e (bound + 1) = Work.settle e bound { w with todo := rest } := by
        simp only [Work.settle, hw, Work.take, htake, List.nil_append]
      rw [hstep]
      exact ih (w := { w with todo := rest }) hcalm fun c hc => htodo c (List.mem_cons_of_mem _ hc)

/-! ## Orders with no slot in use -/

/-- With no slot in use claim changes are taken by nobody. -/
theorem Work.settle_slotless (bound : Nat) (hslots : w.live.slots = [])
    (htodo : ∀ c ∈ w.todo, ∃ slot m b, c = .claimChanged slot m b) :
    ∃ left, w.settle e bound = { w with todo := left } :=
  Work.settle_calm bound (fun n x hx => by rw [Live.slot, hslots] at hx; cases hx) htodo

/-- With no slot in use, and nothing to place or to scan for, an event of claim changes leaves the records. -/
theorem Work.finish_slotless (hslots : w.live.slots = []) (htodo : ∀ c ∈ w.todo, ∃ slot m b, c = .claimChanged slot m b)
    (hplaces : w.places = []) (hscan : w.scan = false) (hnotices : w.notices = []) : w.finish e = w.live := by
  obtain ⟨left, hleft⟩ := Work.settle_slotless (e := e) settleBound hslots htodo
  have hsettled : w.settled e = { w with todo := left } := by
    rw [Work.settled, Work.handedOn, hleft]
    exact Work.placeAll_idle e _ hplaces
  rw [Work.finish, Work.event, hsettled]
  dsimp only
  rw [Work.scans_idle e _ { w with todo := left } hscan, hnotices, Live.sendNotices_nil]

/-- Orders of DANGER with no slot in use, at the end of their event. -/
theorem State.doing_orderDanger {s : State} (hslots : s.live.slots = []) :
    s.doing (fun e w => w.orderDanger e gs) = { s with live := (s.work.orderDanger s.env gs).live } := by
  rw [State.doing_eq, State.ending]
  have hrest := Work.orderDanger_rest (e := s.env) (gs := gs) (w := s.work)
  refine congrArg (fun l => { s with live := l }) (Work.finish_slotless ?_ ?_ ?_ ?_ ?_)
  · rw [hrest]; exact hslots
  · exact Work.orderDanger_todo fun c hc => absurd hc List.not_mem_nil
  · rw [hrest]; rfl
  · rw [hrest]; rfl
  · rw [hrest]; rfl

/-! ## The queue after the orders -/

/-- An order of DANGER. -/
def Tables.dangerOrder (t : Tables) (g : Nat) : FieldOrder :=
  { element := g, address := t.fieldAddress g, order := .aspect .danger }

/-- The orders of DANGER placed so far: the first in the queue, and once it is full each as pending (R55). -/
structure Live.DangerPlaced (t : Tables) (gs : List Nat) (l : Live) : Prop where
  queue : l.queue = (gs.take Config.orderPlaces).map t.dangerOrder
  pending : ∀ n, l.pendingOrder n = if n ∈ gs.drop Config.orderPlaces then some (.aspect .danger) else none

/-- One signal more is ordered: behind the others, or as pending (R55). -/
theorem Live.DangerPlaced.next {l b : Live} {r : SignalRec} (h : l.DangerPlaced e.tables gs) (hrises : l.rises) (hg : g ∉ gs)
    (hr : l.signal g = some r) (hqueue : b.queue = (l.takeSignalOrder e g .danger r).queue)
    (helements : b.elements = (l.takeSignalOrder e g .danger r).elements) : b.DangerPlaced e.tables (gs ++ [g]) := by
  let z : SignalRec := { r with commanded := .danger, proving := some (e.clock + e.tables.provingTime g) }
  let m := l.setElement g (.signal z)
  have hpart : Live.SamePart ElementRec.pendingOrder l m := Live.samePart_setElement (Live.signal_some.mp hr) rfl
  have hpending : ∀ n, m.pendingOrder n = if n ∈ gs.drop Config.orderPlaces then some (.aspect .danger) else none := fun n =>
    (hpart.pending n).trans (h.pending n)
  have hnone : m.pendingOrder g = none := by
    rw [hpending, if_neg fun hmem => hg (List.mem_of_mem_drop hmem)]
  have hnot : ¬ ∃ x ∈ m.queue, x.element = g := by
    rintro ⟨x, hx, rfl⟩
    obtain ⟨k, hk, rfl⟩ := List.mem_map.mp ((show m.queue = _ from h.queue) ▸ hx)
    exact hg (List.mem_of_mem_take hk)
  obtain ⟨-, -, hplace⟩ := orderKeepsItsPlace.2.1 e.tables g (.aspect .danger) m
  obtain ⟨hroom, hfull⟩ := hplace hnot hnone
  have htake : l.takeSignalOrder e g .danger r = m.placeOrder e.tables g (.aspect .danger) := rfl
  have hsame : ∀ n, b.pendingOrder n = (m.placeOrder e.tables g (.aspect .danger)).pendingOrder n := fun n => by
    rw [Live.pendingOrder, helements, htake]
    rfl
  by_cases hlength : gs.length < Config.orderPlaces
  · have hall : gs.take Config.orderPlaces = gs ∧ gs.drop Config.orderPlaces = [] :=
      ⟨List.take_of_length_le (by omega), List.drop_eq_nil_of_le (by omega)⟩
    have hplaces : ¬ (Config.orderPlaces ≤ m.queue.length ∨ ∃ x ∈ m.elements, x.2.pendingOrder ≠ none) := by
      rintro (hlong | ⟨x, hx, ho⟩)
      · rw [show m.queue = _ from h.queue, List.length_map, hall.1] at hlong
        omega
      · obtain ⟨o, ho⟩ := Option.ne_none_iff_exists'.mp ho
        have hmem := Live.pendingOrder_of_mem (Live.setElement_rises hrises g (.signal z)) hx ho
        rw [show Live.pendingOrder (l.setElement g (.signal z)) x.1 = _ from hpending x.1, hall.2,
          if_neg List.not_mem_nil] at hmem
        cases hmem
    have heq := hroom hplaces
    have hnext : (gs ++ [g]).take Config.orderPlaces = gs ++ [g] ∧ (gs ++ [g]).drop Config.orderPlaces = [] :=
      ⟨List.take_of_length_le (by simp; omega), List.drop_eq_nil_of_le (by simp; omega)⟩
    refine ⟨?_, fun n => ?_⟩
    · rw [hqueue, htake, heq, hnext.1, List.map_append, show m.queue = _ from h.queue, hall.1]
      rfl
    · rw [hsame, heq, hnext.2, if_neg List.not_mem_nil]
      have hn := hpending n
      rwa [hall.2, if_neg List.not_mem_nil] at hn
  · have hlong : Config.orderPlaces ≤ gs.length := by omega
    have hplaces : Config.orderPlaces ≤ m.queue.length ∨ ∃ x ∈ m.elements, x.2.pendingOrder ≠ none := by
      refine .inl ?_
      rw [show m.queue = _ from h.queue, List.length_map, List.length_take]
      omega
    obtain ⟨hsameQueue, hnew⟩ := hfull hplaces
    have hnext : (gs ++ [g]).take Config.orderPlaces = gs.take Config.orderPlaces ∧
        (gs ++ [g]).drop Config.orderPlaces = gs.drop Config.orderPlaces ++ [g] :=
      ⟨List.take_append_of_le_length hlong, List.drop_append_of_le_length hlong⟩
    refine ⟨?_, fun n => ?_⟩
    · rw [hqueue, htake, hsameQueue, hnext.1]
      exact h.queue
    · rw [hsame, hnext.2]
      by_cases hn : n = g
      · subst hn
        rw [hnew (.inr ⟨z, Live.signal_some.mpr (Map.find_put_self ..)⟩), if_pos (by simp)]
      · have hother := Live.placeOrder_ne hn e.tables (.aspect .danger) m
        rw [Live.pendingOrder, hother, show (Map.find n m.elements).bind ElementRec.pendingOrder = _ from hpending n]
        simp [hn]

/-- The signals of a list ordered DANGER on an empty queue (R55). -/
theorem Work.orderDanger_placed (hrises : w.live.rises) (hqueue : w.live.queue = [])
    (hpending : ∀ n, w.live.pendingOrder n = none) (hgs : gs.Nodup) (hsignals : ∀ g ∈ gs, ∃ r, w.live.signal g = some r) :
    (w.orderDanger e gs).live.DangerPlaced e.tables gs := by
  induction gs using List.reverseRecOn with
  | nil => exact ⟨hqueue, hpending⟩
  | append_singleton gs g ih =>
    obtain ⟨hgs, hg⟩ := List.nodup_append.mp hgs |>.imp_right fun h hmem => h.2 g hmem g (List.mem_singleton_self g) rfl
    let v := w.orderDanger e gs
    have hv : v.live.DangerPlaced e.tables gs := ih hgs fun k hk => hsignals k (List.mem_append_left _ hk)
    obtain ⟨r, hr⟩ := hsignals g (by simp)
    obtain ⟨x, hx, -⟩ := (Work.orderDanger_unmeasured (e := e) (gs := gs)).signal hr
    have hvrises : v.live.rises := (Work.orderDanger_evolves (e := e) (σ := {
      founded := False, takes := False, measures := False, rests := fun _ => True }) gs w).keeps
      (P := Live.rises) (fun _ _ s hl => s.rises hl) False.elim hrises
    rw [Work.orderDanger_append]
    refine hv.next hvrises hg hx ?_ ?_
    · show (v.orderSignal e g .danger).live.queue = _
      rw [Work.orderSignal_found hx, Work.reprove_live]
      rfl
    · show (v.orderSignal e g .danger).live.elements = _
      rw [Work.orderSignal_found hx, Work.reprove_live]
      rfl

end

end Sys2Proof.Machine
end

section
/-! PROOFS. Power-on, the load of the stored image, and the loss of power (Chapter 10; R39, R59, R130, R158, R163, R172, R174). -/

namespace Sys2Proof.Machine

/-! ## The tables and their records -/

theorem Tables.isSignal_iff {t : Tables} {g : Nat} :
    t.isSignal g = true ↔ ∃ e y, Map.find g t.elements = some e ∧ e.body = .signal y := by
  rw [Tables.isSignal.eq_def]
  split
  next hfind => simp [hfind]
  next hnot =>
    simp only [Bool.false_eq_true, false_iff]
    rintro ⟨⟨location, supervision, body⟩, y, hfind, rfl⟩
    exact hnot _ _ _ hfind

theorem Tables.mem_signals_iff {t : Tables} {g : Nat} : g ∈ t.signals ↔ t.isSignal g = true := by
  refine ⟨fun h => ?_, Tables.mem_signals⟩
  obtain ⟨x, hx, rfl⟩ := List.mem_map.mp h
  exact (List.mem_filter.mp hx).2

theorem Tables.signals_rise {t : Tables} (h : Map.rising t.elements = true) : t.signals.Pairwise (· < ·) :=
  (Map.rising_iff.mp h).sublist (List.filter_sublist.map _)

theorem Tables.provingTime_of_signal {t : Tables} {g y : Nat} {e : ElementEntry} (he : Map.find g t.elements = some e)
    (hy : e.body = .signal y) : t.provingTime g = y * 10 := by
  obtain ⟨location, supervision, body⟩ := e
  simp only at hy
  subst hy
  rw [Tables.provingTime, he]

/-- Every present entry of a kind that has a record has a new one (R59). -/
theorem Tables.elementRecords_find {t : Tables} {n : Nat} {e : ElementEntry} {r : ElementRec}
    (he : Map.find n t.elements = some e) (hr : e.renewed = some r) : Map.find n t.elementRecords = some r := by
  unfold Tables.elementRecords
  generalize t.elements = m at he
  induction m with
  | nil => cases he
  | cons x m ih =>
    by_cases hx : x.1 = n
    · simp only [Map.find, hx, if_true, Option.some.injEq] at he
      rw [List.filterMap_cons, he, hr]
      simp [Map.find, hx]
    · simp only [Map.find, hx, if_false] at he
      rw [List.filterMap_cons]
      cases x.2.renewed with
      | none => exact ih he
      | some y => simpa [Map.find, hx] using ih he

theorem Tables.elementRecords_mem {t : Tables} {x : Nat × ElementRec} (h : x ∈ t.elementRecords) :
    ∃ e : ElementEntry, e.renewed = some x.2 := by
  obtain ⟨y, -, hy⟩ := List.mem_filterMap.mp h
  obtain ⟨r, hr, rfl⟩ := Option.map_eq_some_iff.mp hy
  exact ⟨y.2, hr⟩

theorem Tables.elementRecords_rise {t : Tables} (h : Map.rising t.elements = true) :
    (Map.ids t.elementRecords).Pairwise (· < ·) := by
  refine (Map.rising_iff.mp h).sublist ?_
  unfold Tables.elementRecords Map.ids
  induction t.elements with
  | nil => exact .slnil
  | cons x m ih =>
    rw [List.filterMap_cons]
    cases x.2.renewed with
    | none => exact ih.cons _
    | some y => exact ih.cons_cons _

theorem ElementEntry.renewed_pending {e : ElementEntry} {r : ElementRec} (h : e.renewed = some r) : r.pendingOrder = none := by
  unfold ElementEntry.renewed at h
  split at h <;> cases h <;> rfl

theorem ElementEntry.renewed_signal {e : ElementEntry} {y : Nat} (h : e.body = .signal y) :
    e.renewed = some (.signal SignalRec.renewed) := by
  rw [ElementEntry.renewed, h]

/-! ## What a PRESENCE reads -/

theorem State.presenceOn_congr {s t : State} (hnv : t.nv = s.nv) (hstore : t.store = s.store)
    (hsections : t.live.sections = s.live.sections) (helements : t.live.elements = s.live.elements)
    (hlinks : t.live.links = s.live.links) : t.presenceOn = s.presenceOn := by
  funext k
  unfold State.presenceOn Live.sectionAt Live.countsOut Live.head
  rw [hnv, hstore, hsections, helements, hlinks]

/-- What offering a report sends: at most the notice of the queue's length (R176). -/
theorem Live.offer_sends (e : Env) (cls : ReportClass) (code : ReportCode) (kind : SubjectKind) (number : Nat)
    (detail : Option Nat) (l : Live) : ∃ rest, (l.offer e cls code kind number detail).sent = l.sent ++ rest ∧
      ∀ x ∈ rest, ∃ n, x = .reportNotice n := by
  by_cases h : l.reports.reports.length < 128 ∧ l.reports.armed = true ∧
      e.tables.watermark ≤ l.reports.reports.length + 1
  · obtain ⟨hroom, harmed, hmark⟩ := h
    exact ⟨_, (Live.offer_noticed hroom harmed hmark).2, fun x hx => ⟨_, List.mem_singleton.mp hx⟩⟩
  · exact ⟨[], by rw [(Live.offer_unnoticed h).2, List.append_nil], fun x hx => absurd hx List.not_mem_nil⟩

theorem Live.Unmeasured.offer (e : Env) (cls : ReportClass) (code : ReportCode) (kind : SubjectKind) (number : Nat)
    (detail : Option Nat) (l : Live) : l.Unmeasured (l.offer e cls code kind number detail) :=
  .of_eq (Live.offer_sections ..) (Live.offer_elements ..) (Live.offer_links ..)

/-! ## The end of the load -/

section
variable {s : State} {i : Image}

/-- The state of a load once its signals are ordered DANGER. -/
def State.loadOrdered (i : Image) (s : State) : State :=
  (s.createsRecords i).doing (fun e w => w.orderDanger e e.tables.signals)

/-- The records before the last report of a load, MODE_CHANGED. -/
def State.loadPresented (i : Image) (s : State) : Live :=
  { (s.loadOrdered i).live with
    sent := (s.loadOrdered i).live.sent ++ (s.loadOrdered i).live.links.flatMap (s.loadOrdered i).presenceOn }

theorem State.loads_eq : s.loads i = { s.loadOrdered i with
    mode := .suspended
    live := (s.loadPresented i).offer { (s.loadOrdered i).env with mode := .suspended } .c .modeChanged .table 0 (some 1) } := by
  have hpresents : ((s.loadOrdered i).presents (s.loadOrdered i).live.links).live = s.loadPresented i := State.presents_live _ _
  rw [← hpresents]
  rfl

theorem State.loads_live : (s.loads i).live =
    (s.loadPresented i).offer { (s.loadOrdered i).env with mode := .suspended } .c .modeChanged .table 0 (some 1) := by
  rw [State.loads_eq]

/-- What telegrams measure is, after a load, what its records are created with (R39, R59, R130). -/
theorem State.loads_unmeasured : (s.createsRecords i).live.Unmeasured (s.loads i).live := by
  have hordered : (s.createsRecords i).live.Unmeasured (s.loadOrdered i).live :=
    (Work.orderDanger_unmeasured (w := (s.createsRecords i).work)).trans (Work.finish_unmeasured _ _)
  have hpresented : (s.loadOrdered i).live.Unmeasured (s.loadPresented i) := .of_eq rfl rfl rfl
  rw [State.loads_live]
  exact (hordered.trans hpresented).trans (.offer ..)

theorem State.loads_keeps (k : Nat) : (s.loadOrdered i).live.KeepsElement k (s.loads i).live := by
  have hpresented : (s.loadOrdered i).live.KeepsElement k (s.loadPresented i) := .of_same rfl rfl
  rw [State.loads_live]
  exact hpresented.trans (.of_same (Live.offer_elements ..) (Live.offer_queue ..))

/-- Every signal is ordered DANGER at a load (R59, R163). -/
theorem State.loads_dark {g : Nat} (hg : i.tables.isSignal g = true) : (s.loads i).live.Dark (s.createsRecords i).env g := by
  obtain ⟨e, y, he, hy⟩ := Tables.isSignal_iff.mp hg
  have hrecord : (s.createsRecords i).live.signal g = some SignalRec.renewed :=
    Live.signal_some.mpr (Tables.elementRecords_find he (ElementEntry.renewed_signal hy))
  have hdark : Work.Dark (s.createsRecords i).env g
      ((s.createsRecords i).work.orderDanger (s.createsRecords i).env i.tables.signals) :=
    Work.orderDanger_dark (Tables.mem_signals hg) hrecord rfl rfl fun c hc => absurd hc List.not_mem_nil
  have hordered : (s.loadOrdered i).live.Dark (s.createsRecords i).env g := hdark.finish hg
  exact hordered.keeps (State.loads_keeps g)

/-- With no slot in use the orders of a load are all that its event does. -/
theorem State.loadOrdered_slotless (hslots : s.live.slots = []) : s.loadOrdered i = { s.createsRecords i with
    live := ((s.createsRecords i).work.orderDanger (s.createsRecords i).env i.tables.signals).live } :=
  State.doing_orderDanger (s := s.createsRecords i) (gs := i.tables.signals) hslots

/-- The orders of a load wait in rising order of the signals, in the queue and then as pending (R55, R163). -/
theorem State.loads_placed (hslots : s.live.slots = []) (hqueue : s.live.queue = [])
    (hrising : Map.rising i.tables.elements = true) : (s.loads i).live.DangerPlaced i.tables i.tables.signals := by
  have hrises : (s.createsRecords i).live.rises := Tables.elementRecords_rise hrising
  have hpending : ∀ n, (s.createsRecords i).live.pendingOrder n = none := by
    intro n
    unfold Live.pendingOrder
    cases hn : Map.find n (s.createsRecords i).live.elements with
    | none => rfl
    | some r =>
      obtain ⟨e, he⟩ := Tables.elementRecords_mem (t := i.tables) (Map.mem_of_find hn)
      exact ElementEntry.renewed_pending he
  have hsignals : ∀ g ∈ i.tables.signals, ∃ r, (s.createsRecords i).live.signal g = some r := fun g hg => by
    obtain ⟨e, y, he, hy⟩ := Tables.isSignal_iff.mp (Tables.mem_signals_iff.mp hg)
    exact ⟨_, Live.signal_some.mpr (Tables.elementRecords_find he (ElementEntry.renewed_signal hy))⟩
  have hplaced := Work.orderDanger_placed (e := (s.createsRecords i).env) (w := (s.createsRecords i).work) hrises hqueue
    hpending ((Tables.signals_rise hrising).imp Nat.ne_of_lt) hsignals
  have hordered : (s.loadOrdered i).live.DangerPlaced i.tables i.tables.signals := by
    rw [State.loadOrdered_slotless hslots]
    exact hplaced
  refine ⟨?_, fun n => ?_⟩
  · rw [State.loads_live, Live.offer_queue]
    exact hordered.queue
  · have hfound := (State.loads_keeps (s := s) (i := i) n).found
    unfold Live.pendingOrder
    rw [hfound]
    exact hordered.pending n

/-- Each link is sent its first PRESENCE with its COUNTS, before the report of the new mode (R134, R163). -/
theorem State.loads_sent (hslots : s.live.slots = []) : ∃ rest,
    (s.loads i).live.sent = s.live.sent ++ (s.loads i).live.links.flatMap (s.loads i).presenceOn ++ rest ∧
      ∀ x ∈ rest, ∃ n, x = .reportNotice n := by
  obtain ⟨rest, hsent, hrest⟩ := Live.offer_sends { (s.loadOrdered i).env with mode := .suspended } .c .modeChanged .table 0
    (some 1) (s.loadPresented i)
  have hbefore : (s.loadOrdered i).live.sent = s.live.sent := by
    rw [State.loadOrdered_slotless hslots, Work.orderDanger_rest]
    rfl
  have hpresence : (s.loads i).presenceOn = (s.loadOrdered i).presenceOn := by
    refine State.presenceOn_congr ?_ ?_ ?_ ?_ ?_
    · rw [State.loads_eq]
    · rw [State.loads_eq]
    · rw [State.loads_live, Live.offer_sections]; rfl
    · rw [State.loads_live, Live.offer_elements]; rfl
    · rw [State.loads_live, Live.offer_links]; rfl
  refine ⟨rest, ?_, hrest⟩
  rw [hpresence, State.loads_live, hsent, Live.offer_links, State.loadPresented, hbefore]

theorem Nonvolatile.matching_some {v : Nonvolatile} (himage : v.image = some i) (hword : i.word = some i.tables.checkWord) :
    v.matching = some i := by
  simp [Nonvolatile.matching, himage, hword]

theorem Nonvolatile.matching_none {v : Nonvolatile} (h : ∀ i, v.image = some i → i.word ≠ some i.tables.checkWord) :
    v.matching = none := by
  rw [Nonvolatile.matching, Option.filter_eq_none_iff]
  intro i hi
  simpa using h i hi

end

/-! ## The loss of power -/

theorem State.cutIdentityWrite_image (s : State) (v : Nonvolatile) : (s.cutIdentityWrite v).image = v.image := by
  unfold State.cutIdentityWrite
  split
  · rfl
  · split <;> rfl

theorem State.cutPossessionWrite_identity (s : State) (v : Nonvolatile) : (s.cutPossessionWrite v).identity = v.identity := by
  unfold State.cutPossessionWrite
  split
  · rfl
  · split <;> rfl

/-- An interrupted possession write leaves the old records or the new ones (R158; log 12). -/
theorem State.cutPossessionWrite_cases (s : State) (v : Nonvolatile) : s.cutPossessionWrite v = v ∨
    ∃ x rest, s.possessionWrites = x :: rest ∧ s.cutPossessionWrite v = v.storePossessions x.records := by
  unfold State.cutPossessionWrite
  split
  · exact .inl rfl
  next x rest hwrites =>
    split
    · exact .inr ⟨x, rest, hwrites, rfl⟩
    · exact .inl rfl

/-- The stored image while a store write or a restoring write runs has no check word (R172). -/
def State.imageAtLoss (s : State) : Nonvolatile := if s.store.writing then s.nv.voided else s.nv

theorem State.nvAfterLoss_image (s : State) : s.nvAfterLoss.image = s.imageAtLoss.image ∨
    ∃ x rest, s.possessionWrites = x :: rest ∧
      s.nvAfterLoss.image = s.imageAtLoss.image.map (fun i => { i with possessions := x.records }) := by
  have himage : s.nvAfterLoss.image = (s.cutPossessionWrite s.imageAtLoss).image := s.cutIdentityWrite_image _
  rw [himage]
  obtain hcut | ⟨x, rest, hwrites, hcut⟩ := s.cutPossessionWrite_cases s.imageAtLoss
  · exact .inl (by rw [hcut])
  · exact .inr ⟨x, rest, hwrites, by rw [hcut]; rfl⟩

/-- What a loss of power leaves of every part of the image but its possessions (R172). -/
theorem State.nvAfterLoss_part {α : Type} (s : State) (f : Image → α) (hf : ∀ i ps, f { i with possessions := ps } = f i) :
    s.nvAfterLoss.image.map f = s.imageAtLoss.image.map f := by
  obtain himage | ⟨x, rest, -, himage⟩ := s.nvAfterLoss_image
  · rw [himage]
  · rw [himage, Option.map_map]
    exact congrArg (Option.map · _) (funext fun i => hf i x.records)

theorem State.imageAtLoss_part {α : Type} (s : State) (f : Image → α) (hf : ∀ i, f { i with word := none } = f i) :
    s.imageAtLoss.image.map f = s.nv.image.map f := by
  unfold State.imageAtLoss
  split
  · rw [Nonvolatile.voided, Option.map_map]
    exact congrArg (Option.map · _) (funext fun i => hf i)
  · rfl

theorem State.imageAtLoss_writing {s : State} {i : Image} (h : s.store.writing = true) (hi : s.imageAtLoss.image = some i) :
    i.word = none := by
  rw [State.imageAtLoss, if_pos h, Nonvolatile.voided] at hi
  obtain ⟨j, -, rfl⟩ := Option.map_eq_some_iff.mp hi
  rfl

theorem State.nvAfterLoss_identity (s : State) : s.nvAfterLoss.identity = (s.cutIdentityWrite s.nv).identity := by
  have hbefore : (s.cutPossessionWrite s.imageAtLoss).identity = s.nv.identity := by
    rw [State.cutPossessionWrite_identity, State.imageAtLoss]
    split <;> rfl
  show (s.cutIdentityWrite (s.cutPossessionWrite s.imageAtLoss)).identity = _
  unfold State.cutIdentityWrite
  split
  · exact hbefore
  · split <;> rfl

/-- Settles O44: the load by what its records are created with and the orders that follow, the loss of power by the parts of the
stored image. -/
theorem powerOnLoadAndLoss : Obligations.PowerOnLoadAndLoss := by
  refine ⟨fun s => ⟨fun hpower => ?_, fun hpower => ?_, fun hpower hmode => ?_, fun hpower hmode => ⟨fun hword => ?_,
    fun i himage hword => ?_⟩⟩, fun s hpower => ⟨s.losesPower, event_on _ s hpower, rfl, rfl, rfl, rfl, rfl, rfl, rfl, rfl,
    ?_, ?_, fun hwriting i hi => ?_, fun hidle => ?_, fun hnone => ?_, fun x rest hwrites => ?_, fun hnone => ?_,
    fun tag identity hwrite => ?_⟩⟩
  · show Host.Outcome.next s.powersOn = _
    rw [State.powersOn, hpower]
    rfl
  · refine ⟨s.losesPower, event_on _ s hpower, ?_⟩
    show Host.Outcome.next s.powersOn = .next s.losesPower.powersOn
    rw [State.powersOn, hpower]
    rfl
  · refine (event_on loadEnds s hpower).trans ?_
    rw [loadEnds, if_neg hmode]
  · refine (event_on loadEnds s hpower).trans ?_
    rw [loadEnds, if_pos hmode, Nonvolatile.matching_none hword]
    rfl
  · have hrun : exec .loadEnd s = .next (s.loads i) := by
      refine (event_on loadEnds s hpower).trans ?_
      rw [loadEnds, if_pos hmode, Nonvolatile.matching_some himage hword]
    have hmeasured := State.loads_unmeasured (s := s) (i := i)
    refine ⟨s.loads i, hrun, rfl, rfl, rfl, rfl, rfl, rfl, fun n => ?_, fun n e r he hr => ?_, fun g e y he hy => ?_,
      fun g e y he hy => ?_, fun n => ?_, rfl, fun hslots hqueue hrising => ?_, State.loads_sent, fun hslots => ⟨?_, fun hreports => ?_⟩⟩
    · refine (hmeasured.counts n).trans ?_
      show (Map.find n (i.tables.sectionRecords i.possessions)).map SectionRec.counted = _
      rw [Tables.sectionRecords_find, Option.map_map]
      rfl
    · refine (hmeasured.reported n).trans ?_
      show (Map.find n i.tables.elementRecords).map ElementRec.reported = _
      rw [Tables.elementRecords_find he hr]
      rfl
    · obtain ⟨⟨z, hz, hsupervised, hproven, hcommanded, hproving⟩, -⟩ := State.loads_dark (s := s)
        (Tables.isSignal_iff.mpr ⟨e, y, he, hy⟩)
      refine ⟨z, hz, hcommanded, hsupervised, hproven, hproving.trans ?_⟩
      show some (s.clock + i.tables.provingTime g) = _
      rw [Tables.provingTime_of_signal he hy]
    · exact (State.loads_dark (Tables.isSignal_iff.mpr ⟨e, y, he, hy⟩)).waits
    · refine (hmeasured.agreed n).trans ((Live.formLineFlags_sameAgreed i.tables { s.live with
        sections := i.tables.sectionRecords i.possessions
        elements := i.tables.elementRecords
        links := i.tables.linkRecords } n).trans ?_)
      show (Map.find n (Map.each BoundaryEntry.renewed i.tables.boundary)).map LinkRec.agreed = _
      rw [Map.find_each, Option.map_map]
      rfl
    · have hplaced := State.loads_placed hslots hqueue hrising
      refine ⟨i.tables.signals, Tables.signals_rise hrising, fun g => Tables.mem_signals_iff.trans Tables.isSignal_iff,
        hplaced.queue, fun g hg => ?_⟩
      rw [hplaced.pending g]
      exact if_pos hg
    · rw [State.loads_live, Live.offer_slots, State.loadPresented, State.loadOrdered_slotless hslots, Work.orderDanger_rest]
      exact hslots
    · have hqueue : (s.loadPresented i).reports = ReportQueue.powerOn := by
        rw [State.loadPresented, State.loadOrdered_slotless hslots, Work.orderDanger_rest]
        exact hreports
      obtain ⟨-, -, -, hgrown, -⟩ := everyReportIsNumbered { (s.loadOrdered i).env with mode := .suspended } .c .modeChanged
        .table 0 (some 1) (s.loadPresented i)
      rw [hqueue] at hgrown
      have happended := (hgrown (by decide)).1
      rw [State.loads_live]
      exact ⟨_, happended, rfl, rfl, rfl⟩
  · exact (s.nvAfterLoss_part (fun i => i.tables) fun _ _ => rfl).trans (s.imageAtLoss_part _ fun _ => rfl)
  · exact (s.nvAfterLoss_part (fun i => i.version) fun _ _ => rfl).trans (s.imageAtLoss_part _ fun _ => rfl)
  · have hwords := s.nvAfterLoss_part (fun i => i.word) fun _ _ => rfl
    rw [show s.nvAfterLoss.image = some i from hi, Option.map_some] at hwords
    obtain ⟨j, hj, hsame⟩ := Option.map_eq_some_iff.mp hwords.symm
    exact hsame.symm.trans (State.imageAtLoss_writing hwriting hj)
  · refine (s.nvAfterLoss_part (fun i => i.word) fun _ _ => rfl).trans ?_
    rw [State.imageAtLoss, hidle]
    rfl
  · obtain himage | ⟨x, rest, hwrites, -⟩ := s.nvAfterLoss_image
    · exact (congrArg _ himage).trans (s.imageAtLoss_part _ fun _ => rfl)
    · rw [hnone] at hwrites
      cases hwrites
  · obtain himage | ⟨y, rest', hwrites', himage⟩ := s.nvAfterLoss_image
    · exact .inl ((congrArg _ himage).trans (s.imageAtLoss_part _ fun _ => rfl))
    · obtain ⟨rfl, rfl⟩ := List.cons.inj (hwrites.symm.trans hwrites')
      refine .inr ((congrArg (Option.map fun i => i.possessions) himage).trans ?_)
      rw [Option.map_map]
      exact s.imageAtLoss_part (fun _ => x.records) fun _ => rfl
  · refine s.nvAfterLoss_identity.trans ?_
    rw [State.cutIdentityWrite, hnone]
  · have hidentity : (s.cutIdentityWrite s.nv).identity = 0 ∨ (s.cutIdentityWrite s.nv).identity = identity := by
      rw [State.cutIdentityWrite, hwrite]
      dsimp only
      split
      · exact .inr rfl
      · exact .inl rfl
    exact hidentity.imp s.nvAfterLoss_identity.trans s.nvAfterLoss_identity.trans

end Sys2Proof.Machine
end

section
/-! PROOFS. The records that a commit brings into line with the new tables, and the orders of those it keeps (Chapters 2, 3 and 8;
R41, R55, R61, R145). -/

namespace Sys2Proof.Machine

/-! ## Records by id -/

theorem Map.find_filterMap_none {α β : Type} {k : Nat} (f : Nat → α → Option β) {m : Map α} (h : Map.find k m = none) :
    Map.find k (m.filterMap (fun x => (f x.1 x.2).map (fun b => (x.1, b)))) = none := by
  induction m with
  | nil => rfl
  | cons x m ih =>
    rw [Map.find_cons] at h
    by_cases hx : x.1 = k
    · rw [if_pos hx] at h
      cases h
    · rw [if_neg hx] at h
      rw [List.filterMap_cons]
      cases f x.1 x.2 with
      | none => exact ih h
      | some b =>
        refine (Map.find_cons k x.1 b _).trans ?_
        rw [if_neg hx]
        exact ih h

theorem Map.find_filterMap_some {α β : Type} {k : Nat} {a : α} {b : β} (f : Nat → α → Option β) {m : Map α}
    (h : Map.find k m = some a) (hb : f k a = some b) :
    Map.find k (m.filterMap (fun x => (f x.1 x.2).map (fun b => (x.1, b)))) = some b := by
  induction m with
  | nil => cases h
  | cons x m ih =>
    rw [Map.find_cons] at h
    rw [List.filterMap_cons]
    by_cases hx : x.1 = k
    · rw [if_pos hx, Option.some.injEq] at h
      rw [hx, h, hb]
      exact (Map.find_cons k k b _).trans (if_pos rfl)
    · rw [if_neg hx] at h
      cases f x.1 x.2 with
      | none => exact ih h
      | some c =>
        refine (Map.find_cons k x.1 c _).trans ?_
        rw [if_neg hx]
        exact ih h

/-- The first record that passes a test is the one found by its id, where that passes it. -/
theorem Map.find_of_first {α : Type} {p : α → Bool} {n : Nat} {a b : α} {m : Map α}
    (hfirst : m.find? (fun x => p x.2) = some (n, a)) (hb : Map.find n m = some b) (hp : p b = true) : a = b := by
  induction m with
  | nil => cases hb
  | cons x m ih =>
    rw [Map.find_cons] at hb
    by_cases hx : p x.2 = true
    · rw [List.find?_cons_of_pos (p := fun y : Nat × α => p y.2) hx, Option.some.injEq] at hfirst
      rw [hfirst, if_pos rfl, Option.some.injEq] at hb
      exact hb
    · rw [List.find?_cons_of_neg (p := fun y : Nat × α => p y.2) hx] at hfirst
      by_cases hn : x.1 = n
      · rw [if_pos hn, Option.some.injEq] at hb
        rw [hb] at hx
        exact absurd hp hx
      · rw [if_neg hn] at hb
        exact ih hfirst hb

section
variable {old new : Tables} {n : Nat}

/-! ## Sections -/

theorem sameHeads_iff {a b : List HeadItem} : sameHeads a b = true ↔ ∀ i, i ∈ a ↔ i ∈ b := by
  simp only [sameHeads, Bool.and_eq_true, List.all_eq_true, List.contains_iff_mem]
  exact ⟨fun ⟨hab, hba⟩ i => ⟨hab i, hba i⟩, fun h => ⟨fun i => (h i).mp, fun i => (h i).mpr⟩⟩

theorem unchangedElement_iff : unchangedElement old new n = true ↔
    ∃ e, Map.find n old.elements = some e ∧ Map.find n new.elements = some e := by
  simp only [unchangedElement, Bool.and_eq_true, beq_iff_eq, Map.has_iff_find]
  exact ⟨fun ⟨⟨e, he⟩, hsame⟩ => ⟨e, hsame.trans he, he⟩, fun ⟨e, hold, hnew⟩ => ⟨⟨e, hnew⟩, hold.trans hnew.symm⟩⟩

theorem keptSection_iff {b : SectionEntry} (hb : Map.find n new.sections = some b) : keptSection old new n = true ↔
    ∃ a, Map.find n old.sections = some a ∧ (∀ i, i ∈ a.heads ↔ i ∈ b.heads) ∧
      ∀ i ∈ b.heads, ∃ e, Map.find i.head old.elements = some e ∧ Map.find i.head new.elements = some e := by
  unfold keptSection
  rw [hb]
  cases ha : Map.find n old.sections with
  | none => simp
  | some a => simp [sameHeads_iff, unchangedElement_iff]

theorem Tables.isShared_iff {t : Tables} : t.isShared n = true ↔ ∃ y ∈ t.boundary, ∃ x ∈ y.2.lines, x.shared = some n := by
  simp [Tables.isShared]

theorem alignedSection_kept {ps : Map (List Nat)} {records : Map SectionRec} {r : SectionRec}
    (hkept : keptSection old new n = true) (hr : Map.find n records = some r) :
    alignedSection old new ps records n =
      if new.isShared n then
        { r with possession := possessionHolding ps n, lock := none, disagreement := 0, neighbourState := none }
      else { r with possession := possessionHolding ps n, lock := none } := by
  simp only [alignedSection, hr, hkept, if_true]

theorem alignedSection_new {ps : Map (List Nat)} {records : Map SectionRec}
    (h : ¬ keptSection old new n = true ∨ Map.find n records = none) :
    alignedSection old new ps records n = SectionRec.renewed (possessionHolding ps n) := by
  have hrenewed (p : Option Nat) : (if new.isShared n then
      { { SectionRec.renewed p with possession := p, lock := none } with disagreement := 0, neighbourState := none }
      else { SectionRec.renewed p with possession := p, lock := none }) = SectionRec.renewed p := by
    split <;> rfl
  unfold alignedSection
  cases hr : Map.find n records with
  | none => exact hrenewed _
  | some r =>
    dsimp only
    rw [if_neg (h.resolve_right (by rw [hr]; exact nofun))]
    exact hrenewed _

/-! ## Elements -/

/-- An element's record after a commit (R61). -/
def alignedElement (old new : Tables) (records : Map ElementRec) (n : Nat) (e : ElementEntry) : Option ElementRec :=
  if unchangedElement old new n then (Map.find n records).or e.renewed else e.renewed

theorem alignElements_eq (old new : Tables) (records : Map ElementRec) : alignElements old new records =
    new.elements.filterMap (fun x => (alignedElement old new records x.1 x.2).map (fun r => (x.1, r))) := by
  unfold alignElements alignedElement
  refine congrArg (fun f => List.filterMap f new.elements) (funext fun x => ?_)
  dsimp only
  split
  · rw [Option.map_or]
  · rfl

theorem alignElements_absent {records : Map ElementRec} (h : Map.find n new.elements = none) :
    Map.find n (alignElements old new records) = none := by
  rw [alignElements_eq]
  exact Map.find_filterMap_none _ h

theorem alignElements_kept {records : Map ElementRec} {e : ElementEntry} {y : ElementRec}
    (hold : Map.find n old.elements = some e) (hnew : Map.find n new.elements = some e) (hy : Map.find n records = some y) :
    Map.find n (alignElements old new records) = some y := by
  rw [alignElements_eq]
  refine Map.find_filterMap_some _ hnew ?_
  rw [alignedElement, if_pos (unchangedElement_iff.mpr ⟨e, hold, hnew⟩), hy, Option.some_or]

theorem alignElements_new {records : Map ElementRec} {e : ElementEntry} {r : ElementRec}
    (hnew : Map.find n new.elements = some e) (hold : Map.find n old.elements ≠ some e) (hr : e.renewed = some r) :
    Map.find n (alignElements old new records) = some r := by
  rw [alignElements_eq]
  refine Map.find_filterMap_some _ hnew ?_
  rw [alignedElement, if_neg, hr]
  rintro hsame
  obtain ⟨d, hd, hd'⟩ := unchangedElement_iff.mp hsame
  obtain rfl := Option.some.inj (hd'.symm.trans hnew)
  exact hold hd

/-! ## Links -/

/-- A link's record after a commit (R145). -/
def alignedLink (old new : Tables) (records : Map LinkRec) (n : Nat) (b : BoundaryEntry) : LinkRec :=
  match Map.find n records with
  | some k => if keptLink old new n then { k with lines := Map.each (fun y => { y with late := none }) k.lines } else b.renewed
  | none => b.renewed

theorem alignLinks_eq (old new : Tables) (records : Map LinkRec) :
    alignLinks old new records = new.boundary.map (fun x => (x.1, alignedLink old new records x.1 x.2)) := by
  unfold alignLinks alignedLink
  refine congrArg (fun f => List.map f new.boundary) (funext fun x => ?_)
  dsimp only
  cases Map.find x.1 records with
  | none => rfl
  | some k =>
    dsimp only
    split <;> rfl

theorem alignLinks_find (old new : Tables) (records : Map LinkRec) (n : Nat) :
    Map.find n (alignLinks old new records) = (Map.find n new.boundary).map (alignedLink old new records n) := by
  rw [alignLinks_eq]
  exact Map.find_mapped (alignedLink old new records) n new.boundary

theorem alignedLink_kept {records : Map LinkRec} {b : BoundaryEntry} {k : LinkRec} (hnew : Map.find n new.boundary = some b)
    (hold : Map.find n old.boundary = some b) (hk : Map.find n records = some k) :
    alignedLink old new records n b = { k with lines := Map.each (fun y => { y with late := none }) k.lines } := by
  have hkept : keptLink old new n = true := by rw [keptLink, hold, hnew, beq_self_eq_true]
  simp only [alignedLink, hk, hkept, if_true]

theorem alignedLink_new {records : Map LinkRec} {b : BoundaryEntry} (hnew : Map.find n new.boundary = some b)
    (hold : Map.find n old.boundary ≠ some b) : alignedLink old new records n b = b.renewed := by
  have hkept : keptLink old new n = false := by rwa [keptLink, hnew, beq_eq_false_iff_ne]
  unfold alignedLink
  split
  · rw [hkept, if_neg Bool.false_ne_true]
  · rfl

end

/-! ## Orders of elements that are not ordered anew -/

/-- From one moment to another the orders that wait keep their places, more may stand behind them, and an element that is kept
keeps all of its record, but for a pending order that enters the queue (R55; log 18). -/
def Live.Admits (keeps : Nat → Prop) (a b : Live) : Prop :=
  ∃ added, b.queue = a.queue ++ added ∧
    ∀ n y, keeps n → Map.find n a.elements = some y → ∃ z, Map.find n b.elements = some z ∧
      z.withPending none = y.withPending none ∧ (y.pendingOrder = none → z.pendingOrder = none) ∧
      ∀ o, y.pendingOrder = some o → z.pendingOrder = some o ∨ ∃ f ∈ added, f.element = n ∧ f.order = o

namespace Live.Admits
variable {keeps : Nat → Prop} {a b c : Live}

theorem refl (keeps : Nat → Prop) (a : Live) : a.Admits keeps a :=
  ⟨[], (List.append_nil _).symm, fun _ y _ hy => ⟨y, hy, rfl, id, fun _ => .inl⟩⟩

theorem same (h : a.Admits keeps b) (helements : c.elements = b.elements) (hqueue : c.queue = b.queue) : a.Admits keeps c := by
  unfold Live.Admits
  rw [helements, hqueue]
  exact h

end Live.Admits

theorem ElementRec.withPending_withPending (o p : Option Order) (y : ElementRec) :
    (y.withPending o).withPending p = y.withPending p := by
  cases y <;> rfl

/-- The oldest pending order's admission: nothing, or the first pending order moves to the end of the queue (R55). -/
theorem Live.admitPending_first (t : Tables) (l : Live) : l.admitPending t = l ∨ ∃ n r o,
    l.elements.find? (fun x => x.2.pendingOrder.isSome) = some (n, r) ∧ r.pendingOrder = some o ∧ l.admitPending t = { l with
      queue := l.queue ++ [{ element := n, address := t.fieldAddress n, order := o }]
      elements := Map.update n (ElementRec.withPending none) l.elements } := by
  unfold Live.admitPending
  split
  · split
    · next n r hfind =>
      split
      · next o ho => exact .inr ⟨n, r, o, hfind, ho, rfl⟩
      · exact .inl rfl
    · exact .inl rfl
  · exact .inl rfl

theorem ElementRec.pendingOrder_cleared (y : ElementRec) : (y.withPending none).pendingOrder = none := by
  cases y <;> rfl

theorem Live.Admits.admitPending {keeps : Nat → Prop} {a b : Live} (h : a.Admits keeps b) (t : Tables) :
    a.Admits keeps (b.admitPending t) := by
  obtain hsame | ⟨n, r, o, hfirst, ho, heq⟩ := b.admitPending_first t
  · rwa [hsame]
  · obtain ⟨added, hqueue, hkept⟩ := h
    rw [heq]
    refine ⟨added ++ [{ element := n, address := t.fieldAddress n, order := o }], ?_, fun m y hm hy => ?_⟩
    · exact (congrArg (· ++ _) hqueue).trans (List.append_assoc ..)
    · obtain ⟨z, hz, hbare, hnone, hsome⟩ := hkept m y hm hy
      by_cases hmn : m = n
      · subst hmn
        refine ⟨z.withPending none, ?_, ?_, fun _ => z.pendingOrder_cleared, fun p hp => .inr ?_⟩
        · rw [Map.find_update_self, hz, Option.map_some]
        · rw [ElementRec.withPending_withPending, hbare]
        · obtain hz' | ⟨f, hf, hfm, hfp⟩ := hsome p hp
          · obtain rfl := Map.find_of_first (p := fun r => r.pendingOrder.isSome) hfirst hz (by rw [hz']; rfl)
            obtain rfl := Option.some.inj (ho.symm.trans hz')
            exact ⟨_, List.mem_append_right _ (List.mem_singleton_self _), rfl, rfl⟩
          · exact ⟨f, List.mem_append_left _ hf, hfm, hfp⟩
      · refine ⟨z, ?_, hbare, hnone, fun p hp => (hsome p hp).imp_right fun ⟨f, hf, hspec⟩ =>
          ⟨f, List.mem_append_left _ hf, hspec⟩⟩
        rw [Map.find_update_ne hmn, hz]

theorem Live.Admits.admitAll {keeps : Nat → Prop} {a b : Live} (h : a.Admits keeps b) (t : Tables) (k : Nat) :
    a.Admits keeps (b.admitAll t k) := by
  induction k generalizing b with
  | zero => exact h
  | succ k ih => exact ih (h.admitPending t)

/-- What placing an order for an element does to a queue whose first orders are for others (R55). -/
theorem Live.placeOrder_behind {t : Tables} {n : Nat} {o : Order} {first added : List FieldOrder} {l : Live}
    (hqueue : l.queue = first ++ added) (hfirst : ∀ x ∈ first, x.element ≠ n) :
    ∃ more, (l.placeOrder t n o).queue = first ++ more ∧ ∀ f ∈ added, f.element ≠ n → f ∈ more := by
  unfold Live.placeOrder
  split
  · refine ⟨added.map (fun x => if x.element = n then { x with order := o } else x), ?_, fun f hf hn => ?_⟩
    · have hsame : first.map (fun x => if x.element = n then { x with order := o } else x) = first :=
        (List.map_congr_left fun x hx => if_neg (hfirst x hx)).trans (List.map_id _)
      show l.queue.map _ = _
      rw [hqueue, List.map_append, hsame]
    · exact List.mem_map.mpr ⟨f, hf, if_neg hn⟩
  · split
    · exact ⟨added, hqueue, fun f hf _ => hf⟩
    · exact ⟨added ++ [{ element := n, address := t.fieldAddress n, order := o }],
        (congrArg (· ++ _) hqueue).trans (List.append_assoc ..), fun f hf _ => List.mem_append_left _ hf⟩

/-- An order of a signal that is not kept, and that no order waited for, leaves the places of the others (R55). -/
theorem Live.Admits.takeSignalOrder {keeps : Nat → Prop} {a b : Live} (h : a.Admits keeps b) {g : Nat} (hg : ¬ keeps g)
    (hfirst : ∀ x ∈ a.queue, x.element ≠ g) (e : Env) (c : Aspect) (r : SignalRec) :
    a.Admits keeps (b.takeSignalOrder e g c r) := by
  obtain ⟨added, hqueue, hkept⟩ := h
  obtain ⟨more, hmore, hstay⟩ := Live.placeOrder_behind (t := e.tables) (o := .aspect c)
    (l := b.setElement g (.signal { r with commanded := c, proving := some (e.clock + e.tables.provingTime g) })) hqueue hfirst
  refine ⟨more, hmore, fun m y hm hy => ?_⟩
  have hmg : m ≠ g := fun heq => hg (heq ▸ hm)
  obtain ⟨z, hz, hbare, hnone, hsome⟩ := hkept m y hm hy
  refine ⟨z, ?_, hbare, hnone, fun p hp => (hsome p hp).imp_right fun ⟨f, hf, hfm, hfp⟩ =>
    ⟨f, hstay f hf (hfm ▸ hmg), hfm, hfp⟩⟩
  rw [Live.takeSignalOrder, Live.placeOrder_ne hmg]
  exact (Map.find_put_ne hmg ..).trans hz

theorem Live.Admits.orderDanger {keeps : Nat → Prop} {a : Live} {e : Env} {gs : List Nat} {w : Work}
    (h : a.Admits keeps w.live) (hgs : ∀ g ∈ gs, ¬ keeps g ∧ ∀ x ∈ a.queue, x.element ≠ g) :
    a.Admits keeps (w.orderDanger e gs).live := by
  refine List.foldlRecOn gs (fun (w : Work) g => w.orderSignal e g .danger) (motive := fun v : Work => a.Admits keeps v.live) h
    fun v hv g hmem => ?_
  obtain ⟨hg, hfirst⟩ := hgs g hmem
  cases hr : v.live.signal g with
  | none => rwa [Work.orderSignal_none hr]
  | some r =>
    rw [Work.orderSignal_found hr, Work.reprove_live]
    exact (hv.takeSignalOrder hg hfirst e .danger r).same rfl rfl

end Sys2Proof.Machine
end

section
/-! PROOFS. The end of a commit's store write (Chapters 10 to 12; R41, R61, R134, R145, R160, R164, R171, R176). -/

namespace Sys2Proof.Machine

/-! ## The new watermark and the trimmed possessions -/

/-- Two moments differ in the Report Queue and in what is sent alone. -/
def Live.ReportsOnly (a b : Live) : Prop := b = { a with reports := b.reports, sent := b.sent }

theorem Live.ReportsOnly.trans {a b c : Live} (h : a.ReportsOnly b) (k : b.ReportsOnly c) : a.ReportsOnly c := by
  unfold Live.ReportsOnly at *
  rw [h] at k
  exact k

theorem Live.ReportsOnly.records {a b : Live} (h : a.ReportsOnly b) : b.slots = a.slots ∧ b.links = a.links ∧
    b.sections = a.sections ∧ b.elements = a.elements ∧ b.queue = a.queue := by
  rw [h]
  exact ⟨rfl, rfl, rfl, rfl, rfl⟩

/-- POSSESSION_TRIMMED of one possession, where sections are lost (R160). -/
def Live.trimmedReport (e : Env) (l : Live) (x : Nat × List Nat) : Live :=
  let lost := (x.2.filter (fun n => (Map.find n e.tables.sections).isNone)).length
  if lost = 0 then l else l.offer e .c .possessionTrimmed .possession x.1 (some lost)

theorem Tables.lostSections (t : Tables) (secs : List Nat) :
    secs.length - (t.keptSections secs).length = (secs.filter (fun n => (Map.find n t.sections).isNone)).length := by
  have hsum := List.length_eq_length_filter_add (l := secs) (fun n => Map.has n t.sections)
  have hnot : (fun n => !Map.has n t.sections) = fun n => (Map.find n t.sections).isNone := by
    funext n
    rw [Map.has, Option.not_isSome]
  rw [hnot] at hsum
  unfold Tables.keptSections
  omega

theorem State.trimmedOne_live {s : State} {e : Env} (hclock : e.clock = s.clock) (htables : e.tables = s.store.active)
    (x : Nat × List Nat) : (s.trimmedOne s.store.active x).live = s.live.trimmedReport e x := by
  unfold State.trimmedOne Live.trimmedReport
  dsimp only
  rw [Tables.lostSections, htables]
  split
  · rfl
  · unfold State.report Live.offer
    rw [hclock, htables]
    rfl

theorem State.reportTrimmed_live {s : State} {e : Env} (hclock : e.clock = s.clock) (htables : e.tables = s.store.active)
    (before : Map (List Nat)) : (s.reportTrimmed before).live = before.foldl (Live.trimmedReport e) s.live := by
  rw [State.reportTrimmed_eq]
  generalize hactive : s.store.active = active
  induction before generalizing s with
  | nil => rfl
  | cons x xs ih =>
    subst hactive
    rw [List.foldl_cons, List.foldl_cons, ← State.trimmedOne_live hclock htables]
    have hrest := s.trimmedOne_rest s.store.active x
    refine ih (s := s.trimmedOne s.store.active x) ?_ ?_ ?_
    · rw [hrest]; exact hclock
    · rw [hrest]; exact htables
    · rw [hrest]

/-- What a report leaves, and what it sends: at most the notice of the queue's length (R176). -/
theorem Live.trimmedReport_spec (e : Env) (l : Live) (x : Nat × List Nat) : l.ReportsOnly (l.trimmedReport e x) ∧
    ∃ rest, (l.trimmedReport e x).sent = l.sent ++ rest ∧ ∀ y ∈ rest, ∃ n, y = .reportNotice n := by
  unfold Live.trimmedReport
  dsimp only
  split
  · exact ⟨rfl, [], (List.append_nil _).symm, fun y hy => absurd hy List.not_mem_nil⟩
  · exact ⟨Live.offer_rest .., Live.offer_sends ..⟩

theorem Live.trimmedReports_spec (e : Env) (before : Map (List Nat)) (l : Live) :
    l.ReportsOnly (before.foldl (Live.trimmedReport e) l) ∧
    ∃ rest, (before.foldl (Live.trimmedReport e) l).sent = l.sent ++ rest ∧ ∀ y ∈ rest, ∃ n, y = .reportNotice n := by
  induction before generalizing l with
  | nil => exact ⟨rfl, [], (List.append_nil _).symm, fun y hy => absurd hy List.not_mem_nil⟩
  | cons x xs ih =>
    obtain ⟨honly, rest, hsent, hrest⟩ := l.trimmedReport_spec e x
    obtain ⟨honly', rest', hsent', hrest'⟩ := ih (l.trimmedReport e x)
    refine ⟨honly.trans honly', rest ++ rest', ?_, fun y hy => (List.mem_append.mp hy).elim (hrest y) (hrest' y)⟩
    rw [List.foldl_cons, hsent', hsent, List.append_assoc]

/-- The Report Queue after the reports of trimmed possessions depends on the queue before alone. -/
theorem Live.trimmedReports_congr (e : Env) (before : Map (List Nat)) {a b : Live} (h : a.reports = b.reports) :
    (before.foldl (Live.trimmedReport e) a).reports = (before.foldl (Live.trimmedReport e) b).reports := by
  induction before generalizing a b with
  | nil => exact h
  | cons x xs ih =>
    refine ih ?_
    unfold Live.trimmedReport
    dsimp only
    split
    · exact h
    · exact Live.offer_reports_congr h ..

/-- The Report Queue and what is sent once a new watermark is compared (R176). -/
theorem State.newWatermark_spec (s : State) (old : Nat) :
    let length := s.live.reports.reports.length
    let watermark := s.store.active.watermark
    let noticed := old ≠ watermark ∧ watermark ≤ length ∧ s.live.reports.armed = true
    let armed := if old ≠ watermark ∧ length < watermark then true else if noticed then false else s.live.reports.armed
    (s.newWatermark old).live = { s.live with
      reports := { s.live.reports with armed := armed }
      sent := s.live.sent ++ (if noticed then [.reportNotice length] else []) } := by
  intro length watermark noticed armed
  unfold State.newWatermark Live.compareWatermark Live.noticeReports
  dsimp only
  by_cases hsame : old = watermark
  · have hno : ¬ noticed := fun h => h.1 hsame
    rw [if_pos hsame, if_neg hno, List.append_nil, show armed = s.live.reports.armed from
      (if_neg fun h => h.1 hsame).trans (if_neg hno)]
  · rw [if_neg hsame]
    by_cases hbelow : length < watermark
    · have hno : ¬ noticed := fun h => absurd h.2.1 (Nat.not_le.mpr hbelow)
      rw [if_pos hbelow, if_neg hno, List.append_nil, show armed = true from if_pos ⟨hsame, hbelow⟩]
    · have habove : ¬ (old ≠ watermark ∧ length < watermark) := fun h => hbelow h.2
      rw [if_neg hbelow]
      by_cases hnoticed : noticed
      · have hcond : (s.live.reports.armed && decide (watermark ≤ length)) = true := by
          rw [hnoticed.2.2, decide_eq_true hnoticed.2.1]
          rfl
        rw [if_pos hnoticed, if_pos hcond, show armed = false from (if_neg habove).trans (if_pos hnoticed)]
      · have hcond : ¬ (s.live.reports.armed && decide (watermark ≤ length)) = true := fun h => by
          rw [Bool.and_eq_true, decide_eq_true_eq] at h
          exact hnoticed ⟨hsame, h.2, h.1⟩
        rw [if_neg hnoticed, if_neg hcond, List.append_nil, show armed = s.live.reports.armed from
          (if_neg habove).trans (if_neg hnoticed)]

/-! ## The moments of a commit -/

section
variable {s : State} {tag n : Nat}

/-- The records once the new watermark is compared and the trimmed possessions are reported (R160, R176). -/
def State.commitTrimmed (s : State) : State :=
  (s.activates.newWatermark s.store.active.watermark).reportTrimmed s.possessions

/-- The records once the new signals are ordered DANGER (R61). -/
def State.commitOrdered (s : State) : State :=
  s.commitTrimmed.doing (fun e w => w.orderDanger e (newSignals s.store.active e.tables))

/-- The records once the new links are sent their first PRESENCE (R134). -/
def State.commitPresented (s : State) : Live :=
  { s.commitOrdered.live with sent := s.commitOrdered.live.sent ++
      (newLinks s.store.active s.store.staging s.commitOrdered.live.links).flatMap s.commitOrdered.presenceOn }

/-- The records once MODE_CHANGED is queued, from FAILED (R164). -/
def State.opened (u : State) (l : Live) : Live :=
  if u.mode = .failed then l.offer u.env .c .modeChanged .table 0 (some 1) else l

/-- The records once TABLES_COMMITTED is queued (R171). -/
def State.commitReported (s : State) : Live :=
  (s.activates.opened s.commitPresented).offer s.activates.env .c .tablesCommitted .table 0 (some (s.store.version + 1).toNat)

theorem State.commitTrimmed_rest : s.commitTrimmed = { s.activates with live := s.commitTrimmed.live } := by
  unfold State.commitTrimmed
  rw [State.reportTrimmed_rest, State.newWatermark_rest]

theorem State.commitOrdered_rest : s.commitOrdered = { s.activates with live := s.commitOrdered.live } := by
  unfold State.commitOrdered State.doing State.finish
  rw [State.commitTrimmed_rest]

/-- Two states that differ in their records alone. -/
theorem State.replaceLive {t u : State} (h : t = { u with live := t.live }) (l : Live) :
    { t with live := l } = { u with live := l } := by
  rw [h]

theorem State.committed_eq (u : State) (l : Live) : State.committed tag { u with live := l } = { u with
    mode := if u.mode = .failed then .suspended else u.mode
    live :=
      let reported := (u.opened l).offer u.env .c .tablesCommitted .table 0 (some u.store.version.toNat)
      { reported with sent := reported.sent ++ [detailAnswer tag 19 .done u.store.version.toNat] } } := by
  unfold State.committed State.opened
  by_cases hfailed : u.mode = .failed
  · have hmode : ({ u with live := l } : State).mode = .failed := hfailed
    rw [if_pos hmode, if_pos hfailed, if_pos hfailed]
    rfl
  · have hmode : ¬ ({ u with live := l } : State).mode = .failed := hfailed
    rw [if_neg hmode, if_neg hfailed, if_neg hfailed]
    rfl

theorem State.commits_eq : s.commits tag = { s.activates with
    mode := if s.mode = .failed then .suspended else s.mode
    live := { s.commitReported with
      sent := s.commitReported.sent ++ [detailAnswer tag 19 .done (s.store.version + 1).toNat] } } := by
  have hpresented : s.commitOrdered.presents (newLinks s.store.active s.store.staging s.commitOrdered.live.links) =
      { s.activates with live := s.commitPresented } := by
    rw [← State.replaceLive State.commitOrdered_rest, State.commitPresented, ← State.presents_live]
    rfl
  have hactive : s.commitOrdered.store.active = s.store.staging := by rw [State.commitOrdered_rest]; rfl
  have hcommits : s.commits tag =
      (s.commitOrdered.presents (newLinks s.store.active s.commitOrdered.store.active s.commitOrdered.live.links)).committed tag := by
    unfold State.commits State.commitOrdered State.commitTrimmed
    rfl
  rw [hcommits, hactive, hpresented]
  exact State.committed_eq s.activates s.commitPresented

/-! ## What stands through a commit -/

theorem State.opened_spec (u : State) (l : Live) : l.ReportsOnly (u.opened l) ∧
    ∃ rest, (u.opened l).sent = l.sent ++ rest ∧ ∀ y ∈ rest, ∃ n, y = .reportNotice n := by
  unfold State.opened
  split
  · exact ⟨Live.offer_rest .., Live.offer_sends ..⟩
  · exact ⟨rfl, [], (List.append_nil _).symm, fun y hy => absurd hy List.not_mem_nil⟩

theorem State.commitReported_spec : s.commitPresented.ReportsOnly s.commitReported ∧
    ∃ rest, s.commitReported.sent = s.commitPresented.sent ++ rest ∧ ∀ y ∈ rest, ∃ n, y = .reportNotice n := by
  obtain ⟨hopened, rest, hsent, hrest⟩ := s.activates.opened_spec s.commitPresented
  obtain ⟨rest', hsent', hrest'⟩ := Live.offer_sends s.activates.env .c .tablesCommitted .table 0
    (some (s.store.version + 1).toNat) (s.activates.opened s.commitPresented)
  refine ⟨hopened.trans (Live.offer_rest ..), rest ++ rest', ?_, fun y hy => (List.mem_append.mp hy).elim (hrest y) (hrest' y)⟩
  rw [State.commitReported, hsent', hsent, List.append_assoc]

theorem Live.ReportsOnly.unmeasured {a b : Live} (h : a.ReportsOnly b) : a.Unmeasured b := by
  rw [h]
  exact .of_eq rfl rfl rfl

theorem Live.ReportsOnly.keepsElement {a b : Live} (h : a.ReportsOnly b) (k : Nat) : a.KeepsElement k b := by
  rw [h]
  exact .of_same rfl rfl

theorem State.commitTrimmed_only : s.activates.live.ReportsOnly s.commitTrimmed.live := by
  have hmarked : s.activates.live.ReportsOnly (s.activates.newWatermark s.store.active.watermark).live := by
    rw [State.newWatermark_spec]
    rfl
  refine hmarked.trans ?_
  rw [State.commitTrimmed, State.reportTrimmed_live (e := (s.activates.newWatermark s.store.active.watermark).env) rfl rfl]
  exact (Live.trimmedReports_spec ..).1

/-- The records of the activation, brought into line but for the pending orders admitted and the line-clear flags. -/
def State.alignedLive (s : State) : Live := s.live.aligned s.store.active s.store.staging (s.store.staging.trim s.possessions)

theorem State.commitReported_unmeasured : s.alignedLive.Unmeasured s.commitReported := by
  have hactivated : s.alignedLive.Unmeasured s.activates.live := Evolves.unmeasured (e := s.activates.env)
    (Live.align_evolves s.store.active (s.store.staging.trim s.possessions) s.live)
  have hordered : s.commitTrimmed.live.Unmeasured s.commitOrdered.live :=
    (Work.orderDanger_unmeasured (w := s.commitTrimmed.work)).trans (Work.finish_unmeasured _ _)
  have hpresented : s.commitOrdered.live.Unmeasured s.commitPresented := .of_eq rfl rfl rfl
  exact (((hactivated.trans State.commitTrimmed_only.unmeasured).trans hordered).trans hpresented).trans
    State.commitReported_spec.1.unmeasured

/-- Every new signal is ordered DANGER at a commit (R61). -/
theorem State.commitReported_dark {e : ElementEntry} {time : Nat} (hnew : Map.find n s.store.staging.elements = some e)
    (hold : Map.find n s.store.active.elements ≠ some e) (hbody : e.body = .signal time) :
    s.commitReported.Dark s.commitTrimmed.env n := by
  have htables : s.commitTrimmed.env.tables = s.store.staging := by rw [State.commitTrimmed_rest]; rfl
  have hsignal : s.store.staging.isSignal n = true := Tables.isSignal_iff.mpr ⟨e, time, hnew, hbody⟩
  have hactivated : s.alignedLive.Unmeasured s.commitTrimmed.live := (Evolves.unmeasured (e := s.activates.env)
    (Live.align_evolves s.store.active (s.store.staging.trim s.possessions) s.live)).trans State.commitTrimmed_only.unmeasured
  have haligned : s.alignedLive.signal n = some SignalRec.renewed :=
    Live.signal_some.mpr (alignElements_new hnew hold (ElementEntry.renewed_signal hbody))
  obtain ⟨z, hz, hsupervised, hproven⟩ := hactivated.signal haligned
  have hamong : n ∈ newSignals s.store.active s.commitTrimmed.env.tables := by
    rw [htables]
    refine List.mem_filter.mpr ⟨Tables.mem_signals_iff.mpr hsignal, ?_⟩
    rw [Bool.not_eq_true', ← Bool.not_eq_true, unchangedElement_iff]
    rintro ⟨d, hd, hd'⟩
    obtain rfl := Option.some.inj (hd'.symm.trans hnew)
    exact hold hd
  have hdark : Work.Dark s.commitTrimmed.env n (s.commitTrimmed.work.orderDanger s.commitTrimmed.env
      (newSignals s.store.active s.commitTrimmed.env.tables)) :=
    Work.orderDanger_dark hamong hz hsupervised hproven fun c hc => absurd hc List.not_mem_nil
  have hordered : s.commitOrdered.live.Dark s.commitTrimmed.env n := hdark.finish (by rw [htables]; exact hsignal)
  have hpresented : s.commitPresented.Dark s.commitTrimmed.env n := hordered.keeps (.of_same rfl rfl)
  exact hpresented.keeps (State.commitReported_spec.1.keepsElement n)

/-! ## With no slot in use -/

theorem Live.admitAll_rest (t : Tables) (k : Nat) (l : Live) :
    l.admitAll t k = { l with queue := (l.admitAll t k).queue, elements := (l.admitAll t k).elements } := by
  induction k generalizing l with
  | zero => rfl
  | succ k ih =>
    have hnext := ih (l.admitPending t)
    rw [Live.admitPending_rest] at hnext
    rw [Live.admitAll, Live.admitPending_rest]
    exact hnext

theorem State.activates_live :
    s.activates.live = (s.alignedLive.admitAll s.store.staging Config.orderPlaces).formLineFlags s.store.staging := rfl

theorem State.activates_rest : s.activates.live.slots = s.live.slots ∧ s.activates.live.reports = s.live.reports ∧
    s.activates.live.sent = s.live.sent := by
  have hrest := Live.admitAll_rest s.store.staging Config.orderPlaces s.alignedLive
  rw [State.activates_live, hrest]
  exact ⟨rfl, rfl, rfl⟩

theorem State.commitOrdered_slotless (hslots : s.live.slots = []) : s.commitOrdered.live =
    (s.commitTrimmed.work.orderDanger s.commitTrimmed.env (newSignals s.store.active s.commitTrimmed.env.tables)).live := by
  have hidle : s.commitTrimmed.live.slots = [] := by
    obtain ⟨hsame, -⟩ := (State.commitTrimmed_only (s := s)).records
    exact hsame.trans (State.activates_rest.1.trans hslots)
  exact congrArg State.live (State.doing_orderDanger hidle)

/-- The orders of kept elements keep their places through a commit (R55, R61; log 18). -/
theorem State.commitReported_admits (hslots : s.live.slots = []) :
    s.alignedLive.Admits (fun n => unchangedElement s.store.active s.store.staging n = true) s.commitReported := by
  have hactivated : s.alignedLive.Admits (fun n => unchangedElement s.store.active s.store.staging n = true) s.activates.live := by
    rw [State.activates_live]
    exact ((Live.Admits.refl _ _).admitAll s.store.staging Config.orderPlaces).same (Live.formLineFlags_elements ..)
      (Live.formLineFlags_queue ..)
  have htrimmed : s.alignedLive.Admits (fun n => unchangedElement s.store.active s.store.staging n = true)
      s.commitTrimmed.live := by
    obtain ⟨-, -, -, helements, hqueue⟩ := (State.commitTrimmed_only (s := s)).records
    exact hactivated.same helements hqueue
  have hordered : s.alignedLive.Admits (fun n => unchangedElement s.store.active s.store.staging n = true)
      s.commitOrdered.live := by
    rw [State.commitOrdered_slotless hslots]
    refine Live.Admits.orderDanger (w := s.commitTrimmed.work) htrimmed fun g hg => ?_
    have htables : s.commitTrimmed.env.tables = s.store.staging := by rw [State.commitTrimmed_rest]; rfl
    rw [htables] at hg
    have hchanged : ¬ unchangedElement s.store.active s.store.staging g = true := by
      simpa using (List.mem_filter.mp hg).2
    refine ⟨hchanged, fun x hx hxg => hchanged ?_⟩
    rw [← hxg]
    exact (List.mem_filter.mp hx).2
  have hpresented : s.alignedLive.Admits (fun n => unchangedElement s.store.active s.store.staging n = true)
      s.commitPresented := hordered.same rfl rfl
  obtain ⟨-, -, -, helements, hqueue⟩ := (State.commitReported_spec (s := s)).1.records
  exact hpresented.same helements hqueue

end

end Sys2Proof.Machine
end

section
/-! PROOFS. STORE_WRITE_DONE (Chapter 10; R171): the reports and what is sent, and O48. -/

namespace Sys2Proof.Machine

section
variable {s : State} {tag : Nat}

theorem Tables.trim_eq (t : Tables) (possessions : Map (List Nat)) : t.trim possessions =
    (possessions.map (fun x => (x.1, x.2.filter (fun n => (Map.find n t.sections).isSome)))).filter (fun x => x.2 ≠ []) := by
  refine List.filter_congr fun x _ => ?_
  cases x.2 <;> rfl

theorem State.alignedLive_section (n : Nat) : s.alignedLive.sectionAt n = (Map.find n s.store.staging.sections).map (fun _ =>
    alignedSection s.store.active s.store.staging (s.store.staging.trim s.possessions) s.live.sections n) :=
  alignSections_find ..

theorem State.alignedLive_link (n : Nat) : Map.find n s.alignedLive.links =
    (Map.find n s.store.staging.boundary).map (alignedLink s.store.active s.store.staging s.live.links n) :=
  alignLinks_find ..

theorem State.alignedLive_kept {n : Nat} {y : ElementRec}
    (h : ∃ e, Map.find n s.store.active.elements = some e ∧ Map.find n s.store.staging.elements = some e)
    (hy : Map.find n s.live.elements = some y) : Map.find n s.alignedLive.elements = some y := by
  obtain ⟨e, hold, hnew⟩ := h
  exact alignElements_kept hold hnew hy

/-- The Report Queue and what is sent once the watermark of a commit is compared (R176). -/
theorem State.commit_marked (s : State) :
    let length := s.live.reports.reports.length
    let another := s.store.active.watermark ≠ s.store.staging.watermark
    let noticed := another ∧ s.store.staging.watermark ≤ length ∧ s.live.reports.armed = true
    let armed := if another ∧ length < s.store.staging.watermark then true else if noticed then false else s.live.reports.armed
    let marked := (s.activates.newWatermark s.store.active.watermark).live
    marked.reports = { s.live.reports with armed := armed } ∧
      marked.sent = s.live.sent ++ (if noticed then [.reportNotice length] else []) := by
  obtain ⟨-, hreports, hsent⟩ := State.activates_rest (s := s)
  have hmarked := State.newWatermark_spec s.activates s.store.active.watermark
  rw [hreports, hsent] at hmarked
  exact ⟨congrArg Live.reports hmarked, congrArg Live.sent hmarked⟩

/-- A report depends on the clock and the tables of a step alone (R175, R176). -/
theorem Live.offer_env {e f : Env} (hclock : e.clock = f.clock) (htables : e.tables = f.tables) (cls : ReportClass)
    (code : ReportCode) (kind : SubjectKind) (number : Nat) (detail : Option Nat) (l : Live) :
    l.offer e cls code kind number detail = l.offer f cls code kind number detail := by
  unfold Live.offer
  rw [hclock, htables]

/-- The reports of a commit, in their order (R160, R164, R171; log 26). -/
theorem State.commitReported_reports (hslots : s.live.slots = []) {e : Env} {compared : Live}
    (hclock : e.clock = s.clock) (htables : e.tables = s.store.staging)
    (hcompared : compared.reports = (s.activates.newWatermark s.store.active.watermark).live.reports) :
    let trimmed := s.possessions.foldl (Live.trimmedReport e) compared
    let moded := if s.mode = .failed then trimmed.offer e .c .modeChanged .table 0 (some 1) else trimmed
    s.commitReported.reports = (moded.offer e .c .tablesCommitted .table 0 (some (s.store.version + 1).toNat)).reports := by
  intro trimmed moded
  have hordered : s.commitPresented.reports = (s.possessions.foldl (Live.trimmedReport e) compared).reports := by
    have hrest : s.commitOrdered.live.reports = s.commitTrimmed.live.reports := by
      rw [State.commitOrdered_slotless hslots, Work.orderDanger_rest]
      rfl
    have htrimmed : s.commitTrimmed.live = s.possessions.foldl (Live.trimmedReport e)
        (s.activates.newWatermark s.store.active.watermark).live := by
      refine State.reportTrimmed_live ?_ ?_ s.possessions
      · rw [State.newWatermark_rest]; exact hclock
      · rw [State.newWatermark_rest]; exact htables
    refine (show s.commitPresented.reports = s.commitOrdered.live.reports from rfl).trans (hrest.trans ?_)
    rw [htrimmed]
    exact Live.trimmedReports_congr e s.possessions hcompared.symm
  have hopened : s.activates.opened s.commitPresented =
      if s.mode = .failed then s.commitPresented.offer e .c .modeChanged .table 0 (some 1) else s.commitPresented := by
    unfold State.opened
    rw [Live.offer_env (e := s.activates.env) (f := e) hclock.symm htables.symm]
    rfl
  have hmoded : (s.activates.opened s.commitPresented).reports = moded.reports := by
    rw [hopened]
    show _ = (if s.mode = .failed then _ else _ : Live).reports
    split
    · exact Live.offer_reports_congr hordered ..
    · exact hordered
  rw [State.commitReported, Live.offer_env (e := s.activates.env) (f := e) hclock.symm htables.symm]
  exact Live.offer_reports_congr hmoded ..

/-- What a commit sends before its answer (R134, R176). -/
theorem State.commitReported_sent (hslots : s.live.slots = []) : ∃ a b,
    s.commitReported.sent = (s.activates.newWatermark s.store.active.watermark).live.sent ++ a ++
      (s.commitReported.links.filter fun k =>
        Map.find k.1 s.store.active.boundary != Map.find k.1 s.store.staging.boundary).flatMap
        (State.presenceOn { s.activates with live := s.commitReported }) ++ b ∧
      ∀ x ∈ a ++ b, ∃ n, x = .reportNotice n := by
  obtain ⟨-, a, htrimmed, ha⟩ := Live.trimmedReports_spec (s.activates.newWatermark s.store.active.watermark).env s.possessions
    (s.activates.newWatermark s.store.active.watermark).live
  obtain ⟨honly, b, hreported, hb⟩ := State.commitReported_spec (s := s)
  obtain ⟨-, hlinks, hsections, helements, -⟩ := honly.records
  have hordered : s.commitOrdered.live.sent = s.commitTrimmed.live.sent := by
    rw [State.commitOrdered_slotless hslots, Work.orderDanger_rest]
    rfl
  have hpresence : State.presenceOn { s.activates with live := s.commitReported } = s.commitOrdered.presenceOn := by
    refine State.presenceOn_congr ?_ ?_ hsections helements hlinks
    · rw [State.commitOrdered_rest]
    · rw [State.commitOrdered_rest]
  refine ⟨a, b, ?_, fun x hx => (List.mem_append.mp hx).elim (ha x) (hb x)⟩
  rw [hpresence, hlinks, hreported, ← htrimmed, ← State.reportTrimmed_live rfl rfl]
  exact congrArg (fun sent => sent ++ _ ++ b) hordered

/-! ## The state at the end -/

theorem State.commits_live : (s.commits tag).live = { s.commitReported with
    sent := s.commitReported.sent ++ [detailAnswer tag 19 .done (s.store.version + 1).toNat] } := by
  rw [State.commits_eq]

theorem State.commits_store : (s.commits tag).store = { s.store with
    active := s.store.staging, version := s.store.version + 1, marks := Marks.unchanged, amendment := [], commit := none } := by
  rw [State.commits_eq]
  rfl

theorem State.commits_possessions : (s.commits tag).possessions = s.store.staging.trim s.possessions := by
  rw [State.commits_eq]
  rfl

theorem State.commits_unmeasured : s.alignedLive.Unmeasured (s.commits tag).live := by
  rw [State.commits_live]
  exact State.commitReported_unmeasured.trans (.of_eq rfl rfl rfl)

theorem State.commits_dark {e : ElementEntry} {n time : Nat} (hnew : Map.find n s.store.staging.elements = some e)
    (hold : Map.find n s.store.active.elements ≠ some e) (hbody : e.body = .signal time) :
    (s.commits tag).live.Dark s.commitTrimmed.env n := by
  rw [State.commits_live]
  exact (State.commitReported_dark hnew hold hbody).keeps (.of_same rfl rfl)

theorem State.commits_admits (hslots : s.live.slots = []) :
    s.alignedLive.Admits (fun n => unchangedElement s.store.active s.store.staging n = true) (s.commits tag).live := by
  rw [State.commits_live]
  exact (State.commitReported_admits hslots).same rfl rfl

/-- What a commit sends (R134, R171, R176; logs 6, 26). -/
theorem State.commits_sent (hslots : s.live.slots = []) :
    let length := s.live.reports.reports.length
    let noticed := s.store.active.watermark ≠ s.store.staging.watermark ∧ s.store.staging.watermark ≤ length ∧
      s.live.reports.armed = true
    ∃ a b, (s.commits tag).live.sent = s.live.sent ++ (if noticed then [.reportNotice length] else []) ++ a ++
      ((s.commits tag).live.links.filter fun k =>
        Map.find k.1 s.store.active.boundary != Map.find k.1 s.store.staging.boundary).flatMap (s.commits tag).presenceOn ++ b ∧
      ∀ x ∈ a ++ b, ∀ port, x.port ≠ .boundary port := by
  intro length noticed
  obtain ⟨-, hmarked⟩ := s.commit_marked
  obtain ⟨a, b, hsent, hnotices⟩ := State.commitReported_sent hslots
  have hpresence : (s.commits tag).presenceOn = State.presenceOn { s.activates with live := s.commitReported } := by
    refine State.presenceOn_congr ?_ ?_ ?_ ?_ ?_ <;> rw [State.commits_eq]
  refine ⟨a, b ++ [detailAnswer tag 19 .done (s.store.version + 1).toNat], ?_, fun x hx => ?_⟩
  · rw [hpresence, State.commits_live, ← hmarked, ← List.append_assoc _ b, ← hsent]
  · rw [← List.append_assoc] at hx
    obtain hx | hx := List.mem_append.mp hx
    · obtain ⟨n, rfl⟩ := hnotices x hx
      exact nofun
    · rw [List.mem_singleton.mp hx]
      exact nofun

end

/-- Settles O48: the records are brought into line by the tables before and after; what the orders and the reports of the commit
then do is what each does alone. -/
theorem storeWriteActivates : Obligations.StoreWriteActivates := by
  refine fun s hpower => ⟨fun hidle => ?_, fun c hcommit hphase => ?_⟩
  · refine (event_on storeWriteEnds s hpower).trans ?_
    unfold storeWriteEnds
    split
    · next hcommit => exact absurd rfl (hidle _ hcommit)
    · rfl
  · have hrun : exec .storeWriteDone s = .next (s.commits c.tag) := by
      refine (event_on storeWriteEnds s hpower).trans ?_
      obtain ⟨tag, word, phase⟩ := c
      obtain rfl : phase = .storeWrite := hphase
      rw [storeWriteEnds, hcommit]
    have hmeasured := State.commits_unmeasured (s := s) (tag := c.tag)
    have hpossessions := State.commits_possessions (s := s) (tag := c.tag)
    refine ⟨s.commits c.tag, hrun, State.commits_store, ?_, hpossessions.trans (Tables.trim_eq ..), ?_, ?_, ?_, fun n hn => ?_,
      fun n b hb => ⟨fun r hkept hr => ?_, fun hnew => ?_⟩, fun n hn => ?_,
      fun n e r he hr => ⟨fun y hold hy => ?_, fun hold => ⟨?_, fun time hbody => ?_⟩⟩, fun n hn => ?_,
      fun n b hb => ⟨fun k hold hk => ?_, fun hold => ?_⟩, ?_,
      fun hslots => ⟨?_, fun n e time he hnot hbody => ?_, ?_, State.commits_sent hslots⟩⟩
    · rw [State.commits_eq]
      rfl
    · rw [State.commits_eq]
    · rw [State.commits_eq]
      rfl
    · rw [State.commits_live]
      exact List.getLast?_concat
    · exact (hmeasured.counts n).trans (by rw [State.alignedLive_section, hn]; rfl)
    · have hcounted := hmeasured.counts n
      rw [State.alignedLive_section, hb, Option.map_some, alignedSection_kept ((keptSection_iff hb).mpr hkept) hr] at hcounted
      refine ⟨fun hshared => hcounted.trans ?_, fun hshared => hcounted.trans ?_⟩
      · rw [if_neg fun h => hshared (Tables.isShared_iff.mp h), hpossessions]
        rfl
      · rw [if_pos (Tables.isShared_iff.mpr hshared), hpossessions]
        rfl
    · refine (hmeasured.counts n).trans ?_
      rw [State.alignedLive_section, hb, Option.map_some, alignedSection_new (hnew.imp_left (mt (keptSection_iff hb).mp)),
        hpossessions]
      rfl
    · exact (hmeasured.reported n).trans (congrArg _ (alignElements_absent hn))
    · exact (hmeasured.reported n).trans (congrArg _ (alignElements_kept hold he hy))
    · exact (hmeasured.reported n).trans (congrArg _ (alignElements_new he hold hr))
    · obtain ⟨⟨z, hz, -, -, hcommanded, hproving⟩, -⟩ := State.commits_dark (tag := c.tag) he hold hbody
      refine ⟨z, hz, hcommanded, hproving.trans ?_⟩
      rw [State.commitTrimmed_rest]
      exact congrArg (fun time => some (s.clock + time)) (Tables.provingTime_of_signal he hbody)
    · exact (hmeasured.agreed n).trans (by rw [State.alignedLive_link, hn]; rfl)
    · exact (hmeasured.agreed n).trans (by rw [State.alignedLive_link, hb, Option.map_some, alignedLink_kept hb hold hk]; rfl)
    · exact (hmeasured.agreed n).trans (by rw [State.alignedLive_link, hb, Option.map_some, alignedLink_new hb hold]; rfl)
    · rw [State.commits_eq]
      rfl
    · obtain ⟨added, hqueue, hkept⟩ := State.commits_admits (tag := c.tag) hslots
      exact ⟨added, hqueue, fun n y hn hy => hkept n y (unchangedElement_iff.mpr hn) (State.alignedLive_kept hn hy)⟩
    · exact (State.commits_dark he (fun hold => hnot ⟨e, hold, he⟩) hbody).waits
    · obtain ⟨hmarked, -⟩ := s.commit_marked
      rw [State.commits_live]
      exact State.commitReported_reports (e := { s.env with tables := s.store.staging })
        (compared := { s.live with reports := _ }) hslots rfl rfl hmarked.symm

end Sys2Proof.Machine
end

section
/-! PROOFS. What a slot holds, through the work on that slot and on others (Chapters 5 to 7; R77 to R79, R98, R110, R119): the
work on a slot reads and writes what that slot holds, and nothing of another. -/

namespace Sys2Proof.Machine

/-! ## Two states in which a slot holds the same -/

section
variable {e : Env} {m n : Nat} {a b c l : Live}

theorem Live.HoldsAlike.refl (n : Nat) (a : Live) : a.HoldsAlike n a :=
  ⟨fun _ _ => .rfl, fun _ _ => .rfl, fun _ => .rfl, rfl⟩

theorem Live.HoldsAlike.symm (h : a.HoldsAlike n b) : b.HoldsAlike n a := by
  obtain ⟨hsections, hpoints, hsignals, hclaims⟩ := h
  exact ⟨fun sec role => (hsections sec role).symm, fun p q => (hpoints p q).symm, fun g => (hsignals g).symm, hclaims.symm⟩

theorem Live.HoldsAlike.trans (h : a.HoldsAlike n b) (k : b.HoldsAlike n c) : a.HoldsAlike n c := by
  obtain ⟨hsections, hpoints, hsignals, hclaims⟩ := h
  obtain ⟨ksections, kpoints, ksignals, kclaims⟩ := k
  exact ⟨fun sec role => (hsections sec role).trans (ksections sec role), fun p q => (hpoints p q).trans (kpoints p q),
    fun g => (hsignals g).trans (ksignals g), hclaims.trans kclaims⟩

theorem Live.HoldsAlike.of_same (hsections : a.sections = b.sections) (helements : a.elements = b.elements)
    (hclaims : a.claims = b.claims) : a.HoldsAlike n b := by
  unfold Live.HoldsAlike Live.holder Live.sectionAt Live.point Live.signal
  rw [hsections, helements, hclaims]
  exact ⟨fun _ _ => .rfl, fun _ _ => .rfl, fun _ => .rfl, rfl⟩

/-- What stands for every slot, stands for each. -/
theorem Live.HoldingsStand.alike (h : a.HoldingsStand m b) (n : Nat) : b.HoldsAlike n a := by
  obtain ⟨hsections, hclaims, hpoints, hsignals, -⟩ := h
  refine ⟨fun sec role => ?_, fun p q => ?_, fun g => ?_, ?_⟩
  · rw [Live.holder_congr hsections]
  · have hp := hpoints p
    cases hb : b.point p <;> cases ha : a.point p <;> simp_all
  · have hg := hsignals g
    cases hb : b.signal g <;> cases ha : a.signal g <;> simp_all
  · have hfilter (cs : List Claim) : (cs.filter (fun c => c.slot == n)).map Claim.unproved =
        (cs.map Claim.unproved).filter (fun c => c.slot == n) := by
      rw [List.filter_map]
      rfl
    rw [hfilter, hfilter, hclaims]

theorem Live.HoldsNothing.claims_nil (h : a.HoldsNothing n) : a.claims.filter (fun c => c.slot == n) = [] := by
  obtain ⟨-, -, -, hclaims⟩ := h
  exact List.filter_eq_nil_iff.mpr fun c hc => by simpa using hclaims c hc

theorem Live.HoldsNothing.alike (ha : a.HoldsNothing n) (hb : b.HoldsNothing n) : a.HoldsAlike n b := by
  have hclaims := ha.claims_nil.trans hb.claims_nil.symm
  obtain ⟨hsections, hpoints, hsignals, -⟩ := ha
  obtain ⟨ksections, kpoints, ksignals, -⟩ := hb
  exact ⟨fun sec role => iff_of_false (hsections sec role) (ksections sec role),
    fun p q => iff_of_false (hpoints p q) (kpoints p q), fun g => iff_of_false (hsignals g) (ksignals g),
    congrArg (List.map _) hclaims⟩

theorem Live.HoldsAlike.nothing (h : b.HoldsAlike n a) (ha : a.HoldsNothing n) : b.HoldsNothing n := by
  have hnil := ha.claims_nil
  obtain ⟨hsections, hpoints, hsignals, -⟩ := ha
  obtain ⟨ksections, kpoints, ksignals, kclaims⟩ := h
  refine ⟨fun sec role => mt (ksections sec role).mp (hsections sec role), fun p q => mt (kpoints p q).mp (hpoints p q),
    fun g => mt (ksignals g).mp (hsignals g), fun c hc hn => ?_⟩
  rw [hnil, List.map_nil, List.map_eq_nil_iff, List.filter_eq_nil_iff] at kclaims
  exact kclaims c hc (by simpa using hn)

/-! ## What is given back -/

/-- The lock of a slot goes where it is given back. -/
theorem lock_given {α : Type} (lock : Option (Nat × α)) (m n : Nat) (x : α) (given : Prop) [Decidable given] :
    (if given ∧ lock.map (fun k => k.1) = some m then none else lock) = some (n, x) ↔
      lock = some (n, x) ∧ ¬ (m = n ∧ given) := by
  cases lock with
  | none => simp
  | some k =>
    obtain ⟨j, y⟩ := k
    by_cases hg : given <;> by_cases hj : j = m <;> simp [hg, hj]
    · rintro rfl
      tauto
    · rintro rfl -
      exact fun hm => hj hm.symm

theorem Live.emptySlot_holder (t : Tables) (m n sec : Nat) (role : Role) (l : Live) :
    (l.emptySlot t m).holder sec = some (n, role) ↔ l.holder sec = some (n, role) ∧ m ≠ n := by
  have hlock := lock_given (l.holder sec) m n role True
  simp only [true_and, and_true] at hlock
  rw [Live.holder, Live.emptySlot_sectionAt, ← hlock, Live.holder]
  cases l.sectionAt sec with
  | none => simp
  | some y =>
    simp only [Option.map_some, Option.bind_some]
    split <;> rfl

theorem Live.emptySlot_holdsNothing (t : Tables) (n : Nat) (l : Live) : (l.emptySlot t n).HoldsNothing n := by
  refine ⟨fun sec role h => ((Live.emptySlot_holder t n n sec role l).mp h).2 rfl, fun p q => ?_, fun g => ?_, fun c hc => ?_⟩
  · have hfind := Live.emptySlot_emptied t n p l
    unfold Live.point
    rw [hfind]
    cases Map.find p l.elements with
    | none => simp
    | some y =>
      cases y with
      | point z =>
        simp only [Option.map_some, ElementRec.emptied, Option.bind_some]
        split
        · exact nofun
        · next h => exact fun hz => h (by rw [hz]; rfl)
      | signal z => simp [ElementRec.emptied]
      | head z => simp [ElementRec.emptied]
  · have hfind := Live.emptySlot_emptied t n g l
    unfold Live.signal
    rw [hfind]
    cases Map.find g l.elements with
    | none => simp
    | some y =>
      cases y with
      | signal z =>
        simp only [Option.map_some, ElementRec.emptied, Option.bind_some]
        split
        · exact nofun
        · next h => exact h
      | point z => simp [ElementRec.emptied]
      | head z => simp [ElementRec.emptied]
  · simpa using (List.mem_filter.mp hc).2

/-- The emptying of a slot leaves what another holds (R119). -/
theorem Live.emptySlot_alike (hm : m ≠ n) (t : Tables) (l : Live) : (l.emptySlot t m).HoldsAlike n l := by
  refine ⟨fun sec role => ?_, fun p q => ?_, fun g => ?_, ?_⟩
  · rw [Live.emptySlot_holder]
    exact and_iff_left hm
  · have hfind := Live.emptySlot_emptied t m p l
    unfold Live.point
    rw [hfind]
    cases Map.find p l.elements with
    | none => rfl
    | some y =>
      cases y with
      | point z =>
        have hlock := lock_given z.routeLock m n q True
        simp only [true_and, and_true] at hlock
        simp only [Option.map_some, ElementRec.emptied, Option.bind_some]
        rw [← and_iff_left_of_imp (fun _ => hm) (a := z.routeLock = some (n, q)), ← hlock]
        split <;> rfl
      | signal z => rfl
      | head z => rfl
  · have hfind := Live.emptySlot_emptied t m g l
    unfold Live.signal
    rw [hfind]
    cases Map.find g l.elements with
    | none => rfl
    | some y =>
      cases y with
      | signal z =>
        simp only [Option.map_some, ElementRec.emptied, Option.bind_some]
        split
        · next h =>
          rw [h]
          exact iff_of_false nofun fun h => hm (Option.some.inj h)
        · rfl
      | point z => rfl
      | head z => rfl
  · rw [Live.emptySlot_claims, List.filter_filter]
    refine congrArg (List.map _) (List.filter_congr fun c _ => ?_)
    by_cases hc : c.slot = n
    · simp [hc, hm.symm]
    · simp [hc]

variable {secs is : List Nat} {r : RouteEntry} {v w : Work}

theorem Work.releaseSections_holder (sec : Nat) (role : Role) : (w.releaseSections e m secs).live.holder sec = some (n, role) ↔
    w.live.holder sec = some (n, role) ∧ ¬ (m = n ∧ sec ∈ secs) := by
  rw [← lock_given, Live.holder, Live.holder, Work.releaseSections_sectionAt]
  cases w.live.sectionAt sec with
  | none => simp
  | some y =>
    simp only [Option.map_some, Option.bind_some]
    split <;> rfl

theorem Work.releaseSections_locks (p : Nat) (q : Position) :
    ((w.releaseSections e m secs).live.point p).bind (fun y => y.routeLock) = some (n, q) ↔
      (w.live.point p).bind (fun y => y.routeLock) = some (n, q) ∧
        ¬ (m = n ∧ ∃ sec ∈ secs, e.tables.pointSection p = some sec) := by
  cases hy : w.live.point p with
  | none =>
    have hgone : (w.releaseSections e m secs).live.point p = none := by
      cases hz : (w.releaseSections e m secs).live.point p with
      | none => rfl
      | some z =>
        have hfind := Live.find_unlockPoints m (w.live.releasedPoints e m secs) (w.live.unlockSections m secs) p
        rw [show Map.find p ((w.live.unlockSections m secs).unlockPoints m _).elements = _ from Live.point_some.mp hz] at hfind
        obtain ⟨y, hfound, hunlocked⟩ := Option.map_eq_some_iff.mp hfind.symm
        cases y with
        | point y =>
          rw [show w.live.point p = some y from Live.point_some.mpr hfound] at hy
          cases hy
        | signal y => cases hunlocked
        | head y => cases hunlocked
    rw [hgone]
    exact iff_of_false nofun fun h => nomatch h.1
  | some y =>
    by_cases hgiven : (∃ sec ∈ secs, e.tables.pointSection p = some sec) ∧ y.routeLock.map (fun k => k.1) = some m
    · rw [(Work.releaseSections_unlocks hy hgiven.2 hgiven.1).1]
      refine iff_of_false nofun fun ⟨hlock, hnot⟩ => hnot ⟨?_, hgiven.1⟩
      have hholder := hgiven.2
      rw [show y.routeLock = some (n, q) from hlock] at hholder
      exact (Option.some.inj hholder).symm
    · rw [Work.releaseSections_point hy (not_and_or.mp hgiven)]
      refine (and_iff_left_of_imp fun hlock hgive => hgiven ⟨hgive.2, ?_⟩).symm
      rw [show y.routeLock = some (n, q) from hlock, hgive.1]
      rfl

theorem Work.releaseSections_signal (g : Nat) : (w.releaseSections e m secs).live.signal g = w.live.signal g := by
  have hfind := Live.find_unlockPoints m (w.live.releasedPoints e m secs) (w.live.unlockSections m secs) g
  refine Option.ext fun z => ?_
  rw [Live.signal_some, Live.signal_some, show Map.find g (w.releaseSections e m secs).live.elements = _ from hfind]
  show Option.map _ (Map.find g w.live.elements) = _ ↔ _
  cases Map.find g w.live.elements with
  | none => rfl
  | some y =>
    cases y with
    | point y =>
      simp only [Option.map_some, ElementRec.unlocked, Option.some.injEq, reduceCtorEq, iff_false]
      split <;> exact nofun
    | signal y => rfl
    | head y => rfl

theorem Work.releaseSections_alike (hm : m ≠ n) : (w.releaseSections e m secs).live.HoldsAlike n w.live :=
  ⟨fun sec role => Work.releaseSections_holder sec role |>.trans (and_iff_left fun h => hm h.1),
    fun p q => (Work.releaseSections_locks p q).trans (and_iff_left fun h => hm h.1),
    fun g => by rw [Work.releaseSections_signal], rfl⟩

/-- A claim without the entries for released sections (R109). -/
def Claim.without (r : RouteEntry) (is : List Nat) (c : Claim) : Claim :=
  { c with serves := c.serves.filter (fun s => (r.flank[s.1 - 1]?).all (fun f => !is.contains f.index)) }

theorem Live.removeEntries_eq : (l.removeEntries r m is).claims =
    (l.claims.map (fun c => if c.slot = m then c.without r is else c)).filter (fun c => c.slot != m || !c.serves.isEmpty) := by
  have hkept : (fun s : Nat × Nat => match r.flank[s.1 - 1]? with
      | some f => !is.contains f.index
      | none => true) = fun s => (r.flank[s.1 - 1]?).all (fun f => !is.contains f.index) := by
    funext s
    cases r.flank[s.1 - 1]? <;> rfl
  unfold Claim.without
  rw [← hkept]
  rfl

theorem Claim.without_slot (c : Claim) : (c.without r is).slot = c.slot := rfl

theorem Claim.without_unproved (c : Claim) : c.unproved.without r is = (c.without r is).unproved := rfl

theorem Claim.unproved_serves (c : Claim) : c.unproved.serves = c.serves := rfl

/-- The claims of a slot once entries are removed from the claims of slot m (R109). -/
theorem Live.removeEntries_claimsOf (cs : List Claim) :
    (((cs.map (fun c => if c.slot = m then c.without r is else c)).filter (fun c => c.slot != m || !c.serves.isEmpty)).filter
        (fun c => c.slot == n)).map Claim.unproved =
      if m = n then (((cs.filter (fun c => c.slot == n)).map Claim.unproved).map (Claim.without r is)).filter
        (fun c => !c.serves.isEmpty) else (cs.filter (fun c => c.slot == n)).map Claim.unproved := by
  induction cs with
  | nil => simp
  | cons c cs ih =>
    have hgone (h : c.slot ≠ n) : (c.slot == n) = false := beq_eq_false_iff_ne.mpr h
    by_cases hc : c.slot = m
    · have hcut : (c.slot != m) = false := by simp [hc]
      by_cases hn : c.slot = n
      · have hsame : (c.slot == n) = true := beq_iff_eq.mpr hn
        have hmn : m = n := hc.symm.trans hn
        rw [if_pos hmn] at ih ⊢
        cases hserves : (c.without r is).serves.isEmpty <;>
          simp only [List.map_cons, if_pos hc, List.filter_cons, Claim.without_slot, hcut, hserves, hsame, Claim.without_unproved,
            Claim.unproved_serves, Bool.false_or, Bool.not_true, Bool.not_false, if_true, Bool.false_eq_true, if_false, ih]
      · have hmn : m ≠ n := fun h => hn (hc.trans h)
        rw [if_neg hmn] at ih ⊢
        cases hserves : (c.without r is).serves.isEmpty <;>
          simp only [List.map_cons, if_pos hc, List.filter_cons, Claim.without_slot, hcut, hserves, hgone hn, Bool.false_or,
            Bool.not_true, Bool.not_false, if_true, Bool.false_eq_true, if_false, ih]
    · have hstays : (c.slot != m) = true := bne_iff_ne.mpr hc
      by_cases hn : c.slot = n
      · have hsame : (c.slot == n) = true := beq_iff_eq.mpr hn
        have hmn : m ≠ n := fun h => hc (hn.trans h.symm)
        rw [if_neg hmn] at ih ⊢
        simp only [List.map_cons, if_neg hc, List.filter_cons, hstays, hsame, Bool.true_or, if_true, ih]
      · simp only [List.map_cons, if_neg hc, List.filter_cons, hstays, hgone hn, Bool.true_or, if_true, Bool.false_eq_true,
          if_false, ih]

theorem Live.removeEntries_alike (hm : m ≠ n) : (l.removeEntries r m is).HoldsAlike n l := by
  refine ⟨fun _ _ => .rfl, fun _ _ => .rfl, fun _ => .rfl, ?_⟩
  rw [Live.removeEntries_eq, Live.removeEntries_claimsOf, if_neg hm]

/-- A freed slot is none's, and holds nothing (R119). -/
theorem Work.freeSlot_emptied {x : Slot} (hx : w.live.slot n = some x) :
    (w.freeSlot e n).live.slot n = none ∧ (w.freeSlot e n).live.HoldsNothing n := by
  have hlive : (w.freeSlot e n).live = (w.live.emptySlot e.tables n).offer e .c .routeReleased .slot n (some x.route) := by
    rw [Work.freeSlot_found hx]
    rfl
  rw [hlive]
  refine ⟨?_, Live.HoldsAlike.nothing (.of_same (Live.offer_sections ..) (Live.offer_elements ..) (Live.offer_claims ..))
    (Live.emptySlot_holdsNothing ..)⟩
  rw [Live.slot, Live.offer_slots]
  exact Map.find_drop_self ..

theorem Work.freeSlot_sameCounts (w : Work) : w.live.SameCounts (w.freeSlot e n).live := by
  cases hx : w.live.slot n with
  | none => simpa only [Work.freeSlot, hx] using Live.sameCounts_of_sections rfl
  | some x =>
    intro sec
    rw [Work.freeSlot_found hx]
    show (Live.sectionAt (Live.offer _ _ _ _ _ _ (w.live.emptySlot e.tables n)) sec).map _ = _
    rw [Live.sectionAt, Live.offer_sections]
    exact Live.unlockSections_sameCounts n (Map.ids w.live.sections) w.live sec

/-! ## The work on one slot, in two states in which that slot is and holds the same -/

/-- A slot's record but for its timer. -/
def Slot.untimed (x : Slot) : Slot := { x with timer := none }

theorem Slot.untimed_eq {x y : Slot} (h : x.untimed = y.untimed) : y = { x with timer := y.timer } := by
  cases x
  cases y
  simp only [Slot.untimed, Slot.mk.injEq, true_and] at h
  obtain ⟨rfl, rfl, rfl, rfl, rfl, rfl, rfl, rfl, rfl, rfl, rfl⟩ := h
  rfl

/-- In two moments a slot has the same record but for its timer, holds the same, and every section counts the same. -/
structure Work.Mirrors (n : Nat) (v w : Work) : Prop where
  slot : (v.live.slot n).map Slot.untimed = (w.live.slot n).map Slot.untimed
  holds : v.live.HoldsAlike n w.live
  counts : w.live.SameCounts v.live

namespace Work.Mirrors

theorem sectionState (h : v.Mirrors n w) (sec : Nat) :
    (v.live.sectionAt sec).map (fun y => y.state) = (w.live.sectionAt sec).map (fun y => y.state) := by
  have hcounts := congrArg (Option.map fun y => y.state) (h.counts sec)
  rw [Option.map_map, Option.map_map] at hcounts
  exact hcounts

theorem isClear (h : v.Mirrors n w) (sec : Nat) : v.live.isClear sec = w.live.isClear sec := by
  have hstate := h.sectionState sec
  unfold Live.isClear
  cases hv : v.live.sectionAt sec <;> cases hw : w.live.sectionAt sec <;> simp_all

theorem vacated (h : v.Mirrors n w) (sec : Nat) : (v.live.sectionAt sec).any (fun y => y.state != .occupied) =
    (w.live.sectionAt sec).any (fun y => y.state != .occupied) := by
  have hstate := h.sectionState sec
  cases hv : v.live.sectionAt sec <;> cases hw : w.live.sectionAt sec <;> simp_all

theorem held (h : v.Mirrors n w) (sec : Nat) (role : Role) :
    (v.live.holder sec == some (n, role)) = (w.live.holder sec == some (n, role)) := by
  obtain ⟨hsections, -⟩ := h.holds
  rw [Bool.eq_iff_iff, beq_iff_eq, beq_iff_eq]
  exact hsections sec role

theorem withSlot (h : v.Mirrors n w) {f g : Slot → RouteEntry → Work → Work}
    (hfg : ∀ x timer r, Map.find x.route e.tables.routes = some r → v.live.slot n = some x →
      w.live.slot n = some { x with timer := timer } → (f x r v).Mirrors n (g { x with timer := timer } r w)) :
    (v.withSlot e n f).Mirrors n (w.withSlot e n g) := by
  have hslot := h.slot
  cases hv : v.live.slot n with
  | none =>
    rw [hv] at hslot
    have hw : w.live.slot n = none := Option.map_eq_none_iff.mp hslot.symm
    simpa only [Work.withSlot, hv, hw] using h
  | some x =>
    rw [hv] at hslot
    obtain ⟨y, hw, hxy⟩ := Option.map_eq_some_iff.mp hslot.symm
    obtain ⟨timer, rfl⟩ : ∃ timer, y = { x with timer := timer } := ⟨_, Slot.untimed_eq hxy.symm⟩
    cases hr : Map.find x.route e.tables.routes with
    | none => simpa only [Work.withSlot, hv, hw, hr] using h
    | some r =>
      rw [Work.withSlot_found hv hr, Work.withSlot_found hw hr]
      exact hfg x timer r hr hv hw

theorem slotTo (h : v.Mirrors n w) {f g : Slot → Slot} (hfg : ∀ x timer, (f x).untimed = (g { x with timer := timer }).untimed) :
    (v.slotTo n f).Mirrors n (w.slotTo n g) := by
  refine ⟨?_, (Live.HoldsAlike.of_same rfl rfl rfl).trans (h.holds.trans (Live.HoldsAlike.of_same rfl rfl rfl)), h.counts⟩
  have hslot := h.slot
  rw [Work.slot_slotTo, Work.slot_slotTo]
  simp only [if_true]
  cases hv : v.live.slot n with
  | none =>
    rw [hv] at hslot
    rw [Option.map_eq_none_iff.mp hslot.symm]
    rfl
  | some x =>
    rw [hv] at hslot
    obtain ⟨y, hw, hxy⟩ := Option.map_eq_some_iff.mp hslot.symm
    rw [hw, Slot.untimed_eq hxy.symm]
    exact congrArg some (hfg x y.timer)

theorem freeSlot (h : v.Mirrors n w) : (v.freeSlot e n).Mirrors n (w.freeSlot e n) := by
  have hslot := h.slot
  cases hv : v.live.slot n with
  | none =>
    rw [hv] at hslot
    have hw : w.live.slot n = none := Option.map_eq_none_iff.mp hslot.symm
    simpa only [Work.freeSlot, hv, hw] using h
  | some x =>
    rw [hv] at hslot
    obtain ⟨y, hw, hxy⟩ := Option.map_eq_some_iff.mp hslot.symm
    have hv' := Work.freeSlot_emptied (e := e) hv
    have hw' := Work.freeSlot_emptied (e := e) hw
    exact ⟨by rw [hv'.1, hw'.1], hv'.2.alike hw'.2,
      fun sec => ((Work.freeSlot_sameCounts v) sec).trans ((h.counts sec).trans (Work.freeSlot_sameCounts w sec).symm)⟩

theorem releaseSections (h : v.Mirrors n w) : (v.releaseSections e n secs).Mirrors n (w.releaseSections e n secs) := by
  obtain ⟨hsections, hpoints, hsignals, hclaims⟩ := h.holds
  refine ⟨h.slot, ⟨fun sec role => ?_, fun p q => ?_, fun g => ?_, hclaims⟩, ?_⟩
  · rw [Work.releaseSections_holder, Work.releaseSections_holder, hsections]
  · rw [Work.releaseSections_locks, Work.releaseSections_locks, hpoints]
  · rw [Work.releaseSections_signal, Work.releaseSections_signal, hsignals]
  · exact fun sec => (Live.unlockSections_sameCounts n secs v.live sec).trans
      ((h.counts sec).trans (Live.unlockSections_sameCounts n secs w.live sec).symm)

theorem removeEntries (h : v.Mirrors n w) : (v.on (Live.removeEntries r n is)).Mirrors n (w.on (Live.removeEntries r n is)) := by
  obtain ⟨hsections, hpoints, hsignals, hclaims⟩ := h.holds
  refine ⟨h.slot, ⟨hsections, hpoints, hsignals, ?_⟩, h.counts⟩
  rw [Work.on_live, Work.on_live, Live.removeEntries_eq, Live.removeEntries_eq, Live.removeEntries_claimsOf,
    Live.removeEntries_claimsOf, if_pos rfl, if_pos rfl, hclaims]

theorem freeIfDone (h : v.Mirrors n w) : (v.freeIfDone e n).Mirrors n (w.freeIfDone e n) := by
  refine h.withSlot fun x timer r _ _ _ => ?_
  have hall : r.path.all (fun s => v.live.holder s != some (n, .path)) = r.path.all (fun s => w.live.holder s != some (n, .path)) :=
    congrArg r.path.all (funext fun s => congrArg not (h.held s .path))
  dsimp only
  rw [hall]
  split
  · exact h.freeSlot
  · exact h

theorem releaseOverlap (h : v.Mirrors n w) : (v.releaseOverlap e n secs).Mirrors n (w.releaseOverlap e n secs) := by
  have hreleased : (v.releaseSections e n secs).Mirrors n (w.releaseSections e n secs) := h.releaseSections
  refine hreleased.withSlot fun x timer r _ _ _ => ?_
  have hall : r.overlap.all (fun s => (v.releaseSections e n secs).live.holder s != some (n, .overlap)) =
      r.overlap.all (fun s => (w.releaseSections e n secs).live.holder s != some (n, .overlap)) :=
    congrArg r.overlap.all (funext fun s => congrArg not (hreleased.held s .overlap))
  rw [hall]
  refine Work.Mirrors.freeIfDone ?_
  split
  · exact hreleased.slotTo fun _ _ => rfl
  · exact hreleased

theorem overlapExpire (h : v.Mirrors n w) : (v.overlapExpire e n).Mirrors n (w.overlapExpire e n) := by
  refine h.withSlot fun x timer r _ _ _ => ?_
  have hvacated : r.overlap.filter (fun s => (v.live.sectionAt s).any (fun y => y.state != .occupied)) =
      r.overlap.filter (fun s => (w.live.sectionAt s).any (fun y => y.state != .occupied)) :=
    congrArg (fun f => r.overlap.filter f) (funext h.vacated)
  dsimp only
  rw [hvacated]
  split
  · exact (h.slotTo fun _ _ => rfl).releaseOverlap
  · exact h

theorem startOverlap (h : v.Mirrors n w) : (v.startOverlap e n).Mirrors n (w.startOverlap e n) := by
  refine h.withSlot fun x timer r _ _ _ => ?_
  dsimp only
  split
  · have htimed : (v.slotTo n (Slot.timed e r)).Mirrors n (w.slotTo n (Slot.timed e r)) := h.slotTo fun _ _ => rfl
    split
    · exact htimed.overlapExpire
    · exact htimed
  · exact h

theorem releasable (h : v.Mirrors n w) (x : Slot) (timer : Option SlotTimer) (r : RouteEntry) (k i : Nat) :
    Live.releasable n x r v.live k i = Live.releasable n { x with timer := timer } r w.live k i := by
  induction k generalizing i with
  | zero => rfl
  | succ k ih =>
    unfold Live.releasable
    simp only [h.isClear, h.held, ih]

theorem releaseTest (h : v.Mirrors n w) : (v.releaseTest e n).Mirrors n (w.releaseTest e n) := by
  refine h.withSlot fun x timer r _ _ _ => ?_
  dsimp only
  rw [h.releasable x timer]
  split
  · split
    · exact h
    · exact ((h.removeEntries.releaseSections).slotTo fun _ _ => rfl).freeIfDone
  · exact h

theorem stopFleet (h : v.Mirrors n w) : (v.stopFleet e n).Mirrors n (w.stopFleet e n) :=
  ((h.slotTo fun _ _ => rfl).releaseTest).startOverlap

end Work.Mirrors

end

end Sys2Proof.Machine
end

section
/-! PROOFS. How RESTART treats the slots one by one (Chapters 7 and 10; R129, R165). -/

namespace Sys2Proof.Machine

/-! ## What the work on one slot leaves -/

/-- The work on a slot leaves what other slots hold, the orders of the signals and the waiting list, and hands nothing on. -/
structure Work.Touches (n : Nat) (v w : Work) : Prop where
  others : ∀ m ≠ n, w.live.HoldsAlike m v.live
  ordered : Live.SamePart ElementRec.orderedTo v.live w.live
  waiting : w.live.waiting = v.live.waiting
  todo : w.todo = v.todo
  notices : w.notices = v.notices

namespace Work.Touches
variable {e : Env} {n : Nat} {secs is : List Nat} {r : RouteEntry} {u v w : Work}

theorem refl (n : Nat) (w : Work) : w.Touches n w := ⟨fun m _ => .refl m _, .refl _ _, rfl, rfl, rfl⟩

theorem trans (h : u.Touches n v) (k : v.Touches n w) : u.Touches n w :=
  ⟨fun m hm => (k.others m hm).trans (h.others m hm), h.ordered.trans k.ordered, k.waiting.trans h.waiting, k.todo.trans h.todo,
    k.notices.trans h.notices⟩

theorem slotTo (n : Nat) (f : Slot → Slot) (w : Work) : w.Touches n (w.slotTo n f) :=
  ⟨fun _ _ => .of_same rfl rfl rfl, Live.samePart_of_elements rfl, rfl, rfl, rfl⟩

theorem scanIf (n : Nat) (b : Bool) (w : Work) : w.Touches n (w.scanIf b) := by
  cases b
  · exact refl n w
  · exact ⟨fun _ _ => .of_same rfl rfl rfl, Live.samePart_of_elements rfl, rfl, rfl, rfl⟩

theorem freeSlot (w : Work) : w.Touches n (w.freeSlot e n) := by
  cases hx : w.live.slot n with
  | none => simpa only [Work.freeSlot, hx] using refl n w
  | some x =>
    have hordered := Work.freeSlot_orderedTo (e := e) (n := n) (w := w)
    rw [Work.freeSlot_found hx] at hordered ⊢
    refine ⟨fun m hm => ?_, hordered, ?_, rfl, rfl⟩
    · exact (Live.HoldsAlike.of_same (Live.offer_sections ..) (Live.offer_elements ..) (Live.offer_claims ..)).trans
        (Live.emptySlot_alike hm.symm e.tables w.live)
    · exact (Live.offer_waiting ..).trans (Live.emptySlot_waiting ..)

theorem withSlot {f : Slot → RouteEntry → Work → Work} (hf : ∀ x r, w.Touches n (f x r w)) : w.Touches n (w.withSlot e n f) := by
  unfold Work.withSlot
  split
  · exact refl n w
  · split
    · exact refl n w
    · exact hf _ _

theorem freeIfDone (w : Work) : w.Touches n (w.freeIfDone e n) :=
  withSlot fun x r => by
    split
    · exact freeSlot w
    · exact refl n w

theorem releaseSections (w : Work) : w.Touches n (w.releaseSections e n secs) :=
  ⟨fun _ hm => Work.releaseSections_alike hm.symm,
    Live.samePart_of_mapped (fun p r => ElementRec.unlocked n (w.live.releasedPoints e n secs) p r)
      (Live.unlockPoints_elements n _ (w.live.unlockSections n secs)) fun p r => r.unlocked_orderedTo n _ p, rfl, rfl, rfl⟩

theorem removeEntries (w : Work) : w.Touches n (w.on (Live.removeEntries r n is)) :=
  ⟨fun _ hm => Live.removeEntries_alike hm.symm, Live.samePart_of_elements rfl, rfl, rfl, rfl⟩

theorem releaseOverlap (w : Work) : w.Touches n (w.releaseOverlap e n secs) :=
  (releaseSections w).trans (withSlot fun x r => by
    refine Work.Touches.trans ?_ (freeIfDone _)
    split
    · exact slotTo n _ _
    · exact refl n _)

theorem overlapExpire (w : Work) : w.Touches n (w.overlapExpire e n) :=
  withSlot fun x r => by
    split
    · exact (slotTo n _ w).trans (releaseOverlap _)
    · exact refl n w

theorem startOverlap (w : Work) : w.Touches n (w.startOverlap e n) :=
  withSlot fun x r => by
    split
    · dsimp only
      split
      · exact (slotTo n _ w).trans (overlapExpire _)
      · exact slotTo n _ w
    · exact refl n w

theorem releaseTest (w : Work) : w.Touches n (w.releaseTest e n) :=
  withSlot fun x r => by
    split
    · split
      · exact refl n w
      · exact (((removeEntries w).trans (releaseSections _)).trans (slotTo n _ _)).trans (freeIfDone _)
    · exact refl n w

theorem stopFleet (w : Work) : w.Touches n (w.stopFleet e n) :=
  ((slotTo n _ w).trans (releaseTest _)).trans (startOverlap _)

theorem timedRelease (cause : ReleaseCause) (seconds : Nat) (w : Work) : w.Touches n (w.timedRelease e n cause seconds) := by
  unfold Work.timedRelease
  split
  · exact refl n w
  · dsimp only
    split
    · exact ((slotTo n _ w).trans (scanIf n _ _)).trans (freeSlot _)
    · exact (slotTo n _ w).trans (scanIf n _ _)

theorem restartSlot (w : Work) : w.Touches n (w.restartSlot e n) := by
  unfold Work.restartSlot
  split
  · exact refl n w
  · split
    · exact freeSlot w
    · exact freeSlot w
    · exact freeSlot w
    · exact (slotTo n _ w).trans (timedRelease _ _ _)
    · exact (slotTo n _ w).trans (timedRelease _ _ _)
    · exact (slotTo n _ w).trans (timedRelease _ _ _)
    · exact withSlot fun x r => (slotTo n _ w).trans (stopFleet _)
    · exact slotTo n _ w

end Work.Touches

end Sys2Proof.Machine
end

section
/-! PROOFS. What becomes of each slot at RESTART (Chapters 7 and 10; R117, R122, R129, R165). -/

namespace Sys2Proof.Machine

/-! ## A slot stays or is freed -/

/-- From one moment to another a slot stays, with nothing reported, or is freed, with ROUTE_RELEASED (R86, R119). -/
def Work.Ends (e : Env) (n route : Nat) (P : Slot → Prop) (v w : Work) : Prop :=
  (∃ z, w.live.slot n = some z ∧ P z ∧ w.live.reports = v.live.reports) ∨
    (w.live.slot n = none ∧ w.live.HoldsNothing n ∧
      w.live.reports = (v.live.offer e .c .routeReleased .slot n (some route)).reports)

section
variable {e : Env} {n : Nat} {secs : List Nat} {x y : Slot} {r : RouteEntry} {P Q : Slot → Prop} {u v w : Work}

namespace Work.Ends
variable {route : Nat}

theorem mono (h : v.Ends e n route P w) (hpq : ∀ z, P z → Q z) : v.Ends e n route Q w :=
  h.imp_left fun ⟨z, hz, hp, hreports⟩ => ⟨z, hz, hpq z hp, hreports⟩

theorem after (hreports : v.live.reports = u.live.reports) (h : v.Ends e n route P w) : u.Ends e n route P w := by
  obtain ⟨z, hz, hp, hsame⟩ | ⟨hnone, hnothing, hoffered⟩ := h
  · exact .inl ⟨z, hz, hp, hsame.trans hreports⟩
  · exact .inr ⟨hnone, hnothing, hoffered.trans (Live.offer_reports_congr hreports ..)⟩

theorem andThen (h : u.Ends e n route P v) (hnext : ∀ z, P z → v.live.slot n = some z → v.Ends e n route Q w)
    (hidle : v.live.slot n = none → w = v) : u.Ends e n route Q w := by
  obtain ⟨z, hz, hp, hsame⟩ | ⟨hnone, hnothing, hoffered⟩ := h
  · exact (hnext z hp hz).after hsame
  · rw [hidle hnone]
    exact .inr ⟨hnone, hnothing, hoffered⟩

theorem stays (hx : w.live.slot n = some x) (hp : P x) (hreports : w.live.reports = v.live.reports) (route : Nat) :
    v.Ends e n route P w := .inl ⟨x, hx, hp, hreports⟩

end Work.Ends

theorem Work.freeSlot_ends (hx : w.live.slot n = some x) : w.Ends e n x.route P (w.freeSlot e n) := by
  obtain ⟨hnone, hnothing⟩ := Work.freeSlot_emptied (e := e) hx
  refine .inr ⟨hnone, hnothing, ?_⟩
  rw [Work.freeSlot_found hx]
  exact Live.offer_reports_congr (Live.emptySlot_reports ..) ..

theorem Work.freeIfDone_ends (hx : w.live.slot n = some x) : w.Ends e n x.route (· = x) (w.freeIfDone e n) := by
  cases hr : Map.find x.route e.tables.routes with
  | none => simpa only [Work.freeIfDone, Work.withSlot, hx, hr] using Work.Ends.stays (P := fun z => z = x) hx rfl rfl _
  | some r =>
    rw [Work.freeIfDone, Work.withSlot_found hx hr]
    split
    · exact Work.freeSlot_ends hx
    · exact .stays (P := fun z => z = x) hx rfl rfl _

theorem Work.releaseOverlap_ends (hx : w.live.slot n = some x) (hr : Map.find x.route e.tables.routes = some r) :
    w.Ends e n x.route (fun z => ∃ o, z = { x with overlap := o }) (w.releaseOverlap e n secs) := by
  obtain ⟨o, ho, -⟩ := Work.overlapGiven_slot (e := e) (r := r) (secs := secs) hx
  have hreports : (w.overlapGiven e n r secs).live.reports = w.live.reports := by
    rw [Work.overlapGiven_rest]
    rfl
  rw [Work.releaseOverlap_found hx hr]
  exact .after hreports ((Work.freeIfDone_ends (x := { x with overlap := o }) ho).mono fun z hz => ⟨o, hz⟩)

theorem Work.overlapExpire_ends (hx : w.live.slot n = some x) :
    w.Ends e n x.route (fun z => ∃ o t, z = { x with overlap := o, timer := t }) (w.overlapExpire e n) := by
  cases hr : Map.find x.route e.tables.routes with
  | none => simpa only [Work.overlapExpire, Work.withSlot, hx, hr] using Work.Ends.stays hx ⟨x.overlap, x.timer, rfl⟩ rfl _
  | some r =>
    rw [Work.overlapExpire, Work.withSlot_found hx hr]
    split
    · have hx' := Work.slotTo_found hx (fun x => { x with timer := none })
      refine .after (v := w.slotTo n (fun x => { x with timer := none })) rfl
        ((Work.releaseOverlap_ends (x := { x with timer := none }) hx' hr).mono fun z hz => ?_)
      obtain ⟨o, rfl⟩ := hz
      exact ⟨o, none, rfl⟩
    · exact .stays hx ⟨x.overlap, x.timer, rfl⟩ rfl _

/-- A slot's record z once its overlap timing may have started: it is timed, or has expired at once, or is as it was (R117,
R118). -/
structure Slot.MayStart (e : Env) (x z : Slot) : Prop where
  same : ∃ o t, z = { x with overlap := o, timer := t }
  idle : ¬ x.startsOverlap → z = x
  timed : ∀ r, Map.find x.route e.tables.routes = some r → x.startsOverlap → 0 < r.overlapTime → z = x.timed e r

theorem Work.startOverlap_ends (hx : w.live.slot n = some x) :
    w.Ends e n x.route (x.MayStart e) (w.startOverlap e n) := by
  cases hr : Map.find x.route e.tables.routes with
  | none =>
    have hidle : w.startOverlap e n = w := by simp only [Work.startOverlap, Work.withSlot, hx, hr]
    rw [hidle]
    exact .stays hx ⟨⟨x.overlap, x.timer, rfl⟩, fun _ => rfl, fun r hr' => nomatch hr.symm.trans hr'⟩ rfl _
  | some r =>
    by_cases hstarts : x.startsOverlap
    · have htimed := Work.slotTo_found hx (Slot.timed e r)
      rw [Work.startOverlap_found hx hr hstarts]
      split
      · next hzero =>
        refine .after (v := w.slotTo n (Slot.timed e r)) rfl
          ((Work.overlapExpire_ends (x := x.timed e r) htimed).mono fun z hz => ?_)
        obtain ⟨o, t, rfl⟩ := hz
        refine ⟨⟨o, t, rfl⟩, fun h => absurd hstarts h, fun r' hr' _ hpos => ?_⟩
        obtain rfl := Option.some.inj (hr.symm.trans hr')
        omega
      · have hmay : x.MayStart e (x.timed e r) :=
          ⟨⟨_, _, rfl⟩, fun h => absurd hstarts h, fun r' hr' _ _ => by rw [Option.some.inj (hr.symm.trans hr')]⟩
        exact .after (v := w.slotTo n (Slot.timed e r)) rfl (.stays htimed hmay rfl _)
    · rw [Work.startOverlap_idle hx hstarts]
      exact .stays hx ⟨⟨x.overlap, x.timer, rfl⟩, fun _ => rfl, fun r _ h => absurd h hstarts⟩ rfl _

/-- The release test moves the slot's pointer alone, or frees the slot (R115, R116). -/
theorem Work.releaseTest_ends (hx : w.live.slot n = some x) :
    w.Ends e n x.route (fun z => ∃ p, z = { x with pointer := p }) (w.releaseTest e n) := by
  cases hr : Map.find x.route e.tables.routes with
  | none => simpa only [Work.releaseTest, Work.withSlot, hx, hr] using Work.Ends.stays hx ⟨x.pointer, rfl⟩ rfl _
  | some r =>
    rw [Work.releaseTest, Work.withSlot_found hx hr]
    split
    · split
      · exact .stays hx ⟨x.pointer, rfl⟩ rfl _
      · let is := Live.releasable n x r w.live r.path.length x.pointer
        let v := (w.on (Live.removeEntries r n is)).releaseSections e n (is.filterMap (fun i => r.path[i - 1]?))
        have hv : v.live.slot n = some x := hx
        let f : Slot → Slot := fun y => { y with pointer := min (x.pointer + is.length) r.path.length }
        have hx' := Work.slotTo_found hv f
        refine .after (v := v.slotTo n f) rfl ((Work.freeIfDone_ends (x := f x) hx').mono fun z hz => ?_)
        exact ⟨_, hz⟩
    · exact .stays hx ⟨x.pointer, rfl⟩ rfl _

/-! ## The slots of a restart -/

/-- A slot's record with its timed release from full (R129). -/
def Slot.retimed (e : Env) (x : Slot) : Slot :=
  { x with timer := x.timer.map (fun y => match y.cause with
    | some c => { y with expiry := e.clock + e.tables.releaseTime x.route c * 10 }
    | none => y) }

/-- A slot's record in TIMED_RELEASE from full with cause RESTART (R129). -/
def Slot.restartTimed (e : Env) (x : Slot) : Slot := { x with
  state := .timedRelease, fleet := 0, held := none, aspect := some .danger
  timer := some { expiry := e.clock + e.tables.releaseTime x.route .restart * 10, cause := some .restart } }

/-- A slot in ENTERED is one in ENTERED with no train to follow, its overlap timed from full where it is timed (R117, R129). -/
structure Slot.RunEnded (e : Env) (x z : Slot) : Prop where
  route : z.route = x.route
  state : z.state = .entered
  marks : z.marks = x.marks
  fleet : (Map.find x.route e.tables.routes).isSome = true → z.fleet = 0
  timing : ∀ r, Map.find x.route e.tables.routes = some r → x.overlap = some .timing →
    z.overlap = some .timing ∧ z.timer = x.timer.map (fun y => { y with expiry := e.clock + r.overlapTime * 10 })
  starts : ∀ r, Map.find x.route e.tables.routes = some r → x.overlap = some .locked → x.marks.getLast? = some true →
    0 < r.overlapTime →
    z.overlap = some .timing ∧ z.timer = some { expiry := e.clock + r.overlapTime * 10, cause := none }
  locked : ∀ r, Map.find x.route e.tables.routes = some r → x.overlap = some .locked → x.marks.getLast? ≠ some true →
    z.overlap = x.overlap ∧ z.timer = x.timer

/-- What becomes of a slot at a restart, by its state (R129). -/
inductive Slot.Restarted (e : Env) (x : Slot) : Option Slot → Prop
  | unset : x.state = .setting ∨ x.state = .waitLine ∨ x.state = .locked → Slot.Restarted e x none
  | freed : x.state = .clearing ∨ x.state = .clear ∨ x.state = .replaced → e.tables.releaseTime x.route .restart = 0 →
      Slot.Restarted e x none
  | timed : x.state = .clearing ∨ x.state = .clear ∨ x.state = .replaced → e.tables.releaseTime x.route .restart ≠ 0 →
      Slot.Restarted e x (some (x.restartTimed e))
  | retimed : x.state = .timedRelease → Slot.Restarted e x (some (x.retimed e))
  | gone : x.state = .entered → Slot.Restarted e x none
  | ended (z : Slot) : x.state = .entered → x.RunEnded e z → Slot.Restarted e x (some z)

theorem Slot.retimeOverlap_eq (moment : Nat) (x : Slot) : ∃ timer, x.retimeOverlap moment = { x with timer := timer } ∧
    (x.overlap = some .timing → timer = x.timer.map (fun y => { y with expiry := moment })) ∧
    (x.overlap ≠ some .timing → timer = x.timer) := by
  unfold Slot.retimeOverlap
  split
  · next h => exact ⟨_, rfl, fun _ => rfl, fun hn => absurd h hn⟩
  · next h => exact ⟨x.timer, rfl, fun ht => absurd ht h, fun _ => rfl⟩

/-- Treating a slot in ENTERED ends its run (R117, R129). -/
theorem Work.restartEntered_ends (hx : w.live.slot n = some x) (hstate : x.state = .entered) :
    w.Ends e n x.route (x.RunEnded e) (w.restartEntered e n) := by
  cases hr : Map.find x.route e.tables.routes with
  | none =>
    have hidle : w.restartEntered e n = w := by simp only [Work.restartEntered, Work.withSlot, hx, hr]
    have hended : x.RunEnded e x := ⟨rfl, hstate, rfl, fun h => absurd h (by rw [hr]; exact Bool.false_ne_true),
      fun r h => (nomatch hr.symm.trans h),
      fun r h => (nomatch hr.symm.trans h), fun r h => (nomatch hr.symm.trans h)⟩
    rw [hidle]
    exact .stays hx hended rfl _
  | some r =>
    let timed := x.retimeOverlap (e.clock + r.overlapTime * 10)
    let stopped : Slot := { timed with fleet := 0 }
    let v := (w.slotTo n (Slot.retimeOverlap (e.clock + r.overlapTime * 10))).slotTo n (fun x => { x with fleet := 0 })
    have hv : v.live.slot n = some stopped := Work.slotTo_found (Work.slotTo_found hx _) _
    obtain ⟨timer, hsame, htiming, hother⟩ := x.retimeOverlap_eq (e.clock + r.overlapTime * 10)
    have hstopped : stopped = { x with fleet := 0, timer := timer } := congrArg (fun y : Slot => { y with fleet := 0 }) hsame
    have hroute : stopped.route = x.route := by rw [hstopped]
    have hrun : w.restartEntered e n = (v.releaseTest e n).startOverlap e n := by
      rw [Work.restartEntered, Work.withSlot_found hx hr]
      rfl
    rw [hrun, ← hroute]
    refine .after (v := v) rfl ((Work.releaseTest_ends hv).andThen (fun y hy hslot => ?_) Work.withSlot_free)
    obtain ⟨p, rfl⟩ := hy
    rw [hstopped] at hslot ⊢
    refine (Work.startOverlap_ends hslot).mono fun z hz => ?_
    obtain ⟨⟨o, t, hz⟩, hidle, hstarted⟩ := hz
    refine ⟨by rw [hz], by rw [hz]; exact hstate, by rw [hz], fun _ => by rw [hz], fun r' hr' ho => ?_,
      fun r' hr' ho hmarks hpos => ?_, fun r' hr' ho hmarks => ?_⟩
    · obtain rfl := Option.some.inj (hr.symm.trans hr')
      have hnot : ¬ ({ x with fleet := 0, timer := timer, pointer := p } : Slot).startsOverlap := fun ⟨_, _, hlocked, _⟩ => by
        rw [show x.overlap = some .locked from hlocked] at ho
        cases ho
      rw [hidle hnot]
      exact ⟨ho, htiming ho⟩
    · obtain rfl := Option.some.inj (hr.symm.trans hr')
      rw [hstarted r hr ⟨hstate, rfl, ho, hmarks⟩ hpos]
      exact ⟨rfl, rfl⟩
    · have hnot : ¬ ({ x with fleet := 0, timer := timer, pointer := p } : Slot).startsOverlap := fun ⟨_, _, _, hlast⟩ =>
        hmarks hlast
      rw [hidle hnot]
      exact ⟨rfl, hother (by rw [ho]; exact nofun)⟩

/-- A slot that is timed from full at a restart stays, or is freed where its time is 0 (R122, R129). -/
theorem Work.restartTimed_spec (hx : w.live.slot n = some x)
    (hstate : x.state = .clearing ∨ x.state = .clear ∨ x.state = .replaced) :
    let v := (w.slotTo n (fun x => { x with aspect := some .danger })).timedRelease e n .restart
      (e.tables.releaseTime x.route .restart)
    x.Restarted e (v.live.slot n) ∧ w.Ends e n x.route (fun _ => True) v := by
  have hordered := Work.slotTo_found hx (fun x => { x with aspect := some .danger })
  have htimed := Work.slotTo_found hordered (fun y => { y with
    state := .timedRelease, fleet := 0, held := none
    timer := some { expiry := e.clock + e.tables.releaseTime x.route .restart * 10, cause := some .restart } })
  dsimp only
  by_cases hzero : e.tables.releaseTime x.route .restart = 0
  · let v := ((w.slotTo n (fun x => { x with aspect := some .danger })).slotTo n (fun y => { y with
      state := .timedRelease, fleet := 0, held := none
      timer := some { expiry := e.clock + e.tables.releaseTime x.route .restart * 10, cause := some .restart } })).scanIf
        (x.state == .clearing || x.state == .clear || x.state == .entered)
    have hv : v.live.slot n = some (x.restartTimed e) := by
      rw [Work.scanIf_live]
      exact htimed
    have hfreed : (w.slotTo n (fun x => { x with aspect := some .danger })).timedRelease e n .restart
        (e.tables.releaseTime x.route .restart) = v.freeSlot e n := by
      unfold Work.timedRelease
      rw [hordered]
      dsimp only
      exact if_pos hzero
    have hreports : v.live.reports = w.live.reports := by
      rw [Work.scanIf_live]
      rfl
    rw [hfreed, (Work.freeSlot_emptied hv).1]
    exact ⟨.freed hstate hzero, .after hreports (Work.freeSlot_ends (x := x.restartTimed e) hv)⟩
  · rw [Work.timedRelease_found hordered hzero]
    refine ⟨?_, .after (v := w.slotTo n (fun x => { x with aspect := some .danger })) rfl ?_⟩
    · rw [Work.scanIf_live, htimed]
      exact .timed hstate hzero
    · refine .inl ⟨x.restartTimed e, ?_, trivial, ?_⟩
      · rw [Work.scanIf_live]
        exact htimed
      · rw [Work.scanIf_live]
        rfl

theorem Work.restartSlot_spec (hx : w.live.slot n = some x) :
    x.Restarted e ((w.restartSlot e n).live.slot n) ∧ w.Ends e n x.route (fun _ => True) (w.restartSlot e n) := by
  have hfree (h : x.state = .setting ∨ x.state = .waitLine ∨ x.state = .locked) :
      x.Restarted e ((w.freeSlot e n).live.slot n) ∧ w.Ends e n x.route (fun _ => True) (w.freeSlot e n) := by
    rw [(Work.freeSlot_emptied hx).1]
    exact ⟨.unset h, Work.freeSlot_ends hx⟩
  unfold Work.restartSlot
  rw [hx]
  dsimp only
  split
  · next h => exact hfree (.inl h)
  · next h => exact hfree (.inr (.inl h))
  · next h => exact hfree (.inr (.inr h))
  · next h => exact Work.restartTimed_spec hx (.inl h)
  · next h => exact Work.restartTimed_spec hx (.inr (.inl h))
  · next h => exact Work.restartTimed_spec hx (.inr (.inr h))
  · next h =>
    have hends := Work.restartEntered_ends (e := e) hx h
    refine ⟨?_, hends.mono fun _ _ => trivial⟩
    obtain ⟨z, hz, hended, -⟩ | ⟨hnone, -⟩ := hends
    · rw [hz]
      exact .ended z h hended
    · rw [hnone]
      exact .gone h
  · next h =>
    have htimed : (w.restartTimer e n).live.slot n = some (x.retimed e) := Work.slotTo_found hx (Slot.retimed e)
    rw [htimed]
    exact ⟨.retimed h, .after (v := w.restartTimer e n) rfl (.stays htimed trivial rfl _)⟩

/-! ## A slot treated twice -/

theorem Slot.Restarted.route {o : Option Slot} {z : Slot} (h : x.Restarted e o) (hz : o = some z) : z.route = x.route := by
  cases h with
  | unset | freed | gone => cases hz
  | timed | retimed =>
    cases hz
    rfl
  | ended y _ hended =>
    cases hz
    exact hended.route

/-- A slot that a restart leaves is in TIMED_RELEASE, or in ENTERED with no train to follow (R129). -/
theorem Slot.Restarted.stands {o : Option Slot} {z : Slot} (h : x.Restarted e o) (hz : o = some z) :
    (z.state = .timedRelease ∨ z.state = .entered) ∧
      (z.state = .entered → (Map.find z.route e.tables.routes).isSome = true → z.fleet = 0) := by
  cases h with
  | unset | freed | gone => cases hz
  | timed =>
    cases hz
    exact ⟨.inl rfl, nofun⟩
  | retimed hstate =>
    cases hz
    exact ⟨.inl hstate, fun h => absurd (hstate.symm.trans h) nofun⟩
  | ended y _ hended =>
    cases hz
    exact ⟨.inr hended.state, fun _ => by rw [hended.route]; exact hended.fleet⟩

theorem Slot.retimed_retimed (e : Env) (x : Slot) : (x.retimed e).retimed e = x.retimed e := by
  unfold Slot.retimed
  cases x.timer with
  | none => rfl
  | some y =>
    obtain ⟨expiry, cause⟩ := y
    cases cause <;> rfl

theorem Slot.RunEnded.trans {z : Slot} (h : x.RunEnded e y) (k : y.RunEnded e z) : x.RunEnded e z := by
  refine ⟨k.route.trans h.route, k.state, k.marks.trans h.marks, fun hr => k.fleet (by rwa [h.route]), fun r hr ho => ?_,
    fun r hr ho hmarks hpos => ?_, fun r hr ho hmarks => ?_⟩
  · obtain ⟨hoverlap, htimer⟩ := h.timing r hr ho
    obtain ⟨koverlap, ktimer⟩ := k.timing r (by rwa [h.route]) hoverlap
    refine ⟨koverlap, ?_⟩
    rw [ktimer, htimer, Option.map_map]
    rfl
  · obtain ⟨hoverlap, htimer⟩ := h.starts r hr ho hmarks hpos
    obtain ⟨koverlap, ktimer⟩ := k.timing r (by rwa [h.route]) hoverlap
    refine ⟨koverlap, ?_⟩
    rw [ktimer, htimer]
    rfl
  · obtain ⟨hoverlap, htimer⟩ := h.locked r hr ho hmarks
    obtain ⟨koverlap, ktimer⟩ := k.locked r (by rwa [h.route]) (hoverlap.trans ho) (by rwa [h.marks])
    exact ⟨koverlap.trans hoverlap, ktimer.trans htimer⟩

/-- A slot that comes up twice is treated as if once. -/
theorem Slot.Restarted.again {o : Option Slot} (h : x.Restarted e (some y)) (k : y.Restarted e o) : x.Restarted e o := by
  cases h with
  | timed hstate hzero =>
    cases k with
    | unset h => exact absurd h (by simp [Slot.restartTimed])
    | freed h => exact absurd h (by simp [Slot.restartTimed])
    | timed h => exact absurd h (by simp [Slot.restartTimed])
    | gone h => cases h
    | ended z h => cases h
    | retimed => exact .timed hstate hzero
  | retimed hstate =>
    have hkept : (x.retimed e).state = .timedRelease := hstate
    cases k with
    | unset h => exact absurd h (by simp [hkept])
    | freed h => exact absurd h (by simp [hkept])
    | timed h => exact absurd h (by simp [hkept])
    | gone h => cases hkept.symm.trans h
    | ended z h => cases hkept.symm.trans h
    | retimed =>
      rw [Slot.retimed_retimed]
      exact .retimed hstate
  | ended _ hstate hended =>
    have hkept := hended.state
    cases k with
    | unset h => exact absurd h (by simp [hkept])
    | freed h => exact absurd h (by simp [hkept])
    | timed h => exact absurd h (by simp [hkept])
    | retimed h => cases hkept.symm.trans h
    | gone => exact .gone hstate
    | ended z _ h => exact .ended z hstate (hended.trans h)

end

end Sys2Proof.Machine
end

section
/-! PROOFS. All slots at RESTART, one after another (Chapters 7 and 10; R110, R119, R129, R165). -/

namespace Sys2Proof.Machine

section
variable {e : Env} {n : Nat} {x : Slot} {v w : Work}

/-- A slot that a restart leaves, and that was not in ENTERED, keeps what it holds (R110, R122). -/
theorem Work.restartSlot_alike {z : Slot} (hx : w.live.slot n = some x) (hstate : x.state ≠ .entered)
    (hz : (w.restartSlot e n).live.slot n = some z) : (w.restartSlot e n).live.HoldsAlike n w.live := by
  have hrestarted := (Work.restartSlot_spec (e := e) hx).1
  rw [hz] at hrestarted
  cases hrestarted with
  | timed hcleared hpos =>
    have hrun : w.restartSlot e n = (w.slotTo n (fun x => { x with aspect := some .danger })).timedRelease e n .restart
        (e.tables.releaseTime x.route .restart) := by
      unfold Work.restartSlot
      obtain h | h | h := hcleared <;> simp only [hx, h]
    rw [hrun, Work.timedRelease_found (Work.slotTo_found hx (fun x => { x with aspect := some .danger })) hpos]
    exact .of_same (by rw [Work.scanIf_live]; rfl) (by rw [Work.scanIf_live]; rfl) (by rw [Work.scanIf_live]; rfl)
  | retimed h =>
    have hrun : w.restartSlot e n = w.restartTimer e n := by
      unfold Work.restartSlot
      simp only [hx, h]
    rw [hrun]
    exact .of_same rfl rfl rfl
  | ended _ h => exact absurd h hstate

theorem Work.restartSlot_free (h : w.live.slot n = none) : w.restartSlot e n = w := by
  simp only [Work.restartSlot, h]

theorem Work.restartSlot_unmeasured (w : Work) : w.live.Unmeasured (w.restartSlot e n).live :=
  Evolves.unmeasured (e := e) (Work.restartSlot_evolves n w fun _ _ _ _ _ => trivial)

/-! ## The slots in their order -/

/-- ROUTE_RELEASED of a slot that was in use before the restart. -/
def Live.reportFreed (e : Env) (before l : Live) (n : Nat) : Live :=
  match before.slot n with
  | some x => l.offer e .c .routeReleased .slot n (some x.route)
  | none => l

/-- What the restart of the slots of a list has done. -/
structure Work.Restarting (e : Env) (ns : List Nat) (v w : Work) : Prop where
  absent : ∀ n, v.live.slot n = none → w.live.slot n = none
  pending : ∀ n, n ∉ ns → w.live.slot n = v.live.slot n
  treated : ∀ n x, n ∈ ns → v.live.slot n = some x → x.Restarted e (w.live.slot n)
  reports : ∃ freed : List Nat, freed.Sublist ns ∧
    (∀ n x, v.live.slot n = some x → (n ∈ freed ↔ w.live.slot n = none)) ∧
    w.live.reports = (freed.foldl (Live.reportFreed e v.live) v.live).reports
  ordered : Live.SamePart ElementRec.orderedTo v.live w.live
  waiting : w.live.waiting = v.live.waiting
  todo : w.todo = v.todo
  notices : w.notices = v.notices
  unmeasured : v.live.Unmeasured w.live

namespace Work.Restarting

theorem refl (w : Work) : w.Restarting e [] w :=
  ⟨fun _ h => h, fun _ _ => rfl, fun _ _ h => absurd h List.not_mem_nil,
    ⟨[], .slnil, fun n x hx => by rw [hx]; exact iff_of_false List.not_mem_nil nofun, rfl⟩, .refl _ _, rfl, rfl, rfl,
    .of_eq rfl rfl rfl⟩

/-- A slot in the course of the restart was in use before it, with the same route. -/
theorem before {ns : List Nat} {z : Slot} (h : v.Restarting e ns w) (hz : w.live.slot n = some z) :
    ∃ x, v.live.slot n = some x ∧ z.route = x.route ∧ ∀ o, z.Restarted e o → x.Restarted e o := by
  cases hx : v.live.slot n with
  | none => exact absurd ((h.absent n hx).symm.trans hz) nofun
  | some x =>
    by_cases hn : n ∈ ns
    · have htreated := h.treated n x hn hx
      exact ⟨x, rfl, htreated.route hz, fun o ho => Slot.Restarted.again (hz ▸ htreated) ho⟩
    · obtain rfl := Option.some.inj ((h.pending n hn).symm.trans hz |>.symm.trans hx)
      exact ⟨z, rfl, rfl, fun _ => id⟩

theorem next {ns : List Nat} (h : v.Restarting e ns w) (n : Nat) : v.Restarting e (ns ++ [n]) (w.restartSlot e n) := by
  have htouches : w.Touches n (w.restartSlot e n) := Work.Touches.restartSlot w
  have hspares : w.spares n (w.restartSlot e n) := Work.restartSlot_spares w
  obtain ⟨freed, hsublist, hfreed, hreports⟩ := h.reports
  refine ⟨fun m hm => ?_, fun m hm => ?_, fun m x hm hx => ?_, ?_, h.ordered.trans htouches.ordered,
    htouches.waiting.trans h.waiting, htouches.todo.trans h.todo, htouches.notices.trans h.notices,
    h.unmeasured.trans w.restartSlot_unmeasured⟩
  · by_cases hmn : m = n
    · subst hmn
      rw [Work.restartSlot_free (h.absent m hm)]
      exact h.absent m hm
    · exact (hspares m hmn).trans (h.absent m hm)
  · rw [List.mem_append, List.mem_singleton, not_or] at hm
    exact (hspares m hm.2).trans (h.pending m hm.1)
  · by_cases hmn : m = n
    · subst hmn
      cases hz : w.live.slot m with
      | none =>
        rw [Work.restartSlot_free hz]
        by_cases hin : m ∈ ns
        · exact h.treated m x hin hx
        · exact absurd ((h.pending m hin).symm.trans hz |>.symm.trans hx) nofun
      | some z =>
        obtain ⟨y, hy, -, hagain⟩ := h.before hz
        obtain rfl := Option.some.inj (hy.symm.trans hx)
        exact hagain _ (Work.restartSlot_spec hz).1
    · rw [hspares m hmn]
      exact h.treated m x ((List.mem_append.mp hm).resolve_right fun hm => hmn (List.mem_singleton.mp hm)) hx
  · cases hz : w.live.slot n with
    | none =>
      rw [Work.restartSlot_free hz]
      exact ⟨freed, hsublist.trans (List.sublist_append_left ..), hfreed, hreports⟩
    | some z =>
      obtain ⟨y, hy, hroute, -⟩ := h.before hz
      have hkeeps (m : Nat) (x : Slot) (hx : v.live.slot m = some x) (hmn : m ≠ n) :
          m ∈ freed ↔ (w.restartSlot e n).live.slot m = none := by
        rw [hspares m hmn]
        exact hfreed m x hx
      obtain ⟨u, hu, -, hsame⟩ | ⟨hnone, -, hoffered⟩ := (Work.restartSlot_spec (e := e) hz).2
      · refine ⟨freed, hsublist.trans (List.sublist_append_left ..), fun m x hx => ?_, hsame.trans hreports⟩
        by_cases hmn : m = n
        · subst hmn
          rw [hfreed m x hx, hz, hu]
          exact iff_of_false nofun nofun
        · exact hkeeps m x hx hmn
      · refine ⟨freed ++ [n], hsublist.append (.refl _), fun m x hx => ?_, ?_⟩
        · by_cases hmn : m = n
          · subst hmn
            rw [hnone]
            exact iff_of_true (List.mem_append_right _ (List.mem_singleton_self _)) rfl
          · rw [List.mem_append, List.mem_singleton, or_iff_left hmn]
            exact hkeeps m x hx hmn
        · rw [hoffered, List.foldl_append, hroute]
          show _ = (Live.reportFreed e v.live (freed.foldl (Live.reportFreed e v.live) v.live) n).reports
          simp only [Live.reportFreed, hy]
          exact Live.offer_reports_congr hreports ..

end Work.Restarting

theorem Work.restarts (e : Env) (ns : List Nat) (w : Work) : w.Restarting e ns (ns.foldl (Work.restartSlot e) w) := by
  induction ns using List.reverseRecOn with
  | nil => exact .refl w
  | append_singleton ns n ih =>
    rw [List.foldl_append]
    exact ih.next n

end

end Sys2Proof.Machine
end

section
/-! PROOFS. What each slot holds after RESTART (Chapters 5 to 7; R86, R110, R112, R119, R122, R129). -/

namespace Sys2Proof.Machine

section
variable {e : Env} {n : Nat} {x : Slot} {v w : Work}

/-- The slots of a list, n not among them, leave slot n and what it holds. -/
theorem Work.restarts_others {ns : List Nat} (hn : n ∉ ns) (w : Work) :
    (ns.foldl (Work.restartSlot e) w).live.slot n = w.live.slot n ∧
      (ns.foldl (Work.restartSlot e) w).live.HoldsAlike n w.live := by
  induction ns generalizing w with
  | nil => exact ⟨rfl, .refl n _⟩
  | cons m ns ih =>
    rw [List.mem_cons, not_or] at hn
    obtain ⟨hm, hns⟩ := hn
    obtain ⟨hslot, hholds⟩ := ih hns (w.restartSlot e m)
    exact ⟨hslot.trans (Work.restartSlot_spares w n hm), hholds.trans ((Work.Touches.restartSlot w).others n hm)⟩

/-- A freed slot holds nothing. -/
theorem Work.restartSlot_nothing (hx : w.live.slot n = some x) (hnone : (w.restartSlot e n).live.slot n = none) :
    (w.restartSlot e n).live.HoldsNothing n := by
  obtain ⟨z, hz, -⟩ | ⟨-, hnothing, -⟩ := (Work.restartSlot_spec (e := e) hx).2
  · exact absurd (hnone.symm.trans hz) nofun
  · exact hnothing

/-- The restart of a slot in ENTERED is the end of its run, but for its timer (R129). -/
theorem Work.restartEntered_mirrors (hx : v.live.slot n = some x) (h : v.Mirrors n w) (hw : w.live.slot n = some x) :
    (v.restartEntered e n).live.slot n = none ∧ (w.stopFleet e n).live.slot n = none ∨
      (∃ y, (v.restartEntered e n).live.slot n = some y) ∧ (∃ z, (w.stopFleet e n).live.slot n = some z) ∧
        (v.restartEntered e n).live.HoldsAlike n (w.stopFleet e n).live := by
  cases hr : Map.find x.route e.tables.routes with
  | none =>
    have hidle : v.restartEntered e n = v := by simp only [Work.restartEntered, Work.withSlot, hx, hr]
    have hstopped := Work.slotTo_found hw (fun x => { x with fleet := 0 })
    have hrest : w.stopFleet e n = w.slotTo n (fun x => { x with fleet := 0 }) := by
      have htest : (w.slotTo n (fun x => { x with fleet := 0 })).releaseTest e n = w.slotTo n (fun x => { x with fleet := 0 }) := by
        simp only [Work.releaseTest, Work.withSlot, hstopped, hr]
      rw [Work.stopFleet, htest]
      simp only [Work.startOverlap, Work.withSlot, hstopped, hr]
    rw [hidle, hrest]
    exact .inr ⟨⟨x, hx⟩, ⟨_, hstopped⟩, h.holds.trans (.of_same rfl rfl rfl)⟩
  | some r =>
    have hrun : v.restartEntered e n = (v.slotTo n (Slot.retimeOverlap (e.clock + r.overlapTime * 10))).stopFleet e n := by
      rw [Work.restartEntered, Work.withSlot_found hx hr]
    have huntimed : (x.retimeOverlap (e.clock + r.overlapTime * 10)).untimed = x.untimed := by
      obtain ⟨timer, htimer, -⟩ := x.retimeOverlap_eq (e.clock + r.overlapTime * 10)
      rw [htimer]
      rfl
    have hstart : (v.slotTo n (Slot.retimeOverlap (e.clock + r.overlapTime * 10))).Mirrors n w := by
      refine ⟨?_, (Live.HoldsAlike.of_same rfl rfl rfl).trans h.holds, h.counts⟩
      rw [Work.slotTo_found hx, hw]
      exact congrArg some huntimed
    have hend := hstart.stopFleet (e := e)
    rw [hrun]
    have hslot := hend.slot
    cases hy : ((v.slotTo n (Slot.retimeOverlap (e.clock + r.overlapTime * 10))).stopFleet e n).live.slot n with
    | none =>
      rw [hy] at hslot
      exact .inl ⟨rfl, Option.map_eq_none_iff.mp hslot.symm⟩
    | some y =>
      rw [hy] at hslot
      obtain ⟨z, hz, -⟩ := Option.map_eq_some_iff.mp hslot.symm
      exact .inr ⟨⟨y, rfl⟩, ⟨z, hz⟩, hend.holds⟩

/-- What a slot holds once the slots of a list are restarted (R86, R110, R122, R129). -/
theorem Work.restarts_holds {ns : List Nat} (hns : ns.Nodup) (hn : n ∈ ns) (hx : w.live.slot n = some x) :
    let after := ns.foldl (Work.restartSlot e) w
    (after.live.slot n = none → after.live.HoldsNothing n) ∧
    (x.state ≠ .entered → after.live.slot n ≠ none → after.live.HoldsAlike n w.live) ∧
    (x.state = .entered → (after.live.slot n = none ↔ (w.stopFleet e n).live.slot n = none) ∧
      (after.live.slot n ≠ none → after.live.HoldsAlike n (w.stopFleet e n).live)) := by
  intro after
  obtain ⟨before, rest, rfl⟩ := List.append_of_mem hn
  obtain ⟨-, hrest, hdisjoint⟩ := List.nodup_append.mp hns
  have hbefore : n ∉ before := fun h => hdisjoint n h n List.mem_cons_self rfl
  have hafter : n ∉ rest := (List.nodup_cons.mp hrest).1
  let u := before.foldl (Work.restartSlot e) w
  obtain ⟨huslot, huholds⟩ := Work.restarts_others (e := e) hbefore w
  have hu : u.live.slot n = some x := huslot.trans hx
  have hsplit : after = rest.foldl (Work.restartSlot e) (u.restartSlot e n) := by
    show List.foldl _ _ (before ++ n :: rest) = _
    rw [List.foldl_append]
    rfl
  obtain ⟨hslot, hholds⟩ := Work.restarts_others (e := e) hafter (u.restartSlot e n)
  rw [hsplit, hslot]
  refine ⟨fun hnone => hholds.nothing (Work.restartSlot_nothing hu hnone), fun hstate hstays => ?_, fun hstate => ?_⟩
  · obtain ⟨z, hz⟩ := Option.ne_none_iff_exists'.mp hstays
    exact hholds.trans ((Work.restartSlot_alike hu hstate hz).trans huholds)
  · have hrun : u.restartSlot e n = u.restartEntered e n := by
      unfold Work.restartSlot
      simp only [hu, hstate]
    have hmirrors : u.Mirrors n w := ⟨by rw [hu, hx], huholds, (Work.restarts e before w).unmeasured.counts⟩
    rw [hrun] at hholds ⊢
    obtain ⟨hnone, hnone'⟩ | ⟨⟨y, hy⟩, ⟨z, hz⟩, halike⟩ := Work.restartEntered_mirrors (e := e) hu hmirrors hx
    · exact ⟨iff_of_true hnone hnone', fun h => absurd hnone h⟩
    · rw [hy, hz]
      exact ⟨iff_of_false nofun nofun, fun _ => hholds.trans halike⟩

end

end Sys2Proof.Machine
end

section
/-! PROOFS. The course of RESTART (Chapters 3 to 10; R60, R76, R145, R165): the requests dropped, the slots treated, the asks
forgotten, the points placed, the signals ordered DANGER, and RESTARTED. -/

namespace Sys2Proof.Machine

section
variable {e : Env} {m n : Nat} {v w : Work}

/-! ## The end of the event -/

/-- With every slot behind a train or timed, no request waiting and nothing to place, an event of claim changes leaves the
records. -/
theorem Work.finish_calm (hcalm : ∀ n x, w.live.slot n = some x → x.state = .timedRelease ∨ x.state = .entered)
    (htodo : ∀ c ∈ w.todo, ∃ slot m b, c = .claimChanged slot m b) (hplaces : w.places = []) (hwaiting : w.live.waiting = [])
    (hnotices : w.notices = []) : w.finish e = w.live := by
  obtain ⟨left, hleft⟩ := Work.settle_calm (e := e) settleBound hcalm htodo
  have hsettled : w.settled e = { w with todo := left } := by
    rw [Work.settled, Work.handedOn, hleft]
    exact Work.placeAll_idle e _ hplaces
  rw [Work.finish, Work.event, hsettled]
  simp only [hwaiting, List.length_nil, Work.scans, List.isEmpty_nil, Bool.not_true, Bool.and_false, Bool.false_and,
    Bool.false_eq_true, if_false]
  rw [hnotices, Live.sendNotices_nil]

/-! ## The requests -/

/-- REQUEST_DROPPED of a waiting request (R76). -/
def Live.dropReport (e : Env) (l : Live) (q : Request) : Live :=
  l.offer e .c .requestDropped .route q.route (some q.tag)

theorem Live.dropReports_only (e : Env) (qs : List Request) (l : Live) : l.ReportsOnly (qs.foldl (Live.dropReport e) l) := by
  induction qs generalizing l with
  | nil => rfl
  | cons q qs ih => exact Live.ReportsOnly.trans (Live.offer_rest ..) (ih _)

theorem Live.dropReports_congr (e : Env) (qs : List Request) {a b : Live} (h : a.reports = b.reports) :
    (qs.foldl (Live.dropReport e) a).reports = (qs.foldl (Live.dropReport e) b).reports := by
  induction qs generalizing a b with
  | nil => exact h
  | cons q qs ih => exact ih (Live.offer_reports_congr h ..)

theorem Work.dropRequests_eq (e : Env) (w : Work) : w.dropRequests e =
    { w with live := w.live.waiting.foldl (Live.dropReport e) { w.live with waiting := [] } } := by
  have go (qs : List Request) (v : Work) : qs.foldl (fun w q => w.report e .c .requestDropped .route q.route (some q.tag)) v =
      { v with live := qs.foldl (Live.dropReport e) v.live } := by
    induction qs generalizing v with
    | nil => rfl
    | cons q qs ih =>
      rw [List.foldl_cons, ih]
      rfl
  exact go _ _

theorem Live.ReportsOnly.waiting {a b : Live} (h : a.ReportsOnly b) : b.waiting = a.waiting ∧ b.claims = a.claims := by
  rw [h]
  exact ⟨rfl, rfl⟩

/-- The drop of the requests is nothing to a slot. -/
theorem Work.dropRequests_mirrors (n : Nat) (w : Work) : (w.dropRequests e).Mirrors n w := by
  have honly := Live.dropReports_only e w.live.waiting { w.live with waiting := [] }
  obtain ⟨hslots, -, hsections, helements, -⟩ := honly.records
  rw [Work.dropRequests_eq]
  refine ⟨?_, .of_same hsections helements honly.waiting.2, Live.sameCounts_of_sections hsections⟩
  exact congrArg (Option.map Slot.untimed) (Live.slot_congr hslots n)

/-! ## The slots, the asks and the points -/

/-- The work of a restart once the slots are treated. -/
def Work.restartFreed (e : Env) (w : Work) : Work :=
  (Map.ids (w.dropRequests e).live.slots).foldl (Work.restartSlot e) (w.dropRequests e)

/-- The work of a restart once the arm and the asks are forgotten. -/
def Work.restartAsks (e : Env) (w : Work) : Work :=
  (w.restartFreed e).on (fun l => Live.formLineFlags e.tables (Live.forgetAsks { l with arm := none }))

theorem Work.restartFreed_spec (e : Env) (w : Work) :
    (w.dropRequests e).Restarting e (Map.ids w.live.slots) (w.restartFreed e) := by
  rw [← Work.dropRequests_slots e w]
  exact Work.restarts e _ _

theorem Work.restartRoutes_eq (htodo : w.todo = []) : w.restartRoutes e = (w.restartAsks e).placeAll e := by
  have hidle : (w.restartAsks e).todo = [] := by
    refine (Work.restartFreed_spec e w).todo.trans ?_
    rw [Work.dropRequests_eq]
    exact htodo
  exact congrArg (Work.placeAll e) (Work.settle_idle e settleBound _ hidle)

theorem Work.placeAll_stands (m : Nat) (w : Work) : w.live.HoldingsStand m (w.placeAll e).live :=
  Work.placeAll_keeps (P := fun l => w.live.HoldingsStand m l) (fun _ _ h => h.trans (Work.placePoint_stands m)) w (.refl m _)

theorem Work.placeAll_unmeasured (w : Work) : w.live.Unmeasured (w.placeAll e).live :=
  Work.placeAll_keeps (P := fun l => w.live.Unmeasured l)
    (fun p v h => h.trans (Evolves.unmeasured (e := e) (Work.placePoint_evolves p v))) w (.of_eq rfl rfl rfl)

/-- The placing of points orders no signal. -/
theorem Work.placeAll_orderedTo (w : Work) : Live.SamePart ElementRec.orderedTo w.live (w.placeAll e).live := by
  refine Work.placeAll_keeps (P := fun l => Live.SamePart ElementRec.orderedTo w.live l) (fun p v h => h.trans ?_) w (.refl _ _)
  obtain hsame | ⟨q, y, hy, hordered⟩ := Work.placePoint_cases e p v
  · rw [hsame]
    exact .refl _ _
  · rw [hordered]
    exact Live.takePointOrder_part (fun r => by cases r <;> rfl) e hy fun _ _ => rfl

theorem Work.orderDanger_stands {gs : List Nat} (m : Nat) : w.live.HoldingsStand m (w.orderDanger e gs).live :=
  List.foldlRecOn gs (fun (w : Work) g => w.orderSignal e g .danger) (motive := fun v : Work => w.live.HoldingsStand m v.live)
    (.refl m _) fun _ hv _ _ => hv.trans (Work.orderSignal_stands m)

/-- A signal once those of a list are ordered DANGER (R52). -/
theorem Work.orderDanger_ordered {gs : List Nat} {g : Nat} {y : SignalRec} (hy : w.live.signal g = some y) :
    ∃ z, (w.orderDanger e gs).live.signal g = some z ∧
      (g ∈ gs → z.commanded = .danger ∧ z.proving = some (e.clock + e.tables.provingTime g)) ∧
      (g ∉ gs → z.commanded = y.commanded ∧ z.proving = y.proving) := by
  induction gs generalizing w y with
  | nil => exact ⟨y, hy, fun h => absurd h List.not_mem_nil, fun _ => ⟨rfl, rfl⟩⟩
  | cons k gs ih =>
    by_cases hk : g = k
    · subst hk
      obtain ⟨r, u, hr, hu, heq, -⟩ := Work.orderSignal_ordered (e := e) (a := .danger) hy
      obtain ⟨z, hz, hin, hout⟩ := ih hu
      refine ⟨z, hz, fun _ => ?_, fun h => absurd List.mem_cons_self h⟩
      by_cases hg : g ∈ gs
      · exact hin hg
      · obtain ⟨hcommanded, hproving⟩ := hout hg
        rw [hcommanded, hproving, heq]
        exact ⟨rfl, rfl⟩
    · have hsame : (w.orderSignal e k .danger).live.signal g = some y := by
        rw [(Work.orderSignal_keepsElement hk).signal]
        exact hy
      obtain ⟨z, hz, hin, hout⟩ := ih hsame
      exact ⟨z, hz, fun h => hin ((List.mem_cons.mp h).resolve_left hk), fun h => hout fun hg => h (List.mem_cons_of_mem _ hg)⟩

end

end Sys2Proof.Machine
end

section
/-! PROOFS. RESTART leaves routes safe (Chapters 2 to 10; R60, R76, R129, R145, R165, R172): the state at its end, and O43. -/

namespace Sys2Proof.Machine

section
variable {s : State} {n : Nat} {x : Slot}

/-! ## The state after a restart -/

/-- The work of a restart once the points are placed. -/
def State.restartPlaced (s : State) : Work := (s.work.restartAsks s.env).placeAll s.env

/-- The signals that a restart orders DANGER (R60, R165). -/
def State.restartOrders (s : State) : List Nat := Live.restartSignals s.store.active s.live s.restartPlaced.live

/-- The records at the end of a restart. -/
def State.restartedLive (s : State) : Live :=
  (s.restartPlaced.orderDanger s.env s.restartOrders).live.offer s.env .b .restarted .table 0 (some 0)

theorem State.restartFreed_spec (s : State) :
    (s.work.dropRequests s.env).Restarting s.env (Map.ids s.live.slots) (s.work.restartFreed s.env) :=
  Work.restartFreed_spec s.env s.work

theorem State.restartPlaced_rest (s : State) : s.restartPlaced.live.slots = (s.work.restartFreed s.env).live.slots ∧
    s.restartPlaced.live.reports = (s.work.restartFreed s.env).live.reports ∧
    s.restartPlaced.todo = [] ∧ s.restartPlaced.places = [] ∧ s.restartPlaced.notices = [] ∧
    s.restartPlaced.live.links = (s.work.restartAsks s.env).live.links ∧
    s.restartPlaced.live.waiting = [] ∧ s.restartPlaced.live.arm = none := by
  have hspec := s.restartFreed_spec
  have hdropped := Work.dropRequests_eq s.env s.work
  have hwaiting : (s.work.restartFreed s.env).live.waiting = [] := by
    rw [hspec.waiting, hdropped]
    exact (Live.dropReports_only ..).waiting.1
  have htodo : (s.work.restartFreed s.env).todo = [] := by
    rw [hspec.todo, hdropped]
    rfl
  have hnotices : (s.work.restartFreed s.env).notices = [] := by
    rw [hspec.notices, hdropped]
    rfl
  rw [State.restartPlaced, Work.placeAll_rest]
  exact ⟨rfl, rfl, htodo, rfl, hnotices, rfl, hwaiting, rfl⟩

/-- Every slot after a restart is in TIMED_RELEASE, or in ENTERED with no train to follow (R129). -/
theorem State.restartFreed_stands {z : Slot} (hz : (s.work.restartFreed s.env).live.slot n = some z) :
    (z.state = .timedRelease ∨ z.state = .entered) ∧
      (z.state = .entered → (Map.find z.route s.store.active.routes).isSome = true → z.fleet = 0) := by
  obtain ⟨x, hx, -⟩ := s.restartFreed_spec.before hz
  have hn : n ∈ Map.ids s.live.slots := by
    have hids := List.mem_map_of_mem (f := Prod.fst) (Map.mem_of_find hx)
    rwa [Work.dropRequests_slots] at hids
  exact (s.restartFreed_spec.treated n x hn hx).stands hz

theorem State.restartOrdered_rest (s : State) :
    (s.restartPlaced.orderDanger s.env s.restartOrders).live.slots = s.restartPlaced.live.slots ∧
    (s.restartPlaced.orderDanger s.env s.restartOrders).live.reports = s.restartPlaced.live.reports ∧
    (s.restartPlaced.orderDanger s.env s.restartOrders).live.links = s.restartPlaced.live.links ∧
    (s.restartPlaced.orderDanger s.env s.restartOrders).live.waiting = s.restartPlaced.live.waiting ∧
    (s.restartPlaced.orderDanger s.env s.restartOrders).live.arm = s.restartPlaced.live.arm ∧
    (s.restartPlaced.orderDanger s.env s.restartOrders).places = s.restartPlaced.places ∧
    (s.restartPlaced.orderDanger s.env s.restartOrders).notices = s.restartPlaced.notices := by
  rw [Work.orderDanger_rest]
  exact ⟨rfl, rfl, rfl, rfl, rfl, rfl, rfl⟩

theorem State.restart_eq (s : State) : s.doing Work.restart = { s with live := s.restartedLive } := by
  obtain ⟨hslots, -, htodo, hplaces, hnotices, -, hwaiting, -⟩ := s.restartPlaced_rest
  obtain ⟨kslots, -, -, kwaiting, -, kplaces, knotices⟩ := s.restartOrdered_rest
  have hrestart : s.work.restart s.env =
      (s.restartPlaced.orderDanger s.env s.restartOrders).report s.env .b .restarted .table 0 (some 0) := by
    rw [Work.restart, Work.restartRoutes_eq rfl]
    rfl
  rw [State.doing_eq, State.ending, hrestart]
  refine congrArg (fun l => { s with live := l }) ((Work.finish_calm (fun n z hz => ?_) ?_ ?_ ?_ ?_).trans rfl)
  · refine (State.restartFreed_stands (s := s) (n := n) (z := z) ?_).1
    rw [← hz]
    exact (Live.slot_congr ((Live.offer_slots ..).trans (kslots.trans hslots)) n).symm
  · exact Work.orderDanger_todo fun c hc => absurd (htodo ▸ hc) List.not_mem_nil
  · exact kplaces.trans hplaces
  · exact (Live.offer_waiting ..).trans (kwaiting.trans hwaiting)
  · exact knotices.trans hnotices

theorem State.restartedLive_slots (s : State) : s.restartedLive.slots = (s.work.restartFreed s.env).live.slots :=
  (Live.offer_slots ..).trans (s.restartOrdered_rest.1.trans s.restartPlaced_rest.1)

/-- The waiting list and the arm are gone (R76, R126). -/
theorem State.restartedLive_cleared (s : State) : s.restartedLive.waiting = [] ∧ s.restartedLive.arm = none := by
  obtain ⟨-, -, -, -, -, -, hwaiting, harm⟩ := s.restartPlaced_rest
  obtain ⟨-, -, -, kwaiting, karm, -⟩ := s.restartOrdered_rest
  exact ⟨(Live.offer_waiting ..).trans (kwaiting.trans hwaiting), (Live.offer_arm ..).trans (karm.trans harm)⟩

/-- No ask is outstanding and no late number is kept (R145). -/
theorem State.restartedLive_asks (s : State) :
    ∀ k ∈ s.restartedLive.links, ∀ y ∈ k.2.lines, y.2.ask = none ∧ y.2.late = none := by
  obtain ⟨-, -, -, -, -, hlinks, -⟩ := s.restartPlaced_rest
  obtain ⟨-, -, klinks, -⟩ := s.restartOrdered_rest
  have hsame : s.restartedLive.links = (s.work.restartAsks s.env).live.links :=
    (Live.offer_links ..).trans (klinks.trans hlinks)
  rw [hsame]
  intro k hk y hy
  obtain ⟨j, hj, rfl⟩ := List.mem_map.mp hk
  obtain ⟨i, hi, rfl⟩ := List.mem_map.mp hj
  obtain ⟨u, hu, rfl⟩ := List.mem_map.mp hy
  obtain ⟨v, hv, rfl⟩ := List.mem_map.mp hu
  exact ⟨rfl, rfl⟩

/-- What a restart leaves of what is counted and reported (R40, R60). -/
theorem State.restartedLive_measured (s : State) :
    s.live.SameCounts s.restartedLive ∧ Live.SamePart ElementRec.reported s.live s.restartedLive := by
  have hdropped : s.live.Unmeasured (s.work.dropRequests s.env).live := by
    rw [Work.dropRequests_eq]
    obtain ⟨-, hlinks, hsections, helements, -⟩ :=
      (Live.dropReports_only s.env s.live.waiting { s.live with waiting := [] }).records
    exact .of_eq hsections helements hlinks
  have hfreed := hdropped.trans s.restartFreed_spec.unmeasured
  have hasks : (s.work.restartFreed s.env).live.SameCounts (s.work.restartAsks s.env).live ∧
      Live.SamePart ElementRec.reported (s.work.restartFreed s.env).live (s.work.restartAsks s.env).live :=
    ⟨Live.sameCounts_of_sections rfl, Live.samePart_of_elements rfl⟩
  have hlast : (s.work.restartAsks s.env).live.Unmeasured s.restartedLive :=
    ((Work.placeAll_unmeasured _).trans Work.orderDanger_unmeasured).trans (.offer ..)
  exact ⟨fun n => (hlast.counts n).trans ((hasks.1 n).trans (hfreed.counts n)),
    (hfreed.reported.trans hasks.2).trans hlast.reported⟩

/-- A restart takes back nothing that is sent. -/
theorem State.restartedLive_sent (s : State) : s.live.sent <+: s.restartedLive.sent := by
  have hevolves : Evolves s.env Scope.any s.live (s.doing Work.restart).live :=
    (Work.restart_evolves trivial s.work fun _ => trivial).trans (Work.finish_evolves _ fun _ => trivial)
  rw [State.restart_eq] at hevolves
  exact hevolves.sent id

/-- The slots after a restart hold what they hold once they are treated (R110). -/
theorem State.restartedLive_alike (s : State) (n : Nat) :
    s.restartedLive.HoldsAlike n (s.work.restartFreed s.env).live := by
  have hasks : (s.work.restartAsks s.env).live.HoldsAlike n (s.work.restartFreed s.env).live := .of_same rfl rfl rfl
  have hplaced : s.restartPlaced.live.HoldsAlike n (s.work.restartAsks s.env).live := (Work.placeAll_stands n _).alike n
  have hordered : (s.restartPlaced.orderDanger s.env s.restartOrders).live.HoldsAlike n s.restartPlaced.live :=
    (Work.orderDanger_stands n).alike n
  have hreported : s.restartedLive.HoldsAlike n (s.restartPlaced.orderDanger s.env s.restartOrders).live :=
    .of_same (Live.offer_sections ..) (Live.offer_elements ..) (Live.offer_claims ..)
  exact hreported.trans (hordered.trans (hplaced.trans hasks))

/-- The signals after a restart: those ordered DANGER, and those left as they are (R60, R165). -/
theorem State.restartedLive_signal {g : Nat} {y : SignalRec} (hy : s.live.signal g = some y) :
    ∃ z, s.restartedLive.signal g = some z ∧
      (g ∈ s.restartOrders → z.commanded = .danger ∧ z.proving = some (s.clock + s.store.active.provingTime g)) ∧
      (g ∉ s.restartOrders → z.commanded = y.commanded ∧ z.proving = y.proving) := by
  have hdropped : Live.SamePart ElementRec.orderedTo s.live (s.work.dropRequests s.env).live := by
    rw [Work.dropRequests_eq]
    obtain ⟨-, -, -, helements, -⟩ := (Live.dropReports_only s.env s.live.waiting { s.live with waiting := [] }).records
    exact Live.samePart_of_elements helements
  have hplaced : Live.SamePart ElementRec.orderedTo s.live s.restartPlaced.live :=
    ((hdropped.trans s.restartFreed_spec.ordered).trans (Live.samePart_of_elements (b := (s.work.restartAsks s.env).live) rfl)).trans
      (Work.placeAll_orderedTo _)
  obtain ⟨u, hu, hsame⟩ : ∃ u, s.restartPlaced.live.signal g = some u ∧ u.commanded = y.commanded ∧ u.proving = y.proving := by
    have hg := hplaced g
    rw [Live.signal_some.mp hy] at hg
    obtain ⟨r, hr, horder⟩ := Option.map_eq_some_iff.mp hg
    cases r with
    | signal u =>
      obtain ⟨hcommanded, hproving⟩ := Prod.mk.inj (Option.some.inj horder)
      exact ⟨u, Live.signal_some.mpr hr, hcommanded, hproving⟩
    | point u => cases horder
    | head u => cases horder
  obtain ⟨z, hz, hin, hout⟩ := Work.orderDanger_ordered (e := s.env) (gs := s.restartOrders) hu
  refine ⟨z, Live.signal_some.mpr ?_, hin, fun h => ?_⟩
  · rw [State.restartedLive, Live.offer_elements]
    exact Live.signal_some.mp hz
  · obtain ⟨hcommanded, hproving⟩ := hout h
    exact ⟨hcommanded.trans hsame.1, hproving.trans hsame.2⟩

theorem Live.entryIn_states_iff {t : Tables} {states : List SlotState} {g : Nat} {l : Live} : l.entryIn t states g = true ↔
    ∃ x ∈ l.slots, x.2.state ∈ states ∧ t.entryOf x.2 = some g := by
  simp [Live.entryIn]

theorem State.mem_restartOrders {g : Nat} (hg : g ∈ s.store.active.signals) : g ∈ s.restartOrders ↔
    ¬ (∃ x ∈ s.restartedLive.slots, x.2.state = .entered ∧ s.store.active.entryOf x.2 = some g) ∨
      ∃ x ∈ s.live.slots, (x.2.state = .clearing ∨ x.2.state = .clear ∨ x.2.state = .replaced) ∧
        s.store.active.entryOf x.2 = some g := by
  have hslots : s.restartedLive.slots = s.restartPlaced.live.slots :=
    s.restartedLive_slots.trans s.restartPlaced_rest.1.symm
  rw [hslots, State.restartOrders, Live.restartSignals, List.mem_filter, Bool.or_eq_true, Bool.not_eq_true',
    ← Bool.not_eq_true, Live.entryIn_states_iff, Live.clearingEntry, Live.entryIn_states_iff]
  simp only [hg, true_and, List.mem_cons, List.not_mem_nil, or_false]

end

end Sys2Proof.Machine
end

section
/-! PROOFS. RESTART (Chapters 2 to 11; R40, R60, R76, R97, R126, R129, R145, R165, R172): O43. -/

namespace Sys2Proof.Machine

section
variable {s u : State} {e : Env} {n : Nat} {x : Slot} {r : RouteEntry}

/-! ## The commit abandoned -/

/-- A commit is abandoned with its answer, and its store write is followed by a restoring write (R172). -/
theorem State.abandonCommit_eq (s : State) : s.abandonCommit = { s with
    store := { s.store with
      commit := none, restoring := s.store.restoring || s.store.commit.any (fun c => c.phase == .storeWrite) }
    live := { s.live with sent := s.live.sent ++ s.store.commit.toList.map (fun c => codeAnswer c.tag 19 .ignored) } } := by
  unfold State.abandonCommit
  cases hcommit : s.store.commit with
  | none =>
    have hstore : ({ s.store with commit := none, restoring := s.store.restoring } : Store) = s.store := by rw [← hcommit]
    rw [Option.any_none, Bool.or_false, Option.toList_none, List.map_nil, List.append_nil, hstore]
  | some c => rfl

/-! ## The slots, as the manual gives them -/

theorem Tables.releaseTime_of_route (hr : Map.find x.route e.tables.routes = some r) :
    e.tables.releaseTime x.route .restart = r.approachTime ∧ e.tables.releaseTime x.route .approach = r.approachTime ∧
      e.tables.releaseTime x.route .emergency = max r.approachTime 60 := by
  have happroach : e.tables.approachTime x.route = r.approachTime := by
    rw [Tables.approachTime, hr]
    rfl
  exact ⟨happroach, happroach, congrArg (fun time => max time 60) happroach⟩

/-- A slot that has begun to clear is timed from full at a restart, a time of 0 freeing it (R122, R129). -/
theorem Slot.Restarted.cleared {o : Option Slot} (h : x.Restarted e o) (hr : Map.find x.route e.tables.routes = some r)
    (hstate : x.state = .clearing ∨ x.state = .clear ∨ x.state = .replaced) :
    (r.approachTime = 0 → o = none) ∧ (0 < r.approachTime → o = some { x with
      state := .timedRelease, fleet := 0, held := none
      timer := some { expiry := e.clock + r.approachTime * 10, cause := some .restart }, aspect := some .danger }) := by
  obtain ⟨htime, -⟩ := Tables.releaseTime_of_route hr
  cases h with
  | unset h => exact absurd hstate (by obtain h | h | h := h <;> simp [h])
  | freed _ hzero => exact ⟨fun _ => rfl, fun hpos => absurd (htime.symm.trans hzero) hpos.ne'⟩
  | timed _ hpos =>
    refine ⟨fun hzero => absurd (htime.trans hzero) hpos, fun _ => ?_⟩
    rw [Slot.restartTimed, htime]
  | retimed h => exact absurd hstate (by simp [h])
  | gone h => exact absurd hstate (by simp [h])
  | ended _ h => exact absurd hstate (by simp [h])

/-- A timed release keeps its cause and is timed from full at a restart (R129). -/
theorem Slot.Restarted.stillTimed {o : Option Slot} {y : SlotTimer} {cause : ReleaseCause} (h : x.Restarted e o)
    (hstate : x.state = .timedRelease) (hy : x.timer = some y) (hcause : y.cause = some cause) : o = some { x with
      timer := some { expiry := e.clock + e.tables.releaseTime x.route cause * 10, cause := some cause } } := by
  cases h with
  | unset h => exact absurd hstate (by obtain h | h | h := h <;> simp [h])
  | freed h => exact absurd hstate (by obtain h | h | h := h <;> simp [h])
  | timed h => exact absurd hstate (by obtain h | h | h := h <;> simp [h])
  | retimed =>
    obtain ⟨expiry, c⟩ := y
    obtain rfl : c = some cause := hcause
    rw [Slot.retimed, hy]
    rfl
  | gone h => exact absurd hstate (by simp [h])
  | ended _ h => exact absurd hstate (by simp [h])

theorem Slot.Restarted.before {o : Option Slot} (h : x.Restarted e o)
    (hstate : x.state = .setting ∨ x.state = .waitLine ∨ x.state = .locked) : o = none := by
  cases h with
  | unset | freed | gone => rfl
  | timed h => exact absurd hstate (by obtain h | h | h := h <;> simp [h])
  | retimed h => exact absurd hstate (by simp [h])
  | ended _ h => exact absurd hstate (by simp [h])

theorem Slot.Restarted.runEnded {z : Slot} (h : x.Restarted e (some z)) (hstate : x.state = .entered) : x.RunEnded e z := by
  cases h with
  | timed h => exact absurd hstate (by obtain h | h | h := h <;> simp [h])
  | retimed h => exact absurd hstate (by simp [h])
  | ended _ _ h => exact h

/-! ## The reports -/

theorem Live.reportFreeds_congr {a b l k : Live} (freed : List Nat) (hslots : ∀ n, a.slot n = b.slot n)
    (hreports : l.reports = k.reports) :
    (freed.foldl (Live.reportFreed e a) l).reports = (freed.foldl (Live.reportFreed e b) k).reports := by
  induction freed generalizing l k with
  | nil => exact hreports
  | cons n freed ih =>
    refine ih ?_
    unfold Live.reportFreed
    rw [hslots]
    split
    · exact Live.offer_reports_congr hreports ..
    · exact hreports

/-- The reports of a restart: the requests dropped, the slots released, and RESTARTED (R76, R86, R129, R165). -/
theorem State.restartedLive_reports (u : State) : ∃ freed : List Nat, freed.Sublist (Map.ids u.live.slots) ∧
    (∀ n x, u.live.slot n = some x → (n ∈ freed ↔ u.restartedLive.slot n = none)) ∧
    u.restartedLive.reports = ((freed.foldl (Live.reportFreed u.env u.live)
      (u.live.waiting.foldl (Live.dropReport u.env) u.live)).offer u.env .b .restarted .table 0 (some 0)).reports := by
  obtain ⟨freed, hsublist, hfreed, hreports⟩ := u.restartFreed_spec.reports
  have hdropped (n : Nat) : (u.work.dropRequests u.env).live.slot n = u.live.slot n :=
    Live.slot_congr (Work.dropRequests_slots u.env u.work) n
  refine ⟨freed, hsublist, fun n x hx => ?_, Live.offer_reports_congr ?_ ..⟩
  · rw [Live.slot_congr u.restartedLive_slots]
    exact hfreed n x ((hdropped n).trans hx)
  · refine u.restartOrdered_rest.2.1.trans (u.restartPlaced_rest.2.1.trans (hreports.trans ?_))
    refine Live.reportFreeds_congr freed hdropped ?_
    rw [Work.dropRequests_eq]
    exact Live.dropReports_congr u.env u.live.waiting rfl

/-! ## What the slots hold -/

/-- What each slot holds after a restart, with what the end of its run would leave it (R86, R110, R122, R129). -/
theorem State.restartedLive_holds (hslots : (Map.ids u.live.slots).Nodup) (hx : u.live.slot n = some x) :
    let released := u.work.stopFleet u.env n
    (u.restartedLive.slot n = none → u.restartedLive.HoldsNothing n) ∧
    (x.state ≠ .entered → u.restartedLive.slot n ≠ none → u.restartedLive.HoldsAlike n u.live) ∧
    (x.state = .entered → (u.restartedLive.slot n = none ↔ released.live.slot n = none) ∧
      (u.restartedLive.slot n ≠ none → u.restartedLive.HoldsAlike n released.live)) := by
  have hmirrors : (u.work.dropRequests u.env).Mirrors n u.work := Work.dropRequests_mirrors n u.work
  have hdropped : (u.work.dropRequests u.env).live.slot n = some x :=
    (Live.slot_congr (Work.dropRequests_slots u.env u.work) n).trans hx
  have hids : Map.ids (u.work.dropRequests u.env).live.slots = Map.ids u.live.slots := by
    rw [Work.dropRequests_slots]
    rfl
  have hn : n ∈ Map.ids (u.work.dropRequests u.env).live.slots := List.mem_map_of_mem (f := Prod.fst) (Map.mem_of_find hdropped)
  obtain ⟨hnothing, halike, hreleased⟩ := Work.restarts_holds (e := u.env) (hids ▸ hslots) hn hdropped
  have hslot := Live.slot_congr u.restartedLive_slots n
  have hsame := u.restartedLive_alike n
  have hend := hmirrors.stopFleet (e := u.env)
  rw [hslot]
  refine ⟨fun h => hsame.nothing (hnothing h), fun hstate h => hsame.trans ((halike hstate h).trans hmirrors.holds),
    fun hstate => ?_⟩
  obtain ⟨hiff, hheld⟩ := hreleased hstate
  refine ⟨hiff.trans ?_, fun h => hsame.trans ((hheld h).trans hend.holds)⟩
  rw [← Option.map_eq_none_iff, hend.slot, Option.map_eq_none_iff]

end

/-- The records at the end of a RESTART, answered, but for what is sent. -/
structure State.RestartEnds (s u : State) (answer : Sent) (t : State) : Prop where
  rest : t = { u with live := t.live }
  live : t.live = { u.restartedLive with sent := u.restartedLive.sent ++ [answer] }
  before : u.live = { s.live with sent := u.live.sent }
  env : u.env = s.env

section
variable {s u t : State} {answer : Sent} {n : Nat} {x : Slot}

theorem State.RestartEnds.slot (h : s.RestartEnds u answer t) (n : Nat) : t.live.slot n = u.restartedLive.slot n := by
  rw [h.live]
  rfl

theorem State.RestartEnds.slotBefore (h : s.RestartEnds u answer t) (n : Nat) : u.live.slot n = s.live.slot n := by
  rw [h.before]
  rfl

theorem State.RestartEnds.idsBefore (h : s.RestartEnds u answer t) : Map.ids u.live.slots = Map.ids s.live.slots := by
  rw [h.before]

theorem State.RestartEnds.active (h : s.RestartEnds u answer t) : u.store.active = s.store.active := congrArg Env.tables h.env

theorem State.RestartEnds.alike (h : s.RestartEnds u answer t) (n : Nat) : t.live.HoldsAlike n u.restartedLive := by
  rw [h.live]
  exact .of_same rfl rfl rfl

/-- What becomes of each slot (R129). -/
theorem State.RestartEnds.treated (h : s.RestartEnds u answer t) (hx : s.live.slot n = some x) :
    x.Restarted s.env (t.live.slot n) := by
  have hx' : (u.work.dropRequests u.env).live.slot n = some x :=
    (Live.slot_congr (Work.dropRequests_slots u.env u.work) n).trans ((h.slotBefore n).trans hx)
  have hn : n ∈ Map.ids u.live.slots := by
    rw [h.idsBefore]
    exact List.mem_map_of_mem (f := Prod.fst) (Map.mem_of_find hx)
  rw [h.slot, Live.slot_congr u.restartedLive_slots, ← h.env]
  exact u.restartFreed_spec.treated n x hn hx'

theorem State.RestartEnds.measured (h : s.RestartEnds u answer t) :
    s.live.SameCounts t.live ∧ Live.SamePart ElementRec.reported s.live t.live := by
  obtain ⟨hcounts, hreported⟩ := u.restartedLive_measured
  rw [h.live]
  rw [h.before] at hcounts hreported
  exact ⟨hcounts, hreported⟩

theorem State.RestartEnds.reports (h : s.RestartEnds u answer t) : ∃ freed : List Nat, freed.Sublist (Map.ids s.live.slots) ∧
    (∀ n x, s.live.slot n = some x → (n ∈ freed ↔ t.live.slot n = none)) ∧
    t.live.reports = ((freed.foldl (Live.reportFreed s.env s.live)
      (s.live.waiting.foldl (Live.dropReport s.env) s.live)).offer s.env .b .restarted .table 0 (some 0)).reports := by
  obtain ⟨freed, hsublist, hfreed, hreports⟩ := u.restartedLive_reports
  refine ⟨freed, h.idsBefore ▸ hsublist, fun n x hx => ?_, ?_⟩
  · rw [h.slot]
    exact hfreed n x ((h.slotBefore n).trans hx)
  · have hsame : t.live.reports = u.restartedLive.reports := by rw [h.live]
    have hwaiting : u.live.waiting = s.live.waiting := by rw [h.before]
    have hbefore : u.live.reports = s.live.reports := by rw [h.before]
    rw [hsame, hreports, h.env, hwaiting]
    exact Live.offer_reports_congr (Live.reportFreeds_congr freed h.slotBefore
      (Live.dropReports_congr s.env s.live.waiting hbefore)) ..

theorem State.RestartEnds.holds (h : s.RestartEnds u answer t) (hslots : (Map.ids s.live.slots).Nodup)
    (hx : s.live.slot n = some x) :
    let released := s.work.stopFleet s.env n
    (t.live.slot n = none → t.live.HoldsNothing n) ∧
    (x.state ≠ .entered → t.live.slot n ≠ none → t.live.HoldsAlike n s.live) ∧
    (x.state = .entered → (t.live.slot n = none ↔ released.live.slot n = none) ∧
      (t.live.slot n ≠ none → t.live.HoldsAlike n released.live)) := by
  obtain ⟨hnothing, halike, hreleased⟩ := u.restartedLive_holds (h.idsBefore ▸ hslots) ((h.slotBefore n).trans hx)
  have hbefore : u.live.HoldsAlike n s.live := by
    rw [h.before]
    exact .of_same rfl rfl rfl
  have hmirrors : u.work.Mirrors n s.work := by
    refine ⟨congrArg (Option.map Slot.untimed) (h.slotBefore n), hbefore, ?_⟩
    show s.live.SameCounts u.live
    rw [h.before]
    exact Live.sameCounts_of_sections rfl
  have hend := hmirrors.stopFleet (e := s.env)
  rw [h.env] at hreleased
  rw [h.slot]
  refine ⟨fun hnone => (h.alike n).nothing (hnothing hnone), fun hstate hstays =>
    (h.alike n).trans ((halike hstate hstays).trans hbefore), fun hstate => ?_⟩
  obtain ⟨hiff, hheld⟩ := hreleased hstate
  refine ⟨hiff.trans ?_, fun hstays => (h.alike n).trans ((hheld hstays).trans hend.holds)⟩
  rw [← Option.map_eq_none_iff, hend.slot, Option.map_eq_none_iff]

theorem State.RestartEnds.signal {g : Nat} {y : SignalRec} (h : s.RestartEnds u answer t) (hg : g ∈ s.store.active.signals)
    (hy : s.live.signal g = some y) : ∃ z, t.live.signal g = some z ∧
      let entered := ∃ x ∈ t.live.slots, x.2.state = .entered ∧ s.store.active.entryOf x.2 = some g
      let cleared := ∃ x ∈ s.live.slots, (x.2.state = .clearing ∨ x.2.state = .clear ∨ x.2.state = .replaced) ∧
        s.store.active.entryOf x.2 = some g
      (¬ entered ∨ cleared → z.commanded = .danger ∧ z.proving = some (s.clock + s.store.active.provingTime g)) ∧
      (entered → ¬ cleared → z.commanded = y.commanded ∧ z.proving = y.proving) := by
  have hy' : u.live.signal g = some y := by
    rw [h.before]
    exact hy
  obtain ⟨z, hz, hin, hout⟩ := u.restartedLive_signal hy'
  have hmem := u.mem_restartOrders (g := g) (by rw [h.active]; exact hg)
  have hclock : u.clock = s.clock := congrArg Env.clock h.env
  have hslots : u.restartedLive.slots = t.live.slots := by rw [h.live]
  have hbefore : u.live.slots = s.live.slots := by rw [h.before]
  rw [hclock, h.active] at hin
  rw [h.active, hslots, hbefore] at hmem
  refine ⟨z, ?_, fun hordered => hin (hmem.mpr hordered), fun hentered hcleared => hout fun hg =>
    (hmem.mp hg).elim (fun hnot => hnot hentered) hcleared⟩
  rw [h.live]
  exact hz

end

theorem State.restart_ends (s : State) (answer : Sent) :
    s.RestartEnds s.abandonCommit answer (State.sending answer (s.abandonCommit.doing Work.restart)) := by
  rw [State.restart_eq]
  refine ⟨rfl, rfl, ?_, ?_⟩
  · rw [State.abandonCommit_eq]
  · rw [State.abandonCommit_eq]
    rfl

/-- Settles O43: the slots are treated one after another, each by its own state and what it holds; what follows, the orders of
DANGER with the claim changes that they hand on, changes no slot any more. -/
theorem restartMakesRoutesSafe : Obligations.RestartMakesRoutesSafe := by
  intro tag s hs
  have hends := s.restart_ends (codeAnswer tag 13 .done)
  have hrun : exec (.restart tag) s = .next (State.sending (codeAnswer tag 13 .done) (s.abandonCommit.doing Work.restart)) :=
    control_answered hs rfl
  have hu := s.abandonCommit_eq
  generalize State.sending (codeAnswer tag 13 .done) (s.abandonCommit.doing Work.restart) = t at hends hrun
  generalize s.abandonCommit = u at hends hu
  refine ⟨t, hrun, ?_, ?_, ?_, ?_, ?_, ?_, ?_, hends.reports, fun n x r hx hr => ?_, fun hnodup n x hx => hends.holds hnodup hx,
    hends.measured.1, hends.measured.2, ?_, fun n x hx => ?_, fun g y hg hy => hends.signal hg hy⟩
  · rw [hends.rest, hu]
  · rw [hends.rest, hu]
  · rw [hends.rest, hu]
  · obtain ⟨rest, hrest⟩ := u.restartedLive_sent
    refine ⟨rest, ?_⟩
    rw [hends.live, ← hrest, hu]
  · rw [hends.rest, hu]
  · rw [hends.live]
    exact u.restartedLive_cleared.1
  · rw [hends.live]
    exact u.restartedLive_cleared.2
  · have htreated := hends.treated hx
    obtain ⟨-, happroach, hemergency⟩ := Tables.releaseTime_of_route (e := s.env) hr
    obtain ⟨hrestart, -⟩ := Tables.releaseTime_of_route (e := s.env) hr
    refine ⟨htreated.before, htreated.cleared hr, fun hstate y hy => ⟨fun hcause => ?_, fun hcause => ?_, fun hcause => ?_⟩,
      fun hstate z hz => ?_⟩
    · rw [htreated.stillTimed hstate hy hcause, happroach]
      rfl
    · rw [htreated.stillTimed hstate hy hcause, hrestart]
      rfl
    · rw [htreated.stillTimed hstate hy hcause, hemergency]
      rfl
    · rw [hz] at htreated
      have hended := htreated.runEnded hstate
      exact ⟨hended.timing r hr, hended.starts r hr, hended.locked r hr⟩
  · rw [hends.live]
    exact u.restartedLive_asks
  · rw [hends.slot, Live.slot_congr u.restartedLive_slots] at hx
    rw [← hends.active]
    exact State.restartFreed_stands hx

end Sys2Proof.Machine
end
